-- ==== Sys2Proof/Word.lean ====
section
/-! DEFINITION. The plain types of the GW-4832: bytes and words, positions, and the sparse table in which
like things (beds, axes, streams, counters) are held. R1, R2 (00), R71 (03). -/

namespace Sys2Proof

/-- A byte of a layout. -/
abbrev Byte := BitVec 8

/-- A position word, signed 48.16 modulo 2^64 (R71, R72). -/
abbrev Pos := BitVec 64

/-- A sparse table: the entries that differ from the table's default, keys strictly rising. -/
abbrev Tab (α : Type) := List (Nat × α)

end Sys2Proof
end

