-- ==== Sys2Proof/Syntax.lean ====
section
/-! DEFINITION. The commands and events of the GW-4832, one constructor per row of spec/opcode_table.json.
A Sahgar command names the mailbox that carries it (0 to 255 the PCIe functions, 256 the USB port) and its slot:
its parameters are the slot's copy or its parcel, held in the state. Every other row carries as operands what comes
from outside the block: the bytes a host writes or supplies, a measured value, the number of the unit concerned. -/

namespace Sys2Proof

/-- A Runner packet as it is on a link (Tables RN-3 and RN-4); LEN is the payload's length. -/
structure Packet where
  type : Nat
  vc : Nat := 0
  src : Nat := 0
  dest : Nat := 0
  bcast : Bool := false
  hops : Nat := 1
  epoch : Nat := 0
  seq : Nat := 0
  payload : List Byte := []
deriving DecidableEq, Repr

/-- A frame on bulk OUT: the header of Table DH-10 and the payload that followed it. -/
structure UsbFrame where
  length : Nat
  type : Nat
  flags : BitVec 8
  tag : BitVec 16
  addr : BitVec 64
  payload : List Byte
deriving DecidableEq, Repr

/-- What a discovery measured at one partner (R32): kind, index within the kind, and its readings. A segment interface
gives VREF in mV, then for each tap its inputs in nV with SP low and with SP running (R132). An LED sink gives its ball
in mV while it sinks 1 mA, and the balls below and above it in mV while 1 mA is sourced into it (R171, R173). A coil gives
the current in mA sampled at each servo update, and the freewheel signs (R259). A gauge channel gives |Z| in mOhm
(R316). -/
structure Found where
  kind : Fin 6
  index : Nat
  readings : List (List Int)
deriving DecidableEq, Repr

/-- One modulator cycle of a gauge channel (R292 to R294): the signal behind the PGA, the ball voltage, the excitation
current and the sense lines as converted, in nV and nA; whether the PGA or the modulator saturated, and whether the
excitation was clipped. -/
structure ModCycle where
  sig : Int := 0
  ball : Int := 0
  exc : Int := 0
  sense : Int := 0
  saturated : Bool := false
  clipped : Bool := false
deriving DecidableEq, Repr

/-- The level of an input of an encoder, and how many 2.5 ns samples ago it was first seen (R82). -/
structure InputLevel where
  level : Bool
  age : Nat
deriving DecidableEq, Repr

/-- The four kinds of link loss (R502). -/
inductive LinkLossKind
  | perst | hotReset | linkDisable | dataLinkDown
deriving DecidableEq, Repr

/-- What of the device's own stores in the highest 1 GiB of DRAM lies in a block (R583). -/
inductive DramHit
  | other
  /-- A raw line of a bed's delay memory, by its number. -/
  | delay (b : Fin 4) (raw : Nat)
  /-- A line of a bed's queue, by its number. -/
  | queue (b : Fin 4) (num : Nat)
  /-- The code of a cutting. -/
  | kernel (id : Nat)
deriving DecidableEq, Repr

/-- The commands and events of spec/opcode_table.json, one constructor a row, in its order. -/
inductive Instr
  /-- DEV_MODE (R39). -/
  | devMode (m : Fin 257) (n : Fin 4)
  /-- DEV_RESET (R27). -/
  | devReset (m : Fin 257) (n : Fin 4)
  /-- DEV_TBSET (R77). -/
  | devTbset (m : Fin 257) (n : Fin 4)
  /-- DEV_TBREAD (R467). -/
  | devTbread (m : Fin 257) (n : Fin 4)
  /-- DEV_COMPARE (R96). -/
  | devCompare (m : Fin 257) (n : Fin 4)
  /-- DEV_DISARM (R96). -/
  | devDisarm (m : Fin 257) (n : Fin 4)
  /-- DEV_CERT (R428). -/
  | devCert (m : Fin 257) (n : Fin 4)
  /-- DEV_ATTEST (R429). -/
  | devAttest (m : Fin 257) (n : Fin 4)
  /-- DEV_RESETSUM (R445). -/
  | devResetsum (m : Fin 257) (n : Fin 4)
  /-- JOB_OPEN (R385). -/
  | jobOpen (m : Fin 257) (n : Fin 4)
  /-- JOB_CANCEL (R388). -/
  | jobCancel (m : Fin 257) (n : Fin 4)
  /-- JOB_STREAM (R404). -/
  | jobStream (m : Fin 257) (n : Fin 4)
  /-- JOB_PACE (R270). -/
  | jobPace (m : Fin 257) (n : Fin 4)
  /-- JOB_KEY (R430). -/
  | jobKey (m : Fin 257) (n : Fin 4)
  /-- JOB_LEDGER (R403). -/
  | jobLedger (m : Fin 257) (n : Fin 4)
  /-- BED_CONFIG (R134). -/
  | bedConfig (m : Fin 257) (n : Fin 4)
  /-- BED_AFE (R115). -/
  | bedAfe (m : Fin 257) (n : Fin 4)
  /-- BED_PITCH (R93). -/
  | bedPitch (m : Fin 257) (n : Fin 4)
  /-- BED_GRAFT (R143). -/
  | bedGraft (m : Fin 257) (n : Fin 4)
  /-- ILL_BED (R151). -/
  | illBed (m : Fin 257) (n : Fin 4)
  /-- ILL_CHANNEL (R152). -/
  | illChannel (m : Fin 257) (n : Fin 4)
  /-- ILL_LEVEL (R154). -/
  | illLevel (m : Fin 257) (n : Fin 4)
  /-- ILL_STATUS (R174). -/
  | illStatus (m : Fin 257) (n : Fin 4)
  /-- ILL_CLEAR (R175). -/
  | illClear (m : Fin 257) (n : Fin 4)
  /-- CAL_CONFIG (R182). -/
  | calConfig (m : Fin 257) (n : Fin 4)
  /-- CAL_RUN (R197). -/
  | calRun (m : Fin 257) (n : Fin 4)
  /-- CAL_STATUS (R199). -/
  | calStatus (m : Fin 257) (n : Fin 4)
  /-- MOVE_CONFIG (R208). -/
  | moveConfig (m : Fin 257) (n : Fin 4)
  /-- MOVE_QUEUE (R215). -/
  | moveQueue (m : Fin 257) (n : Fin 4)
  /-- MOVE_OVERRIDE (R226). -/
  | moveOverride (m : Fin 257) (n : Fin 4)
  /-- MOVE_GEAR (R231). -/
  | moveGear (m : Fin 257) (n : Fin 4)
  /-- MOVE_STOP (R238). -/
  | moveStop (m : Fin 257) (n : Fin 4)
  /-- MOVE_SETPOS (R241). -/
  | moveSetpos (m : Fin 257) (n : Fin 4)
  /-- MOVE_STATUS (R243). -/
  | moveStatus (m : Fin 257) (n : Fin 4)
  /-- MOVE_TABLE (R251). -/
  | moveTable (m : Fin 257) (n : Fin 4)
  /-- MOVE_COIL (R257). -/
  | moveCoil (m : Fin 257) (n : Fin 4)
  /-- MOVE_CLEAR (R267). -/
  | moveClear (m : Fin 257) (n : Fin 4)
  /-- MOVE_DRIVE (R268). -/
  | moveDrive (m : Fin 257) (n : Fin 4)
  /-- MOVE_PACE (R272). -/
  | movePace (m : Fin 257) (n : Fin 4)
  /-- GAUGE_CONFIG (R317). -/
  | gaugeConfig (m : Fin 257) (n : Fin 4)
  /-- GAUGE_LINEAR (R319). -/
  | gaugeLinear (m : Fin 257) (n : Fin 4)
  /-- GAUGE_LEAD (R310). -/
  | gaugeLead (m : Fin 257) (n : Fin 4)
  /-- GAUGE_DOC (R320). -/
  | gaugeDoc (m : Fin 257) (n : Fin 4)
  /-- GAUGE_AOUT (R325). -/
  | gaugeAout (m : Fin 257) (n : Fin 4)
  /-- GAUGE_STATUS (R327). -/
  | gaugeStatus (m : Fin 257) (n : Fin 4)
  /-- CUT_LOAD (R346). -/
  | cutLoad (m : Fin 257) (n : Fin 4)
  /-- CUT_UNLOAD (R347). -/
  | cutUnload (m : Fin 257) (n : Fin 4)
  /-- CUT_PLACE (R348). -/
  | cutPlace (m : Fin 257) (n : Fin 4)
  /-- CUT_ASSIGN (R329). -/
  | cutAssign (m : Fin 257) (n : Fin 4)
  /-- BUF_RING (R479). -/
  | bufRing (m : Fin 257) (n : Fin 4)
  /-- BUF_POST (R480). -/
  | bufPost (m : Fin 257) (n : Fin 4)
  /-- BUF_STATUS (R498). -/
  | bufStatus (m : Fin 257) (n : Fin 4)
  /-- RUN_CONFIG (R540). -/
  | runConfig (m : Fin 257) (n : Fin 4)
  /-- RUN_NODES (R541). -/
  | runNodes (m : Fin 257) (n : Fin 4)
  /-- RUN_READ (R542). -/
  | runRead (m : Fin 257) (n : Fin 4)
  /-- RUN_WRITE (R542). -/
  | runWrite (m : Fin 257) (n : Fin 4)
  /-- RUN_POST (R542). -/
  | runPost (m : Fin 257) (n : Fin 4)
  /-- INV_SNAP (R590). -/
  | invSnap (m : Fin 257) (n : Fin 4)
  /-- INV_READ (R589). -/
  | invRead (m : Fin 257) (n : Fin 4)
  /-- INV_PARTNERS (R599). -/
  | invPartners (m : Fin 257) (n : Fin 4)
  /-- HB_READ (R574). -/
  | hbRead (m : Fin 257) (n : Fin 4)
  /-- HB_WRITE (R575). Whether the Herbarium commits every page written; an uncommitted write is E_FAULT (R420). -/
  | hbWrite (m : Fin 257) (n : Fin 4) (commits : Bool)
  /-- HB_SLOT (R578). -/
  | hbSlot (m : Fin 257) (n : Fin 4)
  /-- CAB_ENROL (R427). -/
  | cabEnrol (m : Fin 257) (n : Fin 4)
  /-- CAB_RESET (R439). -/
  | cabReset (m : Fin 257) (n : Fin 4)
  /-- CAB_DIVERT (R442). -/
  | cabDivert (m : Fin 257) (n : Fin 4)
  /-- DIAG_DISCOVER (R32). What the partners asked about gave. -/
  | diagDiscover (m : Fin 257) (n : Fin 4) (found : List Found)
  /-- DIAG_RUN (R598). -/
  | diagRun (m : Fin 257) (n : Fin 4)
  /-- RING_SLOT (R450). -/
  | ringSlot (m : Fin 257) (n : Fin 4)
  /-- FREE_SLOT (R452). -/
  | freeSlot (m : Fin 257) (n : Fin 4)
  /-- STRAY_CLEAR (R450). -/
  | strayClear (m : Fin 257)
  /-- COMMAND_SLOT_WRITE (R450). An aligned access of 4 bytes, or of 8 when wide. -/
  | commandSlotWrite (m : Fin 257) (off : BitVec 16) (wide : Bool) (data : BitVec 64)
  /-- EVENT_RING_CONFIG_WRITE (R469). -/
  | eventRingConfigWrite (m : Fin 257) (off : BitVec 16) (wide : Bool) (data : BitVec 64)
  /-- EVENT_RING_CTRL_WRITE (R469). -/
  | eventRingCtrlWrite (m : Fin 257) (data : BitVec 32)
  /-- READ_IDX_WRITE (R471). -/
  | readIdxWrite (m : Fin 257) (data : BitVec 32)
  /-- EVENT_STATUS_CLEAR (R468). -/
  | eventStatusClear (m : Fin 257) (data : BitVec 32)
  /-- WM_MARK_WRITE (R477). -/
  | wmMarkWrite (m : Fin 257) (off : BitVec 16) (wide : Bool) (data : BitVec 64)
  /-- WM_ACK (R476). -/
  | wmAck (m : Fin 257) (data : BitVec 32)
  /-- REGISTER_WRITE (R447). -/
  | registerWrite (m : Fin 257) (off : BitVec 16) (wide : Bool) (data : BitVec 64)
  /-- REG_WRITE (R506). -/
  | regWrite (f : UsbFrame)
  /-- REG_READ (R506). -/
  | regRead (f : UsbFrame)
  /-- FETCH_DATA (R507). -/
  | fetchData (f : UsbFrame)
  /-- PROBE_REPLY (R507). -/
  | probeReply (f : UsbFrame)
  /-- USB_FETCH_TIMEOUT (R507). -/
  | usbFetchTimeout (tag : BitVec 16)
  /-- USB_RESET (R510). -/
  | usbReset
  /-- LINK_LOSS (R502). -/
  | linkLoss (k : LinkLossKind)
  /-- VF_ENABLE_CLEAR (R502). -/
  | vfEnableClear
  /-- VF_ENABLE (R503). -/
  | vfEnable (f : Fin 256)
  /-- FUNCTION_LEVEL_RESET (R438). -/
  | functionLevelReset (f : Fin 256)
  /-- PORT_CHANGED (R503). -/
  | portChanged (usb up : Bool) (speed lanes : BitVec 8)
  /-- PERST_DEASSERT (R562). Whether a 100 MHz clock was present in the 100 us. -/
  | perstDeassert (clock : Bool)
  /-- POWER_UP (R607). The Herbarium pages of which a word fails the store's internal error check from now on (R573). -/
  | powerUp (badPages : List Nat)
  /-- RESET_N_ASSERT (R609). Nanoseconds for which RESET_N was held low. -/
  | resetNAssert (width : Nat)
  /-- VIN12_COLLAPSE (R608). -/
  | vin12Collapse
  /-- VIN12_RETURN (R64). -/
  | vin12Return (mv : Nat)
  /-- SUPPLY_FAULT (R581). -/
  | supplyFault (u : Fin 10) (mv : Nat)
  /-- SUPPLY_RETURN (R581). -/
  | supplyReturn (u : Fin 10) (mv : Nat)
  /-- JUNCTION_READ (R580). The sensors, in 1/16 degC. -/
  | junctionRead (j0 j1 j2 j3 : Int)
  /-- CLOCK_FAIL (R556). -/
  | clockFail (d : Fin 102)
  /-- CLOCK_RESET_HOLD (R557). -/
  | clockResetHold (d : Fin 102)
  /-- CLOCK_RECOVER (R557). -/
  | clockRecover (d : Fin 102)
  /-- CURATOR_WATCHDOG (R582). -/
  | curatorWatchdog (core : Fin 4)
  /-- DRAM_ERROR (R583). The 64-byte block, and what of the highest 1 GiB lies in it. -/
  | dramError (addr : BitVec 34) (correctable : Bool) (hit : DramHit)
  /-- WAKE_SOURCE (R50). -/
  | wakeSource (bit : Fin 8)
  /-- WAKE_TIMER (R48). -/
  | wakeTimer
  /-- MODE_CHANGE_COMPLETE (R44). -/
  | modeChangeComplete
  /-- BOOT_COMPLETE (R424). -/
  | bootComplete (found : List Found)
  /-- DRAIN_COMPLETE (R65). -/
  | drainComplete
  /-- HALT_SETTLED (R68). -/
  | haltSettled
  /-- LEDGER_CHECKPOINT (R26). -/
  | ledgerCheckpoint
  /-- COVER_CHANGED (R130). -/
  | coverChanged (b : Fin 4) (opened : Bool)
  /-- ENC_EDGE (R622). Encoder u; its input B or A; what the input is. -/
  | encEdge (u : Fin 4) (b : Bool) (i : InputLevel)
  /-- ENC_ERROR (R84). Encoder u. -/
  | encError (u : Fin 4)
  /-- ENC_SIGNAL_LOSS (R85). z: it is the Z pair that fell below 200 mV. -/
  | encSignalLoss (c : Fin 4) (z : Bool)
  /-- TB_SOURCE_BACK (R624). -/
  | tbSourceBack (c : Fin 4)
  /-- ENC_INDEX (R86). -/
  | encIndex (c : Fin 4)
  /-- SYNC_LOSS (R108). -/
  | syncLoss (c : Fin 4)
  /-- COMPARE_FIRED (R100). -/
  | compareFired (k : Fin 64)
  /-- GPIO_PULSE_END (R102). -/
  | gpioPulseEnd (p : Fin 16)
  /-- GAUGE_RESET (R301). -/
  | gaugeReset (g : Fin 8)
  /-- LINE_TRIGGER (R90). -/
  | lineTrigger (b : Fin 4)
  /-- SLOT_START (R120). What the slot just ended gave: the inputs of its taps in nV above VREF, by segment in readout order, the regulation comparators of its channels, and the voltage at each sink ball in mV. -/
  | slotStart (b : Fin 4) (vin : List (List Int)) (reg : BitVec 8) (ball : List Nat)
  /-- SINK_OVERTEMP (R162). The junction in 1/16 degC. -/
  | sinkOvertemp (b : Fin 4) (c : Fin 8) (temp : Int)
  /-- TEMP_READ (R156). The resistance of the thermistor in mOhm. -/
  | tempRead (b : Fin 4) (mohm : Nat)
  /-- LINE_RELEASE (R333). -/
  | lineRelease (b : Fin 4)
  /-- KERNEL_ENTRY (R368). -/
  | kernelEntry (t : Fin 272)
  /-- RESULT_ACCEPTED (R357). -/
  | resultAccepted (t : Fin 272)
  /-- STORE_PERFORMED (R338). -/
  | storePerformed (t : Fin 272)
  /-- KERNEL_WATCHDOG (R353). -/
  | kernelWatchdog (t : Fin 272)
  /-- TINE_DEAD (R355). Whether by an uncorrectable error. -/
  | tineDead (t : Fin 272) (error : Bool)
  /-- TINE_REVIVED (R359). -/
  | tineRevived (t : Fin 272)
  /-- SELF_TEST_DONE (R359). -/
  | selfTestDone (t : Fin 272) (pass : Bool)
  /-- PLOT_SCRUB (R344). -/
  | plotScrub (p : Fin 16)
  /-- ADD (R373). -/
  | add (t : Fin 272) (d a b : Fin 16)
  /-- SUB (R373). -/
  | sub (t : Fin 272) (d a b : Fin 16)
  /-- AND (R373). -/
  | and (t : Fin 272) (d a b : Fin 16)
  /-- OR (R373). -/
  | or (t : Fin 272) (d a b : Fin 16)
  /-- XOR (R373). -/
  | xor (t : Fin 272) (d a b : Fin 16)
  /-- SHL (R373). -/
  | shl (t : Fin 272) (d a b : Fin 16)
  /-- SHR (R373). -/
  | shr (t : Fin 272) (d a b : Fin 16)
  /-- SRA (R373). -/
  | sra (t : Fin 272) (d a b : Fin 16)
  /-- MUL (R373). -/
  | mul (t : Fin 272) (d a b : Fin 16)
  /-- MULHU (R373). -/
  | mulhu (t : Fin 272) (d a b : Fin 16)
  /-- SLT (R373). -/
  | slt (t : Fin 272) (d a b : Fin 16)
  /-- SLTU (R373). -/
  | sltu (t : Fin 272) (d a b : Fin 16)
  /-- MIN (R373). -/
  | min (t : Fin 272) (d a b : Fin 16)
  /-- MAX (R373). -/
  | max (t : Fin 272) (d a b : Fin 16)
  /-- ADDI (R373). -/
  | addi (t : Fin 272) (d a : Fin 16) (imm : BitVec 12)
  /-- ANDI (R373). -/
  | andi (t : Fin 272) (d a : Fin 16) (imm : BitVec 12)
  /-- ORI (R373). -/
  | ori (t : Fin 272) (d a : Fin 16) (imm : BitVec 12)
  /-- XORI (R373). -/
  | xori (t : Fin 272) (d a : Fin 16) (imm : BitVec 12)
  /-- SHLI (R373). -/
  | shli (t : Fin 272) (d a : Fin 16) (imm : Fin 32)
  /-- SHRI (R373). -/
  | shri (t : Fin 272) (d a : Fin 16) (imm : Fin 32)
  /-- SRAI (R373). -/
  | srai (t : Fin 272) (d a : Fin 16) (imm : Fin 32)
  /-- SLTI (R373). -/
  | slti (t : Fin 272) (d a : Fin 16) (imm : BitVec 12)
  /-- SLTIU (R373). -/
  | sltiu (t : Fin 272) (d a : Fin 16) (imm : BitVec 12)
  /-- LUI (R373). -/
  | lui (t : Fin 272) (r : Fin 16) (off : BitVec 20)
  /-- VADD (R373). -/
  | vadd (t : Fin 272) (d a b : Fin 32) (p : Fin 8)
  /-- VSUB (R373). -/
  | vsub (t : Fin 272) (d a b : Fin 32) (p : Fin 8)
  /-- VADDUS (R373). -/
  | vaddus (t : Fin 272) (d a b : Fin 32) (p : Fin 8)
  /-- VSUBUS (R373). -/
  | vsubus (t : Fin 272) (d a b : Fin 32) (p : Fin 8)
  /-- VADDSS (R373). -/
  | vaddss (t : Fin 272) (d a b : Fin 32) (p : Fin 8)
  /-- VSUBSS (R373). -/
  | vsubss (t : Fin 272) (d a b : Fin 32) (p : Fin 8)
  /-- VMULLO (R373). -/
  | vmullo (t : Fin 272) (d a b : Fin 32) (p : Fin 8)
  /-- VMULHU (R373). -/
  | vmulhu (t : Fin 272) (d a b : Fin 32) (p : Fin 8)
  /-- VMULHS (R373). -/
  | vmulhs (t : Fin 272) (d a b : Fin 32) (p : Fin 8)
  /-- VMINU (R373). -/
  | vminu (t : Fin 272) (d a b : Fin 32) (p : Fin 8)
  /-- VMAXU (R373). -/
  | vmaxu (t : Fin 272) (d a b : Fin 32) (p : Fin 8)
  /-- VMINS (R373). -/
  | vmins (t : Fin 272) (d a b : Fin 32) (p : Fin 8)
  /-- VMAXS (R373). -/
  | vmaxs (t : Fin 272) (d a b : Fin 32) (p : Fin 8)
  /-- VABSDU (R373). -/
  | vabsdu (t : Fin 272) (d a b : Fin 32) (p : Fin 8)
  /-- VAVGU (R373). -/
  | vavgu (t : Fin 272) (d a b : Fin 32) (p : Fin 8)
  /-- VAND (R373). -/
  | vand (t : Fin 272) (d a b : Fin 32) (p : Fin 8)
  /-- VOR (R373). -/
  | vor (t : Fin 272) (d a b : Fin 32) (p : Fin 8)
  /-- VXOR (R373). -/
  | vxor (t : Fin 272) (d a b : Fin 32) (p : Fin 8)
  /-- VSHL (R373). -/
  | vshl (t : Fin 272) (d a b : Fin 32) (p : Fin 8)
  /-- VSHR (R373). -/
  | vshr (t : Fin 272) (d a b : Fin 32) (p : Fin 8)
  /-- VSRA (R373). -/
  | vsra (t : Fin 272) (d a b : Fin 32) (p : Fin 8)
  /-- VSHLI (R373). -/
  | vshli (t : Fin 272) (d a : Fin 32) (imm : Fin 16)
  /-- VSHRI (R373). -/
  | vshri (t : Fin 272) (d a : Fin 32) (imm : Fin 16)
  /-- VSRAI (R373). -/
  | vsrai (t : Fin 272) (d a : Fin 32) (imm : Fin 16)
  /-- VSPLATI (R373). -/
  | vsplati (t : Fin 272) (d : Fin 32) (imm : BitVec 12)
  /-- VCMPEQ (R373). -/
  | vcmpeq (t : Fin 272) (d : Fin 8) (a b : Fin 32) (p : Fin 8)
  /-- VCMPNE (R373). -/
  | vcmpne (t : Fin 272) (d : Fin 8) (a b : Fin 32) (p : Fin 8)
  /-- VCMPLTU (R373). -/
  | vcmpltu (t : Fin 272) (d : Fin 8) (a b : Fin 32) (p : Fin 8)
  /-- VCMPLEU (R373). -/
  | vcmpleu (t : Fin 272) (d : Fin 8) (a b : Fin 32) (p : Fin 8)
  /-- VCMPLTS (R373). -/
  | vcmplts (t : Fin 272) (d : Fin 8) (a b : Fin 32) (p : Fin 8)
  /-- VCMPLES (R373). -/
  | vcmples (t : Fin 272) (d : Fin 8) (a b : Fin 32) (p : Fin 8)
  /-- VSEL (R367). -/
  | vsel (t : Fin 272) (d a b : Fin 32) (p : Fin 8)
  /-- VSPLAT (R373). -/
  | vsplat (t : Fin 272) (d : Fin 32) (a : Fin 16) (p : Fin 8)
  /-- VEXT (R373). -/
  | vext (t : Fin 272) (d : Fin 16) (a : Fin 32) (lane : Fin 4)
  /-- VINS (R373). -/
  | vins (t : Fin 272) (d : Fin 32) (a : Fin 16) (lane : Fin 4)
  /-- VHSUM (R373). -/
  | vhsum (t : Fin 272) (d : Fin 16) (a : Fin 32)
  /-- PAND (R373). -/
  | pand (t : Fin 272) (d a b : Fin 8)
  /-- POR (R373). -/
  | por (t : Fin 272) (d a b : Fin 8)
  /-- PNOT (R373). -/
  | pnot (t : Fin 272) (d a : Fin 8)
  /-- PTOS (R373). -/
  | ptos (t : Fin 272) (d : Fin 16) (a : Fin 8)
  /-- STOP (R373). -/
  | stop (t : Fin 272) (d : Fin 8) (a : Fin 16)
  /-- AZERO (R373). -/
  | azero (t : Fin 272) (d : Fin 4) (p : Fin 8)
  /-- VMACU (R373). -/
  | vmacu (t : Fin 272) (d : Fin 4) (a b : Fin 32) (p : Fin 8)
  /-- VMACS (R373). -/
  | vmacs (t : Fin 272) (d : Fin 4) (a b : Fin 32) (p : Fin 8)
  /-- AADDV (R373). -/
  | aaddv (t : Fin 272) (d : Fin 4) (a : Fin 32) (p : Fin 8)
  /-- AGET (R373). -/
  | aget (t : Fin 272) (d : Fin 32) (a : Fin 4) (b : Fin 32) (p : Fin 8)
  /-- AGETS (R373). -/
  | agets (t : Fin 272) (d : Fin 32) (a : Fin 4) (b : Fin 32) (p : Fin 8)
  /-- LDW (R374). -/
  | ldw (t : Fin 272) (data base : Fin 16) (space : Fin 4) (post : Bool) (off : BitVec 12)
  /-- LDH (R374). -/
  | ldh (t : Fin 272) (data base : Fin 16) (space : Fin 4) (post : Bool) (off : BitVec 12)
  /-- LDV (R374). -/
  | ldv (t : Fin 272) (data : Fin 32) (base : Fin 16) (space : Fin 4) (post : Bool) (off : BitVec 12)
  /-- STW (R374). -/
  | stw (t : Fin 272) (data base : Fin 16) (space : Fin 4) (post : Bool) (off : BitVec 12)
  /-- STH (R374). -/
  | sth (t : Fin 272) (data base : Fin 16) (space : Fin 4) (post : Bool) (off : BitVec 12)
  /-- STV (R374). -/
  | stv (t : Fin 272) (data : Fin 32) (base : Fin 16) (space : Fin 4) (post : Bool) (off : BitVec 12)
  /-- JAL (R376). -/
  | jal (t : Fin 272) (r : Fin 16) (off : BitVec 20)
  /-- BEQZ (R376). -/
  | beqz (t : Fin 272) (r : Fin 16) (off : BitVec 20)
  /-- BNEZ (R376). -/
  | bnez (t : Fin 272) (r : Fin 16) (off : BitVec 20)
  /-- BLTZ (R376). -/
  | bltz (t : Fin 272) (r : Fin 16) (off : BitVec 20)
  /-- BGEZ (R376). -/
  | bgez (t : Fin 272) (r : Fin 16) (off : BitVec 20)
  /-- DBNZ (R376). -/
  | dbnz (t : Fin 272) (r : Fin 16) (off : BitVec 20)
  /-- BPANY (R376). -/
  | bpany (t : Fin 272) (r : Fin 8) (off : BitVec 20)
  /-- BPNONE (R376). -/
  | bpnone (t : Fin 272) (r : Fin 8) (off : BitVec 20)
  /-- NOP (R373). -/
  | nop (t : Fin 272)
  /-- FENCE_S (R341). -/
  | fenceS (t : Fin 272)
  /-- FENCE_L (R341). -/
  | fenceL (t : Fin 272)
  /-- TRAP (R379). -/
  | trap (t : Fin 272)
  /-- CLOSE (R377). -/
  | close (t : Fin 272) (a : Fin 16)
  /-- JR (R376). -/
  | jr (t : Fin 272) (a : Fin 16)
  /-- CYC (R373). -/
  | cyc (t : Fin 272) (d : Fin 16)
  /-- PFSET (R378). -/
  | pfset (t : Fin 272) (flag : Fin 32)
  /-- PFCLR (R378). -/
  | pfclr (t : Fin 272) (flag : Fin 32)
  /-- PFWAIT (R378). -/
  | pfwait (t : Fin 272) (flag : Fin 32)
  /-- PFTEST (R378). -/
  | pftest (t : Fin 272) (d : Fin 16) (flag : Fin 32)
  /-- UNDEFINED_ENCODING (R365). -/
  | undefinedEncoding (t : Fin 272)
  /-- SERVO_UPDATE (R248). What the cycle sampled: currents in mA, VMk in mV, freewheel signs. -/
  | servoUpdate (a : Fin 8) (curA curB : Int) (vm : Nat) (fwA fwB : Int)
  /-- STANDSTILL_DELAY (R256). -/
  | standstillDelay (a : Fin 8)
  /-- CONFIRMATION (R240). -/
  | confirmation (a : Fin 8)
  /-- OVERCURRENT (R261). Switches tripped: bits 3:0 phase A, bits 7:4 phase B. -/
  | overcurrent (a : Fin 8) (switches : BitVec 8)
  /-- BRIDGE_OVERTEMP (R261). The bridge die in 1/16 degC. -/
  | bridgeOvertemp (a : Fin 8) (temp : Int)
  /-- PACING_EVALUATION (R269). -/
  | pacingEvaluation
  /-- PAUSE_RESTED (R280). The group, by BED_MASK. -/
  | pauseRested (g : Fin 16)
  /-- BACKUP_END (R281). The group, by BED_MASK. -/
  | backupEnd (g : Fin 16)
  /-- EXCURSION_END (R228). The group, by BED_MASK. -/
  | excursionEnd (g : Fin 16)
  /-- PREROLL_TRIGGER (R282). -/
  | prerollTrigger (b : Fin 4)
  /-- PAUSE_RESUMED (R283). -/
  | pauseResumed (b : Fin 4)
  /-- GAUGE_SAMPLE (R293). The modulator cycles of the period. -/
  | gaugeSample (c : Fin 8) (cycles : List ModCycle)
  /-- GAUGE_CHECK_DUE (R311). -/
  | gaugeCheckDue (c : Fin 8)
  /-- GAUGE_CHECK_END (R312). The modulator cycles of the tone. -/
  | gaugeCheckEnd (c : Fin 8) (cycles : List ModCycle)
  /-- GAUGE_LEAD_DONE (R310). -/
  | gaugeLeadDone (c : Fin 8)
  /-- LEADING_EDGE (R390). The pin, at the instant the edge is dated. -/
  | leadingEdge (p : Fin 16)
  /-- TRAILING_EDGE (R390). The pin, at the instant the edge is dated. -/
  | trailingEdge (p : Fin 16)
  /-- EXIT_SENSOR_CHANGE (R389). -/
  | exitSensorChange (p : Fin 16) (high : Bool)
  /-- JAM (R391). -/
  | jam
  /-- RECORD_CLOSE (R395). -/
  | recordClose
  /-- FEED_DECISION (R436). A bed of the transports concerned. -/
  | feedDecision (b : Fin 4)
  /-- DELIVERY_NOTE (R414). -/
  | deliveryNote
  /-- STRIP_READ_COMPLETE (R186). -/
  | stripReadComplete (b : Fin 4)
  /-- CAL_RESULT (R194). -/
  | calResult (b : Fin 4)
  /-- CAL_RUN_TIMEOUT (R197). -/
  | calRunTimeout (b : Fin 4)
  /-- CABINET_RESET (R440). -/
  | cabinetReset (c : Fin 256)
  /-- WINDOW_SCRUB_END (R443). -/
  | windowScrubEnd (c : Fin 256)
  /-- PARCEL_FETCH (R459). The bytes read, or none when the read failed. -/
  | parcelFetch (m : Fin 257) (n : Fin 4) (bytes : Option (List Byte))
  /-- DESCRIPTOR_FETCH (R482, R494). The bytes read, or none when this one read failed. -/
  | descriptorFetch (c : Fin 256) (n : Fin 16) (bytes : Option (List Byte))
  /-- DESCRIPTOR_FETCH_FAIL (R494). The read and the one made again have both failed. -/
  | descriptorFetchFail (c : Fin 256) (n : Fin 16)
  /-- DESCRIPTOR_FILL (R483). -/
  | descriptorFill (c : Fin 256) (n : Fin 16)
  /-- DESCRIPTOR_TIMEOUT (R486). -/
  | descriptorTimeout (c : Fin 256) (n : Fin 16)
  /-- PROBE_COMPLETE (R492). -/
  | probeComplete (c : Fin 256) (n : Fin 16) (ok : Bool)
  /-- RUNNER_LINK_LOSS (R513). -/
  | runnerLinkLoss (p : Fin 4)
  /-- RETRY_EXPIRY (R529). -/
  | retryExpiry (p : Fin 4)
  /-- TRAINING_RETRY (R512). -/
  | trainingRetry (p : Fin 4)
  /-- IDENT (R522). -/
  | ident (p : Fin 4) (k : Packet)
  /-- TRAIN (R512). -/
  | train (p : Fin 4) (k : Packet)
  /-- CREDIT_SYNC (R519). -/
  | creditSync (p : Fin 4) (k : Packet)
  /-- ACK (R517). -/
  | ack (p : Fin 4) (k : Packet)
  /-- NAK (R517). -/
  | nak (p : Fin 4) (k : Packet)
  /-- CREDIT (R518). -/
  | credit (p : Fin 4) (k : Packet)
  /-- DELAY_REQ (R539). Nanoseconds since the packet's K27.7. -/
  | delayReq (p : Fin 4) (k : Packet) (age : Nat)
  /-- DELAY_RESP (R539). Nanoseconds since the packet's K27.7. -/
  | delayResp (p : Fin 4) (k : Packet) (age : Nat)
  /-- DELAY_EXCHANGE_DUE (R105). -/
  | delayExchangeDue (p : Fin 4)
  /-- RATE (R514). -/
  | rate (p : Fin 4) (k : Packet)
  /-- WAKE (R514). -/
  | wake (p : Fin 4) (k : Packet)
  /-- ADVERT (R524). -/
  | advert (p : Fin 4) (k : Packet)
  /-- ADVERT_DUE (R524). -/
  | advertDue (p : Fin 4)
  /-- ROOT_STALE (R524). -/
  | rootStale (p : Fin 4)
  /-- SYNC (R106). Nanoseconds since the packet's K27.7. -/
  | sync (p : Fin 4) (k : Packet) (age : Nat)
  /-- SYNC_DUE (R104). -/
  | syncDue
  /-- READ (R537). -/
  | read (p : Fin 4) (k : Packet)
  /-- WRITE (R537). -/
  | write (p : Fin 4) (k : Packet)
  /-- POST (R537). -/
  | post (p : Fin 4) (k : Packet)
  /-- POST_ACK_DUE (R534). -/
  | postAckDue (src : Fin 1024)
  /-- RESP (R532). -/
  | resp (p : Fin 4) (k : Packet)
  /-- POST_ACK (R534). -/
  | postAck (p : Fin 4) (k : Packet)
  /-- EVENT (R537). -/
  | event (p : Fin 4) (k : Packet)
  /-- MEMBER (R526). -/
  | member (p : Fin 4) (k : Packet)
  /-- SNAP (R596). -/
  | snap (p : Fin 4) (k : Packet)
  /-- REQ_TIMEOUT (R536). -/
  | reqTimeout (id : BitVec 16)
  /-- LEGACY_SYNC_DUE (R530). -/
  | legacySyncDue
  /-- REANCHOR (R109). -/
  | reanchor (c : Fin 4)
  /-- REANCHOR_FORCED (R109). -/
  | reanchorForced
  /-- HOLDOFF_EXPIRY (R471). -/
  | holdoffExpiry (c : Fin 256)
  /-- DIAG_DONE (R598). The result bytes the test measured. -/
  | diagDone (data : List Byte)
  /-- MSIX_UNMASK (R452). A vector, or the whole function. -/
  | msixUnmask (f : Fin 256) (vector : Option (Fin 64))
  /-- BUS_MASTER_ENABLE_CHANGE (R497). -/
  | busMasterEnableChange (f : Fin 256) (enable d0 : Bool)
  /-- USB_RESUME (R58). -/
  | usbResume
  /-- CRC_ERROR (R517). The virtual channel its header named. -/
  | crcError (p : Fin 4) (vc : Fin 4)
  /-- BLANK_INPUT_CHANGE (R305). -/
  | blankInputChange (n : Fin 2) (high : Bool)
deriving DecidableEq, Repr

end Sys2Proof
end

