-- ==== Sys2Proof/Decode.lean ====
section
/-! DEFINITION. The decoder of words. No row of spec/opcode_table.json gives bits: commands reach the device as register
writes, packets, frames and pin events, whose layouts the operands carry. -/

namespace Sys2Proof

/-- The command that a word of the table's bits spells: none, since the table gives no row bits (DEDUCED, log 21). -/
def decodeTableWord (_nbits _w : Nat) : Option Instr := none

end Sys2Proof
end

