-- ==== Sys2Proof/Config.lean ====
section
/-! DEFINITION. What one device or one implementation fixes, and the free values: constants without a body. -/

namespace Sys2Proof.Config

/-- DEVICE_UID of Table MB-2, fixed at manufacture. -/
opaque deviceUid : BitVec 64

/-- The bytes of the device certificate, whose content is the device's. -/
opaque certBytes : List Byte

/-- The device certificate, X.509 v3 in DER, at most 1,024 bytes (R428). -/
def deviceCert : List Byte := certBytes.take 1024

/-- A fresh free value: the n-th value the spec leaves open (DESIGN CHOICE, log 1). -/
opaque freeValue : Nat → BitVec 64

/-- The device's private key (R428, R430): read as 1 to n - 1. -/
opaque devicePrivate : Nat

/-- The number used once in the n-th signature by the device key (R429). -/
opaque nonce : Nat → Nat

/-- Obaro firmware public key held in the Founding ROM (R419). -/
opaque obaroKey : List Byte

/-- Max_Payload_Size in force is 256 bytes, else 128; and the code of Max_Read_Request_Size, 128 x 2^code bytes (R489, R500):
the host sets both in configuration space, for which no command of the table stands (DESIGN CHOICE, log 93). -/
opaque payload256 : Bool
opaque maxReadCode : Nat

/-- Obaro's PCIe vendor ID, which the spec names without giving it (Table DH-9; DESIGN CHOICE, log 93). -/
opaque pcieVendor : BitVec 16

/-- Y, Cb and Cr of three components' lines taken as R, G and B (R411). -/
opaque jpegColour : List (List (List Nat)) → List (List (List Nat))

/-- The 64 coefficients, in zigzag order, of a block of samples under a quantisation table. -/
opaque jpegCoefs : List Nat → List (List Nat) → List Int

/-- The cosine and sine of a reference phase in 2^-32 cycle, as the demodulator of a gauge channel holds them: the spec does
not give their precision (R293; DESIGN CHOICE, log 84). -/
opaque refCos : BitVec 32 → ℚ
opaque refSin : BitVec 32 → ℚ

/-- The 32 taps of the linear-phase FIR, of which tap 31 - k is tap k: the spec does not give them (Table GA-2; DESIGN
CHOICE, log 84). -/
opaque firTap : Nat → ℚ

/-- Where between its bounds the acknowledge of a pulse is back at its source: by crossing and time of launch (R549, Table CK-2;
DESIGN CHOICE, log 78). -/
opaque ackMore : Nat → Nat → BitVec 16

end Sys2Proof.Config
end

