-- ==== Sys2Proof/Machine/State.lean ====
section
/-! DEFINITION. The state of the GW-4832: every register, queue, buffer, counter, mode and pin the spec gives it,
as plain data, and the machine right after reset. A table lists only the entries that differ from the entry type's
default, which is the reset value. -/

namespace Sys2Proof.Machine

/-- Faults: the block has none. Nothing in the spec stops the device (Table IN-1): each fault is a next state. -/
inductive Fault
deriving DecidableEq, Repr

/-- Refusals. -/
inductive Refusal
  /-- Raised by exec's arm of a row that has no meaning yet; safe. -/
  | notModelled (mnemonic : String)
deriving DecidableEq, Repr

/-- The twelve modes of Table MO-1 (R35). -/
inductive Mode
  | dormant | keep | boot | idle | service | update | calibrate | armed | capture | paused | drain | halted
deriving DecidableEq, Repr

/-- An event before it has its SEQ (Table MB-13, R473). -/
structure Ev where
  code : Nat
  unit : Nat
  aux : Nat
  w0 : BitVec 64
  w1 : BitVec 64
  w2 : BitVec 64
deriving DecidableEq, Repr

/-- What the device puts on its ports: the model's own record (DESIGN CHOICE, log 2). -/
inductive Out
  /-- A posted write of function fn on PCIe (R501). -/
  | mem (fn : Nat) (addr : BitVec 64) (data : List Byte)
  /-- A read request of function fn on PCIe: descriptor, parcel or probe (R495). -/
  | memRead (fn : Nat) (addr : BitVec 64) (len : Nat)
  /-- An MSI-X message of function fn (R452). -/
  | msix (fn : Nat) (vector : Nat)
  /-- A frame on bulk IN (Tables DH-10 and DH-11). -/
  | frame (type flags tag : Nat) (addr : BitVec 64) (len : Nat) (data : List Byte)
  /-- A notification on interrupt IN (R509). -/
  | note (vector : Nat) (count : BitVec 32)
  /-- A Runner packet sent on a port, and its bytes between K27.7 and K29.7 (R515). -/
  | run (port : Nat) (pkt : Packet) (wire : List Byte)
deriving DecidableEq, Repr

/-- A charter entry (Table CB-3). -/
structure CharterEntry where
  enable : Bool := false
  cuttings : Bool := false
  function : Nat := 0
  beds : BitVec 4 := 0
  axes : BitVec 8 := 0
  gpio : BitVec 16 := 0
  maxDocs : Nat := 0
  nodeLo : Nat := 0
  nodeHi : Nat := 0
  dmaReserve : Nat := 0
  dmaWeight : Nat := 0
  tineWeight : Nat := 0
  dramBase : Nat := 0
  dramSize : Nat := 0
deriving DecidableEq, Repr

/-- The charter sealed in the KEY domain (R423); `source` 0 FACTORY, 1 A, 2 B. -/
structure Charter where
  source : Nat
  gen : Nat
  usbCabinet : Nat
  quantum : Nat
  entries : Tab CharterEntry
deriving DecidableEq, Repr

/-- The Factory Charter of R422. -/
def Charter.factory : Charter :=
  { source := 0, gen := 0, usbCabinet := 0, quantum := 1,
    entries := [(0, {
      enable := true, cuttings := true, function := 0, beds := 0xF, axes := 0xFF, gpio := 0xFFFF,
      maxDocs := 1024, nodeLo := 0, nodeHi := 1023, dmaReserve := 0, dmaWeight := 1, tineWeight := 1,
      dramBase := 0, dramSize := 7680 })] }

/-- The parcel of a posted command (R459). -/
inductive Parcel
  | absent | failed
  /-- Being read: what has come so far. -/
  | fetching (sofar : List Byte)
  | got (bytes : List Byte)
deriving DecidableEq, Repr

/-- One command slot with its copy, its states and its response slot (R450, R452). -/
structure Slot where
  host : List Byte := List.replicate 64 0
  copy : List Byte := List.replicate 64 0
  posted : Bool := false
  done : Bool := false
  response : List Byte := List.replicate 32 0
  parcel : Parcel := .absent
deriving DecidableEq, Repr

/-- What a suspended USB port holds back: an event, or the turn of a stream's waiting WATERMARK event (R472, R477). -/
inductive Held where
  | ev (e : Ev)
  | wm (n : Nat)
deriving DecidableEq, Repr

/-- The event-ring control block of a cabinet (Table MB-11) and what waits for it. -/
structure EvRing where
  base : BitVec 64 := 0
  size : BitVec 32 := 0
  ctrl : BitVec 32 := 0
  writeIdx : BitVec 32 := 0
  readIdx : BitVec 32 := 0
  badIndex : Bool := false
  badConfig : Bool := false
  writeFault : Bool := false
  overflow : Tab (BitVec 32) := []
  wmMark : Tab Nat := []
  raised : BitVec 16 := 0
  /-- WATERMARK events waiting for room, oldest first: stream and ABOVE_AT_ARM (R477). -/
  waiting : List (Nat × Bool) := []
  lastSignal : Option Nat := none
  /-- A signal is owed at the end of HOLDOFF (R471). -/
  owed : Bool := false
  /-- The mailbox through which BASE was last written (R504); none, never since reset. -/
  via : Option Nat := none
  /-- Entries held while the USB port is suspended in KEEP, in the order raised (R58). -/
  held : List Held := []
deriving DecidableEq, Repr

/-- The mailbox of one PCIe function (0 to 255) or of the USB port (256). -/
structure Mbx where
  slots : Tab Slot := []
  stray : Bool := false
  respCtrl : BitVec 32 := 0
  /-- MSI-X table dwords; dword 4v+3 (vector control) is held in `unmasked`. -/
  msix : Tab (BitVec 32) := []
  unmasked : BitVec 64 := 0
  pba : BitVec 64 := 0
  msixOn : Bool := false
  /-- MSI-X is masked for the whole function (R452). -/
  msixMasked : Bool := false
  busMaster : Bool := true
  d0 : Bool := true
  /-- Closed by a link loss until the function is configured again (R502). -/
  down : Bool := false
  /-- The control block of a function that no cabinet owns: plain registers, for no event is its own (R447). -/
  ring : EvRing := {}
deriving DecidableEq, Repr

/-- A cabinet reset in progress (R440). -/
structure Resetting where
  cause : Nat
  start : Nat
  eraseKeys : Bool
  aborted : Nat
  jobs : Nat
  flushed : Nat
  entries : List (List Byte)
  orphans : List Nat
  discarded : Nat
  acked : Nat
  undelivered : Nat
deriving DecidableEq, Repr

/-- What the device keeps for one cabinet (14, 13). -/
structure Cab where
  vtime : Nat := 0
  recordKey : Option (List Byte) := none
  streamKey : Option (List Byte) := none
  capSeq : Nat := 0
  opened : Nat := 0
  closed : Nat := 0
  noted : Nat := 0
  resetting : Option Resetting := none
  resets : Nat := 0
  summary : Option (List Byte) := none
  scrubbing : Bool := false
  /-- ERASE_KEYS of R441, for the record key and the stream key, until every record opened under them is sealed. -/
  eraseRecord : Bool := false
  eraseStream : Bool := false
  ring : EvRing := {}
deriving DecidableEq, Repr

/-- Sources of Table TB-2. -/
inductive Source
  | none | enc | axis | remote | free
deriving DecidableEq, Repr

/-- One position channel (03). Times of edges count 2.5 ns samples. -/
structure Chan where
  source : Source := .none
  unit : Nat := 0
  invert : Bool := false
  indexCheck : Bool := false
  filter : Nat := 4
  exported : Bool := false
  indexPeriod : Nat := 0
  freeRate : Nat := 0
  /-- FREE_RATEs of the current jobs on it, newest first: cabinet, job and rate (R81). -/
  jobRates : List (Nat × Nat × Nat) := []
  base : Pos := 0
  /-- Velocity of the last sync, ticks per second in 2^-16 tick (R106). -/
  vel : Int := 0
  t0 : Nat := 0
  /-- Commanded position of the source axis at which `base` holds. -/
  axis0 : Int := 0
  present : Bool := false
  held : Bool := false
  lostIllegal : Bool := false
  illegal : List Nat := []
  edges : Nat := 0
  edgesAtZ : Nat := 0
  zSeen : Bool := false
  a : Bool := false
  b : Bool := false
  lastEdge : Nat := 0
  lastFwd : Bool := false
  interval : Nat := 0
  intervalValid : Bool := false
  anchorUid : BitVec 64 := 0
  anchorEpoch : Nat := 0
  /-- Arrival of the last sync taken (R108), and whether the channel awaits its first sync since it was held (R88). -/
  syncAt : Nat := 0
  fresh : Bool := false
  /-- TICKS counted so far toward the counter of R623: the floor of the position at the last count. -/
  lastTick : Int := 0
deriving DecidableEq, Repr

/-- What a comparator is armed for. -/
inductive CmpUse
  /-- DEV.COMPARE (R96). -/
  | host
  /-- BED.PITCH with AT (R93): the pitch to load. -/
  | pitch (value : BitVec 64)
  /-- MOVE.GEAR: axis and slot (R231). -/
  | gear (axis slot : Nat)
  /-- Framing of the document of an accession number (R390). -/
  | frame (acc : Nat)
  /-- Framing of a strip read on a bed (R188). -/
  | strip (bed : Nat)
  /-- Diversion of a document (R442). -/
  | divert (acc : Nat)
  /-- Inventory snapshot in a slot (R590, R596). -/
  | snap (slot : Nat)
deriving DecidableEq, Repr

/-- An armed comparator (R95 to R101). -/
structure Cmp where
  owner : Nat
  chan : Nat
  action : Nat
  arg : BitVec 32
  dir : Nat
  notify : Bool
  target : Pos
  period : BitVec 64
  /-- Whether P - T was negative at arming (EITHER, R100). -/
  below : Bool
  use : CmpUse
deriving DecidableEq, Repr

/-- One GPIO pin (R610): output driver, level, and the ends of the pulses begun since the last GPIO_SET or GPIO_CLEAR
(R102). -/
structure Pin where
  output : Bool := false
  level : Bool := false
  pulses : List Nat := []
deriving DecidableEq, Repr

/-- An inventory snapshot slot (R590 to R596). -/
structure Snap where
  /-- 0 free, 1 armed, 2 taken. -/
  phase : Nat := 0
  origin : Nat := 0
  id : Nat := 0
  chan : Nat := 0
  cabinet : Nat := 0
  isLocal : Bool := false
  late : Bool := false
  epoch : Nat := 0
  position : Pos := 0
  timestamp : Nat := 0
  order : Nat := 0
  latched : Tab (BitVec 48) := []
  monitor : List Int := []
  /-- Domains whose units the pulse did not reach (R593). -/
  missed : List Nat := []
  /-- Domains whose stop copy was taken (R586). -/
  stopped : List Nat := []
deriving DecidableEq, Repr

/-- An entry of the node and partner table (R33, R599). -/
structure Partner where
  known : Bool := false
  outcome : Nat := 0
  value : BitVec 32 := 0
  timestamp : Nat := 0
  /-- The node last found at the port (kind 4); 0xFFFF before any. -/
  node : Nat := 0xFFFF
deriving DecidableEq, Repr

/-- A clock domain (18): stopped by the Curator, failed, held in reset; CLKOK is their absence (R555). -/
structure Clock where
  failed : Bool := false
  held : Bool := false
  /-- Until when the Curator still reads CLKOK as set after a failure: the latency of its level crossing (R547). -/
  seen : Nat := 0
deriving DecidableEq, Repr

/-- A pulse crossing (R549, R550), or the count a domain keeps of them. -/
structure Crossing where
  last : Option Nat := none
  /-- When the acknowledges of the last 7 events launched are back at the source. -/
  acks : List Nat := []
  overrun : BitVec 16 := 0
  ovr : Bool := false
deriving DecidableEq, Repr

/-- A hold-and-flag crossing (R551): the value that the destination has taken last; the value in flight, with the times
at which it is taken and at which its acknowledge returns; the latest value that waits for that, and how many were
passed over by it; the saturating overwritten counter. -/
structure Hold where
  value : List Int := []
  flight : Option (List Int × Nat × Nat) := none
  waiting : Option (List Int) := none
  passed : Nat := 0
  overwritten : BitVec 16 := 0
deriving DecidableEq, Repr

/-- An access of the Curator that hangs in a domain without a clock, and the command whose commit made it: mailbox x 4 +
slot (R554, R557). -/
structure Hang where
  key : Nat
  domain : Nat
deriving DecidableEq, Repr

/-- A measured supply (R581). -/
structure Supply where
  mv : Nat := 0
  outside : Bool := true
deriving DecidableEq, Repr

/-- An accepted mode change being carried out (R44). -/
structure Change where
  target : Mode
  /-- Cause of Table MB-14: 0 HOST, 2 WAKE. -/
  cause : Nat := 0
  /-- STOP_KIND OFF of an owner stop. -/
  off : Bool := false
deriving DecidableEq, Repr

/-- A firmware slot as the Founding ROM judges it (R425): whether the image stored verifies, its fields, and the
slot's mark (0 none, 1 TRIAL, 2 PREFERRED, 3 TRIAL_USED). `len` is the image's length, its signature included. -/
structure FwSlot where
  verifies : Bool := false
  len : Nat := 0
  version : Nat := 0
  rollback : Nat := 0
  mark : Nat := 0
deriving DecidableEq, Repr

/-- A LEDGER_BREACH entry (R23): the condition of R22 (0 supplies, 1 timebase source, 2 device reset), where and when it
began, and where it ended. -/
structure Breach where
  condition : Nat
  beganAt : Pos
  beganTime : Nat
  ended : Option (Pos × Nat)
deriving DecidableEq, Repr

/-- What a checkpoint holds (R23, R26, R28, R394): the epoch, the position and time of its writing, the ledger totals,
the breaches recorded, the records open and the next accession sequence. -/
structure Checkpoint where
  number : Nat
  epoch : Nat
  closing : Bool
  position : Pos
  timestamp : Nat
  totals : Tab (BitVec 48)
  breaches : List Breach
  openRecords : List Nat
  nextSeq : Nat
deriving DecidableEq, Repr

/-- The summary of the last ledger epoch (R27, R28): whether it is UNCLEAN, the totals of its last checkpoint, and the
records reported UNRESOLVED. -/
structure OldEpoch where
  number : Nat
  unclean : Bool
  totals : Tab (BitVec 48)
  unresolved : List Nat
deriving DecidableEq, Repr

/-- A request outstanding on the USB port (R507): 0 a parcel, 1 a descriptor, 2 a probe. -/
structure UsbTag where
  kind : Nat
  addr : BitVec 64
  len : Nat
  mbx : Nat
  slot : Nat
  cab : Nat
  stream : Nat
  /-- When it was sent. -/
  sent : Nat
  /-- Nothing waits for its answer any more: the ring was closed, or the descriptor returned. -/
  stale : Bool := false
deriving DecidableEq, Repr

/-- The SERVICE test in progress (R598). -/
structure Diag where
  test : Nat
  unit : Nat
  arg : BitVec 32
  addr : BitVec 64
  mbx : Nat
deriving DecidableEq, Repr

/-- CAB.DIVERT of a transport (R442). -/
structure Divert where
  pin : Nat := 0xFF
  width : Nat := 0
  dist : Nat := 0
deriving DecidableEq, Repr


/-- A profile segment in an axis queue (Table MP-5). -/
structure Seg where
  dur : Nat
  notify : Bool
  endVel : Int
  endPos : Int
deriving DecidableEq, Repr

/-- States of Table MP-14. -/
inductive AxState
  | unused | atRest | running | geared | underrun | stopped
deriving DecidableEq, Repr

/-- A ratio change (R230): target ratio, blend length in ticks, its slot, and whether R234 delayed it. -/
structure Ratio where
  num : Int
  den : Nat
  blend : Nat
  slot : Nat
  late : Bool
  /-- The servo update in whose interval it fell due. -/
  at_ : Nat
  /-- The master position at its firing, of a change with AT. -/
  from_ : Option Pos := none
deriving DecidableEq, Repr

/-- The gearing of an axis (R229): master channel, anchors, present ratio, the blend in progress, and the changes due
that wait for it, in order (R234). -/
structure Gear where
  master : Nat
  sA : Int
  mA : Pos
  num : Int
  den : Nat
  blend : Option Ratio
  due : List Ratio
deriving DecidableEq, Repr

/-- An armed ratio slot (R231). -/
structure GSlot where
  num : Int
  den : Nat
  blend : Nat
deriving DecidableEq, Repr

/-- An underrun ramp (R221): joint position and velocity, real time since the joint in s. -/
structure Ramp where
  p : Int
  v : ℚ
  t : ℚ
deriving DecidableEq, Repr

/-- One qualifying cycle of R264: freewheel sign (-1, 0 none, +1) and sampled current in mA. -/
structure Cycle where
  sign : Int
  cur : Int
deriving DecidableEq, Repr

/-- One phase of a bridge (08). -/
structure Phase where
  ihat : Int := 0
  duty : Int := 0
  sat : Bool := false
  disc : Nat := 0
  rcoil : Nat := 0
  /-- Model current with which the duty was formed. -/
  model : Int := 0
  trip : Bool := false
  openFault : Bool := false
  senseFault : Bool := false
  /-- The STATE last told (R265). -/
  told : Nat := 0
  window : List Cycle := []
deriving DecidableEq, Repr

/-- A pacing excursion of an axis (R228, R281, R284): phase 2 backing up, 3 resting behind, 4 approaching,
5 decelerating for a re-plan, 6 ended while gates are still shut. Positions count 1/256 microstep. -/
structure Excursion where
  phase : Nat
  /-- Where it ends, p(tau), and the velocity with which the axis passes there. -/
  pRest : ℚ
  vRest : ℚ
  /-- Where the back-up ends, and where the present phase began. -/
  pBack : ℚ
  start : ℚ
  /-- Velocity at the start of a deceleration. -/
  v : ℚ
  /-- Seconds since the phase began, acceleration time of the approach, and the square of the back-up's duration. -/
  t : ℚ
  ta : ℚ
  tb2 : ℚ
  /-- How far the group passes in the approach, where it stands at the resume mark: until then it rests (R281). -/
  lock : ℚ := 0
deriving DecidableEq, Repr

/-- One stepper axis (07, 08, 09). Positions count 1/256 microstep. -/
structure Axis where
  role : Nat := 0
  reversible : Bool := false
  confirm : Bool := false
  cchan : Nat := 0
  vmax : Nat := 256000000
  amax : Nat := 20000000
  decel : Nat := 20000000
  ovrSlew : Nat := 100
  ctol : Nat := 0
  ftol : Nat := 0
  cnum : Int := 0
  cden : Nat := 0
  limLo : Int := -140737488355328
  limHi : Int := 140737488355327
  st : AxState := .unused
  pos : Int := 0
  posNext : Int := 0
  /-- P(n) and P(n + 1) before their rounding (R206, R236). -/
  exact : ℚ := 0
  exactNext : ℚ := 0
  servoAt : Nat := 0
  queue : List Seg := []
  p0 : Int := 0
  v0 : Int := 0
  /-- Profile time in the present segment, in units of 25 us / 655,360,000 (R224, R225). -/
  tau : Nat := 0
  host : Nat := 10000
  pace : Nat := 10000
  /-- Effective override in 2^-16 of 0.01 % (R225). -/
  eff : Nat := 655360000
  ramp : Option Ramp := none
  gear : Option Gear := none
  gslots : Tab (Option GSlot) := []
  lost : Bool := false
  confirmed : Bool := false
  off : Bool := true
  stopOff : Bool := false
  confirmAt : Option Nat := none
  watch : Bool := false
  anchorP : Int := 0
  anchorM : Pos := 0
  h : Nat := 0
  holdRamp : Bool := false
  standing : Nat := 0
  holding : Bool := false
  /-- The loaded microstep table, or none for the table of R250. -/
  table : Option (List Int) := none
  modelOnly : Bool := false
  holdF : Nat := 128
  amplitude : Nat := 0
  resist : Nat := 0
  ke : Nat := 0
  delay : Nat := 500
  phA : Phase := {}
  phB : Phase := {}
  mismatch : Bool := false
  hot : Bool := false
  warm : Bool := false
  dieTemp : Int := 0
  /-- A MOVE.COIL or MOVE.TABLE of the update in which a bridge fault was found, held until the bridges come on
  (R266). -/
  held : Option (Nat × Nat × Nat × Nat × Nat × Bool) := none
  heldTable : Option (Option (List Int)) := none
  pRate : Bool := false
  pHold : Bool := false
  pPause : Bool := false
  bedMask : BitVec 4 := 0
  feedGpio : Nat := 0xFF
  minRate : Nat := 10000
  preroll : Nat := 16
  pauseAccel : Nat := 20000000
  backlash : Nat := 0
  settle : Nat := 0
  maxReverse : Nat := 0
  replans : Nat := 2
  /-- Effective override in force when PACE began to fall (R228). -/
  k0 : Nat := 655360000
  exc : Option Excursion := none
deriving DecidableEq, Repr

/-- A cutting in the kernel store (Table TI-13). -/
structure Cutting where
  cab : Nat
  code : List (BitVec 32)
  entry : Nat
  lmSize : Nat
  outMax : Nat
  halo : Nat
  cycBase : Nat
  cycCol : Nat
  /-- An uncorrectable error lies in its code (R583). -/
  bad : Bool := false
deriving DecidableEq, Repr

/-- A kernel entry of a placement (Table RK-7). -/
structure Kern where
  id : Nat
  stream : Nat
  psSize : Nat
  arg : BitVec 64
deriving DecidableEq, Repr

/-- A placement of a cabinet on a bed (Table RK-6). -/
structure Place where
  line : Bool
  halo : Nat
  kernels : List Kern
deriving DecidableEq, Repr

/-- A buffered store (R338): its space, the address in the tine's or the plot's memory, and its bytes. -/
structure Store where
  space : Nat
  addr : Nat
  bytes : List Byte
  /-- Cycle of its issue (R372). -/
  cycle : Nat
deriving DecidableEq, Repr

/-- A load of PS not yet performed (R629): its destination, the bytes it reads, the cycle in which its result is ready, and
how many of the stores still buffered are older than it. -/
structure Late where
  vec : Bool
  reg : Nat
  size : Nat
  addr : Nat
  ready : Nat
  older : Nat
deriving DecidableEq, Repr

/-- A result at a tine's output gate (R336): none is a Fault Result (R352). -/
structure Res where
  bed : Nat
  band : Nat
  num : Nat
  kernel : Nat
  epoch : Nat
  bytes : Option (List Byte)
deriving DecidableEq, Repr

/-- A graft entry (Table BD-10); ALONG in sixteenths of a line. -/
structure GEntry where
  along : Nat
  seg : Nat
  mirror : Bool
  overlap : Nat
  gap : Nat
deriving DecidableEq, Repr

/-- A graft table (Table BD-9). -/
structure Graft where
  outFirst : Nat
  outWidth : Nat
  entries : List GEntry
deriving DecidableEq, Repr

/-- The settings recorded with a reference set (Table SH-2). -/
structure CalSettings where
  afe : List (Nat × Int) := []
  timing : List Nat := []
  seq : List (BitVec 8) := []
  window : Nat := 0
  cls : List Nat := []
  codes : List (List Nat) := []
  target : List Nat := []
deriving DecidableEq, Repr

/-- A reference set (R178, Table SH-6): copy 0 the identity set, 1 A, 2 B. Words by index (R200). -/
structure RefSet where
  gen : Nat := 0
  copy : Nat := 0
  epoch : Nat := 0
  accepted : Nat := 0
  segMask : BitVec 8 := 0
  seqLen : Nat := 0
  words : Tab (BitVec 32) := []
  darkBase : List Nat := []
  settings : CalSettings := {}
deriving DecidableEq, Repr

/-- A raw line in the delay memory (R126, R141): per entry, per segment, the 1,152 shaded samples. -/
structure RawLine where
  num : Nat
  acc : Nat
  fitted : Bool := false
  pos : Pos := 0
  time : Nat := 0
  invalid : BitVec 8 := 0
  fluxShort : BitVec 8 := 0
  darkUnchecked : Bool := false
  samples : List (List (List Nat)) := []
  /-- Cabinet of a strip line on its way to the Rake (accession 0). -/
  cab : Nat := 0
  /-- The set it was shaded with. -/
  ref : RefSet := {}
  /-- An uncorrectable error lies in it (R583). -/
  bad : Bool := false
deriving DecidableEq, Repr

/-- The line whose slots are being exposed (R121), or fitted to the slot that begins next. -/
structure Exposing where
  /-- 0 a document line, 1 a pre-roll line, 2 a calibration line. -/
  kind : Nat
  acc : Nat := 0
  /-- Cabinet of a strip line (R9). -/
  cab : Nat := 0
  /-- Raw number, or place in the cycle of a strip read. -/
  num : Nat := 0
  /-- Entry of the slot in progress. -/
  entry : Nat := 0
  pos : Pos := 0
  time : Nat := 0
  /-- Position and time have been taken at the strobe centre (R92). -/
  posTaken : Bool := false
  invalid : BitVec 8 := 0
  fluxShort : BitVec 8 := 0
  darkUnchecked : Bool := false
  /-- Effective codes and window in force at the line's first slot (R150). -/
  codes : List (List Nat) := []
  weff : Nat := 0
  /-- The set in force at its first slot (R179, R189). -/
  ref : RefSet := {}
  /-- Converter samples: per entry, per segment. -/
  samples : List (List (List Nat)) := []
deriving DecidableEq, Repr

/-- What the slot in progress is. -/
inductive SlotUse
  | none | line | idle
  | probe (mask : BitVec 8)
deriving DecidableEq, Repr

/-- The course of one document on one bed (R89, R126, R142, R390). -/
structure Course where
  acc : Nat
  /-- Position of line 1. -/
  start : Pos
  started : Bool := false
  /-- F + DIST[b], once the trailing edge has passed. -/
  tail : Option Pos := none
  /-- Position of BED_STOP, and whether it has fired. -/
  stop : Option Pos := none
  stopped : Bool := false
  /-- Triggers made, and of them the document's lines (R126). -/
  triggers : Nat := 0
  lines : Nat := 0
  /-- Grafted lines decided so far: captured or dropped. -/
  decided : Nat := 0
  discard : Bool := false
  halted : Bool := false
deriving DecidableEq, Repr

/-- A run of OVERRUN drops of a document being gathered (R124). -/
structure Overrun where
  acc : Nat
  line : Nat
  count : Nat
  pos : Pos
  time : Nat
  cab : Nat
deriving DecidableEq, Repr

/-- A grafted line with its tag (Table BD-5), waiting for the Rake (R333). -/
structure GLine where
  acc : Nat
  line : Nat
  bed : Nat
  pos : Pos
  time : Nat
  invalid : BitVec 8
  fluxShort : BitVec 8
  darkUnchecked : Bool
  deadRun : Bool
  /-- Per entry, OUT_WIDTH pixels. -/
  pixels : List (List Nat)
  /-- Its number in the bed's queue, its cabinet, and whether it is line 1 or line N of its document. -/
  num : Nat
  cab : Nat
  docStart : Bool
  docEnd : Bool
  place : Place
  /-- Results accepted so far (R357). -/
  results : List Res
  /-- Kernels whose item has been written, or that gave none. -/
  written : List Nat := []
  /-- Bytes reserved for it, by kernel (R407). -/
  reserved : List Nat
  /-- For a LINE placement, the tine it was handed to (R334), and the entries of the line before it (R332). -/
  tine : Option Nat
  prev : List (List Nat) := []
  /-- It passed from a dead tine to another (R358, R360). -/
  rehanded : Bool := false
deriving DecidableEq, Repr

/-- A front end's setting (Table BD-3). -/
structure Afe where
  gain : Nat := 64
  offset : Int := 0
deriving DecidableEq, Repr

/-- One LED channel of a bed (05). -/
structure Led where
  cls : Nat := 0
  knee : Nat := 70
  slope : Nat := 512
  shortV : Nat := 40
  a1 : Int := 0
  a2 : Int := 0
  /-- 0 OK, 3 OPEN, 4 SHORT, 5 HOT, 6 cleared by ILL.CLEAR and not checked since. -/
  state : Nat := 0
  /-- A check has been made since the channel last became UNVERIFIED (R164). -/
  verified : Bool := false
  disc : Nat := 0
  vf : Nat := 0
  neighbour : Bool := false
  /-- Sink junction, in 1/16 degC. -/
  sinkTemp : Int := 0
  probeDue : Bool := false
  /-- When it last passed a check (R168). -/
  passedAt : Option Nat := none
  sinceCheck : Nat := 0
  /-- The ceiling of R158 is 0 (R159). -/
  cut : Bool := false
  /-- Some entry of the last computation of R158 was limited. -/
  limited : Bool := false
deriving DecidableEq, Repr

/-- A strip read in progress (R184 to R188). -/
structure StripRead where
  cab : Nat
  isRun : Bool
  full : Bool
  began : Nat
  /-- Time at which a CAL.RUN ends FAIL (R197). -/
  deadline : Option Nat
  /-- Lines taken of the cycle in progress, and whether it must be discarded. -/
  cycle : List (List (List (List Nat))) := []
  bad : Bool := false
  kept : Nat := 0
  /-- Sums of the kept cycles: by line of the cycle, entry, segment, pixel. -/
  sums : List (List (List (List Nat))) := []
  /-- Sum and count of the samples of each segment: of the idle slots of the read, and of the D lines of the kept cycles
  (R190). -/
  idle : List (Nat × Nat) := []
  dark : List (Nat × Nat) := []
  /-- SEG_MASK under which its cycles were taken. -/
  mask : BitVec 8 := 0
  lastKept : Option (Pos × Nat) := none
  fails : Nat := 0
  /-- The read is complete and waits for STRIP_READ_COMPLETE or CAL_RESULT: 0 reading, 1 quick check due, 2 full
  calibration due, 3 ended FAIL, 4 the feed stays held after a third FAIL, 5 its accepted set is being stored (R201). -/
  phase : Nat := 0
  settings : CalSettings := {}
  abandoned : Bool := false
  /-- Its comparator of the Curator's pool, once it has one (R628). -/
  comp : Option Nat := none
  /-- Strip triggers so far, and the cycle that `cycle` gathers. -/
  turn : Nat := 0
  cyc : Nat := 0
deriving DecidableEq, Repr

/-- The fields of an accepted BED.CONFIG (Table BD-7). -/
structure BedCfg where
  segMask : BitVec 8
  seqLen : Nat
  coverMask : Option (BitVec 4)
  slotCycles : Nat
  spWidth : Nat
  lead : Nat
  tapMap : Bool
  clkInvert : Bool
  darkCount : Nat
  darkLimit : Nat
  phase : List Nat
  seq : List (BitVec 8)
deriving DecidableEq, Repr

/-- One bed (04, 05, 06). -/
structure Bed where
  segMask : BitVec 8 := 0
  seqLen : Nat := 1
  /-- COVER_MASK, or none for the reset value 1 << BED (Table BD-7). -/
  coverMask : Option (BitVec 4) := none
  slotCycles : Nat := 300
  spWidth : Nat := 2
  lead : Nat := 10
  tapMap : Bool := false
  clkInvert : Bool := false
  darkCount : Nat := 2
  darkLimit : Nat := 256
  phase : List Nat := [8, 8, 8, 8]
  seq : List (BitVec 8) := List.replicate 8 0
  /-- A BED.CONFIG accepted in IDLE, which takes effect on entry to a P3 mode (R136). -/
  cfgNext : Option BedCfg := none
  /-- Front ends by 4 x segment + tap, and accepted settings waiting for their slot (R117). -/
  afe : Tab Afe := []
  afeNext : Tab (Option Afe) := []
  invalidLeft : Tab Nat := []
  /-- Configured segments whose last probe was not PRESENT (R133). -/
  segBad : BitVec 8 := 0
  chan : Nat := 0
  pitch : BitVec 64 := 0x0000000100000000#64
  /-- Next trigger in 48.32 (R89), whether the accumulator runs, and BED_STOP's position. -/
  acc : BitVec 80 := 0
  accOn : Bool := false
  running : Bool := false
  slotNo : Nat := 0
  /-- The slot in progress and when it began. -/
  cur : SlotUse := .none
  curAt : Nat := 0
  /-- The ends of the strobes or probes of the slot in progress: channel, position and time (R160, R163). -/
  checks : List (Nat × Pos × Nat) := []
  expo : Option Exposing := none
  /-- A fitted line waiting for the slot that begins next. -/
  fit : Option Exposing := none
  delay : List RawLine := []
  graft : Option Graft := none
  graftNext : Option Graft := none
  /-- The valid stored copies, the older first (R136, R143). -/
  graftStored : List Graft := []
  courses : List Course := []
  lastStop : Option Pos := none
  overrun : Option Overrun := none
  darkRun : Nat := 0
  darkSeen : Nat := 0
  darkAcc : Tab Nat := []
  sinceDark : Nat := 0
  darkHigh : Bool := false
  queue : List GLine := []
  queueNum : Nat := 0
  /-- Document and entries of the last line that entered the Line Queue (R332). -/
  handed : Nat × List (List Nat) := (0, [])
  lineTurn : Nat := 0
  -- pacing (09)
  gateShut : Bool := false
  /-- In the excursion of a pause, which for it ends as its gate opens (R287). -/
  inExcursion : Bool := false
  /-- Pre-roll triggers still to come before the resume mark (R282). -/
  prerollNext : Nat := 0
  /-- V_ref of R283, ticks per second. -/
  vRef : ℚ := 0
  -- illumination (05)
  tempFixed : Bool := false
  bConst : Nat := 3435
  window : Nat := 920
  tempValue : Int := 0
  leds : Tab Led := []
  /-- Light codes and effective codes by 8 x entry + channel. -/
  code : Tab Nat := []
  eff : Tab Nat := []
  fluxShort : BitVec 8 := 0
  temp : Int := 400
  tempFault : Bool := false
  ntestRun : Bool := false
  -- calibration (06)
  method : Nat := 0
  deliver : Bool := false
  onFailHold : Bool := false
  cycles : Nat := 32
  deadFrac : Nat := 128
  maxDead : Nat := 16
  recheck : Nat := 0
  spanFirst : Pos := 0
  spanLast : Pos := 0
  target : List Nat := List.replicate 8 61440
  refSet : RefSet := {}
  /-- Stored copies A and B as they are valid (R178). -/
  refCopies : Tab (Option RefSet) := []
  refNext : Option RefSet := none
  read : Option StripRead := none
  lastRead : Nat := 0
  sinceRead : Nat := 0
deriving DecidableEq, Repr

/-- A job (Table DO-1) and how far it has come. -/
structure Job where
  cab : Nat
  id : Nat
  bedMask : BitVec 4
  flatbed : Bool
  exitCheck : Bool
  free : Bool
  chan : Nat
  entryGpio : Nat
  exitGpio : Nat
  gaugeStream : Nat
  docs : Nat
  freeRate : Nat
  dist : List Nat
  maxLen : Nat
  exitDist : Nat
  fed : Nat := 0
  done : Nat := 0
  current : Bool := false
  cancelled : Bool := false
  turn : Nat := 0
  /-- E of a FLATBED job's document: the CHANNEL position at which it became current (R389). -/
  flatE : Pos := 0
  /-- Its cabinet was backlogged for it when that was last noted (R435). -/
  backlog : Bool := false
deriving DecidableEq, Repr

/-- A document's share of one bed (Table DO-7). -/
structure DocBed where
  used : Bool := false
  gen : Nat := 0
  captured : Nat := 0
  dropped : Nat := 0
  preroll : Nat := 0
  flags : BitVec 16 := 0
  /-- When its last line was exposed (R168). -/
  exposedAt : Nat := 0
  /-- Trigger positions of its line 1 and of its last line so far, and whether that is line N (R321). -/
  first : Pos := 0
  last : Option Pos := none
  ended : Bool := false
deriving DecidableEq, Repr

/-- A sample of a document's gauge window, its end not yet known (R321). -/
structure GSample where
  centre : Pos
  value : BitVec 32
  counted : Bool
  fault : Bool
deriving DecidableEq, Repr

/-- A gauge summary being formed (R321 to R323): the samples from the window's start, the run of values above DF_LIMIT
and the centre of its first sample, and whether DOUBLE_FEED has been written. -/
structure GSummary where
  samples : List GSample := []
  run : Nat := 0
  runStart : Pos := 0
  fired : Bool := false
deriving DecidableEq, Repr

/-- An image run of a document (R406): bed, kernel of the placement, and what has been written. -/
structure Run where
  bed : Nat
  kernel : Nat
  kern : Kern
  begun : Bool := false
  /-- LINE and CODED items written, and output lines of the image. -/
  items : Nat := 0
  height : Nat := 0
  /-- The last line handed to a stock coding kernel: number, tag and its selected entries (R412). -/
  lastLine : Nat := 0
  tag : List Byte := []
  last : List (List Nat) := []
  /-- Lines held for the strip or box in progress (DECIMATE, JPEG), and restart intervals coded. -/
  strip : List (List (List Nat)) := []
  intervals : Nat := 0
deriving DecidableEq, Repr

/-- A document in flight and its record (13). -/
structure Doc where
  acc : Nat
  cab : Nat
  chan : Nat
  entryGpio : Nat
  job : Option Job
  start : Pos
  tail : Option Pos := none
  flags : BitVec 32 := 0
  beds : Tab DocBed := []
  inTransport : Bool := true
  /-- R392: no bed starts for it. -/
  refusedDoc : Bool := false
  orphaned : Bool := false
  trapped : Bool := false
  /-- Kernels that have trapped in this document, by 4 x bed + place, with the line (R352). -/
  faulted : List (Nat × Nat) := []
  divertArmed : Bool := false
  /-- Comparators reserved to it: its beds' in ascending order, the jam check's, the diversion's (R628). -/
  reserved : List Nat := []
  charge : Nat := 0
  recordKey : Option (List Byte) := none
  gauges : Tab GSummary := []
  runs : List Run := []
  record : Option (List Byte) := none
  /-- Whether the RECORD item has been written to stream 0. -/
  recorded : Bool := false
  /-- Gaps: stream, status, offset, length, oldest first. -/
  gaps : List (Nat × Nat × Nat × Nat) := []
  noted : Bool := false
deriving DecidableEq, Repr

/-- An item of a stream, from its offset, with what the DMA engine and the note need of it (R405, R486). -/
structure Item where
  start : Nat
  len : Nat
  kind : Nat
  acc : Nat
  last : Bool
deriving DecidableEq, Repr

/-- An item held in the device for want of room (R408). -/
structure HeldItem where
  bytes : List Byte
  /-- Reservation released when it is written (R407). -/
  res : Nat
  kind : Nat
  acc : Nat
  last : Bool
deriving DecidableEq, Repr

/-- An output stream (R404, Table PA-1). -/
structure Stream where
  kind : Nat := 0
  encrypt : Bool := false
  base : Nat := 0
  capacity : Nat := 0
  written : Nat := 0
  freed : Nat := 0
  reserved : Nat := 0
  items : List Item := []
  heldItems : List HeldItem := []
  rateMark : Nat := 5000
  holdMark : Nat := 7500
  pauseMark : Nat := 9000
  releaseMark : Nat := 2500
  hold : Bool := false
  pause : Bool := false
  crossings : BitVec 32 := 0
  wmArmed : Bool := false
  /-- Stream offsets that cannot be read from DRAM: 64-byte blocks hit by an uncorrectable error (R493). -/
  badBlocks : List Nat := []
deriving DecidableEq, Repr

/-- A descriptor read from the ring (Table DH-2). -/
structure Desc where
  control : BitVec 32
  length : Nat
  dest : BitVec 64
  tag : BitVec 32
  taken : Nat := 0
  first : Nat := 0
  lastByte : Nat := 0
  /-- Probes outstanding: the page of each, oldest first, and the pages probed so far (R492). -/
  probes : List Nat := []
  probed : Nat := 0
  /-- The return it awaits once its probes have completed: CODE, CAUSE and RETURNED. -/
  ending : Option (Nat × Nat × Nat) := none
deriving DecidableEq, Repr

/-- A descriptor ring of a stream (R478). -/
structure Ring where
  enabled : Bool := false
  /-- It was disabled while its function could not master the bus: its returns wait (Table DH-6). -/
  closing : Bool := false
  post : BitVec 32 := 0
  ret : BitVec 32 := 0
  size : Nat := 0
  base : BitVec 64 := 0
  timeout : Nat := 0
  via : Nat := 0
  next : Nat := 0
  opened : Option Desc := none
  fetchTried : Bool := false
  chan : Option Nat := none
  lastChan : Nat := 0xFF
  waitSince : Option Nat := none
  badCount : Nat := 0
deriving DecidableEq, Repr

/-- A record or note waiting in the Accession Register for room in stream 0 (R409, R415). -/
structure Waiting where
  acc : Nat
  isNote : Bool
deriving DecidableEq, Repr

/-- A pacing group, by BED_MASK (09). -/
structure Group where
  permit : Bool := true
  /-- 0 none, 1 decelerating, 2 backing up, 3 resting behind, 4 approaching, 5 decelerating for a re-plan, 6 past the
  excursion with gates still shut, 7 at rest with no excursion (R285). -/
  phase : Nat := 0
  /-- The pause has been released: the approach follows (R286). -/
  released : Bool := false
  /-- Least r of the governing streams at the last evaluation (R276). -/
  rate : Nat := 10000
  /-- Profile velocity of the lowest axis when PACE was set to 0 (R283). -/
  v0 : ℚ := 0
  replans : Nat := 0
  /-- Refusal causes told, by document (R279). -/
  refusals : List (Nat × Nat) := []
deriving DecidableEq, Repr

/-- The settings of GAUGE.CONFIG (Table GA-5). -/
structure GaugeCfg where
  bed : Nat := 0xFF
  enable : Bool := false
  leadSense : Bool := false
  toneInGap : Bool := false
  gain : Nat := 0
  input : Nat := 0
  tempSrc : Nat := 0
  blankPins : BitVec 2 := 0
  toneBlank : BitVec 8 := 0
  freq : Nat := 10000
  ampl : Nat := 1000
  decim : Nat := 128
  phase : Nat := 0
  tFixed : Int := 400
  lead : Nat := 0
  offset : Pos := 0
  toneFreq : Nat := 10000
  tonePeriod : Nat := 100
  toneLen : Nat := 2000
  zMin : Nat := 10000
  zMax : Nat := 10000000
deriving DecidableEq, Repr

/-- A GAUGE.LEAD in progress (R310): its cabinet, STORE, the samples taken, their sum in mOhm, and its start. -/
structure LeadRun where
  cab : Nat
  store : Bool
  count : Nat
  sum : ℚ
  began : Nat
deriving DecidableEq, Repr

/-- The demodulator and filters of a gauge channel (Table GA-2): the products of the last unblanked cycle, the integrators
and the comb stores of the CIC, the cycles since its last output, and its last 32 outputs, the newest first. Each list
holds I and Q of the signal, the ball voltage, the excitation current and the sense lines. -/
structure Chain where
  held : List ℚ := List.replicate 8 0
  sums : List (List ℚ) := List.replicate 3 (List.replicate 8 0)
  combs : List (List ℚ) := List.replicate 3 (List.replicate 8 0)
  count : Nat := 0
  outs : List (List ℚ) := []
deriving DecidableEq, Repr

/-- A stretch of an excitation at one frequency (R292, R311): when it began, in 1/64 ns, the phase then, and INC. -/
structure Excite where
  at_ : Nat
  phase : BitVec 32
  inc : Nat
deriving DecidableEq, Repr

/-- The positions of the channels from an instant on, and the beds in the excursion of a pause (R287, R297). -/
structure Track where
  at_ : Nat
  pos : List Pos
  paused : BitVec 4
deriving DecidableEq, Repr

/-- One gauge channel (10). -/
structure Gauge where
  cfg : GaugeCfg := {}
  /-- Accepted settings and coefficients that apply from the next output period (R300, R318, R319). -/
  next : Option GaugeCfg := none
  /-- A change of R300 has been accepted in the present period. -/
  changed : Bool := false
  coefNext : Option (List (BitVec 32)) := none
  /-- Coefficients c[i][j] at 3 i + j (R319): c[1][0] is 1.0. -/
  coef : List (BitVec 32) := [0, 0, 0, 0x3F800000#32, 0, 0, 0, 0, 0, 0, 0, 0]
  summary : Bool := false
  df : Bool := false
  dfCount : Nat := 16
  trim : Nat := 0
  dfLimit : BitVec 32 := 0
  index : Nat := 0
  /-- Start of the output period in progress, in 1/64 ns. -/
  began : Nat := 0
  chain : Chain := {}
  /-- The stretches of its excitation, the newest first. -/
  excite : List Excite := []
  /-- When its cycles have been blanked (R305), the newest first: from, and until when where that is known. -/
  blanks : List (Nat × Option Nat) := []
  invalidLeft : Nat := 0
  zeroLeft : Nat := 0
  lastValue : BitVec 32 := 0
  lastRatio : BitVec 32 := 0
  /-- The latest sample, as GAUGE.STATUS returns it. -/
  lastSample : List Byte := List.replicate 32 0
  limit : Bool := false
  openF : Bool := false
  short : Bool := false
  senseOpen : Bool := false
  verified : Bool := false
  /-- The STATE last told (R314). -/
  told : Nat := 0
  cleanRun : Nat := 0
  zLast : Nat := 0
  peak : Nat := 0
  disc : Nat := 0
  checking : Bool := false
  checkBegan : Option Nat := none
  blankUntil : Nat := 0
  leadRun : Option LeadRun := none
  leadResult : Nat := 0
  /-- GAUGE_RESET firings on their way to GADC (R301, R549). -/
  resets : List Nat := []
deriving DecidableEq, Repr

/-- A ratiometric output (R325). -/
structure Aout where
  source : Nat := 0
  code : Nat := 0
  faultCode : Nat := 0
  zero : BitVec 32 := 0
  span : BitVec 32 := 0x3F800000#32
  driven : Nat := 0
deriving DecidableEq, Repr

/-- The run of a kernel on a line in progress (R369): the band, the line's number in its bed's queue, the kernel's
place, its windows, and the cycles at which it is ended. -/
structure Running where
  bed : Nat
  band : Nat
  num : Nat
  kernel : Nat
  acc : Nat
  imBase : Nat
  imSize : Nat
  lmBase : Nat
  lmSize : Nat
  psBase : Nat
  psSize : Nat
  loBase : Nat
  outMax : Nat
  /-- C of R384. -/
  cycles : Nat
deriving DecidableEq, Repr

/-- One tine (Tables RK-1 and TI-2). -/
structure Tine where
  s : Tab (BitVec 32) := []
  v : Tab (BitVec 64) := []
  /-- Accumulator lanes by 4 x register + lane. -/
  a : Tab (BitVec 40) := []
  p : Tab (BitVec 4) := []
  pc : BitVec 32 := 0
  im : Tab (BitVec 32) := []
  lm : Tab Byte := []
  li0 : Tab Byte := []
  li1 : Tab Byte := []
  /-- The LI window is li1. -/
  liSel : Bool := false
  /-- Bed, band and line number that the LI window holds. -/
  liOf : Option (Nat × Nat × Nat) := none
  lo : Tab Byte := []
  stores : List Store := []
  late : List Late := []
  /-- Cycle at which each register's pending result is ready, by 32 x kind + register (R371). -/
  ready : Tab Nat := []
  /-- Accumulators whose pending result VMACU, VMACS or AADDV made. -/
  chained : Tab Bool := []
  cyc : Nat := 0
  /-- The PLOT cycle of the kernel's entry, from which `cyc` counts (R370). -/
  start : Nat := 0
  run : Option Running := none
  gate : List Res := []
  declared : Bool := false
  quarantined : Bool := false
  retired : Bool := false
  /-- A dead tine's gate and PS port are closed (R356). -/
  closed : Bool := false
  declarations : Nat := 0
  /-- The positions, 16 x plot + position, whose next line on this tine is the first after a substitution (R358). -/
  spareStart : List Nat := []
  /-- Kernels whose LM window is zeroed at the next document, with the document of the trap (R352). -/
  zero : List (Nat × Nat) := []
  /-- A revived tine that takes this position of its plot at the band's next line (R359). -/
  take : Option Nat := none
deriving DecidableEq, Repr

/-- One plot of the Rake (11). -/
structure Plot where
  /-- The bed of CUT.ASSIGN (0xFF no bed); none, the bed of device reset (R329). -/
  assign : Option Nat := none
  /-- Tine that holds each position, 17 p + t; none, the tine of device reset (R331). -/
  holders : List (Option Nat) := List.replicate 16 none
  spare : Option Nat := some 16
  degraded : Bool := false
  ps : Tab Byte := []
  flags : BitVec 32 := 0
  /-- For each flag, the tine that set it and the PLOT cycle in which it was set (R378). -/
  flagSet : Tab (Nat × Nat) := []
  lastCab : Option Nat := none
  /-- The placement it holds and that placement's cabinet and bed. -/
  loaded : Option (Nat × Nat × Place) := none
  scrubDue : Bool := true
  zero : List (Nat × Nat) := []
deriving DecidableEq, Repr

/-- What an IDENT said of a neighbour (Table RN-6). -/
structure Peer where
  uid : BitVec 64
  inc : BitVec 32
  node : Nat
  priority : Nat
  maxRate : Nat
  cls : Nat
  keep : Bool
deriving DecidableEq, Repr

/-- One virtual channel of a port in both directions (R517, R518). -/
structure Vc where
  /-- BUFFERS, SENT and FREED of the partner's receiver, as reported. -/
  buffers : Nat := 0
  sent : Nat := 0
  freed : Nat := 0
  /-- Count of packets first sent, the retry store with the count each was sent as, and what waits for credit. -/
  count : Nat := 0
  retry : List (Nat × Packet) := []
  /-- Each with the port and channel of the receive buffer it occupies here until it is sent. -/
  waiting : List (Option (Nat × Nat) × Packet) := []
  /-- RECEIVED and FREED of this side's receiver. -/
  received : Nat := 0
  freedHere : Nat := 0
  /-- Packets of the retry store still to be sent again (R519). -/
  replay : Nat := 0
  /-- A NAK was sent and the expected packet has not come. -/
  naked : Bool := false
deriving DecidableEq, Repr

/-- The last ADVERT of a neighbour (Table RN-7), when its ROOT_TICK last advanced, and when it came in. -/
structure Advert where
  root : BitVec 64
  priority : Nat
  epoch : Nat
  distance : Nat
  parent : Bool
  tick : Nat
  at_ : Nat
  slow : Bool
  /-- When it came in. -/
  seen : Nat := 0
deriving DecidableEq, Repr

/-- One Runner port (17). -/
structure Port where
  st : Nat := 0
  rate : Nat := 1
  /-- A RATE asked for and not yet in effect. -/
  rateAsked : Option Nat := none
  peer : Option Peer := none
  /-- The peer held in RETRY (PREV_UID, PREV_INC). -/
  prev : Option (BitVec 64 × BitVec 32) := none
  resume : Bool := false
  /-- The neighbour's CREDIT_SYNC of this training has come (R519). -/
  synced : Bool := false
  trains : Nat := 0
  /-- IDENT packets received in this attempt at training. -/
  idents : Nat := 0
  /-- The neighbour was admitted and has not yet advertised the root of this side (R530). -/
  joins : Bool := false
  since : Nat := 0
  delay : Int := 0
  crcTimes : List Nat := []
  vc : Tab Vc := []
  advert : Option Advert := none
  /-- The advert of another root that this one replaced (R524, R530). -/
  lastRoot : Option Advert := none
  blocked : Nat := 0
  t1 : Nat := 0
deriving DecidableEq, Repr

/-- A node of the partition (R526, R541). -/
structure Node where
  uid : BitVec 64
  inc : BitVec 32
  distance : Nat
  port : Nat
  cls : Nat
  priority : Nat
  keep : Bool
  legacy : Bool
  admitted : Nat
deriving DecidableEq, Repr

/-- A read or write of this node not yet complete (R532). -/
structure Request where
  id : Nat
  dest : Nat
  cab : Nat
  mbx : Nat
  tag : Nat
  isRead : Bool
  len : Nat
  host : BitVec 64
  sent : Nat
  /-- Its cabinet has been reset since (Table CB-6). -/
  dropped : Bool := false
deriving DecidableEq, Repr

/-- A posted write not yet acknowledged (R534, R535), with its count to that target. -/
structure Posted where
  dest : Nat
  cab : Nat
  tag : Nat
  n : Nat
deriving DecidableEq, Repr

/-- POST packets accepted of one source (R534). -/
structure PostIn where
  count : BitVec 32 := 0
  unacked : Nat := 0
  first : Nat := 0
deriving DecidableEq, Repr

/-- RUN.CONFIG (Table RN-11). NODE_ID none is DEVICE_UID[9:0]. -/
structure RunCfg where
  node : Option Nat := none
  priority : Nat := 64
  enable : BitVec 4 := 0xF
  maxRate : List Nat := [3, 3, 3, 3]
  retry : Nat := 50
  timeout : Nat := 200
deriving DecidableEq, Repr

/-- What a record of the Herbarium in the writing stands for, and what was in use before it (R567, R568). -/
inductive NvsRecord where
  | other
  | ref (b copy : Nat) (was : Option RefSet)
  | graft (b : Nat) (was : List Graft)
  | checkpoint (was : List Checkpoint) (no : Nat) (breaches : List Breach)
  | slots (was : Tab FwSlot)
  | image (k : Nat) (was : FwSlot)
  | settings (was : RunCfg)
deriving DecidableEq, Repr

/-- A record in the writing (R566): its words newest first, each its place in the store, what it held before, and the time
by which it is whole at the latest. -/
structure NvsWrite where
  record : NvsRecord := .other
  words : List (Nat × BitVec 64 × Nat) := []
deriving DecidableEq, Repr

/-- What a merge changed at this node, put back where the merge is refused (R530): the root it followed, its node table,
and the anchors of its REMOTE channels. -/
structure Side where
  parent : Option Nat
  rootUid : Option (BitVec 64)
  priority : Nat
  distance : Nat
  epoch : Nat
  tick : Nat
  master : Nat
  nodes : Tab (Option Node)
  anchors : List (BitVec 64 × Nat)
deriving DecidableEq, Repr

/-- A merge under way (Table RN-10): the demoted partition's epoch and when it began; whether this node was its
master; the port it came by, and what it changed. -/
structure Merge where
  epoch : Nat
  since : Nat
  master : Bool
  port : Nat := 0
  side : Option Side := none
deriving DecidableEq, Repr

/-- The state of the device. -/
structure State where
  -- the model's own
  pending : List Instr
  free : Nat
  outbox : List Out
  -- modes and power (02)
  now : Nat
  mode : Mode
  change : Option Change
  bootFailed : Bool
  fwUp : Bool
  haltCauses : BitVec 16
  haltSettled : Bool
  haltOff : Bool
  /-- Channels whose lost source is a SOURCE cause not yet cleared (R87). -/
  haltSource : BitVec 4
  wakeMask : BitVec 16
  wakeTimer : Nat
  wakeLatch : BitVec 16
  wakeCause : BitVec 16
  -- what outlives a device reset (01, 14, 19)
  epoch : Nat
  incarnation : Nat
  oldEpoch : Option OldEpoch
  fw : Tab FwSlot
  fwVersion : Nat
  fwSlot : Nat
  fwTrial : Bool
  charter : Charter
  ownerKey : Option (List Byte)
  charterFloor : Nat
  rollbackFloor : Nat
  wdPending : Option (Nat × Nat)
  breaches : List Breach
  checkpointNo : Nat
  /-- The checkpoints of the ring, newest first (R571). -/
  checkpoints : List Checkpoint
  nvs : Tab (BitVec 64)
  /-- The records in the writing, newest first (R566). -/
  nvsWrites : List NvsWrite
  /-- Pages of which a word fails the store's internal error check (R573): a physical input. -/
  nvsBad : List Nat
  hbNext : Tab Nat
  accSeq : Nat
  -- physical inputs and ports (10, 16, 20, 21)
  supplies : Tab Supply
  junction : Tab Int
  warnArmed : Bool
  limitUp : Bool
  coverOpen : BitVec 4
  pins : Tab Pin
  gpioIn : BitVec 16
  blank : BitVec 2
  perst : Bool
  extRefclk : Bool
  pcieUp : Bool
  usbUp : Bool
  vfEnabled : Bool
  usbSuspended : Bool
  usbNotes : BitVec 32
  usbTags : Tab (Option UsbTag)
  /-- What waits to be sent on the USB port until the host resumes it, oldest first (R58). -/
  usbWait : List Out
  clocks : Tab Clock
  crossings : Tab Crossing
  /-- Hold-and-flag crossings: MOTa to TB at a, TB to PCIe link at 8 (Table CK-3). -/
  holds : Tab Hold
  hung : Option Hang
  -- ledgers (20)
  counters : Tab (BitVec 48)
  snaps : Tab Snap
  snapNext : Nat
  snapOrder : Nat
  /-- The latches of the counters and readings, as the last snapshot that each unit received left them (R592). -/
  latches : Tab (BitVec 48)
  latchMon : List Int
  partners : Tab Partner
  diag : Option Diag
  -- mailboxes and cabinets (14, 15)
  mbxs : Tab Mbx
  /-- Posted commands in the order rung: mailbox x 4 + slot (R455). -/
  rung : List Nat
  turn : Nat
  cabs : Tab Cab
  diverts : Tab Divert
  dram : Tab Byte
  -- timebase (03)
  chans : Tab Chan
  /-- Levels of A (bit 0) and B (bit 1) of each ENCn: physical inputs (R622). -/
  encs : Tab (BitVec 2)
  /-- This node's timestamp against the master's, from the last sync packet (R106), in ns. -/
  systemOffset : Int
  comps : Tab (Option Cmp)
  axes : Tab Axis
  beds : Tab Bed
  groups : Tab Group
  -- documents, jobs and streams (13, 16)
  jobs : List Job
  docs : List Doc
  streams : Tab Stream
  rings : Tab Ring
  waiting : Tab (List Waiting)
  ivCount : Tab Nat
  /-- Rounds of R433 so far: which waiting cabinets' shares of the pool are rounded up changes with each. -/
  rounds : Nat
  /-- Slots each cabinet has used in the present round of 1,024 (R433). -/
  roundUsed : Tab Nat
  gauges : Tab Gauge
  /-- Where the channels have been, the newest first, as far back as a sample's centre can lie (R297). -/
  track : List Track
  /-- Documents whose delivery notes have been written, while samples may still lie in their gauge windows (R299). -/
  windows : List Doc
  aouts : Tab Aout
  -- the Rake (11, 12)
  cuttings : Tab (Option Cutting)
  places : Tab (Option Place)
  plots : Tab Plot
  tines : Tab Tine
  /-- Placement epoch by 256 x bed + band (R357). -/
  bandEpochs : Tab Nat
  -- Runner (17)
  ports : Tab Port
  runCfg : RunCfg
  /-- NODE_ID and PRIORITY stored for the next device reset (R540). -/
  runNext : RunCfg
  nodes : Tab (Option Node)
  requests : List Request
  nextReq : Nat
  posts : List Posted
  postSent : Tab Nat
  postsIn : Tab PostIn
  rootUid : Option (BitVec 64)
  rootPriority : Nat
  rootDistance : Nat
  parent : Option Nat
  runEpoch : Nat
  rootTick : Nat
  masterNode : Nat
  syncCount : Nat
  merge : Option Merge
  /-- Merges that began while that one was under way, oldest first. -/
  mergeNext : List Merge
  /-- The root that this node follows has fallen to priority 0: it is on its way to KEEP (R59, R531). -/
  rootFell : Bool
deriving DecidableEq, Repr

/-- The machine right after reset. -/
def State.reset : State where
  pending := []
  free := 0
  outbox := []
  now := 0
  mode := .boot
  change := none
  bootFailed := false
  fwUp := false
  haltCauses := 0
  haltSettled := false
  haltOff := false
  haltSource := 0
  wakeMask := 0
  wakeTimer := 0
  wakeLatch := 0
  wakeCause := 0
  epoch := 0
  incarnation := 0
  oldEpoch := none
  fw := [(0, { verifies := true, len := 504, mark := 2 })]
  fwVersion := 0
  fwSlot := 0
  fwTrial := false
  charter := Charter.factory
  ownerKey := none
  charterFloor := 0
  rollbackFloor := 0
  wdPending := none
  breaches := []
  checkpointNo := 0
  checkpoints := []
  nvs := []
  nvsWrites := []
  nvsBad := []
  hbNext := []
  accSeq := 0
  supplies := [(0, { mv := 12000, outside := false })] ++
    (List.range 4).map (fun k => (1 + k, { mv := 24000, outside := false })) ++
    (List.range 4).map (fun k => (5 + k, { mv := 14500, outside := false })) ++
    [(9, { mv := 3300, outside := false })]
  junction := []
  warnArmed := true
  limitUp := false
  coverOpen := 0
  pins := []
  gpioIn := 0
  blank := 0
  perst := false
  extRefclk := false
  pcieUp := false
  usbUp := false
  vfEnabled := false
  usbSuspended := false
  usbNotes := 0
  usbTags := []
  usbWait := []
  clocks := []
  crossings := []
  holds := []
  hung := none
  counters := []
  snaps := []
  snapNext := 0
  snapOrder := 0
  latches := []
  latchMon := []
  partners := []
  diag := none
  mbxs := []
  rung := []
  turn := 255
  cabs := []
  diverts := []
  dram := []
  chans := []
  encs := []
  systemOffset := 0
  comps := []
  axes := []
  beds := []
  groups := []
  jobs := []
  docs := []
  streams := []
  rings := []
  waiting := []
  ivCount := []
  rounds := 0
  roundUsed := []
  gauges := []
  track := []
  windows := []
  aouts := []
  cuttings := []
  places := []
  plots := []
  tines := []
  bandEpochs := []
  ports := []
  runCfg := {}
  runNext := {}
  nodes := []
  requests := []
  nextReq := 0
  posts := []
  postSent := []
  postsIn := []
  rootUid := none
  rootPriority := 64
  rootDistance := 0
  parent := none
  runEpoch := 0
  rootTick := 0
  masterNode := 0
  syncCount := 0
  merge := none
  mergeNext := []
  rootFell := false

end Sys2Proof.Machine
end

