-- ==== Sys2Proof/Machine/Ops.lean ====
section
/-! DEFINITION. The shared operations: sparse tables, bytes, counters, the outbox, host memory, signals, the event
rings, the sealed rights of a cabinet. -/

namespace Sys2Proof.Machine

/-! Sparse tables. -/

/-- The entry of a key; the default where none is listed. -/
def tget {α : Type} (d : α) : Tab α → Nat → α
  | [], _ => d
  | (k, v) :: t, i => if k = i then v else tget d t i

/-- Put an entry in its place among the rising keys. -/
def tins {α : Type} (i : Nat) (v : α) : Tab α → Tab α
  | [] => [(i, v)]
  | (k, w) :: t => if i < k then (i, v) :: (k, w) :: t else (k, w) :: tins i v t

/-- Set the entry of a key, keeping the canonical form. -/
def tset {α : Type} [DecidableEq α] (d : α) (t : Tab α) (i : Nat) (v : α) : Tab α :=
  if v = d then t.filter fun e => e.1 != i else tins i v (t.filter fun e => e.1 != i)

/-- Change the entry of a key. -/
def tupd {α : Type} [DecidableEq α] (d : α) (t : Tab α) (i : Nat) (f : α → α) : Tab α :=
  tset d t i (f (tget d t i))

/-- Change every entry listed, keeping the canonical form. -/
def tmap {α : Type} [DecidableEq α] (d : α) (t : Tab α) (f : α → α) : Tab α :=
  t.foldr (fun e u => tset d u e.1 (f e.2)) []

/-- Canonical: every key above a bound and rising, no entry equal to the default. -/
def twfFrom {α : Type} [DecidableEq α] (d : α) : Nat → Tab α → Bool
  | _, [] => true
  | lo, (k, v) :: t => decide (lo ≤ k) && decide (v ≠ d) && twfFrom d (k + 1) t

/-- The canonical form of a table. -/
def twf {α : Type} [DecidableEq α] (d : α) (t : Tab α) : Bool := twfFrom d 0 t

/-! Bytes and numbers (R2, R7). -/

/-- The n bytes of a number, lowest first. -/
def leBytes (n v : Nat) : List Byte :=
  match n with
  | 0 => []
  | n + 1 => BitVec.ofNat 8 v :: leBytes n (v / 256)

/-- The number that bytes spell, lowest first. -/
def leNat : List Byte → Nat
  | [] => 0
  | b :: t => b.toNat + 256 * leNat t

/-- The n bytes of a signed number, two's complement. -/
def leInt (n : Nat) (v : Int) : List Byte := leBytes n (v % (2 ^ (8 * n) : Int)).toNat

/-- A field of n bytes at an offset, unsigned. -/
def fieldU (bs : List Byte) (off n : Nat) : Nat := leNat ((bs.drop off).take n)

/-- Two's complement reading of an unsigned number of a width. -/
def signed (bits v : Nat) : Int := if v < 2 ^ (bits - 1) then (v : Int) else (v : Int) - 2 ^ bits

/-- A field of n bytes at an offset, signed. -/
def fieldS (bs : List Byte) (off n : Nat) : Int := signed (8 * n) (fieldU bs off n)

/-- Bits msb:lsb of a number. -/
def bits (v msb lsb : Nat) : Nat := v / 2 ^ lsb % 2 ^ (msb + 1 - lsb)

/-- Whether a bit of a number is set. -/
def bit (v i : Nat) : Bool := v.testBit i

/-- Bytes replaced from an offset, the length kept. -/
def patch (bs : List Byte) (off : Nat) (new : List Byte) : List Byte :=
  (bs.take off ++ new ++ bs.drop (off + new.length)).take bs.length

/-- Bytes padded with zeros, or cut, to a length. -/
def padTo (n : Nat) (bs : List Byte) : List Byte := (bs ++ List.replicate n 0).take n

/-- Round up a quotient. -/
def ceilDiv (a b : Nat) : Nat := (a + b - 1) / b

/-- Floored division of integers. -/
def floorDiv (a b : Int) : Int := Int.fdiv a b

/-- Do something for each of a list, in order. -/
def forEach {α σ : Type} (xs : List α) (f : α → σ → σ) (s : σ) : σ := xs.foldl (fun s x => f x s) s

/-- The first error of a list of checks. -/
def firstErr {ε : Type} : List (Option ε) → Option ε
  | [] => none
  | some e :: _ => some e
  | none :: t => firstErr t

/-- The CRC-32 step of R382: one byte, eight reflected shifts by 0xEDB8_8320. -/
def crcByte (crc : BitVec 32) (b : Byte) : BitVec 32 :=
  (List.range 8).foldl
    (fun c _ => if c.getLsbD 0 then (c >>> 1) ^^^ 0xEDB88320#32 else c >>> 1) (crc ^^^ b.setWidth 32)

/-- CRC-32 of bytes (R382). -/
def crc32 (bs : List Byte) : BitVec 32 := ~~~(bs.foldl crcByte 0xFFFFFFFF#32)

/-! Free values. -/

/-- Draw a fresh free value (DESIGN CHOICE, log 1). -/
def State.drawn (s : State) : BitVec 64 := Config.freeValue s.free

/-- The state after a free value is drawn. -/
def State.draw (s : State) : State := { s with free := s.free + 1 }

/-! Tables of the state: reading and changing one entry. -/

def State.cab (s : State) (c : Nat) : Cab := tget {} s.cabs c
def State.updCab (s : State) (c : Nat) (f : Cab → Cab) : State := { s with cabs := tupd {} s.cabs c f }
def State.mbx (s : State) (m : Nat) : Mbx := tget {} s.mbxs m
def State.updMbx (s : State) (m : Nat) (f : Mbx → Mbx) : State := { s with mbxs := tupd {} s.mbxs m f }
def State.slot (s : State) (m n : Nat) : Slot := tget {} (s.mbx m).slots n
def State.updSlot (s : State) (m n : Nat) (f : Slot → Slot) : State :=
  s.updMbx m fun b => { b with slots := tupd {} b.slots n f }
def State.chan (s : State) (c : Nat) : Chan := tget {} s.chans c
def State.updChan (s : State) (c : Nat) (f : Chan → Chan) : State := { s with chans := tupd {} s.chans c f }
def State.comp (s : State) (k : Nat) : Option Cmp := tget none s.comps k
def State.setComp (s : State) (k : Nat) (v : Option Cmp) : State := { s with comps := tset none s.comps k v }
def State.pin (s : State) (p : Nat) : Pin := tget {} s.pins p
def State.updPin (s : State) (p : Nat) (f : Pin → Pin) : State := { s with pins := tupd {} s.pins p f }
def State.axis (s : State) (a : Nat) : Axis := tget {} s.axes a
def State.updAxis (s : State) (a : Nat) (f : Axis → Axis) : State := { s with axes := tupd {} s.axes a f }
def State.clock (s : State) (d : Nat) : Clock := tget {} s.clocks d
def State.supply (s : State) (u : Nat) : Supply := tget {} s.supplies u
def State.snap (s : State) (k : Nat) : Snap := tget {} s.snaps k
def State.updSnap (s : State) (k : Nat) (f : Snap → Snap) : State := { s with snaps := tupd {} s.snaps k f }
def State.updRing (s : State) (c : Nat) (f : EvRing → EvRing) : State :=
  s.updCab c fun x => { x with ring := f x.ring }

/-! Counters (R584, R587). -/

/-- The place of a counter: class, unit, index. -/
def ctrKey (cls unit idx : Nat) : Nat := cls * 2 ^ 24 + unit * 2 ^ 8 + idx

/-- Units and indices of counters lie below these. -/
def ctrIn (unit idx : Nat) : Bool := decide (unit < 65536) && decide (idx < 256)

def State.ctr (s : State) (cls unit idx : Nat) : BitVec 48 :=
  if ctrIn unit idx then tget 0 s.counters (ctrKey cls unit idx) else 0

/-- A counter increments by a quantity, modulo 2^48 (R584). -/
def State.inc (s : State) (cls unit idx n : Nat) : State :=
  if ctrIn unit idx then
    { s with counters := tupd 0 s.counters (ctrKey cls unit idx) (· + BitVec.ofNat 48 n) }
  else s

/-! Modes (R35). -/

/-- Code of Table MO-1. -/
def Mode.code : Mode → Nat
  | .dormant => 0 | .keep => 1 | .boot => 2 | .idle => 3 | .service => 4 | .update => 5
  | .calibrate => 6 | .armed => 7 | .capture => 8 | .paused => 9 | .drain => 10 | .halted => 11

/-- The mode of a code of Table MO-1. -/
def modeOf : Nat → Option Mode
  | 0 => some .dormant | 1 => some .keep | 2 => some .boot | 3 => some .idle | 4 => some .service
  | 5 => some .update | 6 => some .calibrate | 7 => some .armed | 8 => some .capture | 9 => some .paused
  | 10 => some .drain | 11 => some .halted | _ => none

/-- Power level P3 of Table MO-1. -/
def Mode.p3 : Mode → Bool
  | .calibrate | .armed | .capture | .paused | .drain | .halted => true
  | _ => false

/-- Power level P2 of Table MO-1. -/
def Mode.p2 : Mode → Bool
  | .boot | .idle | .service | .update => true
  | _ => false

/-! Charter (R416, R423). -/

def State.entry (s : State) (c : Nat) : CharterEntry := tget {} s.charter.entries c

def State.enabled (s : State) (c : Nat) : Bool := (s.entry c).enable

/-- The enabled cabinets, lowest first. -/
def State.enabledCabs (s : State) : List Nat := (s.charter.entries.filter (·.2.enable)).map (·.1)

/-- The cabinet a mailbox is bound to (R416, R426): 256 is the USB port. -/
def State.cabOfMbx (s : State) (m : Nat) : Option Nat :=
  if s.bootFailed then (if m = 0 ∨ m = 256 then some 0 else none)
  else if m = 0 then some 0
  else if m = 256 then
    (if s.charter.usbCabinet = 0xFF ∨ ¬ s.enabled s.charter.usbCabinet then none else some s.charter.usbCabinet)
  else (s.enabledCabs.find? fun c => c ≠ 0 ∧ (s.entry c).function = m ∧ m ≠ 0xFF)

/-- The PCIe function a cabinet is bound to. -/
def State.fnOfCab (s : State) (c : Nat) : Option Nat :=
  if c = 0 then some 0 else if (s.entry c).function = 0xFF ∨ (s.entry c).function = 0 then none
  else some (s.entry c).function

/-- Whether the USB port is bound to a cabinet. -/
def State.usbBound (s : State) (c : Nat) : Bool := decide (s.charter.usbCabinet = c ∧ c ≠ 0xFF)

def State.bedAllowed (s : State) (c b : Nat) : Bool := c == 0 || (s.entry c).beds.getLsbD b
def State.axisAllowed (s : State) (c a : Nat) : Bool := c == 0 || (s.entry c).axes.getLsbD a

/-- Cabinets whose events of an axis these are: cabinet 0 and every cabinet allowed the axis (R627). -/
def State.axisCabs (s : State) (a : Nat) : List Nat :=
  s.enabledCabs.filter fun c => c == 0 || (s.entry c).axes.getLsbD a

/-- Cabinet 0 and every cabinet allowed a bed. -/
def State.bedCabs (s : State) (b : Nat) : List Nat :=
  s.enabledCabs.filter fun c => c == 0 || (s.entry c).beds.getLsbD b

/-! The ports. -/

def State.push (s : State) (o : Out) : State := { s with outbox := s.outbox ++ [o] }

/-- Put a frame or a notification on the USB port; while the port is suspended nothing is exchanged, and it waits for the
host to resume it (R58). -/
def State.usbSend (s : State) (o : Out) : State :=
  if s.usbSuspended then { s with usbWait := s.usbWait ++ [o] } else s.push o

/-- Whether the device can write through a mailbox's port: a function with Bus Master Enable in D0, or the USB port
(DEDUCED, log 11). -/
def State.canWrite (s : State) (m : Nat) : Bool :=
  if m = 256 then true else (s.mbx m).busMaster && (s.mbx m).d0

/-- The pieces of a USB memory write: at most 4,096 bytes, none crossing a 4 KiB boundary (Table DH-11). -/
def usbPieces (fuel : Nat) (addr : Nat) (data : List Byte) : List (Nat × List Byte) :=
  match fuel with
  | 0 => []
  | fuel + 1 =>
    match data with
    | [] => []
    | _ =>
      let n := 4096 - addr % 4096
      (addr, data.take n) :: usbPieces fuel (addr + n) (data.drop n)

/-- Slots used on a mailbox's port, by its cabinet (R433, R495). -/
def State.useSlots (s : State) (m n : Nat) : State :=
  let s := s.inc 0x0B (if m = 256 then 1 else 0) 5 n
  match s.cabOfMbx m with
  | some c => { s with roundUsed := tupd 0 s.roundUsed c (· + n) }
  | none => s

/-- Write bytes to host memory through a mailbox's port (R495, R501, R507). -/
def State.hostWrite (s : State) (m : Nat) (addr : BitVec 64) (data : List Byte) : State :=
  if data.isEmpty then s
  else
    if m = 256 then
      forEach (usbPieces (data.length / 4096 + 2) addr.toNat data)
        (fun p s => (s.useSlots m (ceilDiv p.2.length 256)).usbSend (.frame 0x82 0 0 (BitVec.ofNat 64 p.1) p.2.length p.2)) s
    else (s.useSlots m (ceilDiv data.length 256)).push (.mem m addr data)

/-- Bytes of the longest read: Max_Read_Request_Size, at most 512 (R500). -/
def readSize : Nat := 128 * 2 ^ min 2 Config.maxReadCode

/-- Ask for bytes of host memory on a PCIe function, in reads of at most that size (R495, R500). -/
def State.hostRead (s : State) (m : Nat) (addr : BitVec 64) (len : Nat) : State :=
  let k := if len ≤ 128 then 128 else readSize
  let s := s.useSlots m (ceilDiv len k)
  { s with outbox := s.outbox ++ (List.range (ceilDiv len k)).map fun i =>
      .memRead m (addr + BitVec.ofNat 64 (k * i)) (min k (len - k * i)) }

/-- Ask the USB host for at most 512 bytes, or for a probe, under a free TAG (R507). -/
def State.usbAsk (s : State) (t : Nat → UsbTag) (type : Nat) (addr : BitVec 64) (len : Nat) : State :=
  match (List.range 65536).find? fun i => (tget none s.usbTags i).isNone with
  | some i =>
    { s with usbTags := tset none s.usbTags i (some (t s.now)) }.usbSend (.frame type 0 i addr len [])
  | none => s

/-- Signal a vector: the MSI-X rules on PCIe (R452), the notification of R509 on USB. -/
def State.signal (s : State) (m vector : Nat) : State :=
  if m = 256 then
    { s with usbNotes := s.usbNotes + 1 }.usbSend (.note vector (s.usbNotes + 1))
  else if ¬ (s.mbx m).msixOn then s
  else if (s.mbx m).unmasked.getLsbD vector && !(s.mbx m).msixMasked then s.push (.msix m vector)
  else s.updMbx m fun b => { b with pba := b.pba ||| (1#64 <<< vector) }

/-! Event rings (R468 to R477). -/

def EvRing.enable (r : EvRing) : Bool := r.ctrl.getLsbD 0
def EvRing.irq (r : EvRing) : Bool := r.ctrl.getLsbD 1
def EvRing.vector (r : EvRing) : Nat := bits r.ctrl.toNat 13 8
def EvRing.holdoff (r : EvRing) : Nat := bits r.ctrl.toNat 31 16
def EvRing.full (r : EvRing) : Bool := r.writeIdx - r.readIdx == r.size

/-- The 32 bytes of an event entry (Table MB-13). -/
def Ev.bytes (e : Ev) (seq : BitVec 32) : List Byte :=
  leBytes 4 seq.toNat ++ leBytes 2 e.code ++ leBytes 1 e.unit ++ leBytes 1 e.aux ++ leBytes 8 e.w0.toNat ++
    leBytes 8 e.w1.toNat ++ leBytes 8 e.w2.toNat

/-- Count an event in OVERFLOW of a class (R470). -/
def State.overflow (s : State) (c cls : Nat) : State :=
  (s.updRing c fun r => { r with overflow := tupd 0 r.overflow cls (· + 1) }).inc 0x08 c 27 1

/-- Whether HOLDOFF has passed since the ring's last signal. -/
def State.holdoffOver (s : State) (c : Nat) : Bool :=
  match (s.cab c).ring.lastSignal with
  | none => true
  | some t => decide (t + (s.cab c).ring.holdoff * 1000 ≤ s.now)

/-- The port of a cabinet's event ring: that through which BASE was last written (R504); with BASE never written, the
cabinet's own function, or the USB port where it has none (R501; DEDUCED, log 98). -/
def State.ringPort (s : State) (c : Nat) : Nat := (s.cab c).ring.via.getD ((s.fnOfCab c).getD 256)

/-- Signal the ring's vector when IRQ is set and entries are unread: at once when HOLDOFF has passed, and otherwise at
its end (R471). -/
def State.ringSignal (s : State) (c : Nat) : State :=
  let r := (s.cab c).ring
  if !(r.irq && r.readIdx != r.writeIdx) then s.updRing c fun r => { r with owed := false }
  else if s.holdoffOver c then
    (s.signal (s.ringPort c) r.vector).updRing c fun r => { r with lastSignal := some s.now, owed := false }
  else s.updRing c fun r => { r with owed := true }

/-- Write an entry at WRITE_IDX, and only then increment it; an entry whose write fails is counted (R470). -/
def State.writeEntry (s : State) (c : Nat) (e : Ev) : State :=
  let r := (s.cab c).ring
  if s.canWrite (s.ringPort c) then
    let addr := r.base + BitVec.ofNat 64 (32 * (r.writeIdx.toNat % r.size.toNat))
    let s := s.hostWrite (s.ringPort c) addr (e.bytes r.writeIdx)
    let s := s.updRing c fun r => { r with writeIdx := r.writeIdx + 1 }
    (s.inc 0x08 c 26 1).ringSignal c
  else (s.updRing c fun r => { r with writeFault := true }).overflow c (e.code / 256)

/-- Whether a cabinet is reached only through a USB port that is suspended, until the host resumes it (R58). -/
def State.usbHolds (s : State) (c : Nat) : Bool := s.usbSuspended && s.usbBound c && (s.fnOfCab c).isNone

/-- Raise an event to one cabinet: written once, or counted once (R20, R470); held while its USB port is suspended
(R58). -/
def State.raise (s : State) (c : Nat) (e : Ev) : State :=
  let r := (s.cab c).ring
  if s.usbHolds c then
    (if r.held.length < 256 then s.updRing c fun r => { r with held := r.held ++ [.ev e] }
     else s.overflow c (e.code / 256))
  else if ¬ r.enable ∨ r.full then s.overflow c (e.code / 256)
  else s.writeEntry c e

/-- Raise an event to several cabinets. -/
def State.raiseTo (s : State) (cs : List Nat) (e : Ev) : State := forEach cs (fun c s => s.raise c e) s

/-- The timestamp (R73). -/
def State.time (s : State) : BitVec 64 := BitVec.ofNat 64 s.now

/-! Hold-and-flag crossings (R551). -/

/-- Send a value: when it is taken, and when its acknowledge is back. -/
def Hold.send (h : Hold) (at_ lat ack : Nat) (v : List Int) : Hold := { h with flight := some (v, at_ + lat, at_ + lat + ack) }

/-- What has happened by now: the value in flight is taken; at its acknowledge the latest waiting value is sent, and those
passed over are counted. -/
def Hold.settle (h : Hold) (now lat ack : Nat) : Hold :=
  match h.flight with
  | none => h
  | some (v, taken, back) =>
    let h := if taken ≤ now then { h with value := v } else h
    if now < back then h
    else match h.waiting with
      | none => { h with flight := none }
      | some w =>
        { h with
          waiting := none, passed := 0,
          overwritten := BitVec.ofNat 16 (min 65535 (h.overwritten.toNat + h.passed)) }.send back lat ack w

/-- Offer a value: sent at once when no acknowledge is awaited; otherwise it waits, in place of the one that waits. -/
def Hold.offer (h : Hold) (now lat ack : Nat) (v : List Int) : Hold :=
  let h := (h.settle now lat ack).settle now lat ack
  if h.flight.isNone then (h.send now lat ack v).settle now lat ack
  else { h with waiting := some v, passed := h.passed + h.waiting.isSome.toNat }

/-! Clock domains (18). -/

/-- Supply that feeds an axis: VMk for axes 2k and 2k + 1, numbered as DETAIL class SUPPLY. -/
def supplyOfAxis (a : Nat) : Nat := 1 + a / 2
/-- Supply of a bed's LEDs, VLEDb. -/
def supplyOfBed (b : Nat) : Nat := 5 + b

end Sys2Proof.Machine
end

