-- ==== Sys2Proof/Machine/Nvs.lean ====
section
/-! DEFINITION. The pages of the Herbarium: words, commit words, and the writing of a page. Chapter 19. -/

namespace Sys2Proof.Machine

/-- Word w of a page (R564); one never written reads 0 (R565). -/
def State.nvsWord (s : State) (page w : Nat) : BitVec 64 := tget 0 s.nvs (64 * page + w)

/-- The 512 bytes of a page as it stands. -/
def State.pageBytes (s : State) (page : Nat) : List Byte :=
  (List.range 64).flatMap fun w => leBytes 8 (s.nvsWord page w).toNat

/-- GENERATION of a page's commit word (Table HB-1). -/
def State.pageGen (s : State) (page : Nat) : Nat := (s.nvsWord page 63).toNat % 2 ^ 32

/-- A page commits under its own GENERATION: its CRC matches (R565); a page with a failing word does not (R573). -/
def State.pageCommits (s : State) (page : Nat) : Bool :=
  !s.nvsBad.contains page && (crc32 ((s.pageBytes page).take 508)).toNat == (s.nvsWord page 63).toNat / 2 ^ 32

/-- Begin a record: those before it that are whole by now are forgotten. -/
def State.beginRecord (s : State) (r : NvsRecord) : State :=
  { s with nvsWrites := { record := r } :: s.nvsWrites.filter fun x => x.words.any fun w => decide (s.now < w.2.2) }

/-- Write a word, after those that wait before it; it takes 1 us at the most (R566). No word is started while VIN12 lies
outside its limits (R567). -/
def State.setNvs (s : State) (page w : Nat) (v : BitVec 64) : State :=
  if (s.supply 0).outside then s
  else
    let due := 1000 + max s.now ((s.nvsWrites.findSome? fun x => x.words.head?.map fun w => w.2.2).getD 0)
    let x := s.nvsWrites.head?.getD {}
    { s with
      nvs := tset 0 s.nvs (64 * page + w) v,
      nvsWrites := { x with words := (64 * page + w, s.nvsWord page w, due) :: x.words } :: s.nvsWrites.drop 1 }

/-! A write cut short (R567). -/

/-- The words of the records in the writing that may not yet be whole. -/
def State.unwritten (s : State) : Nat :=
  s.nvsWrites.foldl (fun n x => n + (x.words.filter fun w => decide (s.now < w.2.2)).length) 0

/-- A record of which only the first words came to be written: none of them, and what was there stands; some, and the copy
is no valid record (R568). -/
def State.cutRecord (s : State) (r : NvsRecord) (kept : Nat) : State :=
  match r with
  | .other => s
  | .ref b copy was => { s with beds := tupd {} s.beds b fun x =>
      { x with refCopies := tset none x.refCopies copy (if kept = 0 then was else none) } }
  | .graft b was => { s with beds := tupd {} s.beds b fun x =>
      { x with graftStored := if kept = 0 then was else was.drop (was.length - 1) } }
  | .checkpoint was no breaches =>
      { s with
        checkpoints := was, checkpointNo := if kept < 64 then no else s.checkpointNo,
        breaches := (breaches.filter fun b => b.ended.isSome) ++ s.breaches }
  | .slots was => { s with fw := was }
  | .image k was => { s with fw := tset {} s.fw k (if kept = 0 then was else { was with verifies := false }) }
  | .settings was => { s with runNext := was }

/-- The last u words of the records in the writing are not written. -/
def State.cutWrites (u : Nat) (ws : List NvsWrite) (s : State) : State :=
  match ws with
  | [] => s
  | x :: rest =>
    if u = 0 then s
    else
      let n := min u x.words.length
      let s := { s with nvs := (x.words.take n).foldl (fun m (w : Nat × BitVec 64 × Nat) => tset 0 m w.1 w.2.1) s.nvs }
      State.cutWrites (u - n) rest (s.cutRecord x.record (x.words.length - n))

/-- How the store stands after some of the words not yet whole, from the first on: how many is free (R566, R569). -/
def State.nvsAsIs (s : State) : State := State.cutWrites (s.drawn.toNat % (s.unwritten + 1)) s.nvsWrites s

/-- The NVS completes the word in progress and starts no further one (R567). -/
def State.nvsStop (s : State) : State := { s.nvsAsIs with nvsWrites := [] }.draw

/-- The commit word of a page of 504 data bytes under a generation. -/
def commitWord (data : List Byte) (gen : Nat) : BitVec 64 :=
  BitVec.ofNat 64 ((crc32 (data ++ leBytes 4 gen)).toNat * 2 ^ 32 + gen % 2 ^ 32)

/-- Write a page whole: 504 data bytes in ascending words, then the commit word (R566). -/
def State.writePage (s : State) (page : Nat) (bytes : List Byte) (gen : Nat) : State :=
  let data := padTo 504 bytes
  let s := if (s.supply 0).outside then s else { s with nvsBad := s.nvsBad.filter (· ≠ page) }
  let s := forEach (List.range 63) (fun w s => s.setNvs page w (BitVec.ofNat 64 (fieldU data (8 * w) 8))) s
  s.setNvs page 63 (commitWord data gen)

/-- Write pages from a first page, 504 bytes to a page. -/
def State.writePages (s : State) (first : Nat) (bytes : List Byte) (gen : Nat) : State :=
  forEach (List.range (ceilDiv bytes.length 504))
    (fun i s => s.writePage (first + i) ((bytes.drop (504 * i)).take 504) gen) s

/-- Write a page whose layout the spec does not give: its data words are free values (DESIGN CHOICE, log 23). -/
def State.freePage (s : State) (page gen : Nat) : State :=
  let data := (List.range 63).flatMap fun i => leBytes 8 (Config.freeValue (s.free + i)).toNat
  { s with free := s.free + 63 }.writePage page data gen

/-- The highest generation under which a page of a range commits, 0 for none. -/
def State.highGen (s : State) (first count : Nat) : Nat :=
  (List.range count).foldl (fun g i => if s.pageCommits (first + i) then max g (s.pageGen (first + i)) else g) 0

/-- Write an A/B record of one page to the copy of lower generation, the copy not in force (R570). -/
def State.freeRecord (s : State) (pageA : Nat) : State :=
  let ga := s.highGen pageA 1
  let gb := s.highGen (pageA + 1) 1
  s.freePage (if ga ≤ gb then pageA else pageA + 1) (max ga gb + 1)

/-! Regions (Table HB-2), by row from 0. -/

/-- First page of a region, and its pages. -/
def hbRegion : Nat → Nat × Nat
  | 0 => (0, 256) | 1 => (256, 8) | 2 => (264, 8192) | 3 => (8456, 8192) | 4 => (16648, 32) | 5 => (16680, 32)
  | 6 => (16712, 4696) | 7 => (21408, 16) | 8 => (21424, 64) | 9 => (21488, 8192) | _ => (29680, 3088)

/-- First page of copy A or B (1 or 2) of a bed's reference set (R200). -/
def refPage (b copy : Nat) : Nat := 16712 + 1174 * b + 587 * (copy - 1)

end Sys2Proof.Machine
end

