-- ==== Sys2Proof/Machine/Crypto.lean ====
section
/-! DEFINITION. The cryptographic functions that the spec takes by name from their standards: SHA-256 and HMAC-SHA-256,
ECDSA and ECDH on P-256, AES-256-GCM. Chapters 13 and 14; their definitions come from the standards (PRESUMED, log 9). -/

namespace Sys2Proof.Machine

/-- The number that bytes spell, highest first. -/
def beNat (bs : List Byte) : Nat := bs.foldl (fun n b => 256 * n + b.toNat) 0

/-- The n bytes of a number, highest first. -/
def beBytes (n v : Nat) : List Byte := (leBytes n v).reverse

/-- Bytes in pieces of a size, the last as it comes. -/
def pieces (size : Nat) (bs : List Byte) : List (List Byte) :=
  (List.range (ceilDiv bs.length size)).map fun i => (bs.drop (size * i)).take size

/-! SHA-256 (FIPS 180-4). -/

/-- The constants K, in rows of eight, each row one number of 256 bits. -/
def shaRows : List Nat :=
  [0x428a2f9871374491b5c0fbcfe9b5dba53956c25b59f111f1923f82a4ab1c5ed5,
   0xd807aa9812835b01243185be550c7dc372be5d7480deb1fe9bdc06a7c19bf174,
   0xe49b69c1efbe47860fc19dc6240ca1cc2de92c6f4a7484aa5cb0a9dc76f988da,
   0x983e5152a831c66db00327c8bf597fc7c6e00bf3d5a7914706ca635114292967,
   0x27b70a852e1b21384d2c6dfc53380d13650a7354766a0abb81c2c92e92722c85,
   0xa2bfe8a1a81a664bc24b8b70c76c51a3d192e819d6990624f40e3585106aa070,
   0x19a4c1161e376c082748774c34b0bcb5391c0cb34ed8aa4a5b9cca4f682e6ff3,
   0x748f82ee78a5636f84c878148cc7020890befffaa4506cebbef9a3f7c67178f2]

/-- Eight words of 32 bits from a number of 256, the highest first. -/
def wordsOf (v : Nat) : List (BitVec 32) := (List.range 8).map fun i => BitVec.ofNat 32 (v >>> (32 * (7 - i)))

def shaK : List (BitVec 32) := shaRows.flatMap wordsOf

/-- The eight working variables. -/
structure Sha where
  a : BitVec 32
  b : BitVec 32
  c : BitVec 32
  d : BitVec 32
  e : BitVec 32
  f : BitVec 32
  g : BitVec 32
  h : BitVec 32

def shaInit : Sha :=
  ⟨0x6a09e667#32, 0xbb67ae85#32, 0x3c6ef372#32, 0xa54ff53a#32, 0x510e527f#32, 0x9b05688c#32, 0x1f83d9ab#32, 0x5be0cd19#32⟩

/-- The message schedule of a block, latest word first. -/
def shaSchedule (block : List Byte) : List (BitVec 32) :=
  let first := ((pieces 4 block).map fun w => BitVec.ofNat 32 (beNat w)).reverse
  (List.range 48).foldl (fun w _ =>
    let x := w.getD 14 0
    let y := w.getD 1 0
    let s0 := x.rotateRight 7 ^^^ x.rotateRight 18 ^^^ (x >>> 3)
    let s1 := y.rotateRight 17 ^^^ y.rotateRight 19 ^^^ (y >>> 10)
    (s1 + w.getD 6 0 + s0 + w.getD 15 0) :: w) first

/-- One round. -/
def Sha.round (s : Sha) (k w : BitVec 32) : Sha :=
  let big1 := s.e.rotateRight 6 ^^^ s.e.rotateRight 11 ^^^ s.e.rotateRight 25
  let ch := (s.e &&& s.f) ^^^ (~~~s.e &&& s.g)
  let t1 := s.h + big1 + ch + k + w
  let big0 := s.a.rotateRight 2 ^^^ s.a.rotateRight 13 ^^^ s.a.rotateRight 22
  let maj := (s.a &&& s.b) ^^^ (s.a &&& s.c) ^^^ (s.b &&& s.c)
  ⟨t1 + (big0 + maj), s.a, s.b, s.c, s.d + t1, s.e, s.f, s.g⟩

/-- One block. -/
def Sha.block (s : Sha) (block : List Byte) : Sha :=
  let t := (shaK.zip (shaSchedule block).reverse).foldl (fun x kw => x.round kw.1 kw.2) s
  ⟨s.a + t.a, s.b + t.b, s.c + t.c, s.d + t.d, s.e + t.e, s.f + t.f, s.g + t.g, s.h + t.h⟩

/-- A message with its padding. -/
def shaPadded (msg : List Byte) : List Byte :=
  msg ++ [0x80] ++ List.replicate ((119 - msg.length % 64) % 64) 0 ++ beBytes 8 (8 * msg.length)

/-- SHA-256. -/
def sha256 (msg : List Byte) : List Byte :=
  let s := (pieces 64 (shaPadded msg)).foldl Sha.block shaInit
  [s.a, s.b, s.c, s.d, s.e, s.f, s.g, s.h].flatMap fun w => beBytes 4 w.toNat

/-- HMAC-SHA-256 (FIPS 198-1) of a message under a key. -/
def hmacSha256 (key msg : List Byte) : List Byte :=
  let k := padTo 64 (if 64 < key.length then sha256 key else key)
  sha256 (k.map (· ^^^ 0x5C) ++ sha256 (k.map (· ^^^ 0x36) ++ msg))

/-! P-256 (FIPS 186, SEC 1). Points in Jacobian coordinates: x / z^2, y / z^3, and z = 0 at infinity. -/

def p256p : Nat := 0xffffffff00000001000000000000000000000000ffffffffffffffffffffffff
def p256n : Nat := 0xffffffff00000000ffffffffffffffffbce6faada7179e84f3b9cac2fc632551
def p256b : Nat := 0x5ac635d8aa3a93e7b3ebbd55769886bc651d06b0cc53b0f63bce3c3e27d2604b

structure EcPoint where
  x : Nat
  y : Nat
  z : Nat

def p256g : EcPoint :=
  ⟨0x6b17d1f2e12c4247f8bce6e563a440f277037d812deb33a0f4a13945d898c296,
   0x4fe342e2fe1a7f9b8ee7eb4a7c0f9e162bce33576b315ececbb6406837bf51f5, 1⟩

/-- Difference modulo p. -/
def subP (a b : Nat) : Nat := (a + p256p - b % p256p) % p256p

/-- The bits of a number of 256 bits, highest first. -/
def bits256 (k : Nat) : List Bool := (List.range 256).map fun i => k.testBit (255 - i)

/-- A power modulo m, the exponent of 256 bits. -/
def powMod (m a e : Nat) : Nat :=
  (bits256 e).foldl (fun r b => let q := r * r % m; if b then q * a % m else q) 1

/-- The inverse modulo a prime. -/
def invMod (m a : Nat) : Nat := powMod m a (m - 2)

def EcPoint.double (q : EcPoint) : EcPoint :=
  let z2 := q.z * q.z % p256p
  let m := 3 * subP q.x z2 * (q.x + z2) % p256p
  let y2 := q.y * q.y % p256p
  let s := 4 * q.x * y2 % p256p
  let x := subP (m * m) (2 * s)
  ⟨x, subP (m * subP s x) (8 * y2 * y2), 2 * q.y * q.z % p256p⟩

def EcPoint.add (q r : EcPoint) : EcPoint :=
  if q.z = 0 then r
  else if r.z = 0 then q
  else
    let qz := q.z * q.z % p256p
    let rz := r.z * r.z % p256p
    let u := q.x * rz % p256p
    let v := q.y * rz * r.z % p256p
    let h := subP (r.x * qz) u
    let w := subP (r.y * qz * q.z) v
    if h = 0 then (if w = 0 then q.double else ⟨1, 1, 0⟩)
    else
      let h2 := h * h % p256p
      let h3 := h2 * h % p256p
      let x := subP (w * w) (h3 + 2 * u * h2)
      ⟨x, subP (w * subP (u * h2) x) (v * h3), h * q.z * r.z % p256p⟩

/-- A multiple of a point. -/
def EcPoint.times (k : Nat) (q : EcPoint) : EcPoint :=
  (bits256 k).foldl (fun r b => let d := r.double; if b then d.add q else d) ⟨1, 1, 0⟩

/-- The X coordinate of a point other than infinity. -/
def EcPoint.affineX (q : EcPoint) : Nat := q.x * invMod p256p (q.z * q.z % p256p) % p256p

/-- The point of a key of 64 bytes, X then Y, each lowest first (R2). -/
def keyPoint (key : List Byte) : EcPoint := ⟨fieldU key 0 32, fieldU key 32 32, 1⟩

/-- Whether X then Y, each 32 bytes, is a point of P-256 (R427, R430). -/
def onCurve (key : List Byte) : Bool :=
  let q := keyPoint key
  decide (q.x < p256p) && decide (q.y < p256p) &&
    q.y * q.y % p256p == (q.x * q.x * q.x + (p256p - 3) * q.x + p256b) % p256p

/-- ECDSA with SHA-256 (R419, R427): a key's signature, r then s, of a message. -/
def ecdsaVerify (key msg sig : List Byte) : Bool :=
  let r := fieldU sig 0 32
  let s := fieldU sig 32 32
  onCurve key && decide (0 < r) && decide (r < p256n) && decide (0 < s) && decide (s < p256n) &&
    (let w := invMod p256n s
     let q := (p256g.times (beNat (sha256 msg) * w % p256n)).add ((keyPoint key).times (r * w % p256n))
     q.z != 0 && q.affineX % p256n == r)

/-- The device's private key, from 1 to n - 1. -/
def deviceScalar : Nat := Config.devicePrivate % (p256n - 1) + 1

/-- The device key's signature of a message (R429), with the n-th number used once. -/
def deviceSign (n : Nat) (msg : List Byte) : List Byte :=
  let k := Config.nonce n % (p256n - 1) + 1
  let r := (p256g.times k).affineX % p256n
  leBytes 32 r ++ leBytes 32 (invMod p256n k * (beNat (sha256 msg) + r * deviceScalar) % p256n)

/-- The X coordinate of the ECDH point of the device key and a public key (R430), 32 bytes, highest first. -/
def ecdhX (key : List Byte) : List Byte := beBytes 32 ((keyPoint key).times deviceScalar).affineX

/-! AES-256 (FIPS 197). -/

/-- The substitution box: 256 bytes in one number, that of 0 highest. -/
def sboxAll : Nat :=
  0x637c777bf26b6fc53001672bfed7ab76ca82c97dfa5947f0add4a2af9ca472c0b7fd9326363ff7cc34a5e5f171d8311504c723c31896059a071280e2eb27b275 <<< 1536 |||
  0x09832c1a1b6e5aa0523bd6b329e32f8453d100ed20fcb15b6acbbe394a4c58cfd0efaafb434d338545f9027f503c9fa851a3408f929d38f5bcb6da2110fff3d2 <<< 1024 |||
  0xcd0c13ec5f974417c4a77e3d645d197360814fdc222a908846eeb814de5e0bdbe0323a0a4906245cc2d3ac629195e479e7c8376d8dd54ea96c56f4ea657aae08 <<< 512 |||
  0xba78252e1ca6b4c6e8dd741f4bbd8b8a703eb5664803f60e613557b986c11d9ee1f8981169d98e949b1e87e9ce5528df8ca1890dbfe6426841992d0fb054bb16

def sbox (b : Byte) : Byte := BitVec.ofNat 8 (sboxAll >>> (8 * (255 - b.toNat)))

/-- Multiplication by x in GF(2^8). -/
def xtime (b : Byte) : Byte := if b.msb then b <<< 1 ^^^ 0x1B else b <<< 1

/-- Bytes combined by exclusive or. -/
def xorBytes (a b : List Byte) : List Byte := List.zipWith (· ^^^ ·) a b

/-- The 60 words of the key schedule, latest first. -/
def aesWords (key : List Byte) : List (List Byte) :=
  (List.range 52).foldl (fun w i =>
    let t := w.headD []
    let t := if i % 8 = 0 then
        xorBytes ((t.drop 1 ++ t.take 1).map sbox) [BitVec.ofNat 8 (2 ^ (i / 8)), 0, 0, 0]
      else if i % 8 = 4 then t.map sbox else t
    xorBytes (w.getD 7 []) t :: w) (pieces 4 (padTo 32 key)).reverse

/-- The 15 round keys, each 16 bytes. -/
def aesKeys (key : List Byte) : List (List Byte) := pieces 16 (aesWords key).reverse.flatten

/-- The rows shifted: byte 4 c + r comes from column c + r. -/
def aesShiftRows (s : List Byte) : List Byte := (List.range 16).map fun i => s.getD ((i + 4 * (i % 4)) % 16) 0

/-- One column mixed. -/
def mixColumn (c : List Byte) : List Byte :=
  let all := c.foldl (· ^^^ ·) 0
  (List.range 4).map fun i => c.getD i 0 ^^^ all ^^^ xtime (c.getD i 0 ^^^ c.getD ((i + 1) % 4) 0)

/-- A block under round keys. -/
def aesBlock (keys : List (List Byte)) (block : List Byte) : List Byte :=
  let s := xorBytes block (keys.headD [])
  let s := ((keys.drop 1).take 13).foldl (fun s k =>
    xorBytes ((pieces 4 (aesShiftRows (s.map sbox))).flatMap mixColumn) k) s
  xorBytes (aesShiftRows (s.map sbox)) (keys.getD 14 [])

/-! GCM (SP 800-38D), a block as a number, its first bit highest. -/

/-- Product in GF(2^128). -/
def gfMul (x y : Nat) : Nat :=
  ((List.range 128).foldl (fun (z, v) i =>
    (if x.testBit (127 - i) then z ^^^ v else z, if v.testBit 0 then (v >>> 1) ^^^ (0xE1 <<< 120) else v >>> 1)) (0, y)).1

/-- Bytes as blocks of 16, the last filled with zeros. -/
def gcmBlocks (bs : List Byte) : List Nat := (pieces 16 bs).map fun b => beNat (padTo 16 b)

/-- The tag of a ciphertext with its additional data. -/
def gcmTag (keys : List (List Byte)) (iv aad ct : List Byte) : List Byte :=
  let h := beNat (aesBlock keys (List.replicate 16 0))
  let s := (gcmBlocks aad ++ gcmBlocks ct ++ [8 * aad.length * 2 ^ 64 + 8 * ct.length]).foldl
    (fun y b => gfMul (y ^^^ b) h) 0
  xorBytes (aesBlock keys (padTo 12 iv ++ [0, 0, 0, 1])) (beBytes 16 s)

/-- The counter mode of GCM: it enciphers and deciphers. -/
def gcmStream (keys : List (List Byte)) (iv bs : List Byte) : List Byte :=
  ((pieces 16 bs).zipIdx 2).flatMap fun (b, i) => xorBytes b (aesBlock keys (padTo 12 iv ++ beBytes 4 i))

/-- AES-256-GCM with an IV of 12 bytes and a tag of 16 (R413): ciphertext and tag. -/
def gcmEncrypt (key iv plain aad : List Byte) : List Byte × List Byte :=
  let keys := aesKeys key
  let ct := gcmStream keys iv plain
  (ct, gcmTag keys iv aad ct)

/-- The plaintext, or none where the tag fails (R430). -/
def gcmDecrypt (key iv ct tag aad : List Byte) : Option (List Byte) :=
  let keys := aesKeys key
  if gcmTag keys iv aad ct = tag then some (gcmStream keys iv ct) else none

end Sys2Proof.Machine
end

