-- ==== Sys2Proof/Machine/Float.lean ====
section
/-! DEFINITION. Binary floating point, exactly: words decoded to rationals, each operation rounded to nearest even
(R296, R322). float32 has 8 exponent and 23 fraction bits, float64 11 and 52. -/

namespace Sys2Proof.Machine

/-- What a floating word stands for. -/
inductive FVal
  | nan
  | inf (neg : Bool)
  | fin (neg : Bool) (q : ℚ)
deriving DecidableEq, Repr

/-- A format: exponent and fraction bits. -/
structure FFmt where
  eb : Nat
  mb : Nat

def f32 : FFmt := { eb := 8, mb := 23 }
def f64 : FFmt := { eb := 11, mb := 52 }

/-- Two to an integer power. -/
def pow2 (e : Int) : ℚ := if 0 ≤ e then (2 ^ e.toNat : Nat) else mkRat 1 (2 ^ (-e).toNat)

/-- The value of a word. -/
def FFmt.decode (f : FFmt) (w : Nat) : FVal :=
  let neg := bit w (f.eb + f.mb)
  let e := w / 2 ^ f.mb % 2 ^ f.eb
  let m := w % 2 ^ f.mb
  let bias : Int := 2 ^ (f.eb - 1) - 1
  let sg : ℚ := if neg then -1 else 1
  if e = 2 ^ f.eb - 1 then (if m = 0 then .inf neg else .nan)
  else if e = 0 then .fin neg (sg * m * pow2 (1 - bias - f.mb))
  else .fin neg (sg * (m + 2 ^ f.mb : Nat) * pow2 (e - bias - f.mb))

/-- Round a nonnegative rational to the nearest integer, ties to even. -/
def roundEven (q : ℚ) : Nat :=
  let n := q.floor.toNat
  let r := q - n
  if r < mkRat 1 2 then n else if r > mkRat 1 2 then n + 1 else if n % 2 = 0 then n else n + 1

/-- The exponent e with 2^e at most q and q below 2^(e + 1), for q above 0. -/
def expOf (q : ℚ) : Int :=
  let e : Int := (Nat.log2 q.num.toNat : Int) - Nat.log2 q.den
  if q < pow2 e then e - 1 else if pow2 (e + 1) ≤ q then e + 1 else e

/-- The word of a value. -/
def FFmt.encode (f : FFmt) (v : FVal) : Nat :=
  let bias : Int := 2 ^ (f.eb - 1) - 1
  let sb := 2 ^ (f.eb + f.mb)
  let infw := (2 ^ f.eb - 1) * 2 ^ f.mb
  match v with
  | .nan => infw + 2 ^ (f.mb - 1)
  | .inf neg => (if neg then sb else 0) + infw
  | .fin neg q =>
    let s := if neg then sb else 0
    if q = 0 then s
    else
      let a := |q|
      let e := max (expOf a) (1 - bias)
      let n := roundEven (a / pow2 (e - f.mb))
      -- n counts units in the last place; a carry into the exponent comes out right by addition
      let w := if n < 2 ^ f.mb then n else ((e + bias - 1).toNat) * 2 ^ f.mb + n
      s + (if w ≥ infw then infw else w)

/-- Sum of two values; the sign of an exact zero follows IEEE 754. -/
def FVal.add : FVal → FVal → FVal
  | .nan, _ => .nan
  | _, .nan => .nan
  | .inf a, .inf b => if a = b then .inf a else .nan
  | .inf a, _ => .inf a
  | _, .inf b => .inf b
  | .fin a p, .fin b q => if p + q = 0 then .fin (a && b) 0 else .fin (decide (p + q < 0)) (p + q)

/-- Product of two values. -/
def FVal.mul : FVal → FVal → FVal
  | .nan, _ => .nan
  | _, .nan => .nan
  | .inf a, .inf b => .inf (a != b)
  | .inf a, .fin b q => if q = 0 then .nan else .inf (a != b)
  | .fin a p, .inf b => if p = 0 then .nan else .inf (a != b)
  | .fin a p, .fin b q => .fin (a != b) (p * q)

/-- Negation. -/
def FVal.neg : FVal → FVal
  | .nan => .nan
  | .inf a => .inf (!a)
  | .fin a p => .fin (!a) (-p)

/-- Quotient of two values. -/
def FVal.div : FVal → FVal → FVal
  | .nan, _ => .nan
  | _, .nan => .nan
  | .inf _, .inf _ => .nan
  | .inf a, .fin b _ => .inf (a != b)
  | .fin a _, .inf b => .fin (a != b) 0
  | .fin a p, .fin b q =>
    if q = 0 then (if p = 0 then .nan else .inf (a != b)) else .fin (a != b) (p / q)

/-- float32 operations on words, each rounded once. -/
def f32Add (a b : BitVec 32) : BitVec 32 :=
  BitVec.ofNat 32 (f32.encode ((f32.decode a.toNat).add (f32.decode b.toNat)))
def f32Mul (a b : BitVec 32) : BitVec 32 :=
  BitVec.ofNat 32 (f32.encode ((f32.decode a.toNat).mul (f32.decode b.toNat)))
def f32Div (a b : BitVec 32) : BitVec 32 :=
  BitVec.ofNat 32 (f32.encode ((f32.decode a.toNat).div (f32.decode b.toNat)))
def f32Neg (a : BitVec 32) : BitVec 32 := a ^^^ 0x80000000#32

/-- float64 addition on words. -/
def f64Add (a b : BitVec 64) : BitVec 64 :=
  BitVec.ofNat 64 (f64.encode ((f64.decode a.toNat).add (f64.decode b.toNat)))

/-- A float32 word as a float64 word, exactly. -/
def f32to64 (a : BitVec 32) : BitVec 64 := BitVec.ofNat 64 (f64.encode (f32.decode a.toNat))

/-- A rational rounded to float32. -/
def f32OfRat (q : ℚ) : BitVec 32 := BitVec.ofNat 32 (f32.encode (.fin (decide (q < 0)) q))

/-- Whether a float32 word is finite. -/
def f32Finite (a : BitVec 32) : Bool := (a >>> 23) &&& 0xFF#32 != 0xFF#32

/-- a < b for float32 words; false where either is a NaN. -/
def f32Lt (a b : BitVec 32) : Bool :=
  match f32.decode a.toNat, f32.decode b.toNat with
  | .fin _ p, .fin _ q => decide (p < q)
  | .inf n, .fin _ _ => n
  | .fin _ _, .inf n => !n
  | .inf n, .inf m => n && !m
  | _, _ => false

/-- MEAN of R322: a float64 sum divided by a count, rounded to float32. -/
def meanOf (sum : BitVec 64) (count : Nat) : BitVec 32 :=
  BitVec.ofNat 32 (f32.encode
    (f64.decode (f64.encode ((f64.decode sum.toNat).div (.fin false count)))))

end Sys2Proof.Machine
end

