-- ==== Sys2Proof/Machine/Position.lean ====
section
/-! DEFINITION. Positions: the position of a channel at an evaluation, comparators and what arming and disarming
them does, discontinuities, and the pins that comparator actions drive. Chapter 03. -/

namespace Sys2Proof.Machine

def State.bed (s : State) (b : Nat) : Bed := tget {} s.beds b
def State.updBed (s : State) (b : Nat) (f : Bed → Bed) : State := { s with beds := tupd {} s.beds b f }
def State.group (s : State) (g : Nat) : Group := tget {} s.groups g
def State.updGroup (s : State) (g : Nat) (f : Group → Group) : State := { s with groups := tupd {} s.groups g f }
def State.stream (s : State) (c n : Nat) : Stream := tget {} s.streams (16 * c + n)
def State.updStream (s : State) (c n : Nat) (f : Stream → Stream) : State :=
  { s with streams := tupd {} s.streams (16 * c + n) f }
def State.ring (s : State) (c n : Nat) : Ring := tget {} s.rings (16 * c + n)
def State.updRingOf (s : State) (c n : Nat) (f : Ring → Ring) : State :=
  { s with rings := tupd {} s.rings (16 * c + n) f }

/-- The commanded position of an axis now, as TB has it: linear from P(n) to P(n + 1) over the 25 us of the update (R206);
until that pair has crossed, P(n + 1) of the pair before (R551, R552). -/
def State.axisAt (s : State) (a : Nat) : Int :=
  let x := s.axis a
  let dt := min (s.now - x.servoAt) 25000
  let linear := x.pos + (x.posNext - x.pos) * dt / 25000
  let h : Hold := tget {} s.holds a
  match h.flight, h.value with
  | some (v, taken, _), [_, q] => if v = [x.pos, x.posNext] ∧ s.now < taken then q else linear
  | _, _ => linear

/-- Code of Table TB-2. -/
def Source.code : Source → Nat
  | .none => 0 | .enc => 1 | .axis => 2 | .remote => 3 | .free => 4

/-- A signed amount as a position word. -/
def posOf (v : Int) : Pos := BitVec.ofInt 64 v

/-- Samples of 2.5 ns since the start of BOOT. -/
def State.samples (s : State) : Nat := s.now * 2 / 5

/-- The interpolated fraction of an ENC channel (R83), in 2^-16 tick: 0 too while the interval is valid and none has been
measured yet, for which the spec gives no quotient (DESIGN CHOICE, log 83). -/
def encFrac (k : Chan) (samples : Nat) : Nat :=
  let t := samples - k.lastEdge
  if ¬ k.intervalValid ∨ t > 400000 ∨ k.interval = 0 then 0
  else min 255 (256 * t / k.interval) * 256

/-- The rate a FREE channel runs at: a current job's where one has a FREE_RATE (R81); of two such jobs, that of the one
that became current last, for which the spec says nothing (DESIGN CHOICE, log 89). -/
def Chan.rate (k : Chan) : Nat := match k.jobRates with
  | (_, _, r) :: _ => r
  | [] => k.freeRate

/-- The position of a channel at this evaluation (R76, R79, R83, R106, R206). -/
def State.chanPos (s : State) (c : Nat) : Pos :=
  let k := s.chan c
  if k.held then k.base
  else match k.source with
    | .none => k.base
    | .enc =>
      let f : Int := encFrac k s.samples
      k.base + posOf (if k.lastFwd then f else -f)
    | .axis =>
      let d := (s.axisAt k.unit - k.axis0) * 256
      k.base + posOf (if k.invert then -d else d)
    | .remote => if k.present then k.base + posOf (k.vel * (s.now - k.t0 : Nat) / 1000000000) else k.base
    | .free =>
      let d : Int := (k.rate * (s.now - k.t0) * 65536 / 1000000000 : Nat)
      k.base + posOf (if k.invert then -d else d)

/-- Take a channel's present position as its base, so that what it is reckoned from may change. -/
def State.rebase (s : State) (c : Nat) : State :=
  let p := s.chanPos c
  s.updChan c fun k => { k with base := p, t0 := s.now, axis0 := s.axisAt k.unit }

/-- The FREE_RATE of a job ceases to hold (R81). -/
def State.dropRate (s : State) (j : Job) : State :=
  if j.free then
    (s.rebase j.chan).updChan j.chan fun k =>
      { k with jobRates := k.jobRates.filter fun x => ¬ (x.1 = j.cab ∧ x.2.1 = j.id) }
  else s

/-- P has reached T in the forward direction (R72). -/
def reachedFwd (p t : Pos) : Bool := decide (0 ≤ (p - t).toInt)
/-- P has reached T in the reverse direction (R72). -/
def reachedRev (p t : Pos) : Bool := decide ((p - t).toInt ≤ 0)

/-- Whether T has been reached in a direction DIR of Table TB-6, EITHER meaning P equals T. -/
def reachedIn (dir : Nat) (p t : Pos) : Bool :=
  if dir = 0 then reachedFwd p t else if dir = 1 then reachedRev p t else p == t

/-- Whether an armed comparator is due at a position (R100). -/
def Cmp.due (c : Cmp) (p : Pos) : Bool :=
  if c.dir = 0 then reachedFwd p c.target
  else if c.dir = 1 then reachedRev p c.target
  else p == c.target || decide ((p - c.target).toInt < 0) != c.below

/-- Rank of an action in the order of R101. -/
def actionRank (action : Nat) : Nat :=
  if action = 0x05 then 1 else if action = 0x04 then 2 else if action = 0x06 then 3 else 5

/-- Whether the bed's own trigger falls due at this evaluation (R90, R282): accumulator on, gate open, next trigger
reached, and before the BED_STOP that has not yet fired. -/
def State.triggerDue (s : State) (b : Nat) : Bool :=
  let x := s.bed b
  x.accOn && !x.gateShut && reachedFwd (s.chanPos x.chan) (x.acc.extractLsb' 16 64)

/-- The armed comparators that are due now, with their indices. -/
def State.dueComps (s : State) : List (Nat × Cmp) :=
  s.comps.filterMap fun (k, c) => match c with
    | some c => if c.due (s.chanPos c.chan) then some (k, c) else none
    | none => none

/-- Whether no due action comes before comparator k's in the order of R101. -/
def State.firstDue (s : State) (k : Nat) : Bool :=
  match s.comp k with
  | none => false
  | some c =>
    c.due (s.chanPos c.chan) &&
    s.dueComps.all (fun (j, d) => decide (actionRank c.action < actionRank d.action) ||
      (actionRank c.action == actionRank d.action && decide (k ≤ j))) &&
    (decide (actionRank c.action < 4) || (List.range 4).all fun b => !s.triggerDue b)

/-- Whether a bed is configured (R134). -/
def State.configured (s : State) (b : Nat) : Bool := (s.bed b).segMask != 0

/-- A channel is in use while it drives a bed, an armed comparator or a gearing master (R75). A bed that is not
configured is not driven, though it has a CHANNEL (DESIGN CHOICE, log 89). -/
def State.chanInUse (s : State) (c : Nat) : Bool :=
  (List.range 4).any (fun b => s.configured b && (s.bed b).chan == c) ||
  s.comps.any (fun (_, x) => match x with
    | some x => x.chan == c
    | none => false) ||
  (List.range 8).any fun a => match (s.axis a).gear with
    | some g => g.master == c
    | none => false

/-- Cabinets that a channel event goes to (R625), given the comparators it reports disarmed. -/
def State.chanCabs (s : State) (c : Nat) (gone : List Cmp) : List Nat :=
  s.enabledCabs.filter fun x =>
    x == 0 ||
    (List.range 4).any (fun b => (s.bed b).chan == c && (s.entry x).beds.getLsbD b) ||
    (List.range 8).any (fun a => (s.entry x).axes.getLsbD a &&
      (((s.chan c).source == .axis && (s.chan c).unit == a) ||
        match (s.axis a).gear with
        | some g => g.master == c
        | none => false)) ||
    s.comps.any (fun (k, y) => k < 48 && match y with
      | some y => y.chan == c && y.owner == x
      | none => false) ||
    gone.any fun y => y.owner == x

/-- An event that names a channel: its W1 is that channel's position (R473). -/
def State.evChan (s : State) (code unit aux : Nat) (c : Nat) (w2 : BitVec 64) : Ev :=
  { code, unit, aux, w0 := s.time, w1 := s.chanPos c, w2 }

/-- An event that names no channel: W1 is the position of PC0, or 0 when PC0 has source NONE (R473). -/
def State.ev (s : State) (code unit aux : Nat) (w2 : BitVec 64) : Ev :=
  { code, unit, aux, w0 := s.time, w1 := if (s.chan 0).source = .none then 0 else s.chanPos 0, w2 }

/-- A value as W2 of an event. -/
def w2 (n : Nat) : BitVec 64 := BitVec.ofNat 64 n

/-- Count the whole-tick boundaries that a channel has passed since the last count (R623). -/
def State.countTicks (s : State) (c : Nat) : State :=
  let t := (s.chanPos c).toInt / 65536
  let n := (Int.bmod (t - (s.chan c).lastTick) (2 ^ 48)).natAbs
  if n = 0 then s else (s.updChan c fun k => { k with lastTick := t }).inc 6 c 0 n

/-! Arming (R95 to R99). -/

/-- Host-pool comparators a cabinet holds armed (R95). -/
def State.hostHeld (s : State) (c : Nat) : Nat :=
  (s.comps.filter fun (k, x) => k < 48 && match x with
    | some x => x.owner == c
    | none => false).length

/-- The lowest free host-pool comparator. -/
def State.freeHost (s : State) : Option Nat := (List.range 48).find? fun k => (s.comp k).isNone

/-- Comparators of the Curator's pool that are neither armed nor reserved (R628). -/
def State.freeCurators (s : State) : List Nat :=
  ((List.range 16).map (· + 48)).filter fun k => (s.comp k).isNone &&
    s.docs.all (fun d => !d.reserved.contains k) &&
    s.beds.all fun (_, b) => match b.read with
      | some r => r.comp != some k
      | none => true

/-- Arm a comparator at this evaluation (R98). -/
def State.arm (s : State) (k : Nat) (c : Cmp) : State :=
  s.setComp k (some { c with below := decide ((s.chanPos c.chan - c.target).toInt < 0) })

/-! Pins (R101, R102, R610). -/

/-- Drive the pins of a mask to a level, ending pulses on them. -/
def State.drivePins (s : State) (mask : BitVec 16) (level : Bool) : State :=
  forEach ((List.range 16).filter fun p => mask.getLsbD p)
    (fun p s => s.updPin p fun _ => { output := true, level, pulses := [] }) s

/-- Begin a pulse on the pins of a mask (R102). -/
def State.pulsePins (s : State) (mask : BitVec 16) (us : Nat) : State :=
  forEach ((List.range 16).filter fun p => mask.getLsbD p)
    (fun p s => s.updPin p fun x =>
      { output := true, level := true, pulses := x.pulses ++ [s.now + us * 1000] }) s

/-! Discontinuities (R80, R88, R109, R235). -/

/-- Comparators on a channel. -/
def State.compsOn (s : State) (c : Nat) : List (Nat × Cmp) :=
  s.comps.filterMap fun (k, x) => match x with
    | some x => if x.chan = c then some (k, x) else none
    | none => none

/-- Write SNAP_MISSED for a snapshot slot, with a cause of R596, and free the slot. -/
def State.missSnap (s : State) (slot cause : Nat) : State :=
  let n := s.snap slot
  let e := s.ev 0x0B02 0xFF n.id (w2 (n.origin + cause * 65536))
  let dest := if n.isLocal ∧ n.cabinet ≠ 0 then [0, n.cabinet] else [0]
  ((s.updSnap slot fun _ => {}).inc 0x0E 0 12 1).raiseTo dest e

/-- Disarm a comparator. A snapshot it held is missed, cause 4 DISARMED (R596); a ratio slot is freed (R235); the bed it
frames takes no more of the document; a strip read must find one anew. -/
def State.disarm (s : State) (k : Nat) : State :=
  match s.comp k with
  | none => s
  | some c =>
    let s := s.setComp k none
    match c.use with
    | .snap slot => s.missSnap slot 4
    | .gear a sl => s.updAxis a fun x => { x with gslots := tset none x.gslots sl none }
    | .frame acc => s.updBed (c.arg.toNat % 4) fun x =>
      { x with courses := x.courses.map fun k => if k.acc = acc then { k with stopped := true } else k }
    | .strip b => s.updBed b fun x =>
      { x with read := x.read.map fun r => { r with comp := none, cycle := [], bad := false } }
    | _ => s

end Sys2Proof.Machine
end

