-- ==== Sys2Proof/Machine/Streams.lean ====
section
/-! DEFINITION. Output streams: fill, watermarks, items, room, encryption, and the bytes in DRAM. Chapters 13 and 15. -/

namespace Sys2Proof.Machine

/-! DRAM. -/

/-- Start of a cabinet's window in DRAM (Table CB-3). -/
def State.windowBase (s : State) (c : Nat) : Nat := (s.entry c).dramBase * 2097152
/-- Bytes of a cabinet's window. -/
def State.windowSize (s : State) (c : Nat) : Nat := (s.entry c).dramSize * 2097152

/-- Write bytes to a stream's ring from a stream offset; an item may cross the end of the ring (R405). -/
def State.ringWrite (s : State) (c n off : Nat) (bs : List Byte) : State :=
  let x := s.stream c n
  let w := s.windowBase c + x.base
  { s with
    dram := (bs.zipIdx).foldl (fun d (b, i) => tset 0 d (w + (off + i) % x.capacity) b) s.dram }

/-- Bytes of a stream's ring from a stream offset. -/
def State.ringRead (s : State) (c n off len : Nat) : List Byte :=
  let x := s.stream c n
  let w := s.windowBase c + x.base
  (List.range len).map fun i => tget 0 s.dram (w + (off + i) % x.capacity)

/-! Fill and room (R269, R407). -/

/-- Bytes written whose descriptors have not been returned. -/
def Stream.held (x : Stream) : Nat := x.written - x.freed

/-- The fill, in 0.01 % (R269). -/
def Stream.fill (x : Stream) : Nat := 10000 * (x.held + x.reserved) / x.capacity

/-- Bytes of the ring neither held nor reserved. -/
def Stream.room (x : Stream) : Nat := x.capacity - (x.held + x.reserved)

/-! Watermarks (R475 to R477). -/

def State.wmMark (s : State) (c n : Nat) : Nat := tget 0 (s.cab c).ring.wmMark n

/-- The WATERMARK entry with the values of this instant. -/
def State.wmEvent (s : State) (c n : Nat) (aboveAtArm : Bool) : Ev :=
  let x := s.stream c n
  s.ev 0x0901 n (if aboveAtArm then 1 else 0)
    (w2 (x.crossings.toNat + x.fill * 2 ^ 32 + s.wmMark c n * 2 ^ 48))

/-- Raise a watermark event: it waits while the ring is full, disabled or held back, or while others wait; a raise of a
stream whose event waits merges into it (R477). -/
def State.raiseWm (s : State) (c n : Nat) (above : Bool) : State :=
  let s := (s.updRing c fun r => { r with raised := r.raised ||| (1#16 <<< n) }).updStream c n fun x =>
    { x with wmArmed := false }
  let r := (s.cab c).ring
  if r.waiting.any (·.1 == n) then
    s.updRing c fun r => { r with waiting := r.waiting.map fun w => if w.1 = n then (n, w.2 || above) else w }
  else if ¬ r.enable ∨ r.full ∨ s.usbHolds c ∨ ¬ r.waiting.isEmpty then
    s.updRing c fun r =>
      { r with waiting := r.waiting ++ [(n, above)], held := if s.usbHolds c then r.held ++ [.wm n] else r.held }
  else s.writeEntry c (s.wmEvent c n above)

/-- Write waiting watermark events as entries find room (R477). -/
def State.drainWm (fuel : Nat) (c : Nat) (s : State) : State :=
  match fuel with
  | 0 => s
  | fuel + 1 =>
    let r := (s.cab c).ring
    match r.waiting with
    | [] => s
    | (n, above) :: rest =>
      if ¬ r.enable ∨ r.full ∨ s.usbHolds c then s
      else
        let s := s.updRing c fun r => { r with waiting := rest }
        State.drainWm fuel c (s.writeEntry c (s.wmEvent c n above))

/-- Arm a stream's watermark; raised at once when the fill is at or above the mark (R476). -/
def State.armWm (s : State) (c n : Nat) : State :=
  if s.wmMark c n = 0 then s.updStream c n fun x => { x with wmArmed := false }
  else if s.wmMark c n ≤ (s.stream c n).fill ∧ (s.stream c n).capacity ≠ 0 then s.raiseWm c n true
  else s.updStream c n fun x => { x with wmArmed := true }

/-- Change a stream's held or reserved bytes, counting a crossing of its mark (R475, R476). -/
def State.chgStream (s : State) (c n : Nat) (f : Stream → Stream) : State :=
  let a := (s.stream c n).fill
  let s := s.updStream c n f
  let m := s.wmMark c n
  if m ≠ 0 ∧ a < m ∧ m ≤ (s.stream c n).fill then
    let s := s.updStream c n fun x => { x with crossings := x.crossings + 1 }
    if (s.stream c n).wmArmed then s.raiseWm c n false else s
  else s

/-! Items (R405, R413). -/

/-- The 16-byte item header of Table DO-11. -/
def itemHeader (len kind flags bed kernel acc : Nat) : List Byte :=
  leBytes 4 len ++ leBytes 1 kind ++ leBytes 1 flags ++ leBytes 1 bed ++ leBytes 1 kernel ++ leBytes 8 acc

/-- Bytes padded with zeros to a multiple of 8. -/
def pad8 (bs : List Byte) : List Byte := bs ++ List.replicate ((8 - bs.length % 8) % 8) 0

/-- An item's bytes for a stream: in clear, or encrypted under R413, which draws the stream number's count. -/
def State.makeItem (s : State) (c n kind flags bed kernel acc : Nat) (payload : List Byte) : State × List Byte :=
  let p := pad8 payload
  if (s.stream c n).encrypt then
    let cnt := tget 0 s.ivCount (16 * c + n)
    let iv := leBytes 4 s.epoch ++ leBytes 1 n ++ leBytes 1 0 ++ leBytes 6 cnt
    let h := itemHeader (16 + 16 + p.length + 16) kind (flags + 1) bed kernel acc
    let ct := gcmEncrypt ((s.cab c).streamKey.getD []) iv p h
    ({ s with ivCount := tset 0 s.ivCount (16 * c + n) ((cnt + 1) % 2 ^ 48) },
      h ++ iv ++ List.replicate 4 0 ++ ct.1 ++ ct.2)
  else (s, itemHeader (16 + p.length) kind flags bed kernel acc ++ p)

/-- Bytes have come for a ring: with a descriptor open and no channel it waits for one from now on (R496). -/
def State.ringFed (s : State) (c n : Nat) : State :=
  let g := s.ring c n
  if g.enabled && g.opened.isSome && g.chan.isNone && g.waitSince.isNone then
    s.updRingOf c n fun g => { g with waitSince := some s.now }
  else s

/-- Write an item at the end of a stream, releasing a reservation (R405, R407). -/
def State.appendItem (s : State) (c n : Nat) (bs : List Byte) (kind acc res : Nat) (last : Bool) : State :=
  let off := (s.stream c n).written
  let s := s.ringWrite c n off bs
  let s := s.chgStream c n fun x =>
    { x with
      written := x.written + bs.length, reserved := x.reserved - res,
      items := x.items ++ [{ start := off, len := bs.length, kind, acc, last }] }
  (s.inc 0x09 (16 * c + n) 0 bs.length).ringFed c n

/-- Whether an item of a stream fits now, with its reservation. One of kind LINE or CODED beyond its reservation leaves the
4,096 bytes to the kinds that they serve (R408). -/
def Stream.fits (x : Stream) (kind len res : Nat) : Bool :=
  let line := kind = 2 ∨ kind = 3
  decide (line ∧ len ≤ res ∨ x.held + x.reserved - res + len + (if line then 4096 else 0) ≤ x.capacity)

/-- Write, or hold in order, an item that is never lost for want of room, or a line's item with its reservation
(R407, R408). -/
def State.putItem (s : State) (c n : Nat) (bs : List Byte) (kind acc res : Nat) (last : Bool) : State :=
  let x := s.stream c n
  if x.heldItems.isEmpty ∧ x.fits kind bs.length res then s.appendItem c n bs kind acc res last
  else s.updStream c n fun x => { x with heldItems := x.heldItems ++ [{ bytes := bs, res, kind, acc, last }] }

/-- Write held items as room appears, in order (R408). -/
def State.flushHeld (fuel : Nat) (c n : Nat) (s : State) : State :=
  match fuel with
  | 0 => s
  | fuel + 1 =>
    match (s.stream c n).heldItems with
    | [] => s
    | h :: rest =>
      if (s.stream c n).fits h.kind h.bytes.length h.res then
        let s := s.updStream c n fun x => { x with heldItems := rest }
        State.flushHeld fuel c n (s.appendItem c n h.bytes h.kind h.acc h.res h.last)
      else s

/-- A sample's item: not made, and counted lost, when it finds no room beyond the 4,096 bytes or an item is held
(R408). -/
def State.putSample (s : State) (c n : Nat) (payload : List Byte) (acc : Nat) : State :=
  let x := s.stream c n
  let len := 16 + (pad8 payload).length + (if x.encrypt then 32 else 0)
  if x.heldItems.isEmpty ∧ x.held + x.reserved + len + 4096 ≤ x.capacity then
    let (s, bs) := s.makeItem c n 0x06 0 0xFF 0xFF acc payload
    s.appendItem c n bs 0x06 acc 0 false
  else s.inc 0x09 (16 * c + n) 8 1

/-! Documents. -/

def State.doc (s : State) (acc : Nat) : Option Doc := s.docs.find? fun d => d.acc = acc
def State.updDoc (s : State) (acc : Nat) (f : Doc → Doc) : State :=
  { s with docs := s.docs.map fun d => if d.acc = acc then f d else d }
def Doc.bed (d : Doc) (b : Nat) : DocBed := tget {} d.beds b
def Doc.updBed (d : Doc) (b : Nat) (f : DocBed → DocBed) : Doc := { d with beds := tupd {} d.beds b f }

/-- A document's record is open until it has closed. -/
def Doc.open_ (d : Doc) : Bool := d.record.isNone

/-- Whether a document is open on a bed: its record open, and the bed captures for it. -/
def State.docOpenOn (s : State) (b : Nat) : Bool :=
  s.docs.any fun d => d.open_ && !d.refusedDoc && (match d.job with
    | some j => j.bedMask.getLsbD b
    | none => false)

/-- Documents in flight of a cabinet (R393). -/
def State.inFlight (s : State) (c : Nat) : Nat := (s.docs.filter fun d => d.cab = c).length

/-- The current job, if any, that holds a bed. -/
def State.holderOfBed (s : State) (b : Nat) : Option Job :=
  s.jobs.find? fun j => j.current && j.bedMask.getLsbD b

/-- Whether a job of another cabinet holds a bed. -/
def State.bedHeldByOther (s : State) (c b : Nat) : Bool :=
  s.jobs.any fun j => j.current && j.bedMask.getLsbD b && j.cab != c

/-- Whether a job of another cabinet holds an axis: the axis moves paper past a bed the job holds, or is the source of
the job's channel (DEDUCED, log 12). -/
def State.axisHeldByOther (s : State) (c a : Nat) : Bool :=
  s.jobs.any fun j => j.current && j.cab != c &&
    (((s.axis a).bedMask &&& j.bedMask) != 0 ||
      ((s.chan j.chan).source == .axis && (s.chan j.chan).unit == a))

/-- Seal of R401: the first 16 bytes of HMAC-SHA-256 under a record key; a cabinet with no key has the empty key
(DESIGN CHOICE, log 13). -/
def sealOf (key : Option (List Byte)) (msg : List Byte) : List Byte :=
  (hmacSha256 (key.getD []) msg).take 16

/-- A document's note's seal covers the item header and payload bytes 0x00 to 0x1F (R414). -/
def noteBytes (d : Doc) : List Byte :=
  let total := d.gaps.foldl (fun n g => n + g.2.2.2) 0
  let p := leBytes 4 d.gaps.length ++ (match d.gaps with
    | [] => leBytes 1 0xFF ++ leBytes 1 0 ++ leBytes 2 0 ++ leBytes 8 0 ++ leBytes 8 0
    | (st, status, off, len) :: _ =>
      leBytes 1 st ++ leBytes 1 status ++ leBytes 2 0 ++ leBytes 8 off ++ leBytes 8 len) ++ leBytes 8 total
  p ++ sealOf d.recordKey (itemHeader 64 0x09 0 0xFF 0xFF d.acc ++ p)

/-- Whether stream 0 of a cabinet takes a RECORD or NOTE item now (R409). -/
def State.recordRoom (s : State) (c len : Nat) : Bool :=
  let x := s.stream c 0
  x.kind == 1 && decide (x.held + x.reserved + len ≤ x.capacity)

/-- Write the items that wait in the Accession Register, in turn, as room appears (R409). -/
def State.flushWaiting (fuel : Nat) (c : Nat) (s : State) : State :=
  match fuel with
  | 0 => s
  | fuel + 1 =>
    match tget [] s.waiting c with
    | [] => s
    | w :: rest =>
      match s.doc w.acc with
      | none => State.flushWaiting fuel c { s with waiting := tset [] s.waiting c rest }
      | some d =>
        let payload := if w.isNote then noteBytes d else d.record.getD []
        let kind := if w.isNote then 0x09 else 0x08
        let len := 16 + payload.length + (if (s.stream c 0).encrypt then 32 else 0)
        if s.recordRoom c len then
          let s := { s with waiting := tset [] s.waiting c rest }
          let (s, bs) := s.makeItem c 0 kind 0 0xFF 0xFF w.acc payload
          let s := s.appendItem c 0 bs kind w.acc 0 w.isNote
          let s := if w.isNote then
              ({ s with docs := s.docs.filter fun d => d.acc ≠ w.acc, windows := s.windows ++ [d] }.updCab c fun x => { x with noted := x.noted + 1 }).inc 8 c 20 1
            else s.updDoc w.acc fun d => { d with recorded := true }
          State.flushWaiting fuel c s
        else s

/-- Queue a record or note and write what finds room. -/
def State.queueRecord (s : State) (c acc : Nat) (isNote : Bool) : State :=
  let q := tget [] s.waiting c ++ [({ acc, isNote } : Waiting)]
  State.flushWaiting (q.length + 1) c { s with waiting := tset [] s.waiting c q }

end Sys2Proof.Machine
end

