-- ==== Sys2Proof/Machine/Profile.lean ====
section
/-! DEFINITION. The profile of an axis, its underrun ramp and its excursion: position and velocity; the velocities of axes
and channels. Chapters 03, 07 and 09. -/

namespace Sys2Proof.Machine

/-! The profile (R213, R224). -/

/-- Units of `tau` in a microsecond of profile time: an update at 100 % advances 25 us and 655,360,000 units. -/
def tauUnit : Nat := 26214400

/-- Units of `tau` in a segment. -/
def Seg.span (g : Seg) : Nat := g.dur * tauUnit

/-- p(tau) of R213, exactly. -/
def hermite (p0 v0 : Int) (g : Seg) (tau : ℚ) : ℚ :=
  let s : ℚ := tau / g.span
  let t : ℚ := (g.dur : ℚ) / 1000000
  (2 * s ^ 3 - 3 * s ^ 2 + 1) * p0 + (s ^ 3 - 2 * s ^ 2 + s) * t * v0 + (-2 * s ^ 3 + 3 * s ^ 2) * g.endPos +
    (s ^ 3 - s ^ 2) * t * g.endVel

/-- The derivative of p(tau), in 1/256 microstep per second. -/
def hermiteVel (p0 v0 : Int) (g : Seg) (tau : ℚ) : ℚ :=
  let s : ℚ := tau / g.span
  let t : ℚ := (g.dur : ℚ) / 1000000
  (6 * s ^ 2 - 6 * s) / t * p0 + (3 * s ^ 2 - 4 * s + 1) * v0 + (6 * s - 6 * s ^ 2) / t * g.endPos +
    (3 * s ^ 2 - 2 * s) * g.endVel

/-- The profile from a joint: position and velocity after a number of units, walking through the queue; past its end,
the end state at rest. -/
def walk (p0 v0 : Int) : List Seg → Nat → ℚ × ℚ
  | [], _ => (p0, 0)
  | g :: t, tau =>
    if tau < g.span then (hermite p0 v0 g tau, hermiteVel p0 v0 g tau) else walk g.endPos g.endVel t (tau - g.span)

/-- Profile position and velocity of an axis, a number of units of profile time ahead; those of an axis at rest are its
position and 0. -/
def Axis.profile (x : Axis) (ahead : Nat) : ℚ × ℚ :=
  if x.st = .running then walk x.p0 x.v0 x.queue (x.tau + ahead) else (x.pos, 0)

/-! The underrun ramp (R221). -/

/-- Travel of a ramp at DECEL, and whether it has ended. -/
def Ramp.at_ (r : Ramp) (decel : Nat) : ℚ × Bool :=
  let d : ℚ := 256 * decel
  let v := |r.v|
  let sgn : ℚ := if r.v < 0 then -1 else 1
  if v ≤ d * r.t then (sgn * v ^ 2 / (2 * d), true) else (sgn * (v * r.t - d * r.t ^ 2 / 2), false)

/-! Excursions (R281, R284). -/

/-- Integer square root, bit by bit from a power of two. -/
def isqrtFrom : Nat → Nat → Nat → Nat
  | 0, _, r => r
  | k + 1, n, r =>
    let c := r + 2 ^ k
    isqrtFrom k n (if c * c ≤ n then c else r)

def isqrt (n : Nat) : Nat := isqrtFrom (n.log2 / 2 + 1) n 0

/-- floor(A + sqrt R), or floor(A - sqrt R), for rational A and R. -/
def floorRoot (neg : Bool) (a r : ℚ) : Int :=
  let den : Int := a.den * r.den
  let n : Int := a.num * r.den
  let m : Nat := r.num.toNat * r.den * a.den ^ 2
  let q := isqrt m
  if neg then (n - (if q * q = m then q else q + 1 : Nat)) / den else (n + q) / den

/-- A square root within 2^-32 below (DESIGN CHOICE, log 31). -/
def sqrtQ (r : ℚ) : ℚ := (isqrt (r * 2 ^ 64).floor.toNat : ℚ) / 2 ^ 32

/-- When an approach reaches p(tau), in seconds: ta, then the rest of the way at V. An axis whose V is 0 rests there until
the group has passed (R281). -/
def Excursion.reach (e : Excursion) : ℚ :=
  if e.vRest = 0 then e.lock else e.ta / 2 + |e.pRest - e.pBack| / |e.vRest|

/-- When a deceleration of R284 reaches rest. -/
def Excursion.stopTime (e : Excursion) (accel : Nat) : ℚ := |e.v| / (256 * accel)

/-- Direction of travel of an approach. -/
def Excursion.fwd (e : Excursion) : ℚ := if e.vRest < 0 then -1 else 1

/-- The position of an axis in an excursion at a time into its phase, before rounding; past p(tau) it is on its profile. -/
def Axis.excursionExact (x : Axis) (e : Excursion) (t : ℚ) : ℚ :=
  if e.phase = 2 then
    let l := e.start - e.pBack
    if e.tb2 ≤ t ^ 2 then e.pBack
    else if 4 * t ^ 2 ≤ e.tb2 then e.start - 2 * l * t ^ 2 / e.tb2
    else e.start + l + 2 * l * t ^ 2 / e.tb2 - 4 * l * t / sqrtQ e.tb2
  else if e.phase = 4 then
    if e.reach < t then (x.profile ((t - e.reach) * 40000 * x.k0).floor.toNat).1
    else if t ≤ e.ta then e.pBack + (if e.ta = 0 then 0 else e.vRest * t ^ 2 / (2 * e.ta))
    else e.pBack + e.vRest * (t - e.ta / 2)
  else if e.phase = 5 then
    let d : ℚ := 256 * x.pauseAccel
    let t := min t (e.stopTime x.pauseAccel)
    e.start + |e.v| * e.fwd * t - e.fwd * d * t ^ 2 / 2
  else e.start

/-- The commanded position of an axis in an excursion; in the second half of a back-up,
start - l + 2 l (1 - t / tb)^2 = start + l + 2 l t^2 / tb^2 - 4 l t / tb. -/
def Axis.excursionPos (x : Axis) (e : Excursion) (t : ℚ) : Int :=
  if e.phase = 2 ∧ t ^ 2 < e.tb2 ∧ e.tb2 < 4 * t ^ 2 then
    let l := e.start - e.pBack
    floorRoot (decide (0 ≤ l)) (e.start + l + 2 * l * t ^ 2 / e.tb2) ((4 * l * t) ^ 2 / e.tb2)
  else ⌊x.excursionExact e t⌋

/-- The velocity of an axis in an excursion, at its time. -/
def Axis.excursionVel (x : Axis) (e : Excursion) : ℚ :=
  let t := e.t
  if t < 0 then (if e.phase = 5 then e.v else 0)
  else if e.phase = 2 then
    let l := e.start - e.pBack
    if e.tb2 ≤ t ^ 2 then 0
    else if 4 * t ^ 2 ≤ e.tb2 then -4 * l * t / e.tb2
    else 4 * l * t / e.tb2 - 4 * l / sqrtQ e.tb2
  else if e.phase = 4 then
    if e.reach < t then (x.profile ((t - e.reach) * 40000 * x.k0).floor.toNat).2 * x.k0 / 655360000
    else if t ≤ e.ta then (if e.ta = 0 then e.vRest else e.vRest * t / e.ta)
    else e.vRest
  else if e.phase = 5 then
    let d : ℚ := 256 * x.pauseAccel
    if e.stopTime x.pauseAccel ≤ t then 0 else e.fwd * (|e.v| - d * t)
  else 0

/-- The excursion in progress. -/
def Axis.excursion (x : Axis) : Option Excursion := x.exc.filter fun e => e.phase != 6

/-! Velocities (R83, R206, R229, R230, R283). -/

/-- The ratio a gear follows at a master position: within a blend it changes linearly with the master's travel (R230). -/
def Gear.ratioAt (g : Gear) (m : Pos) : ℚ :=
  let r1 : ℚ := (g.num : ℚ) / g.den
  match g.blend with
  | none => r1
  | some r =>
    let r2 : ℚ := (r.num : ℚ) / r.den
    let x := (m - g.mA).toInt
    let l : Int := r.blend * 65536
    if l ≤ x then r2 else if x < 0 then r1 else r1 + (r2 - r1) * x / l

/-- Commanded velocity of an axis that follows no master, in 1/256 microstep per second, the override included. -/
def Axis.ownVelocity (x : Axis) : ℚ :=
  match x.excursion, x.ramp with
  | some e, _ => x.excursionVel e
  | none, some r =>
    let d : ℚ := 256 * x.decel * r.t
    if |r.v| ≤ d then 0 else if r.v < 0 then r.v + d else r.v - d
  | none, none => if x.st = .running then (x.profile 0).2 * x.eff / 655360000 else 0

/-- The velocity of channel n in ticks per second, or of axis n in 1/256 microstep per second; the fuel bounds the chain
of gears and axis channels. -/
def State.velOf (fuel : Nat) (isAxis : Bool) (n : Nat) (s : State) : ℚ :=
  match fuel with
  | 0 => 0
  | fuel + 1 =>
    if isAxis then
      match (s.axis n).gear with
      | some g => State.velOf fuel false g.master s * 256 * g.ratioAt (s.chanPos g.master)
      | none => (s.axis n).ownVelocity
    else
      let k := s.chan n
      if k.held then 0
      else match k.source with
      | .none => 0
      | .enc =>
        if !k.intervalValid || k.interval == 0 || decide (400000 < s.samples - k.lastEdge) then 0
        else if k.lastFwd then (400000000 : ℚ) / k.interval else -((400000000 : ℚ) / k.interval)
      | .axis =>
        let v := State.velOf fuel true k.unit s / 256
        if k.invert then -v else v
      | .remote => if k.present then (k.vel : ℚ) / 65536 else 0
      | .free => if k.invert then -(k.rate : ℚ) else k.rate

/-- The velocity of a channel in ticks per second, and of an axis in 1/256 microstep per second. -/
def State.chanVel (s : State) (c : Nat) : ℚ := State.velOf 18 false c s
def State.axisVel (s : State) (a : Nat) : ℚ := State.velOf 18 true a s

/-- Whether the commanded velocity of an axis is not zero (R237, R239). -/
def State.axisMoves (s : State) (a : Nat) : Bool := (s.axis a).pos != (s.axis a).posNext || s.axisVel a != 0

end Sys2Proof.Machine
end

