-- ==== Sys2Proof/Machine/Axis.lean ====
section
/-! DEFINITION. The shared operations of an axis: its bridges, its position from the encoder, the freeze, loss of
position. Chapters 07 and 08. -/

namespace Sys2Proof.Machine

/-! Bridges (R245, R261). -/

/-- Whether a latched fault of Table CD-7 that turns the bridges off is in force. -/
def Axis.bridgeFault (x : Axis) : Bool := x.phA.trip || x.phB.trip || x.hot || x.phA.openFault || x.phB.openFault

/-- Whether an axis has any latched fault (R267). -/
def Axis.latched (x : Axis) : Bool := x.bridgeFault || x.phA.senseFault || x.phB.senseFault

/-- Whether the supply of an axis lies outside 8.0 to 40.0 V (Table CD-7, SUPPLY). -/
def State.vmOff (s : State) (a : Nat) : Bool := (s.supply (supplyOfAxis a)).outside

/-- Whether the bridges of an axis are on (R245): never while the clock of its MOT domain is gone (R546). -/
def State.bridgesOn (s : State) (a : Nat) : Bool :=
  let x := s.axis a
  s.mode.p3 && x.role != 0 && !x.bridgeFault && !s.vmOff a && !x.stopOff && !(s.clock (74 + a)).failed

/-! Positions. -/

/-- The axis distance of a change of a channel position (R210). -/
def gearDistance (d : Pos) (num den : Int) : Int := floorDiv (d.toInt * num) (den * 256)

/-- The encoder-derived position E of an axis (R211). -/
def State.encPos (s : State) (a : Nat) : Int :=
  let x := s.axis a
  x.anchorP + gearDistance (s.chanPos x.cchan - x.anchorM) x.cnum x.cden

/-- Take the anchor pair of R211. -/
def State.anchor (s : State) (a : Nat) : State :=
  let x := s.axis a
  if x.confirm then
    let m := s.chanPos x.cchan
    s.updAxis a fun x => { x with anchorP := x.pos, anchorM := m }
  else s

/-- Whether the set-point of an axis changes in this update: it is not standing (R256). -/
def Axis.moving (x : Axis) : Bool := x.pos != x.posNext

/-- The lowest channel whose source is an axis. -/
def State.chanOfAxis (s : State) (a : Nat) : Option Nat :=
  (List.range 4).find? fun c => (s.chan c).source == .axis && (s.chan c).unit == a

/-- An event that carries the axis channel's position: that of the lowest channel whose source is the axis; with no
such channel it names none (R473, log 14). -/
def State.evAxis (s : State) (code a aux : Nat) (w2 : BitVec 64) : Ev :=
  match s.chanOfAxis a with
  | some c => s.evChan code a aux c w2
  | none => s.ev code a aux w2

/-- Write an axis event to its cabinets (R627, R265). -/
def State.axisEvent (s : State) (a : Nat) (e : Ev) : State := s.raiseTo (s.axisCabs a) e

/-! Loss of position (R239, R240). -/

/-- Mark an axis POSITION_LOST and write AXIS_LOST. -/
def State.setLost (s : State) (a : Nat) : State :=
  if (s.axis a).lost then s
  else
    let e := { s.ev 0x0604 a 0 0 with
      w1 := posOf (s.axis a).pos }
    ((s.updAxis a fun x => { x with lost := true }).inc 4 a 3 1).axisEvent a e

/-- Confirmations of a coil check that fell due before entry to P3 were not made: position is lost (R240, R260). -/
def State.confirmsMissed (s : State) : State :=
  forEach (List.range 8) (fun a s => match (s.axis a).confirmAt with
    | some t => if t ≤ s.now then (s.updAxis a fun x => { x with confirmAt := none }).setLost a else s
    | none => s) s

/-- An occasion of R239: with CONFIRM, confirmation 50 ms later decides; otherwise position is lost at once. -/
def State.lose (s : State) (a : Nat) : State :=
  if (s.axis a).confirm && s.mode.p3 then
    s.updAxis a fun x => { x with confirmAt := some (s.now + 50000000), watch := false }
  else s.setLost a

/-! Phase states and their events (R265, R266). -/

def Axis.phase (x : Axis) (phB : Bool) : Phase := if phB then x.phB else x.phA
def Axis.updPhase (x : Axis) (phB : Bool) (f : Phase → Phase) : Axis :=
  if phB then { x with phB := f x.phB } else { x with phA := f x.phA }

/-- STATE of Table CD-10, the first fault in the order of R266. -/
def State.phaseState (s : State) (a : Nat) (phB : Bool) : Nat :=
  let x := s.axis a
  let p := x.phase phB
  if p.trip then 4 else if x.hot then 5 else if p.openFault then 3
  else if s.vmOff a && x.role != 0 then 6
  else if p.senseFault then 2 else if s.bridgesOn a then 1 else 0

/-- Write COIL_FAULT for a phase found in a fault, with the switches tripped: each fault writes its own event, whatever
STATE shows (R265, R266). -/
def State.coilFault (s : State) (a : Nat) (phB : Bool) (st sw : Nat) : State :=
  (s.updAxis a fun x => x.updPhase phB fun p => { p with told := s.phaseState a phB }).axisEvent a
    (s.evAxis 0x0606 a (phB.toNat + 16 * sw) (w2 st))

/-- Write the event of each phase of an axis whose STATE has changed: COIL_OK for a return to OK, else COIL_FAULT (R265). -/
def State.coilTell (s : State) (a : Nat) : State :=
  forEach [false, true] (fun phB s =>
    let st := s.phaseState a phB
    if st = ((s.axis a).phase phB).told then s
    else
      (s.updAxis a fun x => x.updPhase phB fun p => { p with told := st }).axisEvent a
        (s.evAxis (if st = 1 then 0x0607 else 0x0606) a phB.toNat (w2 st))) s

def State.coilTellAll (s : State) : State := forEach (List.range 8) (fun a s => s.coilTell a) s

/-! Freeze and stop (R237, R238). -/

/-- Disarm what an axis's ratio slots hold (R237, R233). -/
def State.disarmSlots (s : State) (a : Nat) : State :=
  let ks := s.comps.filterMap fun (k, c) => match c with
    | some { use := .gear b _, .. } => if b = a then some k else none
    | _ => none
  let s := forEach ks (fun k s => s.setComp k none) s
  s.updAxis a fun x => { x with gslots := [] }

/-- The bridges are off: nothing is driven, and h ramps from 0 when they come on (R246, R268). -/
def Axis.dark (x : Axis) : Axis :=
  { x with
    off := true, h := 0, holdRamp := false, holding := false, standing := 0,
    phA := { x.phA with duty := 0, sat := false, ihat := 0, model := 0 },
    phB := { x.phB with duty := 0, sat := false, ihat := 0, model := 0 } }

/-- Freeze an axis (R237): the set-point stays, the queue is emptied, slots disarmed, gearing released. `on` is
whether its bridges were on before the cause acted. A stop of kind OFF is told as a change of its phases' STATE (R265). -/
def State.freeze (s : State) (a : Nat) (off : Bool) (on : Bool) : State :=
  let x := s.axis a
  if x.role = 0 then s
  else
    let moving := s.axisMoves a
    let n := x.queue.length
    let s := s.disarmSlots a
    let s := s.updAxis a fun x =>
      let x := { x with
        queue := [], tau := 0, posNext := x.pos, st := .stopped, ramp := none, gear := none, exc := none,
        stopOff := x.stopOff || off }
      if off then x.dark else x
    let s := (s.inc 4 a 2 1).axisEvent a (s.ev 0x0603 a 0 (w2 n))
    let s := if off then s.coilTell a else s
    if moving || (off && on) then s.lose a else s

/-! Gearing released, and the re-anchor (R80, R233, R235). -/

/-- Write GEAR_CHANGED of an axis. -/
def State.gearChanged (s : State) (a : Nat) (r : Ratio) (slave : Int) (master : Pos) : State :=
  let ratio := (r.num % 2 ^ 24).toNat + r.den * 2 ^ 24
  s.axisEvent a
    { code := 0x0605, unit := a, aux := r.slot + (if r.late then 128 else 0), w0 := posOf slave, w1 := master,
      w2 := w2 ratio }

/-- A change to numerator 0 leaves GEARED: the axis is at rest, the changes still armed are disarmed (R233). -/
def State.unGear (s : State) (a : Nat) (p : Int) : State :=
  (s.disarmSlots a).updAxis a fun x => { x with gear := none, st := .atRest, posNext := p }

/-- The re-anchor of axes geared to a channel whose position steps (R235): a blend in progress ends at its target, which
is told (R233), and a change that has fired starts from the new position. -/
def State.regear (s : State) (c : Nat) (m : Pos) : State :=
  forEach (List.range 8) (fun a s =>
    match (s.axis a).gear with
    | none => s
    | some g =>
      if g.master ≠ c then s
      else
        let p := s.axisAt a
        let g := { g with due := g.due.map fun (r : Ratio) => { r with from_ := r.from_.map fun _ => m } }
        match g.blend with
        | none => s.updAxis a fun x => { x with gear := some { g with sA := p, mA := m } }
        | some r =>
          let s := s.gearChanged a r p m
          if r.num = 0 then s.unGear a p
          else s.updAxis a fun x =>
            { x with gear := some { g with sA := p, mA := m, num := r.num, den := r.den, blend := none } }) s

/-- What follows a step of a channel's position (R80): comparators on it disarmed, its beds' accumulators waiting for
their next start, axes geared to it re-anchored, one TB_DISCONTINUITY with the cause AUX. -/
def State.discontinuity (s : State) (c aux : Nat) : State :=
  let gone := s.compsOn c
  let mask := gone.foldl (fun m (k, _) => m ||| (1#64 <<< k)) 0#64
  let dest := s.chanCabs c ((gone.filter fun kc => kc.1 < 48).map (·.2))
  let s := forEach gone (fun kc s => s.disarm kc.1) s
  let s := forEach (List.range 4) (fun b s =>
    if (s.bed b).chan = c then s.updBed b fun x => { x with accOn := false, gateShut := false, inExcursion := false } else s) s
  let s := s.regear c (s.chanPos c)
  let s := s.updChan c fun k => { k with lastTick := (s.chanPos c).toInt / 65536 }
  (s.inc 0x06 c 4 1).raiseTo dest (s.evChan 0x0105 c aux c mask)

/-! Stop requests. -/

/-- A stop request on an axis: a freeze, of an axis already stopped too (R69, R237, R238). -/
def State.stopAxis (s : State) (a : Nat) (off : Bool) : State := s.freeze a off (s.bridgesOn a)

end Sys2Proof.Machine
end

