-- ==== Sys2Proof/Machine/Records.lean ====
section
/-! DEFINITION. Accession records: lines counted, settings of a reference set, the closing of a record, of a job, and
the items a closing writes. Chapters 04, 06, 13 and 14. -/

namespace Sys2Proof.Machine

/-! Lines (R125, R585). -/

/-- Causes of Table BD-4, as counters of a bed: HALT 2, DISCARD 3, GRAFT_GAP 4, OVERRUN 5, GRAFT_SOURCE 6,
STREAM_FULL 7. A document line is counted triggered and dropped in one step. -/
def State.dropLine (s : State) (b acc cause : Nat) : State :=
  ((s.inc 1 b 0 1).inc 1 b cause 1).updDoc acc fun d => d.updBed b fun x => { x with dropped := x.dropped + 1 }

/-- A document line is counted triggered and captured in one step. -/
def State.captureLine (s : State) (b acc : Nat) : State :=
  ((s.inc 1 b 0 1).inc 1 b 1 1).updDoc acc fun d => d.updBed b fun x => { x with captured := x.captured + 1 }

/-- Set bits of a document's bed flags (Table DO-9). -/
def State.bedFlag (s : State) (b acc : Nat) (bits : BitVec 16) : State :=
  s.updDoc acc fun d => d.updBed b fun x => { x with flags := x.flags ||| bits }

/-- Set bits of a document's flags (Table DO-6). -/
def State.docFlag (s : State) (acc : Nat) (bits : BitVec 32) : State :=
  s.updDoc acc fun d => { d with flags := d.flags ||| bits }

/-- Documents open on a bed. -/
def State.docsOn (s : State) (b : Nat) : List Doc :=
  s.docs.filter fun d => d.open_ && !d.refusedDoc && (match d.job with
    | some j => j.bedMask.getLsbD b
    | none => false)

/-- Write the LINE_OVERRUN event of a run of drops (R124). -/
def State.flushOverrun (s : State) (b : Nat) : State :=
  match (s.bed b).overrun with
  | none => s
  | some o =>
    let e : Ev := { code := 0x0301, unit := b, aux := 0, w0 := BitVec.ofNat 64 o.time, w1 := o.pos,
                    w2 := w2 (o.line + o.count * 2 ^ 32) }
    (s.updBed b fun x => { x with overrun := none }).raiseTo (if o.cab = 0 then [0] else [0, o.cab]) e

/-- A run of OVERRUN drops ends with the lines of its course decided so far: those after them are counted under a cause
that Table BD-4 puts first (R124, R125). A run whose course is over ends whole. -/
def State.cutOverrun (s : State) (b : Nat) : State :=
  match (s.bed b).overrun with
  | none => s
  | some o =>
    match (s.bed b).courses.find? fun c => c.acc = o.acc with
    | none => s.flushOverrun b
    | some c =>
      let n := min o.count (c.decided + 1 - o.line)
      if n = 0 then s.updBed b fun x => { x with overrun := none }
      else (s.updBed b fun x => { x with overrun := some { o with count := n } }).flushOverrun b

/-- A run of OVERRUN drops of a document ends with its closing, at the latest (R124). -/
def State.endOverruns (s : State) (acc : Nat) : State :=
  forEach (List.range 4) (fun b s => match (s.bed b).overrun with
    | some o => if o.acc = acc then s.flushOverrun b else s
    | none => s) s

/-! Settings recorded with a reference set (R181). -/

/-- The segments of a bed's SEG_MASK. -/
def Bed.segs (x : Bed) : List Nat := (List.range 8).filter fun i => x.segMask.getLsbD i

def Bed.afeOf (x : Bed) (seg tap : Nat) : Afe := tget {} x.afe (4 * seg + tap)
def Bed.led (x : Bed) (c : Nat) : Led := tget {} x.leds c
def Bed.codeOf (x : Bed) (e c : Nat) : Nat := tget 0 x.code (8 * e + c)

/-- The present settings of Table SH-2. -/
def Bed.settings (x : Bed) : CalSettings :=
  { afe := x.segs.flatMap fun i => (List.range 4).map fun t => ((x.afeOf i t).gain, (x.afeOf i t).offset),
    timing := [x.slotCycles, x.spWidth, x.lead, x.tapMap.toNat, x.clkInvert.toNat] ++ x.phase,
    seq := x.seq.take x.seqLen,
    window := x.window,
    cls := (List.range 8).map fun c => (x.led c).cls,
    codes := (List.range 8).map fun e => (List.range 8).map fun c => x.codeOf e c,
    target := x.target.take x.seqLen }

/-- Whether the set in force is STALE (R181); the identity set never is. -/
def Bed.stale (x : Bed) : Bool := x.refSet.copy != 0 && x.refSet.settings != x.settings

/-- Mark the open documents of a bed CAL_STALE when its set is (R196). -/
def State.noteStale (s : State) (b : Nat) : State :=
  if (s.bed b).stale then forEach (s.docsOn b) (fun d s => s.bedFlag b d.acc 0x10) s else s

/-- A strip read is in progress on a bed: phase 4 is a feed held after the third FAIL (R195). -/
def Bed.reading (x : Bed) : Bool := match x.read with
  | some r => r.phase != 4
  | none => false

/-- Whether an LED channel is lit in a bed's sequence. -/
def Bed.litIn (x : Bed) (c : Nat) : Bool := (x.seq.take x.seqLen).any fun m => m.getLsbD c

/-- A group is in an excursion: from the rest until its last gate opens. -/
def Group.excursion (x : Group) : Bool := 2 ≤ x.phase && x.phase ≤ 6

/-! Jobs (R388). -/

/-- Close a job with DONE 1, CANCELLED 2 or REFUSED 3, and write JOB_CLOSED (R388); a FREE channel takes its own rate
again (R81), and a feed held after a third FAIL is free of it (R195). -/
def State.closeJob (s : State) (j : Job) (result order : Nat) : State :=
  let s := { s with jobs := s.jobs.filter fun k => ¬ (k.cab = j.cab ∧ k.id = j.id) }
  let s := if j.current then
      forEach ((List.range 4).filter fun b => j.bedMask.getLsbD b) (fun b s => s.updBed b fun x =>
        { x with
          read := match x.read with
            | some r => if r.phase = 4 ∧ r.cab = j.cab then none else x.read
            | none => none }) s
    else s
  let s := if j.current then s.dropRate j else s
  s.raise j.cab (s.ev 0x0201 0xFF result (w2 (j.id + order * 65536 + j.fed % 2 ^ 32 * 2 ^ 32)))

/-- Whether a document has left the transport: F plus the greatest DIST has been reached, and under EXIT_CHECK the exit
sensor is low (Table DO-3, step 5). -/
def State.docLeft (s : State) (d : Doc) : Bool :=
  match d.tail with
  | none => false
  | some f =>
    let far := match d.job with
      | some j => ((List.range 4).filter fun b => j.bedMask.getLsbD b).foldl (fun n b => max n (j.dist.getD b 0)) 0
      | none => 0
    let high := match d.job with
      | some j => j.exitCheck && s.gpioIn.getLsbD j.exitGpio
      | none => false
    reachedFwd (s.chanPos d.chan) (f + BitVec.ofNat 64 (far * 65536)) && !high

/-- Note the documents that have left the transport. -/
def State.noteLeft (s : State) : State :=
  { s with docs := s.docs.map fun d => if d.inTransport && s.docLeft d then { d with inTransport := false } else d }

/-- Documents of a job whose records are open. -/
def State.jobDocs (s : State) (c id : Nat) : List Doc :=
  s.docs.filter fun d => d.open_ && !d.refusedDoc && d.cab = c && (match d.job with
    | some j => j.id = id
    | none => false)

/-- What a record's closing does to its job: a job all of whose documents have closed closes DONE, a cancelled one
CANCELLED once its last document has closed (R388). -/
def State.jobAfterClose (s : State) (d : Doc) : State :=
  match d.job with
  | none => s
  | some dj =>
    if d.refusedDoc then s
    else
      let s := { s with
        jobs := s.jobs.map fun (j : Job) => if j.cab = d.cab ∧ j.id = dj.id then { j with done := j.done + 1 } else j }
      match s.jobs.find? fun (j : Job) => j.cab = d.cab ∧ j.id = dj.id with
      | none => s
      | some j =>
        if j.docs ≠ 0 ∧ j.done = j.docs ∧ ¬ j.cancelled then s.closeJob j 1 0
        else if j.cancelled ∧ (s.jobDocs j.cab j.id).isEmpty then s.closeJob j 2 0
        else s

/-! Virtual time (R435). -/

/-- The charge for n lines. -/
def State.vCharge (s : State) (c n : Nat) : Nat := 65536 * n / (s.entry c).tineWeight

/-! Gauge summaries (R321, R322, R399). -/

def State.gauge (s : State) (g : Nat) : Gauge := tget {} s.gauges g
def State.updGauge (s : State) (g : Nat) (f : Gauge → Gauge) : State := { s with gauges := tupd {} s.gauges g f }

/-- The settings a channel has or is about to have. -/
def Gauge.accepted (x : Gauge) : GaugeCfg := x.next.getD x.cfg

/-- Channels with SUMMARY set that serve a bed of a document. -/
def State.docGauges (s : State) (d : Doc) : List Nat :=
  match d.job with
  | none => []
  | some j => if d.refusedDoc then [] else
    (List.range 8).filter fun g =>
      let x := s.gauge g
      x.summary && x.accepted.bed < 4 && j.bedMask.getLsbD x.accepted.bed

/-- The trigger position of a document's line N on a bed: none while it is not known; no line at all, some none. Once
the trailing edge has passed it follows from the pitch. -/
def State.lineEnd (s : State) (d : Doc) (b : Nat) : Option (Option Pos) :=
  let y := d.bed b
  if y.ended then some y.last
  else match (s.bed b).courses.find? fun c => c.acc = d.acc with
    | none => none
    | some c =>
      match c.tail with
      | none => none
      | some f =>
        let x := s.bed b
        let next : BitVec 80 := if c.started then x.acc else c.start ++ 0#16
        let n := -(floorDiv (-(((f ++ 0#16 : BitVec 80) - next).toInt)) x.pitch.toNat)
        if n ≤ 0 then some y.last
        else some (some ((next + x.pitch.setWidth 80 * BitVec.ofInt 80 (n - 1)).extractLsb' 16 64))

/-- Whether a position lies in the gauge window of a channel for a document (R321). -/
def State.inWindow (s : State) (d : Doc) (g : Nat) (p : Pos) : Bool :=
  let x := s.gauge g
  let b := x.accepted.bed
  let off := x.accepted.offset
  let trim := BitVec.ofNat 64 (x.trim * 65536)
  reachedFwd p ((d.bed b).first + off + trim) && match s.lineEnd d b with
    | none => true
    | some none => false
    | some (some l) => reachedRev p (l + off - trim)

/-- Whether a position lies beyond the gauge window of a channel for a document: line N is known, and its end is passed. -/
def State.windowPast (s : State) (d : Doc) (g : Nat) (p : Pos) : Bool :=
  let x := s.gauge g
  match s.lineEnd d x.accepted.bed with
  | none => false
  | some none => true
  | some (some l) => !reachedRev p (l + x.accepted.offset - BitVec.ofNat 64 (x.trim * 65536))

/-- Forget the windows of delivered documents that no sample to come can lie in: the channel was beyond them 60 ms ago
already (R297, R299). -/
def State.trimWindows (s : State) : State :=
  { s with windows := s.windows.filter fun d => (s.docGauges d).any fun g =>
      match s.track.getLast? with
      | some k => !s.windowPast d g (k.pos.getD (s.bed (s.gauge g).accepted.bed).chan 0)
      | none => true }

/-- A summary at its closing; DOUBLE_FEED bit 0, GAUGE_FAULT bit 1, NO_GAUGE bit 2 (DEDUCED, log 15). -/
structure GClosed where
  count : Nat := 0
  excluded : Nat := 0
  min : BitVec 32 := 0
  max : BitVec 32 := 0
  mean : BitVec 32 := 0
  flags : BitVec 8 := 4
deriving DecidableEq, Repr

/-- The summary of a channel for a document. -/
def State.summaryOf (s : State) (d : Doc) (g : Nat) : GClosed :=
  if d.orphaned then {}
  else
    let q : GSummary := tget {} d.gauges g
    let all := q.samples.filter fun x => s.inWindow d g x.centre
    let vs := (all.filter fun x => x.counted).map (·.value)
    let fault := all.any fun x => x.fault
    let fl : BitVec 8 := (if q.fired then 1 else 0) ||| (if fault then 2 else 0)
    match vs with
    | [] => { excluded := all.length, flags := fl ||| 4 }
    | v :: t =>
      { count := vs.length, excluded := all.length - vs.length,
        min := t.foldl (fun m w => if f32Lt w m then w else m) v,
        max := t.foldl (fun m w => if f32Lt m w then w else m) v,
        mean := meanOf (vs.foldl (fun a w => f64Add a (f32to64 w)) 0) vs.length, flags := fl }

/-- The mask of the channels of a document whose summary has a flag. -/
def State.gaugeMask (s : State) (d : Doc) (bit : Nat) : Nat :=
  ((s.docGauges d).filter fun g => (s.summaryOf d g).flags.getLsbD bit).foldl (fun m g => m + 2 ^ g) 0

/-- The gauge block of Table DO-8. -/
def State.gaugeBlock (s : State) (d : Doc) : List Byte :=
  match s.docGauges d with
  | [] => leBytes 1 0xFF ++ List.replicate 15 0
  | g :: _ =>
    let x := s.summaryOf d g
    leBytes 1 g ++ leBytes 1 (s.gaugeMask d 0) ++ leBytes 1 (s.gaugeMask d 1) ++ leBytes 1 (s.gaugeMask d 2) ++
      leBytes 4 x.min.toNat ++ leBytes 4 x.max.toNat ++ leBytes 4 x.mean.toNat

/-- Write a document's GAUGE_SUMMARY items (R399, R406). -/
def State.writeSummaries (s : State) (d : Doc) : State :=
  match d.job with
  | none => s
  | some j =>
    if j.gaugeStream = 0xFF ∨ (s.stream d.cab j.gaugeStream).kind ≠ 3 then s
    else
      forEach (s.docGauges d) (fun g s =>
        let x := s.summaryOf d g
        let p := leBytes 1 g ++ leBytes 1 x.flags.toNat ++ leBytes 2 0 ++ leBytes 4 x.count ++
          leBytes 4 x.excluded ++ leBytes 4 x.min.toNat ++ leBytes 4 x.max.toNat ++ leBytes 4 x.mean.toNat ++
          leBytes 8 0
        let (s, bs) := s.makeItem d.cab j.gaugeStream 0x07 0 0xFF 0xFF d.acc p
        s.putItem d.cab j.gaugeStream bs 0x07 d.acc 0 ((s.docGauges d).getLast? == some g)) s

/-! The record (R397). -/

/-- The bed block of Table DO-7. -/
def docBedBytes (x : DocBed) : List Byte :=
  leBytes 4 x.gen ++ leBytes 3 x.captured ++ leBytes 3 x.dropped ++ leBytes 2 (min x.preroll 65535) ++
    leBytes 2 x.flags.toNat

/-- The disposition of Table DO-4 at a closing that is not the entry to HALTED. -/
def Doc.disposition (d : Doc) : Nat :=
  if d.orphaned then 0x04
  else if d.refusedDoc then 0x03
  else if d.trapped then 0x06
  else if d.beds.any (fun (_, x) => x.dropped != 0) || d.flags.getLsbD 4 then 0x02
  else 0x01

/-- The record's bytes before its seal. -/
def State.recordBody (s : State) (d : Doc) (seq disp : Nat) : List Byte :=
  let here := s.chanPos d.chan
  let endPos := match d.tail, d.job with
    | some f, some j => if j.flatbed && !reachedFwd here f then here else f
    | some f, none => f
    | none, _ => here
  let blocks := (List.range 4).flatMap fun b =>
    if d.refusedDoc then List.replicate 14 0 else docBedBytes (d.bed b)
  leBytes 8 d.acc ++ leBytes 4 seq ++ leBytes 4 s.epoch ++
    leBytes 2 (match d.job with
      | some j => j.id
      | none => 0) ++
    leBytes 1 d.cab ++ leBytes 1 disp ++ leBytes 4 d.flags.toNat ++ leBytes 8 d.start.toNat ++
    leBytes 8 endPos.toNat ++ blocks ++ (if d.refusedDoc then leBytes 1 0xFF ++ List.replicate 15 0
      else s.gaugeBlock d)

/-- Whether some channel lit in a bed's sequence has passed no check since a document's last line (R168). -/
def State.lampUnverified (s : State) (b : Nat) (x : DocBed) : Bool :=
  (List.range 8).any fun c => (s.bed b).litIn c && (match ((s.bed b).led c).passedAt with
    | some t => decide (t ≤ x.exposedAt)
    | none => true)

/-- The flags a bed block gains at the closing (R168, R196). -/
def State.closeFlags (s : State) (d : Doc) : State :=
  forEach (d.beds.map (·.1)) (fun b s =>
    let x := d.bed b
    let s := if x.used ∧ s.lampUnverified b x then s.bedFlag b d.acc 0x4 else s
    if x.used ∧ (s.bed b).stale then s.bedFlag b d.acc 0x10 else s) s

/-- Comparators that frame or divert a document. -/
def State.docComps (s : State) (acc : Nat) : List Nat :=
  s.comps.filterMap fun (k, c) => match c with
    | some c => if c.use = .frame acc ∨ c.use = .divert acc then some k else none
    | none => none

/-- Erase a cabinet's keys once every record opened under them is sealed (R441): those the reset found open, and any opened
since under the same record key. A key that JOB.KEY has set meanwhile stays. -/
def State.tryErase (s : State) (c : Nat) : State :=
  let x := s.cab c
  let waits := fun (d : Doc) => d.cab = c && d.open_ && (d.orphaned || x.eraseRecord && d.recordKey == x.recordKey)
  if (x.eraseRecord || x.eraseStream) && !s.docs.any waits then
    s.updCab c fun x =>
      { x with
        recordKey := if x.eraseRecord then none else x.recordKey, streamKey := if x.eraseStream then none else x.streamKey,
        eraseRecord := false, eraseStream := false }
  else s

/-- The next accession record of a cabinet: CAB_SEQ (R400) and the seal (R401). -/
def State.closeDoc (s : State) (acc : Nat) (halt : Option Nat) : State :=
  match s.doc acc with
  | none => s
  | some d =>
    if d.record.isSome then s
    else
      let s := s.closeFlags d
      let d := (s.doc acc).getD d
      let disp := halt.getD d.disposition
      let seq := (s.cab d.cab).capSeq + 1
      let body := s.recordBody d seq disp
      let rec_ := body ++ sealOf d.recordKey body
      let s := if d.orphaned then s else s.writeSummaries d
      let s := forEach (s.docComps acc) (fun k s => s.setComp k none) s
      let lines := d.beds.foldl (fun n (_, x) => n + x.captured + x.dropped) 0
      let s := (s.updCab d.cab fun x =>
        { x with capSeq := seq, closed := x.closed + 1,
                 vtime := x.vtime - d.charge + (if d.charge = 0 then 0 else s.vCharge d.cab lines) }).inc 8 d.cab 19 1
      let s := s.updDoc acc fun d => { d with record := some rec_, inTransport := false, charge := 0 }
      let s := s.queueRecord d.cab acc false
      (s.jobAfterClose d).tryErase d.cab

end Sys2Proof.Machine
end

