-- ==== Sys2Proof/Machine/Halt.lean ====
section
/-! DEFINITION. The mode changed and told, the protective stop and entry to HALTED, the freeze on leaving P3, and the
device reset. Chapters 01, 02, 19 and 20. -/

namespace Sys2Proof.Machine

/-! Modes (R44, R47). -/

/-- Enter a mode and write MODE_CHANGED to every enabled cabinet, with a cause of Table MB-14. -/
def State.enterMode (s : State) (m : Mode) (cause : Nat) : State :=
  let old := s.mode
  let s := { s with mode := m, change := none }
  let info := if cause = 2 then s.wakeCause.toNat else s.haltCauses.toNat
  s.raiseTo s.enabledCabs (s.ev 0x0101 0xFF cause (w2 (old.code + m.code * 256 + info * 65536)))

/-! Stop causes (Table MO-10): COVER 0, SOURCE 1, JAM 2, MOTION 3, THERMAL 4, SUPPLY 5, OWNER 6. -/

/-- Whether an input in a bed's COVER_MASK, or a dark slot, shows an open cover (R130): the mask of a bed that is not
configured names its own input (Table BD-7; DEDUCED, log 97). -/
def State.bedCover (s : State) (b : Nat) : Bool :=
  let x := s.bed b
  ((x.coverMask.getD (1#4 <<< b)) &&& s.coverOpen) != 0 || x.darkHigh

/-- Documents in the transport whose records are open. -/
def State.transportDocs (s : State) : List Doc := s.docs.filter fun d => d.open_ && d.inTransport

/-- Grafted lines of a course triggered and not yet counted (R125, HALT). -/
def Course.undecided (c : Course) : Nat := c.lines - c.decided

/-- A bed on entry to HALTED: its accumulator stops, its undecided lines are dropped HALT, strip reads not yet kept
end FAIL (R67, R125, R203). -/
def State.haltBed (s : State) (b : Nat) : State :=
  let cs := (s.bed b).courses
  let s := s.cutOverrun b
  let s := forEach cs (fun c s =>
    forEach (List.range c.undecided) (fun _ s => s.dropLine b c.acc 2) s) s
  s.updBed b fun x =>
    { x with
      accOn := false, running := false, courses := [], expo := none, fit := none, gateShut := false, inExcursion := false, checks := [],
      delay := x.delay.filter fun r => r.acc = 0,
      prerollNext := 0,
      read := match x.read with
        | some r => some (if r.phase = 0 then { r with phase := 3, abandoned := true } else r)
        | none => none,
      lastRead := match x.read with
        | some r => if r.phase = 0 then 2 else x.lastRead
        | none => x.lastRead }

/-- Count a stop of a cause in class DEVICE: PROTECTIVE_STOPS all but the owner stop (DEDUCED, log 46). -/
def State.countStop (s : State) (cause : Nat) : State :=
  (s.inc 0x0E 0 (1 + cause) 1).inc 0x0E 0 0 (if cause = 6 then 0 else 1)

/-- A condition of R22 fails: 0 the supplies, 1 the timebase source, 2 no device reset (R23). One breach of a condition is
open at a time. -/
def State.breach (s : State) (condition : Nat) (p : Pos) : State :=
  if s.breaches.any fun b => b.condition = condition ∧ b.ended.isNone then s
  else { s with breaches := s.breaches ++ [{ condition, beganAt := p, beganTime := s.now, ended := none }] }

/-- A condition of R22 holds again. -/
def State.breachEnd (s : State) (condition : Nat) (p : Pos) : State :=
  { s with breaches := s.breaches.map fun b =>
      if b.condition = condition ∧ b.ended.isNone then { b with ended := some (p, s.now) } else b }

/-- Whether every channel in use has its source, where one is selected (R22). -/
def State.sourcesPresent (s : State) : Bool :=
  (List.range 4).all fun c => !s.chanInUse c || decide ((s.chan c).source = .none) || (s.chan c).present

/-- The breach of an absent source ends once every source is present (R23). -/
def State.sourcesAgain (s : State) (c : Nat) : State := if s.sourcesPresent then s.breachEnd 1 (s.chanPos c) else s

/-- Entry to P3 with a source in use absent (R22, R23, R55). -/
def State.sourcesMissing (s : State) : State :=
  forEach (List.range 4) (fun c s =>
    if s.chanInUse c && decide ((s.chan c).source ≠ .none) && !(s.chan c).present then s.breach 1 (s.chanPos c) else s) s

/-! Holding a channel (R88). -/

/-- Hold a channel at its present position (R88). -/
def State.holdChan (s : State) (c : Nat) : State := (s.rebase c).updChan c fun k => { k with held := true }

/-! Device reset (R25, R27). -/

/-- What of a bed outlives a device reset: the valid stored reference sets and graft table. -/
def Bed.kept (x : Bed) : Bed :=
  { refCopies := x.refCopies, graftStored := x.graftStored }

/-- The checkpoint that is written now: the position is that of PC0, as an event that names no channel carries it (R473;
DESIGN CHOICE, log 79). -/
def State.checkpointOf (s : State) (closing : Bool) : Checkpoint :=
  { number := s.checkpointNo + 1, epoch := s.epoch, closing, position := s.chanPos 0, timestamp := s.now,
    totals := s.counters, breaches := s.breaches,
    openRecords := (s.docs.filter Doc.open_).map (·.acc), nextSeq := s.accSeq }

/-- The breaches that a device reset leaves to the next checkpoint, its own among them where an epoch was under way (R22,
R23; DESIGN CHOICE, log 79). One for want of a source ends, since none is selected in BOOT (R55). -/
def State.resetBreaches (s : State) : List Breach :=
  let s := s.breachEnd 1 (s.chanPos 0)
  if s.fwUp then (s.breach 2 (s.chanPos 0)).breaches else s.breaches

/-- Everything back to its reset value, but for what the Herbarium and the KEY domain hold, what comes from outside,
and the model's own fields. BOOT begins (Table MO-2). -/
def State.deviceReset (s : State) : State :=
  { State.reset with
    breaches := s.resetBreaches,
    pending := s.pending, free := s.free, outbox := s.outbox,
    epoch := s.epoch, incarnation := s.incarnation, oldEpoch := s.oldEpoch, fw := s.fw,
    ownerKey := s.ownerKey, charterFloor := s.charterFloor, rollbackFloor := s.rollbackFloor,
    wdPending := s.wdPending, checkpointNo := s.checkpointNo, checkpoints := s.checkpoints, nvs := s.nvs,
    nvsBad := s.nvsBad,
    accSeq := s.accSeq,
    supplies := s.supplies, coverOpen := s.coverOpen, gpioIn := s.gpioIn, blank := s.blank, perst := s.perst,
    junction := s.junction,
    cabs := s.cabs.filterMap fun (c, x) =>
      let y : Cab := { recordKey := x.recordKey, streamKey := x.streamKey }
      if y = {} then none else some (c, y),
    beds := s.beds.filterMap fun (b, x) => if x.kept = {} then none else some (b, x.kept),
    runCfg := s.runNext,
    runNext := s.runNext,
    rootPriority := s.runNext.priority,
    encs := s.encs }

end Sys2Proof.Machine
end

