-- ==== Sys2Proof/Machine/Clocks.lean ====
section
/-! DEFINITION. Which clock domains run (Table CK-1) and CLKOK (R555). -/

namespace Sys2Proof.Machine

def State.plot (s : State) (p : Nat) : Plot := tget {} s.plots p
def State.updPlot (s : State) (p : Nat) (f : Plot → Plot) : State := { s with plots := tupd {} s.plots p f }

/-- The bed a plot serves, 0xFF for none (R329). -/
def State.plotBed (s : State) (p : Nat) : Nat := (s.plot p).assign.getD (p / 4)

def State.port (s : State) (n : Nat) : Port := tget {} s.ports n
def State.updPort (s : State) (n : Nat) (f : Port → Port) : State := { s with ports := tupd {} s.ports n f }

/-- Whether a bed's clocks run: a P3 mode and a configured bed. -/
def State.bedClock (s : State) (b : Nat) : Bool := s.mode.p3 && s.configured b

/-- The domains that a SERVICE diagnostic needs, which the Curator runs while it lasts (R53, Table IN-9). -/
def diagDomains (test u : Nat) : List Nat :=
  if test = 1 then [66 + u / 8] else if test = 2 then [74 + u] else if test = 3 then [82 + u, 90]
  else if test = 4 then [4 + u] else if test = 5 then [26 + u, 30 + u] else if test = 6 then [97] else []

/-- Whether a diagnostic in progress runs a domain. -/
def State.diagRuns (s : State) (d : Nat) : Bool := match s.diag with
  | some q => (diagDomains q.test q.unit).contains d
  | none => false

/-- Whether a port is trained, or in RETRY and training anew: its Runner clocks run in KEEP (Table MO-6; RETRY DEDUCED,
log 76). -/
def State.portLinked (s : State) (p : Nat) : Bool :=
  let t := (s.port p).st
  t == 2 || t == 3 || t == 4 || t == 5

/-- Whether the Curator stops a domain's clock (Tables CK-1 and MO-6), by domain number. In BOOT, TB and DMA do not run,
the host and Runner domains run once firmware starts (R52), and so do those of R53 for the discovery that ends BOOT. What
runs for the length of one command alone, as DMA in KEEP for a write of R58 and the domains of DIAG.DISCOVER, is
`State.starts`. -/
def State.clkStopped (s : State) (d : Nat) : Bool :=
  let dormant := s.mode == .dormant
  let keep := dormant || s.mode == .keep
  let early := s.mode == .boot && !s.fwUp && !s.bootFailed
  let found := s.mode == .boot && s.fwUp
  if d = 0 ∨ s.diagRuns d then false
  else if d = 2 ∨ d = 20 ∨ d = 21 ∨ d = 101 then keep
  else if d = 25 ∨ d = 100 then keep || early
  else if d = 95 ∨ d = 96 then keep || s.mode == .boot
  else if d = 22 then dormant || early || (s.mode == .keep && s.pcieUp)
  else if d = 23 ∨ d = 24 then dormant || early
  else if found ∧ (4 ≤ d ∧ d ≤ 19 ∨ 34 ≤ d ∧ d ≤ 94) then false
  else if 4 ≤ d ∧ d ≤ 19 then !s.mode.p3 || !(decide (s.plotBed (d - 4) < 4) && s.configured (s.plotBed (d - 4)))
  else if 26 ≤ d ∧ d ≤ 29 then
    dormant || early || (s.port (d - 26)).st == 0 || (s.mode == .keep && !s.portLinked (d - 26))
  else if 30 ≤ d ∧ d ≤ 33 then
    dormant || early || !s.runCfg.enable.getLsbD (d - 30) || (s.mode == .keep && !s.portLinked (d - 30))
  else if 34 ≤ d ∧ d ≤ 65 then !s.bedClock ((d - 34) / 8)
  else if 66 ≤ d ∧ d ≤ 69 then !s.bedClock (d - 66)
  else if 70 ≤ d ∧ d ≤ 73 then !s.bedClock (d - 70)
  else if 74 ≤ d ∧ d ≤ 94 then !s.mode.p3
  else dormant

/-- CLKOK of a domain (R555). -/
def State.clkOk (s : State) (d : Nat) : Bool :=
  !s.clkStopped d && !(s.clock d).failed && !(s.clock d).held

/-- CLKOK as the firmware reads it: a failure crosses to CUR as a level, so that it still reads set for a while (R547,
R555; DEDUCED, log 76). -/
def State.clkRead (s : State) (d : Nat) : Bool :=
  s.clkOk d || (!s.clkStopped d && (s.clock d).failed && !(s.clock d).held && decide (s.now < (s.clock d).seen))

/-- The domains of a command that run; those that the Curator has stopped are not entered: a setting for one is held and takes
effect when it starts (DEDUCED, log 20). -/
def State.enters (s : State) (ds : List Nat) : List Nat := ds.filter fun d => !s.clkStopped d

/-- The domains of work for which the Curator starts what it has stopped: a failed one stays without its clock (R53,
R58). -/
def State.starts (s : State) (ds : List Nat) : List Nat :=
  ds.filter fun d => !s.clkStopped d || (s.clock d).failed || (s.clock d).held

/-- Frequency of a domain's clock in Hz (Table CK-1); the port clocks are its line rate over 10 (Table RN-1). -/
def State.clkHz (s : State) (d : Nat) : Nat :=
  if d = 0 then 32768
  else if d = 1 ∨ d = 101 ∨ (d = 3 ∧ s.mode = .keep) then 50000000
  else if d = 2 ∨ d = 3 then 1000000000
  else if 4 ≤ d ∧ d ≤ 19 then 1200000000
  else if d = 20 ∨ d = 21 then 1600000000
  else if d = 22 ∨ d = 23 ∨ d = 96 ∨ (70 ≤ d ∧ d ≤ 73) then 500000000
  else if d = 24 ∨ (34 ≤ d ∧ d ≤ 65) then 60000000
  else if d = 25 then 312500000
  else if 26 ≤ d ∧ d ≤ 33 then [125000, 3906250, 15625000, 62500000].getD (s.port ((d - 26) % 4)).rate 3906250
  else if (66 ≤ d ∧ d ≤ 69) ∨ d = 95 ∨ d = 98 then 200000000
  else if 74 ≤ d ∧ d ≤ 81 then 163840000
  else if 82 ≤ d ∧ d ≤ 89 then 81920000
  else if d = 90 then 10240000
  else if 91 ≤ d ∧ d ≤ 94 then 400000000
  else if d = 97 then 100000000
  else if d = 99 then 25000000
  else 250000000

/-- Stages of a synchroniser into a domain (R547). -/
def State.stages (s : State) (d : Nat) : Nat := if 800000000 < s.clkHz d then 3 else 2

/-- Least and greatest latency of a crossing into a domain, in ns: as many destination cycles as stages, and at most one more
and one of the source (Table CK-2). -/
def State.crossMin (s : State) (dst : Nat) : Nat := (s.stages dst * 10 ^ 9 + s.clkHz dst - 1) / s.clkHz dst
def State.crossMax (s : State) (src dst : Nat) : Nat :=
  ((s.stages dst + 1) * 10 ^ 9 * s.clkHz src + 10 ^ 9 * s.clkHz dst) / (s.clkHz src * s.clkHz dst)

/-- Three cycles of a domain, in 1/64 ns (R549). -/
def State.pulseGap (s : State) (d : Nat) : Nat := (192 * 10 ^ 9 + s.clkHz d - 1) / s.clkHz d

/-! Hold-and-flag crossings (R551). -/

/-- Offer a value to a hold-and-flag crossing, its latencies there and back free within Table CK-2 (DESIGN CHOICE, log
78). -/
def State.cross (s : State) (k src dst : Nat) (v : List Int) : State :=
  let x := s.drawn.toNat
  let lat := s.crossMin dst + x % (s.crossMax src dst - s.crossMin dst + 1)
  let ack := s.crossMin src + x / 65536 % (s.crossMax dst src - s.crossMin src + 1)
  { s.draw with holds := tupd {} s.holds k fun h => h.offer s.now lat ack v }

/-- TB offers its timestamp to PCIe link. -/
def State.stampCross (s : State) : State := s.cross 8 95 23 [(s.now : Int)]

/-- MOTa offers P(n) and P(n + 1) to TB. -/
def State.motCross (s : State) (a : Nat) (p q : Int) : State := s.cross a (74 + a) 95 [p, q]

/-- The timestamp as PCIe link holds it (R552, R558). -/
def State.stampCopy (s : State) : Nat := match (tget {} s.holds 8).value with
  | [t] => t.toNat
  | _ => 0

/-- Events that a pulse crossing could not deliver (R549, R550): its saturating counter and sticky flag, and the OVERRUN
total of the destination domain. Crossing c, c below 8, carries GAUGE_RESET to gauge channel c. -/
def State.overrun (s : State) (c domain n : Nat) : State :=
  if n = 0 then s
  else
    { s with crossings := tupd {} s.crossings c fun k =>
        { k with ovr := true, overrun := BitVec.ofNat 16 (min 65535 (k.overrun.toNat + n)) } }.inc 0x0C domain 0 n

/-- Whether the source of a pulse crossing is 7 ahead of the last count acknowledged, so that it launches nothing (R549). -/
def Crossing.full (k : Crossing) (now : Nat) : Bool := decide (7 ≤ k.acks.length) && k.acks.all fun t => decide (now < t)

/-- Whether a pulse crossing carries an event now: its source may launch it, and three destination cycles, given in 1/64 ns,
have passed since its last delivery (R549). -/
def State.carries (s : State) (c gap : Nat) : Bool :=
  let k : Crossing := tget {} s.crossings c
  !k.full s.now && match k.last with
    | some t => decide (gap ≤ 64 * (s.now - t))
    | none => true

/-- An event that the crossing carries is delivered now. -/
def State.deliveredNow (s : State) (c : Nat) : State :=
  { s with crossings := tupd {} s.crossings c fun k => { k with last := some s.now } }

/-- The source launches an event: its acknowledge is back a crossing there and one back later (R549). -/
def State.launch (s : State) (c src dst : Nat) : State :=
  let least := s.crossMin dst + s.crossMin src
  let back := s.now + least + (Config.ackMore c s.now).toNat % (s.crossMax src dst + s.crossMax dst src - least + 1)
  { s with crossings := tupd {} s.crossings c fun k =>
      { k with acks := (k.acks ++ [back]).drop (k.acks.length + 1 - 7) } }

/-- An event is offered to a pulse crossing: delivered, or counted as an overrun at its source or at its destination
(R549). -/
def State.pulse (s : State) (c src dst : Nat) : State × Bool :=
  if (tget ({} : Crossing) s.crossings c).full s.now then (s.overrun c dst 1, false)
  else if s.carries c (s.pulseGap dst) then ((s.launch c src dst).deliveredNow c, true)
  else ((s.launch c src dst).overrun c dst 1, false)

/-- The crossing of a channel's qualified edges to TB, one per direction (Table CK-3). -/
def edgeCrossing (c : Nat) (fwd : Bool) : Nat := 128 + 2 * c + fwd.toNat

/-- The crossing of a bed's line triggers. -/
def lineCrossing (b : Nat) : Nat := 136 + b

/-- Whether every supply in use lies within its limits and every domain has its clock (Table MO-10, SUPPLY). -/
def State.supplyUsed (s : State) (u : Nat) : Bool :=
  if u = 0 ∨ u = 9 then true
  else if u ≤ 4 then (s.axis (2 * (u - 1))).role != 0 || (s.axis (2 * (u - 1) + 1)).role != 0
  else s.configured (u - 5)

def State.suppliesGood (s : State) : Bool :=
  (List.range 10).all fun u => !(s.supplyUsed u && (s.supply u).outside)

/-- Whether a stop cause is uncleared (Table MO-10, R70): the first still present, in HALT_CAUSES bit order. JAM and
OWNER are cleared by the owner's DEV.MODE itself. -/
def State.causePresent (s : State) (cause : Nat) : Bool :=
  s.haltCauses.getLsbD cause &&
  match cause with
  | 0 => s.coverOpen != 0 || (List.range 4).any fun b => (s.bed b).darkHigh
  | 1 => s.haltSource != 0
  | 3 => (List.range 8).any fun a => (s.axis a).bridgeFault
  | 4 => s.limitUp
  | 5 => !s.suppliesGood || s.clocks.any fun (_, c) => c.failed || c.held
  | _ => false

def State.firstCause (s : State) : Option Nat := (List.range 7).find? fun c => s.causePresent c

end Sys2Proof.Machine
end

