-- ==== Sys2Proof/Machine/Chain.lean ====
section
/-! DEFINITION. The measurement chain of a gauge channel: excitation, demodulator, CIC3 and FIR, the blanking of its
cycles, its STATE and its synchronising reset. Chapter 10. -/

namespace Sys2Proof.Machine

/-! Excitation (R292, R293, R311). A modulator cycle is 97.65625 ns, 6,250 in units of 1/64 ns. -/

/-- INC of R292 at a frequency. -/
def incOf (freq : Nat) : Nat := (2 * freq * 2 ^ 32 + 10240000) / 20480000

/-- The phase of a stretch at an instant. -/
def Excite.phaseAt (e : Excite) (t : Nat) : BitVec 32 := e.phase + BitVec.ofNat 32 (e.inc * ((t - e.at_) / 6250))

/-- The excitation phase of a channel at an instant, in 1/64 ns. -/
def Gauge.phaseAt (x : Gauge) (t : Nat) : BitVec 32 :=
  match x.excite.find? fun e => decide (e.at_ ≤ t) with
  | some e => e.phaseAt t
  | none => 0

/-- The demodulation reference phase: the excitation phase plus PHASE (R293). -/
def Gauge.refPhase (x : Gauge) (t : Nat) : BitVec 32 := x.phaseAt t + BitVec.ofNat 32 (x.cfg.phase * 65536)

/-- Keep the stretches that reach beyond an instant, of a list with the newest first. -/
def exciteSince (t : Nat) : List Excite → List Excite
  | [] => []
  | e :: rest => if e.at_ ≤ t then [e] else e :: exciteSince t rest

/-- From an instant on the excitation has another frequency, its phase continuous (R300, R311). -/
def Gauge.exciteAt (x : Gauge) (t freq : Nat) : Gauge :=
  { x with excite := { at_ := t, phase := x.phaseAt t, inc := incOf freq } :: x.excite }

/-! Blanked cycles (R305, R306). -/

/-- Whether a blanking falls within the modulator cycle that begins at an instant, in 1/64 ns. -/
def Gauge.blankedCycle (x : Gauge) (t : Nat) : Bool :=
  x.blanks.any fun (b, e) => decide (64 * b < t + 6250) && (match e with
    | some e => decide (t < 64 * e)
    | none => true)

/-- Whether some cycle of the output period in progress, up to an instant, is blanked (R307). -/
def Gauge.blankSeen (x : Gauge) (stop : Nat) : Bool :=
  x.blanks.any fun (b, e) => decide (64 * b < stop) && (match e with
    | some e => decide (x.began < 64 * e)
    | none => true)

/-- Note that the channel's cycles are blanked from now on, with the end where it is known, or are blanked no longer. -/
def noteBlanks (now : Nat) (state : Option (Option Nat)) (bs : List (Nat × Option Nat)) : List (Nat × Option Nat) :=
  match state, bs with
  | some e, (b, none) :: rest => (b, e) :: rest
  | some e, (b, some old) :: rest => if now ≤ old then (b, e) :: rest else (now, e) :: (b, some old) :: rest
  | some e, [] => [(now, e)]
  | none, (b, none) :: rest => (b, some now) :: rest
  | none, bs => bs

/-- Since when, and until when if that is known, a channel's modulator cycles are blanked now: an input named in
BLANK_PINS is high, or a check is in progress, its own or one of TONE_BLANK, with its 100 us after the tone (R305). -/
def State.blankState (s : State) (g : Nat) : Option (Option Nat) :=
  let x := s.gauge g
  let from_ := (List.range 8).filter fun c => c == g || x.cfg.toneBlank.getLsbD c
  let tail := from_.foldl (fun m c => max m (s.gauge c).blankUntil) 0
  if (x.cfg.blankPins &&& s.blank) != 0 || from_.any fun c => (s.gauge c).checking then some none
  else if s.now < tail then some (some tail)
  else none

/-- A modulator cycle of a channel is being blanked now. -/
def State.blanking (s : State) (g : Nat) : Bool := (s.blankState g).isSome

/-- Note the blanking of every channel that is enabled. -/
def State.noteBlank (s : State) : State :=
  forEach (List.range 8) (fun g s =>
    if (s.gauge g).cfg.enable then s.updGauge g fun x => { x with blanks := noteBlanks s.now (s.blankState g) x.blanks }
    else s) s

/-! Demodulator and filters (R293, R306, Table GA-2). -/

/-- I and Q of each converted quantity against a reference phase. -/
def modProducts (y : ModCycle) (phase : BitVec 32) : List ℚ :=
  [y.sig, y.ball, y.exc, y.sense].flatMap fun v => [v * Config.refCos phase, v * Config.refSin phase]

def addAll (a b : List ℚ) : List ℚ := List.zipWith (· + ·) a b
def subAll (a b : List ℚ) : List ℚ := List.zipWith (· - ·) a b

/-- One modulator cycle: a blanked one feeds the CIC with the products of the last unblanked cycle (R306); the CIC puts out
every DECIM cycles. -/
def Chain.cycle (c : Chain) (decim : Nat) (blanked : Bool) (ps : List ℚ) : Chain :=
  let held := if blanked then c.held else ps
  let i1 := addAll (c.sums.getD 0 []) held
  let i2 := addAll (c.sums.getD 1 []) i1
  let i3 := addAll (c.sums.getD 2 []) i2
  let c := { c with held, sums := [i1, i2, i3], count := c.count + 1 }
  if c.count < decim then c
  else
    let d1 := subAll i3 (c.combs.getD 0 [])
    let d2 := subAll d1 (c.combs.getD 1 [])
    let d3 := subAll d2 (c.combs.getD 2 [])
    { c with combs := [i3, d1, d2], count := 0, outs := ((d3.map (· / (decim : ℚ) ^ 3)) :: c.outs).take 32 }

/-- Output k of the FIR over the last 32 outputs of the CIC, in nV or nA. -/
def Chain.fir (c : Chain) (k : Nat) : ℚ :=
  (List.range 32).foldl (fun n j => n + Config.firTap (min j (31 - j)) * ((c.outs.getD j []).getD k 0)) 0

/-- The phasors of a sample or a tone (R293 to R295): those of the signal behind the PGA, of the ball voltage, the
excitation current and the sense lines, in V and A as float32 words; whether the PGA or the modulator saturated and whether
the excitation was clipped in any cycle; and the peak excitation current in 0.001 mA. -/
structure GaugePeriod where
  iSig : BitVec 32
  qSig : BitVec 32
  iBall : BitVec 32
  qBall : BitVec 32
  iExc : BitVec 32
  qExc : BitVec 32
  iSense : BitVec 32
  qSense : BitVec 32
  saturated : Bool
  clipped : Bool
  peak : Nat
deriving DecidableEq, Repr

/-- Phasors, with what the cycles themselves show. -/
def periodOf (v : Nat → ℚ) (ys : List ModCycle) : GaugePeriod :=
  let w := fun (k : Nat) => f32OfRat (v k / 1000000000)
  { iSig := w 0, qSig := w 1, iBall := w 2, qBall := w 3, iExc := w 4, qExc := w 5, iSense := w 6, qSense := w 7,
    saturated := ys.any fun y => y.saturated, clipped := ys.any fun y => y.clipped,
    peak := ys.foldl (fun m y => max m (y.exc.natAbs / 1000)) 0 }

/-- 1/64 ns in the output period: 8 x DECIM modulator cycles (R293). -/
def Gauge.period (x : Gauge) : Nat := 8 * x.cfg.decim * 6250

/-- The cycles of an output period, each at its place: one not given is zero. -/
def Gauge.cyclesOf (x : Gauge) (cycles : List ModCycle) : List ModCycle :=
  (List.range (8 * x.cfg.decim)).map fun k => cycles.getD k {}

/-- The chain at the end of an output period. -/
def Gauge.filtered (x : Gauge) (cycles : List ModCycle) : Chain :=
  ((x.cyclesOf cycles).zipIdx).foldl (fun c (y, k) =>
    let t := x.began + 6250 * k
    c.cycle x.cfg.decim (x.blankedCycle t) (modProducts y (x.refPhase t))) x.chain

/-- What an output period gives (R293). -/
def Gauge.formed (x : Gauge) (cycles : List ModCycle) : GaugePeriod :=
  periodOf (x.filtered cycles).fir (x.cyclesOf cycles)

/-- What a tone that ends at an instant gives: the phasors over its last half (R311), as the means of the products
(DESIGN CHOICE, log 84). -/
def Gauge.toneFormed (x : Gauge) (stop : Nat) (cycles : List ModCycle) : GaugePeriod :=
  let n := cycles.length
  let half := (cycles.zipIdx).drop (n / 2)
  let sums := half.foldl (fun m (y, k) => addAll m (modProducts y (x.refPhase (stop - 6250 * (n - k)))))
    (List.replicate 8 (0 : ℚ))
  periodOf (fun k => sums.getD k 0 / (half.length : ℚ)) cycles

/-! Settings that wait for an output period (R300, R318, R319). -/

/-- The settings and coefficients accepted apply, at the instant an output period begins; a change of R300 begins its
INVALID run; a new frequency goes on from the present phase. -/
def Gauge.applyNext (x : Gauge) (t : Nat) : Gauge :=
  let x := match x.coefNext with
    | some c => { x with coef := c, coefNext := none }
    | none => x
  match x.next with
  | none => x
  | some c =>
    let x := { x with
      invalidLeft := if x.changed then 5 else x.invalidLeft, changed := false, checking := x.checking && c.enable }
    let x := if x.checking || x.cfg.freq == c.freq then x else x.exciteAt t c.freq
    { x with cfg := c, next := none }

/-- A channel is running: enabled, in P3, its clocks good (R304, R546). -/
def State.gaugeRuns (s : State) (g : Nat) : Bool :=
  s.mode.p3 && (s.gauge g).cfg.enable && s.clkOk 90 && s.clkOk (82 + g)

/-! STATE (R312 to R314). -/

/-- The first fault present, by STATE, or 0. -/
def Gauge.fault (x : Gauge) : Nat :=
  if x.limit then 3 else if x.openF then 4 else if x.short then 5 else if x.senseOpen then 6 else 0

/-- STATE of Table GA-9. -/
def Gauge.stateCode (x : Gauge) : Nat :=
  if ¬ x.cfg.enable then 0 else if x.fault ≠ 0 then x.fault else if x.verified then 1 else 2

/-- The cabinets of a channel's fault events. -/
def State.gaugeCabs (s : State) (g : Nat) : List Nat :=
  let b := (s.gauge g).cfg.bed
  s.enabledCabs.filter fun c => c == 0 || (decide (b < 4) && s.bedAllowed c b)

/-- An event of a channel, at its bed's channel. -/
def State.evGauge (s : State) (code g aux : Nat) (w2 : BitVec 64) : Ev :=
  let b := (s.gauge g).cfg.bed
  if b < 4 then s.evChan code g aux (s.bed b).chan w2 else s.ev code g aux w2

/-- Write the event of a change of STATE: GAUGE_OK for a return to OK, and GAUGE_FAULT otherwise; a fault is counted
(R314). -/
def State.tellGauge (s : State) (g : Nat) : State :=
  let x := s.gauge g
  let code := x.stateCode
  if code = x.told then s
  else
    let s := s.updGauge g fun x => { x with told := code }
    let s := if 3 ≤ code then s.inc 5 g 5 1 else s
    s.raiseTo (s.gaugeCabs g) (s.evGauge (if code = 1 then 0x0702 else 0x0701) g code (w2 x.zLast))

/-! Running, and the synchronising reset (R301 to R304). -/

/-- The effect of a synchronising reset, and of entry to P3 and of enabling: what was accepted applies, every CIC and FIR
register is cleared, the output period and INDEX restart (R301 to R304). -/
def State.gaugeRestart (s : State) (g : Nat) : State :=
  let s := s.updGauge g fun x =>
    let x := x.applyNext (64 * s.now)
    { x with
      index := 0, began := 64 * s.now, chain := { held := x.chain.held }, invalidLeft := 5, zeroLeft := 5, blanks := [],
      excite := exciteSince (64 * s.now) x.excite, lastValue := 0, lastRatio := 0 }
  s.updGauge g fun x => { x with blanks := noteBlanks s.now (s.blankState g) [] }

/-- The channel is enabled: UNVERIFIED, without a fault, its excitation begins where its phase was left (R313; DESIGN
CHOICE, log 84). Resets that had crossed by then had no effect (R301). -/
def Gauge.enabled (x : Gauge) (now : Nat) : Gauge :=
  { x with
    resets := x.resets.filter fun t => decide (32 * (now - t) < 6250),
    verified := false, openF := false, short := false, senseOpen := false, limit := false, cleanRun := 0,
    checkBegan := none, checking := false }.exciteAt (64 * now) x.cfg.freq

/-- The excitation ends, its phase kept. -/
def Gauge.silent (x : Gauge) (now : Nat) : Gauge :=
  { x with excite := [{ at_ := 64 * now, phase := x.phaseAt (64 * now), inc := 0 }] }

/-- Entry to a P3 mode: every enabled channel begins its excitation and restarts, its first check due at once (R304, R311);
a reset still on its way to the stopped domain is lost and counted (R21). -/
def State.gaugesStart (s : State) : State :=
  let s := { s with gauges := tmap {} s.gauges fun x => { x with checking := false, checkBegan := none } }
  let s := forEach (List.range 8) (fun g s =>
    let lost := (s.gauge g).resets.length
    let s := s.overrun g 90 lost
    let s := if lost = 0 then s else s.updGauge g fun x => { x with resets := [] }
    let s := s.updGauge g fun x =>
      { x with
        cfg := x.next.getD x.cfg, next := none, coef := x.coefNext.getD x.coef,
        coefNext := none, changed := false }
    let s := if (s.gauge g).cfg.enable then
        (s.updGauge g fun x => x.exciteAt (64 * s.now) x.cfg.freq).gaugeRestart g
      else s
    s.tellGauge g) s
  { s with aouts := tmap {} s.aouts fun o => if o.source = 0 then o else { o with driven := o.faultCode } }

/-- Exit from P3: the excitations end, and a check in progress is cut short. -/
def State.gaugesStop (s : State) : State :=
  { s with gauges := tmap {} s.gauges fun x =>
      let x := { x with checking := false }
      if x.excite.isEmpty then x else x.silent s.now }

end Sys2Proof.Machine
end

