-- ==== Sys2Proof/Machine/Codes.lean ====
section
/-! DEFINITION. The codes of the stock kernels T6 and JPEG as their standards define them: ITU-T T.6 with the run codes of
T.4, and the entropy coding of ISO/IEC 10918-1 with the tables of its Annex K. Chapter 13 (R411, log 9). -/

namespace Sys2Proof.Machine

/-- A code of a length and a value as bits, the first highest. -/
def codeBits (c : Nat × Nat) : List Bool := (List.range c.1).map fun i => c.2.testBit (c.1 - 1 - i)

/-! T.6. Codes are (length, value). -/

/-- White runs of 0 to 63. -/
def whiteCodes : List (Nat × Nat) :=
  [(8, 0x35), (6, 0x7), (4, 0x7), (4, 0x8), (4, 0xB), (4, 0xC), (4, 0xE), (4, 0xF)] ++
  [(5, 0x13), (5, 0x14), (5, 0x7), (5, 0x8), (6, 0x8), (6, 0x3), (6, 0x34), (6, 0x35)] ++
  [(6, 0x2A), (6, 0x2B), (7, 0x27), (7, 0xC), (7, 0x8), (7, 0x17), (7, 0x3), (7, 0x4)] ++
  [(7, 0x28), (7, 0x2B), (7, 0x13), (7, 0x24), (7, 0x18), (8, 0x2), (8, 0x3), (8, 0x1A)] ++
  [(8, 0x1B), (8, 0x12), (8, 0x13), (8, 0x14), (8, 0x15), (8, 0x16), (8, 0x17), (8, 0x28)] ++
  [(8, 0x29), (8, 0x2A), (8, 0x2B), (8, 0x2C), (8, 0x2D), (8, 0x4), (8, 0x5), (8, 0xA)] ++
  [(8, 0xB), (8, 0x52), (8, 0x53), (8, 0x54), (8, 0x55), (8, 0x24), (8, 0x25), (8, 0x58)] ++
  [(8, 0x59), (8, 0x5A), (8, 0x5B), (8, 0x4A), (8, 0x4B), (8, 0x32), (8, 0x33), (8, 0x34)]

/-- Black runs of 0 to 63. -/
def blackCodes : List (Nat × Nat) :=
  [(10, 0x37), (3, 0x2), (2, 0x3), (2, 0x2), (3, 0x3), (4, 0x3), (4, 0x2), (5, 0x3)] ++
  [(6, 0x5), (6, 0x4), (7, 0x4), (7, 0x5), (7, 0x7), (8, 0x4), (8, 0x7), (9, 0x18)] ++
  [(10, 0x17), (10, 0x18), (10, 0x8), (11, 0x67), (11, 0x68), (11, 0x6C), (11, 0x37), (11, 0x28)] ++
  [(11, 0x17), (11, 0x18), (12, 0xCA), (12, 0xCB), (12, 0xCC), (12, 0xCD), (12, 0x68), (12, 0x69)] ++
  [(12, 0x6A), (12, 0x6B), (12, 0xD2), (12, 0xD3), (12, 0xD4), (12, 0xD5), (12, 0xD6), (12, 0xD7)] ++
  [(12, 0x6C), (12, 0x6D), (12, 0xDA), (12, 0xDB), (12, 0x54), (12, 0x55), (12, 0x56), (12, 0x57)] ++
  [(12, 0x64), (12, 0x65), (12, 0x52), (12, 0x53), (12, 0x24), (12, 0x37), (12, 0x38), (12, 0x27)] ++
  [(12, 0x28), (12, 0x58), (12, 0x59), (12, 0x2B), (12, 0x2C), (12, 0x5A), (12, 0x66), (12, 0x67)]

/-- White runs of 64 to 1,728, in steps of 64. -/
def whiteMakeup : List (Nat × Nat) :=
  [(5, 0x1B), (5, 0x12), (6, 0x17), (7, 0x37), (8, 0x36), (8, 0x37), (8, 0x64), (8, 0x65)] ++
  [(8, 0x68), (8, 0x67), (9, 0xCC), (9, 0xCD), (9, 0xD2), (9, 0xD3), (9, 0xD4), (9, 0xD5)] ++
  [(9, 0xD6), (9, 0xD7), (9, 0xD8), (9, 0xD9), (9, 0xDA), (9, 0xDB), (9, 0x98), (9, 0x99)] ++
  [(9, 0x9A), (6, 0x18), (9, 0x9B)]

/-- Black runs of 64 to 1,728, in steps of 64. -/
def blackMakeup : List (Nat × Nat) :=
  [(10, 0xF), (12, 0xC8), (12, 0xC9), (12, 0x5B), (12, 0x33), (12, 0x34), (12, 0x35), (13, 0x6C)] ++
  [(13, 0x6D), (13, 0x4A), (13, 0x4B), (13, 0x4C), (13, 0x4D), (13, 0x72), (13, 0x73), (13, 0x74)] ++
  [(13, 0x75), (13, 0x76), (13, 0x77), (13, 0x52), (13, 0x53), (13, 0x54), (13, 0x55), (13, 0x5A)] ++
  [(13, 0x5B), (13, 0x64), (13, 0x65)]

/-- Runs of 1,792 to 2,560, in steps of 64, of both colours. -/
def longMakeup : List (Nat × Nat) :=
  [(11, 0x8), (11, 0xC), (11, 0xD), (12, 0x12), (12, 0x13), (12, 0x14), (12, 0x15), (12, 0x16)] ++
  [(12, 0x17), (12, 0x1C), (12, 0x1D), (12, 0x1E), (12, 0x1F)]

/-- A run of a colour, true for black. -/
def t6Run (black : Bool) (n : Nat) : List Bool :=
  let r := n % 2560
  let m := r / 64
  (List.replicate (n / 2560) (codeBits (longMakeup.getD 12 (0, 0)))).flatten ++
    (if m = 0 then [] else codeBits (if 28 ≤ m then longMakeup.getD (m - 28) (0, 0)
      else (if black then blackMakeup else whiteMakeup).getD (m - 1) (0, 0))) ++
    codeBits ((if black then blackCodes else whiteCodes).getD (r % 64) (0, 0))

/-- The changing elements of a line from column i, the colour before it c: column and colour. -/
def changesFrom (i : Nat) (c : Bool) : List Bool → List (Nat × Bool)
  | [] => []
  | x :: t => if x = c then changesFrom (i + 1) c t else (i, x) :: changesFrom (i + 1) x t

/-- The first changing element from a column on, or the column after the line. -/
def nextChange (w : Nat) (l : List (Nat × Bool)) (lo : Nat) : Nat :=
  match l.find? fun x => lo ≤ x.1 with
  | some x => x.1
  | none => w

/-- The code of vertical mode where a1 lies by `d` from b1. -/
def verticalCode (d : Int) : List Bool :=
  codeBits (if d = 0 then (1, 1) else if d = 1 then (3, 3) else if d = 2 then (6, 3) else if d = 3 then (7, 3)
    else if d = -1 then (3, 2) else if d = -2 then (6, 2) else (7, 2))

/-- The codes of a line of w columns from a0 on, in colour c: `lo` is a0 + 1, and 0 at the start of the line. -/
def t6From (w : Nat) (ref cur : List (Nat × Bool)) (fuel lo : Nat) (c : Bool) : List Bool :=
  match fuel with
  | 0 => []
  | fuel + 1 =>
    if w < lo then []
    else
      let a1 := nextChange w cur lo
      let b1 := nextChange w (ref.filter fun x => x.2 != c) lo
      let b2 := nextChange w ref (b1 + 1)
      if b2 < a1 then codeBits (4, 1) ++ t6From w ref cur fuel (b2 + 1) c
      else if a1 ≤ b1 + 3 ∧ b1 ≤ a1 + 3 then verticalCode ((a1 : Int) - b1) ++ t6From w ref cur fuel (a1 + 1) (!c)
      else
        let a2 := nextChange w cur (a1 + 1)
        codeBits (3, 1) ++ t6Run c (a1 - (lo - 1)) ++ t6Run (!c) (a2 - a1) ++ t6From w ref cur fuel (a2 + 1) c

/-- A line under T.6 against the line before it, true for black. -/
def t6Code (prev cur : List Bool) : List Bool :=
  t6From cur.length (changesFrom 0 false prev) (changesFrom 0 false cur) (cur.length + 1) 0 false

/-- EOFB of T.6. -/
def t6Eofb : List Bool := codeBits (24, 0x001001)

/-! JPEG. -/

/-- The quantisation tables of Annex K, by rows. -/
def lumQuant : List Nat :=
  [16, 11, 10, 16, 24, 40, 51, 61] ++
  [12, 12, 14, 19, 26, 58, 60, 55] ++
  [14, 13, 16, 24, 40, 57, 69, 56] ++
  [14, 17, 22, 29, 51, 87, 80, 62] ++
  [18, 22, 37, 56, 68, 109, 103, 77] ++
  [24, 35, 55, 64, 81, 104, 113, 92] ++
  [49, 64, 78, 87, 103, 121, 120, 101] ++
  [72, 92, 95, 98, 112, 100, 103, 99]

/-- For Cb and Cr. -/
def chromQuant : List Nat :=
  [17, 18, 24, 47, 99, 99, 99, 99] ++
  [18, 21, 26, 66, 99, 99, 99, 99] ++
  [24, 26, 56, 99, 99, 99, 99, 99] ++
  [47, 66, 99, 99, 99, 99, 99, 99] ++
  [99, 99, 99, 99, 99, 99, 99, 99] ++
  [99, 99, 99, 99, 99, 99, 99, 99] ++
  [99, 99, 99, 99, 99, 99, 99, 99] ++
  [99, 99, 99, 99, 99, 99, 99, 99]

/-- The symbols of the typical Huffman tables of Annex K, by rising length of their codes. -/
def lumAcSymbols : List Nat :=
  [0x01, 0x02, 0x03, 0x00, 0x04, 0x11, 0x05, 0x12, 0x21, 0x31, 0x41, 0x06, 0x13, 0x51, 0x61, 0x07] ++
  [0x22, 0x71, 0x14, 0x32, 0x81, 0x91, 0xA1, 0x08, 0x23, 0x42, 0xB1, 0xC1, 0x15, 0x52, 0xD1, 0xF0] ++
  [0x24, 0x33, 0x62, 0x72, 0x82, 0x09, 0x0A, 0x16, 0x17, 0x18, 0x19, 0x1A, 0x25, 0x26, 0x27, 0x28] ++
  [0x29, 0x2A, 0x34, 0x35, 0x36, 0x37, 0x38, 0x39, 0x3A, 0x43, 0x44, 0x45, 0x46, 0x47, 0x48, 0x49] ++
  [0x4A, 0x53, 0x54, 0x55, 0x56, 0x57, 0x58, 0x59, 0x5A, 0x63, 0x64, 0x65, 0x66, 0x67, 0x68, 0x69] ++
  [0x6A, 0x73, 0x74, 0x75, 0x76, 0x77, 0x78, 0x79, 0x7A, 0x83, 0x84, 0x85, 0x86, 0x87, 0x88, 0x89] ++
  [0x8A, 0x92, 0x93, 0x94, 0x95, 0x96, 0x97, 0x98, 0x99, 0x9A, 0xA2, 0xA3, 0xA4, 0xA5, 0xA6, 0xA7] ++
  [0xA8, 0xA9, 0xAA, 0xB2, 0xB3, 0xB4, 0xB5, 0xB6, 0xB7, 0xB8, 0xB9, 0xBA, 0xC2, 0xC3, 0xC4, 0xC5] ++
  [0xC6, 0xC7, 0xC8, 0xC9, 0xCA, 0xD2, 0xD3, 0xD4, 0xD5, 0xD6, 0xD7, 0xD8, 0xD9, 0xDA, 0xE1, 0xE2] ++
  [0xE3, 0xE4, 0xE5, 0xE6, 0xE7, 0xE8, 0xE9, 0xEA, 0xF1, 0xF2, 0xF3, 0xF4, 0xF5, 0xF6, 0xF7, 0xF8] ++
  [0xF9, 0xFA]

/-- For Cb and Cr. -/
def chromAcSymbols : List Nat :=
  [0x00, 0x01, 0x02, 0x03, 0x11, 0x04, 0x05, 0x21, 0x31, 0x06, 0x12, 0x41, 0x51, 0x07, 0x61, 0x71] ++
  [0x13, 0x22, 0x32, 0x81, 0x08, 0x14, 0x42, 0x91, 0xA1, 0xB1, 0xC1, 0x09, 0x23, 0x33, 0x52, 0xF0] ++
  [0x15, 0x62, 0x72, 0xD1, 0x0A, 0x16, 0x24, 0x34, 0xE1, 0x25, 0xF1, 0x17, 0x18, 0x19, 0x1A, 0x26] ++
  [0x27, 0x28, 0x29, 0x2A, 0x35, 0x36, 0x37, 0x38, 0x39, 0x3A, 0x43, 0x44, 0x45, 0x46, 0x47, 0x48] ++
  [0x49, 0x4A, 0x53, 0x54, 0x55, 0x56, 0x57, 0x58, 0x59, 0x5A, 0x63, 0x64, 0x65, 0x66, 0x67, 0x68] ++
  [0x69, 0x6A, 0x73, 0x74, 0x75, 0x76, 0x77, 0x78, 0x79, 0x7A, 0x82, 0x83, 0x84, 0x85, 0x86, 0x87] ++
  [0x88, 0x89, 0x8A, 0x92, 0x93, 0x94, 0x95, 0x96, 0x97, 0x98, 0x99, 0x9A, 0xA2, 0xA3, 0xA4, 0xA5] ++
  [0xA6, 0xA7, 0xA8, 0xA9, 0xAA, 0xB2, 0xB3, 0xB4, 0xB5, 0xB6, 0xB7, 0xB8, 0xB9, 0xBA, 0xC2, 0xC3] ++
  [0xC4, 0xC5, 0xC6, 0xC7, 0xC8, 0xC9, 0xCA, 0xD2, 0xD3, 0xD4, 0xD5, 0xD6, 0xD7, 0xD8, 0xD9, 0xDA] ++
  [0xE2, 0xE3, 0xE4, 0xE5, 0xE6, 0xE7, 0xE8, 0xE9, 0xEA, 0xF2, 0xF3, 0xF4, 0xF5, 0xF6, 0xF7, 0xF8] ++
  [0xF9, 0xFA]

/-- How many codes have each length, 1 to 16. -/
def lumAcCounts : List Nat := [0, 2, 1, 3, 3, 2, 4, 3, 5, 5, 4, 4, 0, 0, 1, 125]
/-- For Cb and Cr. -/
def chromAcCounts : List Nat := [0, 2, 1, 2, 4, 4, 3, 4, 7, 5, 4, 4, 0, 1, 2, 119]
/-- Of the DC symbols. -/
def lumDcCounts : List Nat := [0, 1, 5, 1, 1, 1, 1, 1, 1, 0, 0, 0, 0, 0, 0, 0]
/-- Of the DC symbols of Cb and Cr. -/
def chromDcCounts : List Nat := [0, 3, 1, 1, 1, 1, 1, 1, 1, 1, 1, 0, 0, 0, 0, 0]

/-- The codes of a table in the order of its symbols: each length continues from the codes of the shorter ones. -/
def huffCodes (counts : List Nat) : List (Nat × Nat) :=
  ((counts.zipIdx 1).foldl (fun (out, code) (n, len) =>
    (out ++ (List.range n).map fun i => (len, code + i), 2 * (code + n))) (([] : List (Nat × Nat)), 0)).1

/-- The code of a symbol. -/
def huffCode (counts symbols : List Nat) (sym : Nat) : List Bool :=
  codeBits ((huffCodes counts).getD (symbols.idxOf sym) (0, 0))

/-- A quantisation table at a QUALITY (R411). -/
def scaledQuant (quality : Nat) (table : List Nat) : List Nat :=
  let s := if quality < 50 then 5000 / quality else 200 - 2 * quality
  table.map fun q => max 1 (min 255 ((q * s + 50) / 100))

/-- Bits of a magnitude. -/
def magnitudeSize (v : Int) : Nat := if v = 0 then 0 else Nat.log2 v.natAbs + 1

/-- The bits that follow a symbol: a negative value less one, in two's complement. -/
def magnitudeBits (v : Int) : List Bool :=
  let n := magnitudeSize v
  codeBits (n, (if v < 0 then v + 2 ^ n - 1 else v).toNat)

/-- The AC coefficients of a block from one on, in zigzag order, `run` zeros before them. -/
def acBits (counts symbols : List Nat) (run : Nat) : List Int → List Bool
  | [] => if run = 0 then [] else huffCode counts symbols 0
  | v :: t =>
    if v = 0 then acBits counts symbols (run + 1) t
    else (List.replicate (run / 16) (huffCode counts symbols 0xF0)).flatten ++
      huffCode counts symbols (16 * (run % 16) + magnitudeSize v) ++ magnitudeBits v ++ acBits counts symbols 0 t

/-- A block of 64 quantised coefficients in zigzag order, after a block of the same component whose DC was `pred`. -/
def blockBits (chroma : Bool) (pred : Int) (coefs : List Int) : List Bool :=
  let d := coefs.headD 0 - pred
  huffCode (if chroma then chromDcCounts else lumDcCounts) (List.range 12) (magnitudeSize d) ++ magnitudeBits d ++
    (if chroma then acBits chromAcCounts chromAcSymbols 0 (coefs.drop 1) else acBits lumAcCounts lumAcSymbols 0 (coefs.drop 1))

/-- The bits of a run of MCUs, each one block of every component, the DC predictions 0 before the first. -/
def mcuBits (pred : List Int) : List (List (List Int)) → List Bool
  | [] => []
  | m :: t =>
    (m.zipIdx.flatMap fun (b, i) => blockBits (decide (0 < i)) (pred.getD i 0) b) ++ mcuBits (m.map fun b => b.headD 0) t

/-- Code bits as bytes, filled with ones, a zero byte after each of all ones. -/
def stuffed (bs : List Bool) : List Byte :=
  (List.range (ceilDiv bs.length 8)).flatMap fun i =>
    let b := BitVec.ofNat 8 ((List.range 8).foldl (fun n j => 2 * n + (bs.getD (8 * i + j) true).toNat) 0)
    if b = 0xFF#8 then [b, 0] else [b]

/-- The MCUs of one restart interval (R411): `comps` its components' lines of 8-bit samples as selected. Three components
are taken as Y, Cb and Cr. The conversion, and the coefficients that a block quantises to, the standards leave to an
implementation: they are free values (PRESUMED, log 9). -/
def jpegMcus (quality : Nat) (comps : List (List (List Nat))) : List (List (List Int)) :=
  let comps := if comps.length = 3 then Config.jpegColour comps else comps
  let width := ((comps.headD []).headD []).length
  (List.range (width / 8)).map fun m =>
    comps.zipIdx.map fun (c, i) =>
      let block := Config.jpegCoefs (scaledQuant quality (if i = 0 then lumQuant else chromQuant))
        (c.map fun (ln : List Nat) => (ln.drop (8 * m)).take 8)
      ((block ++ List.replicate 64 0).take 64).map fun v => max (-1023) (min 1023 v)

/-- One restart interval without its marker; `dcOnly` sets every AC coefficient to 0. -/
def jpegInterval (dcOnly : Bool) (quality : Nat) (comps : List (List (List Nat))) : List Byte :=
  stuffed (mcuBits [] ((jpegMcus quality comps).map fun m =>
    m.map fun b => if dcOnly then b.take 1 ++ List.replicate 63 0 else b))

/-- Places of the zigzag sequence of a block. -/
def zigzag : List Nat :=
  [0, 1, 8, 16, 9, 2, 3, 10, 17, 24, 32, 25, 18, 11, 4, 5, 12, 19, 26, 33, 40, 48] ++
  [41, 34, 27, 20, 13, 6, 7, 14, 21, 28, 35, 42, 49, 56, 57, 50, 43, 36, 29, 22, 15] ++
  [23, 30, 37, 44, 51, 58, 59, 52, 45, 38, 31, 39, 46, 53, 60, 61, 54, 47, 55, 62, 63]

/-- A marker segment: its length counts itself and what follows. -/
def jpegSegment (marker : BitVec 8) (body : List Nat) : List Byte :=
  [0xFF, marker] ++ ([(body.length + 2) / 256, (body.length + 2) % 256] ++ body).map fun n => BitVec.ofNat 8 n

/-- What DOC_BEGIN places before a JPEG's intervals: SOI, DQT, DHT, SOF0 with a line count of 0, DRI and SOS (R411). The
luminance tables have the destination 0 and component 1; with three components Cb and Cr are 2 and 3 and use the others, of
destination 1. One DQT and one DHT carry every table in use (DESIGN CHOICE, log 101). -/
def jpegHead (quality width comps mcus : Nat) : List Byte :=
  let cs := List.range comps
  let tables := if comps = 1 then [0] else [0, 1]
  let quant := fun t => scaledQuant quality (if t = 0 then lumQuant else chromQuant)
  let huff := fun t =>
    [t] ++ (if t = 0 then lumDcCounts else chromDcCounts) ++ List.range 12 ++ [16 + t] ++
      (if t = 0 then lumAcCounts ++ lumAcSymbols else chromAcCounts ++ chromAcSymbols)
  [0xFF, 0xD8] ++ jpegSegment 0xDB (tables.flatMap fun t => t :: zigzag.map fun z => (quant t).getD z 0) ++
    jpegSegment 0xC4 (tables.flatMap huff) ++
    jpegSegment 0xC0 ([8, 0, 0, width / 256, width % 256, comps] ++ cs.flatMap fun c => [c + 1, 0x11, min c 1]) ++
    jpegSegment 0xDD [mcus / 256, mcus % 256] ++
    jpegSegment 0xDA ([comps] ++ (cs.flatMap fun c => [c + 1, 17 * min c 1]) ++ [0, 63, 0])

/-- The trailer of R411: DNL carrying HEIGHT, then EOI. -/
def jpegTail (height : Nat) : List Byte :=
  [0xFF, 0xDC, 0x00, 0x04, BitVec.ofNat 8 (height / 256), BitVec.ofNat 8 height, 0xFF, 0xD9]

end Sys2Proof.Machine
end

