-- ==== Sys2Proof/Machine/Mailbox.lean ====
section
/-! DEFINITION. The mailbox: rings, turns, parcels, the order of checks, the commit and the response. Chapter 15. -/

namespace Sys2Proof.Machine

/-! Errors (Tables MB-8 and MB-9). -/

/-- A code of Table MB-9 with its DETAIL and INDEX. -/
structure Err where
  code : Nat
  detail : Nat
  index : Nat := 0
deriving DecidableEq, Repr

/-- DETAIL of class FIELD, SUBJECT, DOMAIN, CAUSE and SUPPLY (R462). -/
def dField (off : Nat) : Nat := 0x1000 + off
def dSubject (n : Nat) : Nat := 0x2000 + n
def dDomain (d : Nat) : Nat := 0x3000 + d
def dCause (c : Nat) : Nat := 0x4000 + c
def dSupply (u : Nat) : Nat := 0x5000 + u

def eLength : Err := { code := 0x02, detail := 0 }
def eValue (off : Nat) : Err := { code := 0x03, detail := dField off }
def eCharter (off : Nat) : Err := { code := 0x05, detail := dField off }
def eState (off : Nat) : Err := { code := 0x04, detail := dField off }
def eBusy (off : Nat) : Err := { code := 0x09, detail := dField off }
def eQuota : Err := { code := 0x06, detail := 0 }
def eResource : Err := { code := 0x07, detail := 0 }

/-- A check: the error unless the condition holds. -/
def need (ok : Bool) (e : Err) : Option Err := if ok then none else some e

/-- A command as its checks see it: mailbox, slot, cabinet, and the parameters. -/
structure Req where
  m : Nat
  n : Nat
  cab : Nat
  tag : Nat
  result : Nat
  p : List Byte
deriving DecidableEq, Repr

def Req.u8 (r : Req) (off : Nat) : Nat := fieldU r.p off 1
def Req.u16 (r : Req) (off : Nat) : Nat := fieldU r.p off 2
def Req.u32 (r : Req) (off : Nat) : Nat := fieldU r.p off 4
def Req.u64 (r : Req) (off : Nat) : Nat := fieldU r.p off 8
def Req.s16 (r : Req) (off : Nat) : Int := fieldS r.p off 2
def Req.s32 (r : Req) (off : Nat) : Int := fieldS r.p off 4
def Req.s64 (r : Req) (off : Nat) : Int := fieldS r.p off 8
def Req.pos (r : Req) (off : Nat) : Pos := BitVec.ofNat 64 (r.u64 off)

/-- A value within a range. -/
def inR (lo v hi : Nat) : Bool := decide (lo ≤ v ∧ v ≤ hi)
def inI (lo v hi : Int) : Bool := decide (lo ≤ v ∧ v ≤ hi)

/-- A reserved field of n bytes must be 0 (R6). -/
def Req.zero (r : Req) (off n : Nat) : Option Err := need (fieldU r.p off n == 0) (eValue off)

/-- The bits of a byte from a place upward are reserved (R6). -/
def Req.bitsBelow (r : Req) (off k : Nat) : Option Err := need (decide (r.u8 off < 2 ^ k)) (eValue off)

/-- What a commit leaves: the state, the result, and writes to host memory (R454). -/
structure Done where
  s : State
  result : List Byte := []
  writes : List (Nat × List Byte) := []

/-- A command of Table MB-10. -/
structure Cmd where
  op : Nat
  /-- DETAIL of E_CHARTER when only cabinet 0 may issue it. -/
  owner : Option Nat := none
  /-- Legal modes (Table MB-10), given the parameters. -/
  legal : Mode → Req → Bool
  bootFail : Bool := false
  modeErr : Nat := 0x2001
  len : Req → Nat → Bool
  /-- Whether its result is longer than 16 bytes. -/
  long : Bool := false
  /-- Whether its commit writes to host memory beside a long result. -/
  writes : Bool := false
  charter : State → Req → List (Option Err) := fun _ _ => []
  value : State → Req → List (Option Err) := fun _ _ => []
  reserved : Req → List (Option Err) := fun _ => []
  /-- Clock domains the commit enters (R555). -/
  domains : State → Req → List Nat := fun _ _ => []
  state : State → Req → List (Option Err) := fun _ _ => []
  quota : State → Req → List (Option Err) := fun _ _ => []
  resource : State → Req → List (Option Err) := fun _ _ => []
  busy : State → Req → List (Option Err) := fun _ _ => []
  /-- What makes the commit itself fail: an E_FAULT that changes no state (R461). -/
  fault : State → Req → List (Option Err) := fun _ _ => []
  /-- DEV.MODE is governed by R45, not R464. -/
  isMode : Bool := false
  commit : State → Req → Done
  /-- What follows the answer. -/
  after : State → State := id

/-! Legal modes (Table MB-10). -/

def mAny : Mode → Req → Bool := fun m _ => m != .dormant
def mAnyNotBoot : Mode → Req → Bool := fun m _ => m != .dormant && m != .boot
def mSet (m : Mode) : Bool := m == .idle || m == .armed || m == .calibrate
def mRun (m : Mode) : Bool := m == .armed || m == .calibrate || m == .capture || m == .paused || m == .drain
def mSetRun : Mode → Req → Bool := fun m _ => mSet m || mRun m
def lenIs (n : Nat) : Req → Nat → Bool := fun _ l => l == n
/-- A layout whose length its own bytes give; those of a parcel that failed are not known. -/
def lenBy (lo hi : Nat) (f : Req → Nat) : Req → Nat → Bool := fun r l =>
  if 48 < l ∧ r.p = [] then inR lo l hi else inR lo l hi && l == f r

/-! Turns (R455). -/

/-- Whether the mailbox answers at all (R465). -/
def State.serves (s : State) : Bool :=
  s.mode != .dormant && (s.mode != .boot || s.fwUp || s.bootFailed)

/-- The mailbox and slot of a rung command: key / 4 and key mod 4. -/
def State.copyOf (s : State) (k : Nat) : List Byte := (s.slot (k / 4) (k % 4)).copy
def opOf (copy : List Byte) : Nat := fieldU copy 0 2
def lenOf (copy : List Byte) : Nat := fieldU copy 4 4

/-- The oldest rung command of a cabinet. -/
def State.oldest (s : State) (c : Nat) : Option Nat := s.rung.find? fun k => s.cabOfMbx (k / 4) == some c

/-- The command checked next: the oldest of the next cabinet above the last served, wrapping past 255, that is not
still fetching its parcel; none while the commit of one hangs (R554). -/
def State.nextCommand (s : State) : Option Nat :=
  if !s.serves || s.hung.isSome then none
  else ((List.range 256).map fun i => (s.turn + 1 + i) % 256).findSome? fun c =>
    match s.oldest c with
    | some k => match (s.slot (k / 4) (k % 4)).parcel with
      | .fetching _ => none
      | _ => some k
    | none => none

/-- The opcodes of Table MB-10. -/
def opcodes : List Nat :=
  [0x0101, 0x0102, 0x0103, 0x0104, 0x0105, 0x0106, 0x0107, 0x0108, 0x0109,
   0x0201, 0x0202, 0x0203, 0x0204, 0x0205, 0x0206, 0x0301, 0x0302, 0x0303, 0x0304,
   0x0401, 0x0402, 0x0403, 0x0404, 0x0405, 0x0501, 0x0502, 0x0503] ++
  [0x0601, 0x0602, 0x0603, 0x0604, 0x0605, 0x0606, 0x0607, 0x0608, 0x0609, 0x060A, 0x060B, 0x060C,
   0x0701, 0x0702, 0x0703, 0x0704, 0x0705, 0x0706, 0x0801, 0x0802, 0x0803, 0x0804,
   0x0901, 0x0902, 0x0903, 0x0A01, 0x0A02, 0x0A03, 0x0A04, 0x0A05] ++
  [0x0B01, 0x0B02, 0x0B03, 0x0C01, 0x0C02, 0x0C03, 0x0D01, 0x0D02, 0x0D03, 0x0E01, 0x0E02]

/-! Responses (R452, R453). -/

/-- A response slot's bytes (Table MB-6). -/
def responseBytes (tag op code flags detail index : Nat) (result : List Byte) : List Byte :=
  leBytes 2 tag ++ leBytes 2 op ++ leBytes 1 code ++ leBytes 1 flags ++ leBytes 2 detail ++ leBytes 2 index ++
    leBytes 2 0 ++ leBytes 4 result.length ++ padTo 16 result

/-- DOORBELL as it reads (Table MB-4). -/
def State.doorbellWord (s : State) (m : Nat) : Nat :=
  ((List.range 4).map fun n => let x := s.slot m n
    x.posted.toNat * 2 ^ (8 + n) + x.done.toNat * 2 ^ (16 + n)).foldl (· + ·) ((s.mbx m).stray.toNat * 2 ^ 31)

/-- Write response slot n, clear POSTED and set DONE, and signal (R452); on USB a RESPONSE frame goes with it (R506). -/
def State.answer (s : State) (m n : Nat) (resp : List Byte) : State :=
  let s := s.updSlot m n fun x => { x with response := resp, posted := false, done := true, parcel := .absent }
  let s := { s with rung := s.rung.filter (· ≠ 4 * m + n) }
  let s := if m = 256 then
      (s.useSlots 256 1).usbSend (.frame 0x84 0 0 (BitVec.ofNat 64 (0x300 + 32 * n)) 36 (resp ++ leBytes 4 (s.doorbellWord m)))
    else s
  let ctrl := (s.mbx m).respCtrl
  if ctrl.getLsbD 8 then s.signal m (bits ctrl.toNat 5 0) else s

/-- Answer a failed command: only COMMANDS_FAILED and its breakdown count it (R461). -/
def State.answerErr (s : State) (m n : Nat) (cab : Option Nat) (e : Err) : State :=
  let copy := (s.slot m n).copy
  let s := match cab with
    | some c => ({ s with turn := c }.inc 8 c 1 1).inc 8 c (1 + e.code) 1
    | none => s
  s.answer m n (responseBytes (fieldU copy 2 2) (opOf copy) e.code 0 e.detail e.index [])

/-- Answer commands whose turn it is and whose opcode is not in Table MB-10 (stage 1). -/
def State.settle (fuel : Nat) (s : State) : State :=
  match fuel with
  | 0 => s
  | fuel + 1 =>
    match s.nextCommand with
    | none => s
    | some k =>
      if opcodes.contains (opOf (s.copyOf k)) then s
      else State.settle fuel (s.answerErr (k / 4) (k % 4) (s.cabOfMbx (k / 4)) { code := 0x01, detail := 0 })

def State.settled (s : State) : State := State.settle s.rung.length s

/-! Checks (R460). -/

/-- Whether a parcel address and length keep R459. -/
def parcelOk (copy : List Byte) : Bool :=
  let a := fieldU copy 16 8
  a != 0 && a % 8 == 0 && decide (lenOf copy ≤ 65536)

/-- The request a rung command makes. -/
def State.reqOf (s : State) (m n c : Nat) : Req :=
  let x := s.slot m n
  { m, n, cab := c, tag := fieldU x.copy 2 2, result := fieldU x.copy 8 8,
    p := if lenOf x.copy ≤ 48 then (x.copy.drop 16).take (lenOf x.copy)
      else match x.parcel with
        | .got bs => padTo (lenOf x.copy) bs
        | _ => [] }

/-- Whether a parcel has arrived. -/
def Parcel.arrived : Parcel → Bool
  | .got _ => true
  | _ => false

/-- Stage 2. -/
def stage2 (cmd : Cmd) (x : Slot) (r : Req) : List (Option Err) :=
  let l := lenOf x.copy
  [need (cmd.len r l) eLength,
   need (!cmd.long || (r.result != 0 && r.result % 8 == 0)) { code := 0x02, detail := dSubject 6 },
   need (decide (l ≤ 48) || parcelOk x.copy) { code := 0x08, detail := 1 },
   need (decide (l ≤ 48) || x.parcel.arrived) { code := 0x08, detail := 2 }]

/-- The domains that a command's commit enters; a result longer than 16 bytes, and any other write to host memory, goes
through DMA (R58). -/
def Cmd.entered (cmd : Cmd) (s : State) (r : Req) : List Nat :=
  cmd.domains s r ++ (if cmd.long || cmd.writes then s.starts [96] else [])

/-- Every check of a command in the order of R460: the first that fails. -/
def checkCmd (cmd : Cmd) (x : Slot) (r : Req) (s : State) : Option Err :=
  firstErr (stage2 cmd x r ++
    [match cmd.owner with
      | some d => need (r.cab == 0) { code := 0x05, detail := d }
      | none => none] ++
    cmd.charter s r ++ cmd.value s r ++ cmd.reserved r ++
    [need (if s.bootFailed then cmd.bootFail else cmd.legal s.mode r) { code := 0x04, detail := cmd.modeErr }] ++
    (cmd.entered s r).map (fun d => need (s.clkRead d) { code := 0x04, detail := dDomain d }) ++
    cmd.state s r ++ cmd.quota s r ++ cmd.resource s r ++ cmd.busy s r ++
    [match s.change with
      | some c => need (cmd.isMode || cmd.legal c.target r) { code := 0x09, detail := dSubject 1 }
      | none => none] ++
    cmd.fault s r)

/-- Write to host memory after the commit; whether every write could be made (R454). -/
def State.deliver (s : State) (m : Nat) (ws : List (Nat × List Byte)) : State × Bool :=
  if s.canWrite m then (forEach ws (fun w s => s.hostWrite m (BitVec.ofNat 64 w.1) w.2) s, true)
  else (s, ws.all fun w => w.2.isEmpty)

/-- The commit of an accepted command, its writes and its answer. -/
def commitCmd (cmd : Cmd) (r : Req) (s : State) : State :=
  let s := { s with turn := r.cab }.inc 8 r.cab 0 1
  let d := cmd.commit s r
  let ws := (if 16 < d.result.length then [(r.result, d.result)] else []) ++ d.writes
  let (s, ok) := d.s.deliver r.m ws
  let flags := (if 16 < d.result.length then 1 else 0) + (if ok then 0 else 2)
  cmd.after (s.answer r.m r.n (responseBytes r.tag cmd.op 0 flags 0 0 d.result))

/-- Whether a command row's command is the one to be checked next. -/
def State.isNext (s : State) (cmd : Cmd) (m n : Nat) : Bool :=
  s.nextCommand == some (4 * m + n) && opOf (s.slot m n).copy == cmd.op

/-- The domain in which a commit hangs: one whose clock has failed while CLKOK still reads set (R554). -/
def Cmd.hangsIn (cmd : Cmd) (s : State) (r : Req) : Option Nat := (cmd.entered s r).find? fun d => !s.clkOk d

/-- A command of the Sahgar set takes its turn: checked against the state in which it is committed, committed and
answered, in one step (R456), unless its commit hangs (R554). A row whose command is not the next to be checked has no
effect (DESIGN CHOICE, log 16). -/
def runCommand (cmd : Cmd) (m : Fin 257) (n : Fin 4) (s : State) : State :=
  if s.isNext cmd m n then
    match s.cabOfMbx m with
    | none => s
    | some c =>
      let r := s.reqOf m n c
      match checkCmd cmd (s.slot m n) r s with
      | some e => (s.answerErr m n (some c) e).settled
      | none =>
        match cmd.hangsIn s r with
        | some d => { s with hung := some { key := 4 * m + n, domain := d } }
        | none => (commitCmd cmd r s).settled
  else s

/-! Slots (R450, R451, R459). -/

/-- Whether host accesses reach a mailbox: not in DORMANT, not before the ports start, not while its port is down or
suspended. -/
def State.reachable (s : State) (m : Nat) : Bool :=
  s.serves && !(s.mbx m).down && !(m == 256 && s.usbSuspended)

/-- Whether a mailbox is CLOSED by a reset of its cabinet (R458). -/
def State.closed (s : State) (m : Nat) : Bool :=
  match s.cabOfMbx m with
  | some c => (s.cab c).resetting.isSome
  | none => false

/-- Ask the USB host for the next part of a parcel, from an offset, at a slot (R459, R495, R507). -/
def State.askParcel (s : State) (n addr len off : Nat) : State :=
  let a := BitVec.ofNat 64 (addr + off)
  let k := min 512 (len - off)
  (s.useSlots 256 1).usbAsk (fun t => { kind := 0, addr := a, len := k, mbx := 256, slot := n, cab := 0, stream := 0, sent := t })
    0x83 a k

/-- Ask for a command's parcel through its mailbox's port (R459, R504, R507). -/
def State.fetchParcel (s : State) (m n : Nat) : State :=
  let copy := (s.slot m n).copy
  let s := s.updSlot m n fun x => { x with parcel := .fetching [] }
  if m = 256 then s.askParcel n (fieldU copy 16 8) (lenOf copy) 0
  else s.hostRead m (BitVec.ofNat 64 (fieldU copy 16 8)) (lenOf copy)

/-- A 1 written to RING[n]. -/
def State.ring1 (s : State) (m n : Nat) : State :=
  let x := s.slot m n
  if x.posted ∨ x.done then s.updMbx m fun b => { b with stray := true }
  else
    let s := s.updSlot m n fun x => { x with copy := x.host, posted := true, parcel := .absent }
    match s.cabOfMbx m with
    | none =>
      let e : Err := if opcodes.contains (opOf x.host) then { code := 0x05, detail := dSubject 2 }
        else { code := 0x01, detail := 0 }
      s.answerErr m n none e
    | some _ =>
      let s := { s with rung := s.rung ++ [4 * m + n] }
      if 48 < lenOf x.host ∧ parcelOk x.host then s.fetchParcel m n else s

/-- A 1 written to DONE[n]. -/
def State.free1 (s : State) (m n : Nat) : State :=
  if (s.slot m n).done then
    s.updSlot m n fun x => { x with done := false, response := List.replicate 32 0 }
  else s

/-- A write of the doorbell: the DONE bits, STRAY, then the RING bits in ascending order (R451, R455). -/
def State.doorbell (s : State) (m : Nat) (v : BitVec 32) : State :=
  let s := forEach ((List.range 4).filter fun n => v.getLsbD (16 + n)) (fun n s => s.free1 m n) s
  let s := if v.getLsbD 31 then s.updMbx m fun b => { b with stray := false } else s
  if s.closed m then s
  else (forEach ((List.range 4).filter fun n => v.getLsbD n) (fun n s => s.ring1 m n) s).settled

end Sys2Proof.Machine
end

