-- ==== Sys2Proof/Machine/Tine.lean ====
section
/-! DEFINITION. A tine: registers, encodings, windows, the issue of an instruction, loads, stores, traps. Chapters 11
and 12. A tine (p, t) has the number 17 p + t. -/

namespace Sys2Proof.Machine

def State.tine (s : State) (t : Nat) : Tine := tget {} s.tines t
def State.updTine (s : State) (t : Nat) (f : Tine → Tine) : State := { s with tines := tupd {} s.tines t f }

/-! Registers (R366). -/

def Tine.sreg (x : Tine) (i : Nat) : BitVec 32 := if i = 0 then 0 else tget 0 x.s i
def Tine.setS (x : Tine) (i : Nat) (v : BitVec 32) : Tine := if i = 0 then x else { x with s := tset 0 x.s i v }
def Tine.vreg (x : Tine) (i : Nat) : BitVec 64 := tget 0 x.v i
def Tine.setV (x : Tine) (i : Nat) (v : BitVec 64) : Tine := { x with v := tset 0 x.v i v }
def Tine.preg (x : Tine) (i : Nat) : BitVec 4 := if i = 0 then 0xF else tget 0 x.p i
def Tine.setP (x : Tine) (i : Nat) (v : BitVec 4) : Tine := if i = 0 then x else { x with p := tset 0 x.p i v }
def Tine.alane (x : Tine) (i l : Nat) : BitVec 40 := tget 0 x.a (4 * i + l)
def Tine.setALane (x : Tine) (i l : Nat) (v : BitVec 40) : Tine := { x with a := tset 0 x.a (4 * i + l) v }

/-- Lane i of a v register (R366). -/
def lane (v : BitVec 64) (i : Nat) : BitVec 16 := v.extractLsb' (16 * i) 16

/-- Four lanes as a v register. -/
def ofLanes (f : Nat → BitVec 16) : BitVec 64 := f 3 ++ f 2 ++ f 1 ++ f 0

/-- Write the lanes that a predicate governs (R367). -/
def Tine.setLanes (x : Tine) (d p : Nat) (f : Nat → BitVec 16) : Tine :=
  x.setV d (ofLanes fun i => if (x.preg p).getLsbD i then f i else lane (x.vreg d) i)

/-! Encodings (Table TI-1). -/

def encA (op d a b p fn : Nat) : BitVec 32 :=
  BitVec.ofNat 32 (op * 2 ^ 26 + d * 2 ^ 21 + a * 2 ^ 16 + b * 2 ^ 11 + p * 2 ^ 8 + fn)
def encB (op d a fn : Nat) (imm : BitVec 12) : BitVec 32 :=
  BitVec.ofNat 32 (op * 2 ^ 26 + d * 2 ^ 21 + a * 2 ^ 16 + fn * 2 ^ 12 + imm.toNat)
def encC (op data base space mode : Nat) (off : BitVec 12) : BitVec 32 :=
  BitVec.ofNat 32 (op * 2 ^ 26 + data * 2 ^ 21 + base * 2 ^ 16 + space * 2 ^ 14 + mode * 2 ^ 12 + off.toNat)
def encD (op reg : Nat) (off : BitVec 20) : BitVec 32 :=
  BitVec.ofNat 32 (op * 2 ^ 26 + reg * 2 ^ 21 + off.toNat)

/-- Whether a word matches a row of Tables TI-5 to TI-12 (R365). -/
def wordDefined (word : BitVec 32) : Bool :=
  let w := word.toNat
  let op := bits w 31 26
  let d := bits w 25 21
  let a := bits w 20 16
  let b := bits w 15 11
  let p := bits w 10 8
  let fn := bits w 7 0
  let fnB := bits w 15 12
  let imm := bits w 11 0
  let mode := bits w 13 12
  let pd := decide (1 ≤ d ∧ d ≤ 7)
  match op with
  | 0x01 => decide (fn ≤ 0x0D ∧ p = 0 ∧ d < 16 ∧ a < 16 ∧ b < 16)
  | 0x02 => decide (fnB ≤ 8 ∧ d < 16 ∧ a < 16) && (decide (fnB < 4 ∨ 6 < fnB) || decide (imm < 32))
  | 0x03 => decide (d < 16) && !bit w 20
  | 0x04 => decide (fn ≤ 0x14)
  | 0x05 => decide (fn ≤ 5) && pd
  | 0x06 =>
    match fn with
    | 0x00 => true
    | 0x01 => decide (a < 16 ∧ b = 0)
    | 0x02 => decide (d < 16 ∧ b < 4 ∧ p = 0)
    | 0x03 => decide (a < 16 ∧ b < 4 ∧ p = 0)
    | 0x04 => decide (d < 16 ∧ b = 0 ∧ p = 0)
    | 0x08 => pd && decide (a < 8 ∧ b < 8 ∧ p = 0)
    | 0x09 => pd && decide (a < 8 ∧ b < 8 ∧ p = 0)
    | 0x0A => pd && decide (a < 8 ∧ b = 0 ∧ p = 0)
    | 0x0B => decide (d < 16 ∧ a < 8 ∧ b = 0 ∧ p = 0)
    | 0x0C => pd && decide (a < 16 ∧ b = 0 ∧ p = 0)
    | _ => false
  | 0x07 =>
    match fn with
    | 0x00 => decide (d < 4 ∧ a = 0 ∧ b = 0)
    | 0x01 => decide (d < 4)
    | 0x02 => decide (d < 4)
    | 0x03 => decide (d < 4 ∧ b = 0)
    | 0x04 => decide (a < 4)
    | 0x05 => decide (a < 4)
    | _ => false
  | 0x08 => decide (fnB ≤ 3) && (if fnB = 3 then decide (a = 0) else decide (imm < 16))
  | 0x10 => decide (d < 16 ∧ a < 16 ∧ mode ≤ 1 ∧ ¬ (mode = 1 ∧ d = a))
  | 0x11 => decide (d < 16 ∧ a < 16 ∧ mode ≤ 1 ∧ ¬ (mode = 1 ∧ d = a))
  | 0x12 => decide (a < 16 ∧ mode ≤ 1)
  | 0x14 => decide (d < 16 ∧ a < 16 ∧ mode ≤ 1)
  | 0x15 => decide (d < 16 ∧ a < 16 ∧ mode ≤ 1)
  | 0x16 => decide (a < 16 ∧ mode ≤ 1)
  | 0x18 => decide (d < 16) && !bit w 20
  | 0x19 => decide (d < 16) && !bit w 20
  | 0x1A => decide (d < 16) && !bit w 20
  | 0x1B => decide (d < 16) && !bit w 20
  | 0x1C => decide (d < 16) && !bit w 20
  | 0x1D => decide (1 ≤ d ∧ d < 16) && !bit w 20
  | 0x1E => decide (d < 8) && !bit w 20
  | 0x1F => decide (d < 8) && !bit w 20
  | 0x3E =>
    if fn ≤ 3 then decide (d = 0 ∧ a = 0 ∧ b = 0 ∧ p = 0)
    else if fn = 4 ∨ fn = 5 then decide (d = 0 ∧ a < 16 ∧ b = 0 ∧ p = 0)
    else if fn = 6 then decide (d < 16 ∧ a = 0 ∧ b = 0 ∧ p = 0)
    else if fn = 8 ∨ fn = 9 ∨ fn = 0xA then decide (d = 0 ∧ a = 0 ∧ p = 0)
    else if fn = 0xB then decide (d < 16 ∧ a = 0 ∧ p = 0)
    else false
  | _ => false

/-! Memories. -/

/-- A byte of the tine's memory of a space: 0 LM, 1 PS, 2 LI, 3 LO, at its physical address. -/
def State.tineByte (s : State) (t space addr : Nat) : Byte :=
  let x := s.tine t
  if space = 0 then tget 0 x.lm addr
  else if space = 1 then tget 0 (s.plot (t / 17)).ps addr
  else if space = 2 then tget 0 (if x.liSel then x.li1 else x.li0) addr
  else tget 0 x.lo addr

def putBytes (t : Tab Byte) (addr : Nat) : List Byte → Tab Byte
  | [] => t
  | b :: bs => putBytes (tset 0 t addr b) (addr + 1) bs

/-- Perform a store: it leaves the buffer and becomes visible (R337). -/
def State.perform (s : State) (t : Nat) (st : Store) : State :=
  if st.space = 0 then s.updTine t fun x => { x with lm := putBytes x.lm st.addr st.bytes }
  else if st.space = 1 then s.updPlot (t / 17) fun p => { p with ps := putBytes p.ps st.addr st.bytes }
  else s.updTine t fun x => { x with lo := putBytes x.lo st.addr st.bytes }

/-- Perform every buffered store, oldest first (R342). -/
def State.performAll (s : State) (t : Nat) : State :=
  let sts := (s.tine t).stores
  (forEach sts (fun st s => s.perform t st) s).updTine t fun x => { x with stores := [] }

/-- The byte a load returns: the youngest store to it of those buffered that are older than the load, the first `older` of
the buffer, else memory (R339). -/
def State.loadByte (s : State) (t older space addr : Nat) : Byte :=
  match ((s.tine t).stores.take older).reverse.find? fun st =>
      st.space == space && decide (st.addr ≤ addr ∧ addr < st.addr + st.bytes.length) with
  | some st => st.bytes.getD (addr - st.addr) 0
  | none => s.tineByte t space addr

def State.loadBytes (s : State) (t older space addr n : Nat) : List Byte :=
  (List.range n).map fun i => s.loadByte t older space (addr + i)

/-- The register a load writes, little-endian (R367). -/
def Tine.loaded (x : Tine) (vec : Bool) (reg : Nat) (bs : List Byte) : Tine :=
  if vec then x.setV reg (BitVec.ofNat 64 (leNat bs)) else x.setS reg (BitVec.ofNat 32 (leNat bs))

/-- Perform a load that was put off. -/
def State.performLate (s : State) (t : Nat) (l : Late) : State :=
  s.updTine t fun x => x.loaded l.vec l.reg (s.loadBytes t l.older 1 l.addr l.size)

/-- Perform the first n loads put off, in program order. -/
def State.performLoads (s : State) (t n : Nat) : State :=
  if n = 0 then s
  else
    (forEach ((s.tine t).late.take n) (fun l s => s.performLate t l) s).updTine t fun x => { x with late := x.late.drop n }

/-- Perform every load put off. -/
def State.allLoads (s : State) (t : Nat) : State := s.performLoads t (s.tine t).late.length

/-- Perform the loads whose result an instruction that issues in a cycle may read (R371, R629). -/
def State.dueLoads (s : State) (t c : Nat) : State :=
  s.performLoads t ((s.tine t).late.takeWhile fun l => decide (l.ready ≤ c)).length

/-! Issue (R371). Registers of the scoreboard: s at 0, v at 32, a at 64, p at 96. -/

def rS (i : Fin 16) : Nat := i
def rV (i : Fin 32) : Nat := 32 + i
def rA (i : Fin 4) : Nat := 64 + i
def rP (i : Fin 8) : Nat := 96 + i

/-- The cycle in which the latest store left the buffer, kept beside the registers. -/
def rStores : Nat := 128

/-- The cycle in which a PFWAIT sees its flag set, kept there too. -/
def rFlag : Nat := 129

def Tine.readyAt (x : Tine) (r : Nat) : Nat := tget 0 x.ready r

/-- The cycle in which an instruction issues: every source and pending destination ready; an accumulator of the
group that chains does not wait for a result of that group. -/
def Tine.issueCycle (x : Tine) (srcs dsts : List Nat) (chain : Bool) : Nat :=
  (srcs ++ dsts).foldl (fun c r => if chain && tget false x.chained r then c else max c (x.readyAt r)) x.cyc

/-- The instruction word at a kernel's pc, in its window (R363, R335). -/
def Tine.fetch (x : Tine) (r : Running) : Option (BitVec 32) :=
  if x.pc.toNat < r.imSize ∧ x.pc.toNat % 4 = 0 then some (tget 0 x.im (r.imBase / 4 + x.pc.toNat / 4)) else none

/-- The line in a bed's queue with a number. -/
def State.qline (s : State) (b num : Nat) : Option GLine := (s.bed b).queue.find? fun l => l.num = num

/-- Tines of the plots that serve a bed, ascending. -/
def State.bedPlots (s : State) (b : Nat) : List Nat := (List.range 16).filter fun p => s.plotBed p = b
def State.bedTines (s : State) (b : Nat) : List Nat :=
  (s.bedPlots b).flatMap fun p => (List.range 17).map fun t => 17 * p + t

/-- A kernel traps on a line (R352, R379): older loads and stores are performed, a Fault Result takes the place of its result,
the document is told, and the kernel's windows are zeroed at the next document. -/
def State.trapKernel (s : State) (t cause : Nat) (pc : BitVec 32) : State :=
  let x := s.tine t
  match x.run with
  | none => s
  | some r =>
    let s := (s.allLoads t).performAll t
    let res : Res := { bed := r.bed, band := r.band, num := r.num, kernel := r.kernel,
                       epoch := tget 0 s.bandEpochs (256 * r.bed + r.band), bytes := none }
    let s := s.updTine t fun x => { x with run := none, gate := x.gate ++ [res] }
    let s := (s.inc 7 (t / 17) 3 1)
    let s := if cause = 4 then s.inc 7 (t / 17) 4 1 else s
    match s.qline r.bed r.num with
    | none => s
    | some l =>
      let s := s.updDoc r.acc fun d =>
        { d with
          trapped := true, flags := d.flags ||| 0x20,
          faulted := if d.faulted.any (fun f => f.1 = 4 * r.bed + r.kernel && decide (f.2 ≤ l.line)) then d.faulted
            else d.faulted.filter (fun f => f.1 ≠ 4 * r.bed + r.kernel) ++ [(4 * r.bed + r.kernel, l.line)] }
      let s := forEach (s.bedTines r.bed) (fun u s =>
        s.updTine u fun x => { x with zero := x.zero ++ [(r.kernel, r.acc)] }) s
      let s := forEach (s.bedPlots r.bed) (fun p s =>
        s.updPlot p fun x => { x with zero := x.zero ++ [(r.kernel, r.acc)] }) s
      let id := match l.place.kernels[r.kernel]? with
        | some k => k.id
        | none => 0
      let e := { s.ev 0x0801 r.bed cause (w2 (id + r.band * 65536 + l.line * 2 ^ 32)) with
        w1 := pc.setWidth 64 }
      s.raiseTo (if l.cab = 0 then [0] else [0, l.cab]) e

/-- The pc moves on; a target outside the window traps WINDOW at its fetch, at the target (R376). -/
def State.goTo (s : State) (t : Nat) (r : Running) (pc : BitVec 32) : State :=
  let s := s.updTine t fun x => { x with pc := pc }
  if pc.toNat < r.imSize then s else s.trapKernel t 1 pc

/-- Whether a kernel stands at an instruction that may issue: the word at its pc is this one and is defined, and its plot's
clock runs. -/
def State.atWord (s : State) (t : Nat) (r : Running) (word : BitVec 32) : Bool :=
  decide ((s.tine t).fetch r = some word) && wordDefined word && s.clkOk (4 + t / 17)

/-- Issue the instruction of a row on a tine: the tine runs, its plot's clock runs, the word at its pc is this one and is defined. In the
cycle in which the count reaches 4 x C it traps WATCHDOG instead (R353, R380). `k` gives its effect from the cycle of
issue, on the state in which the loads due by then have been performed. -/
def State.issue (s : State) (t : Nat) (word : BitVec 32) (srcs dsts : List Nat) (chain : Bool)
    (k : Running → Nat → State → State) : State :=
  let x := s.tine t
  match x.run with
  | none => s
  | some r =>
    if s.atWord t r word then
      let c := x.issueCycle srcs dsts chain
      if 4 * r.cycles ≤ c then (s.updTine t fun x => { x with cyc := 4 * r.cycles }).trapKernel t 4 x.pc
      else k r c (s.dueLoads t c)
    else s

/-- The end of an instruction that writes registers: results pending until their latency has passed, the next
instruction from the next cycle. -/
def Tine.wrote (x : Tine) (c lat : Nat) (dsts : List Nat) (chain : Bool) : Tine :=
  { x with
    cyc := c + 1
    ready := dsts.foldl (fun m d => tset 0 m d (c + lat)) x.ready
    chained := dsts.foldl (fun m d => tset false m d chain) x.chained }

/-- An instruction that only writes registers (R373): `f` computes them from the registers before. -/
def State.alu (s : State) (t : Nat) (word : BitVec 32) (srcs dsts : List Nat) (lat : Nat) (f : Tine → Tine)
    (chain : Bool := false) : State :=
  s.issue t word srcs dsts chain fun r c s =>
    let pc := (s.tine t).pc
    (s.updTine t fun x => (f x).wrote c lat dsts chain).goTo t r (pc + 4)

/-! Scalar and vector forms. -/

def State.scalarRR (s : State) (t : Fin 272) (fn lat : Nat) (d a b : Fin 16)
    (f : BitVec 32 → BitVec 32 → BitVec 32) : State :=
  s.alu t (encA 0x01 d a b 0 fn) [rS a, rS b] [rS d] lat fun x => x.setS d (f (x.sreg a) (x.sreg b))

def State.scalarRI (s : State) (t : Fin 272) (fn : Nat) (d a : Fin 16) (imm : BitVec 12)
    (f : BitVec 32 → BitVec 12 → BitVec 32) : State :=
  s.alu t (encB 0x02 d a fn imm) [rS a] [rS d] 1 fun x => x.setS d (f (x.sreg a) imm)

def State.vectorRR (s : State) (t : Fin 272) (fn lat : Nat) (d a b : Fin 32) (p : Fin 8)
    (f : BitVec 16 → BitVec 16 → BitVec 16) : State :=
  s.alu t (encA 0x04 d a b p fn) [rV a, rV b, rP p] [rV d] lat fun x =>
    x.setLanes d p fun i => f (lane (x.vreg a) i) (lane (x.vreg b) i)

def State.vectorRI (s : State) (t : Fin 272) (fn : Nat) (d a : Fin 32) (imm : BitVec 12)
    (f : BitVec 16 → BitVec 16) : State :=
  s.alu t (encB 0x08 d a fn imm) [rV a] [rV d] 1 fun x => x.setV d (ofLanes fun i => f (lane (x.vreg a) i))

def State.vectorCmp (s : State) (t : Fin 272) (fn : Nat) (d : Fin 8) (a b : Fin 32) (p : Fin 8)
    (f : BitVec 16 → BitVec 16 → Bool) : State :=
  s.alu t (encA 0x05 d a b p fn) [rV a, rV b, rP p] [rP d] 1 fun x =>
    x.setP d (BitVec.ofNat 4 ((List.range 4).foldl (fun n i =>
      if (x.preg p).getLsbD i && f (lane (x.vreg a) i) (lane (x.vreg b) i) then n + 2 ^ i else n) 0))

/-- Write the accumulator lanes that a predicate governs. -/
def Tine.accLanes (x : Tine) (d p : Nat) (f : Nat → BitVec 40) : Tine :=
  forEach (List.range 4) (fun i y => if (x.preg p).getLsbD i then y.setALane d i (f i) else y) x

/-- A number clamped to a range. -/
def clampI (v lo hi : Int) : Int := if v < lo then lo else if hi < v then hi else v

def ofInt16 (v : Int) : BitVec 16 := BitVec.ofInt 16 v

/-- AGET and AGETS: the accumulator read as signed, rounded and shifted arithmetically, then clamped (Table TI-9). -/
def accGet (a : BitVec 40) (b : Nat) (lo hi : Int) : BitVec 16 :=
  let rnd : Int := if b = 0 then 0 else 2 ^ (b - 1)
  ofInt16 (clampI (floorDiv (a.toInt + rnd) (2 ^ b)) lo hi)

/-! Loads and stores (R374, R375). -/

/-- The trap of R375, in its order: space, window, alignment. -/
def memTrap (r : Running) (space : Nat) (isStore : Bool) (addr size : Nat) : Option Nat :=
  let win := if space = 0 then r.lmSize else if space = 1 then r.psSize else if space = 2 then 40960 else r.outMax
  if (isStore && space == 2) || (!isStore && space == 3) then some 1
  else if win < addr + size then some 1
  else if addr % size ≠ 0 then some 3
  else none

/-- The physical address of a window address (R335). -/
def physAddr (r : Running) (space addr : Nat) : Nat :=
  if space = 0 then r.lmBase + addr else if space = 1 then r.psBase + addr else if space = 2 then addr
  else r.loBase + addr

/-- The address of a format C instruction, and its base after it. -/
def Tine.addrOf (x : Tine) (base : Fin 16) (post : Bool) (off : BitVec 12) : BitVec 32 :=
  if post then x.sreg base else x.sreg base + off.signExtend 32

def Tine.bump (x : Tine) (base : Fin 16) (post : Bool) (off : BitVec 12) (c : Nat) : Tine :=
  if post then
    let y := x.setS base (x.sreg base + off.signExtend 32)
    { y with ready := tset 0 y.ready (rS base) (c + 1), chained := tset false y.chained (rS base) false }
  else x

/-- How many of the loads put off come up to and with the last of those that read a byte from `addr` on (R340). -/
def Tine.lateAt (x : Tine) (addr size : Nat) : Nat :=
  (x.late.zipIdx).foldl (fun n (l, i) => if l.addr < addr + size ∧ addr < l.addr + l.size then i + 1 else n) 0

/-- A load. One from LM or LI is performed at its issue: no other tine writes there. One from PS is performed then or, as a
free value decides, no earlier than the last moment that R629 allows it; loads of one PS address are performed in program
order (R340, log 17). -/
def State.loadOp (s : State) (t : Fin 272) (op size data : Nat) (vec : Bool) (base : Fin 16) (space : Fin 4) (post : Bool)
    (off : BitVec 12) : State :=
  let rd := if vec then 32 + data else data
  s.issue t (encC op data base space post.toNat off) [rS base] ([rd] ++ if post then [rS base] else []) false
    fun r c s =>
      let x := s.tine t
      let addr := (x.addrOf base post off).toNat
      match memTrap r space false addr size with
      | some cause => s.trapKernel t cause x.pc
      | none =>
        let a := physAddr r space addr
        let older := x.stores.length
        let fin := fun (s : State) (f : Tine → Tine) =>
          (s.updTine t fun x => ((f x).wrote c 3 [rd] false).bump base post off c).goTo t r (x.pc + 4)
        if space ≠ 1 then fin s fun x => x.loaded vec data (s.loadBytes t older space a size)
        else if s.drawn.getLsbD 0 then
          fin s.draw fun x => { x with late := x.late ++ [{ vec, reg := data, size, addr := a, ready := c + 3, older }] }
        else
          let s := s.draw.performLoads t (x.lateAt a size)
          fin s fun x => x.loaded vec data (s.loadBytes t older 1 a size)

/-- A store: it enters the buffer at issue, and stalls while all 8 entries are occupied (R338). -/
def State.storeOp (s : State) (t : Fin 272) (op size data rd : Nat) (base : Fin 16) (space : Fin 4) (post : Bool)
    (off : BitVec 12) (rdData : Tine → List Byte) : State :=
  if 8 ≤ (s.tine t).stores.length then s
  else
    s.issue t (encC op data base space post.toNat off)
      ([rS base, rd] ++ if (s.tine t).stores.length = 7 then [rStores] else []) (if post then [rS base] else []) false
      fun r c s =>
        let x := s.tine t
        let addr := (x.addrOf base post off).toNat
        match memTrap r space true addr size with
        | some cause => s.trapKernel t cause x.pc
        | none =>
          let st : Store := { space, addr := physAddr r space addr, bytes := rdData x, cycle := c }
          (s.updTine t fun x =>
            { (x.wrote c 1 [] false).bump base post off c with stores := x.stores ++ [st] }).goTo t r (x.pc + 4)

/-! Branches and waits. -/

/-- A branch of format D: not taken it costs 1 cycle, taken 3 (Table TI-3). -/
def State.branchOp (s : State) (t : Fin 272) (op reg : Nat) (srcs dsts : List Nat) (off : BitVec 20)
    (taken : Tine → Bool) (f : Tine → Tine) : State :=
  s.issue t (encD op reg off) srcs dsts false fun r c s =>
    let x := s.tine t
    let tk := taken x
    let target := x.pc + (off.signExtend 32) <<< 2
    (s.updTine t fun x => { (f x).wrote c 1 dsts false with cyc := c + (if tk then 3 else 1) }).goTo t r
      (if tk then target else x.pc + 4)

/-- A system instruction that waits until the store buffer is empty (R341). -/
def State.afterStores (s : State) (t : Fin 272) (word : BitVec 32) (srcs dsts : List Nat)
    (k : Running → Nat → State → State) : State :=
  if (s.tine t).stores.isEmpty then
    s.issue t word (rStores :: srcs) dsts false k
  else s

/-- A plot-flag operation: performed after every older load and store (R341). -/
def State.flagOp (s : State) (t : Fin 272) (word : BitVec 32) (srcs dsts : List Nat)
    (k : Running → Nat → State → State) : State :=
  s.afterStores t word srcs dsts fun r c s => k r c (s.allLoads t)

/-- The cycle of a tine's count in which it sees a plot flag set: one cycle after it set the flag itself, and no later than 4
cycles after another tine set it; which of them is a free value (R378; DESIGN CHOICE, log 100). -/
def State.flagSeen (s : State) (t flag : Nat) : Nat :=
  let f := tget (0, 0) (s.plot (t / 17)).flagSet flag
  f.2 + (if f.1 = t then 1 else s.drawn.toNat % 5) - (s.tine t).start

/-- A tine that waits for a plot flag, once it is set, with the cycle in which it sees it. -/
def State.seeFlag (s : State) (t flag : Nat) : State :=
  s.draw.updTine t fun x => { x with ready := tset 0 x.ready rFlag (s.flagSeen t flag) }

end Sys2Proof.Machine
end

