-- ==== Sys2Proof/Machine/TineIsa.lean ====
section
/-! DEFINITION. The tine instruction set: one meaning per instruction of Tables TI-5 to TI-12 (chapter 12). -/

namespace Sys2Proof.Machine

/-- A meaning that always answers a next state. -/
abbrev Answer := Host.Outcome State Fault Refusal

/-! Table TI-5. -/
/-- ADD: d := a + b (R373). -/
def execAdd (t : Fin 272) (d a b : Fin 16) (s : State) : Answer :=
  .next (s.scalarRR t 0 1 d a b fun a b => a + b)

/-- SUB: d := a - b (R373). -/
def execSub (t : Fin 272) (d a b : Fin 16) (s : State) : Answer :=
  .next (s.scalarRR t 1 1 d a b fun a b => a - b)

/-- AND: d := a and b (R373). -/
def execAnd (t : Fin 272) (d a b : Fin 16) (s : State) : Answer :=
  .next (s.scalarRR t 2 1 d a b fun a b => a &&& b)

/-- OR: d := a or b (R373). -/
def execOr (t : Fin 272) (d a b : Fin 16) (s : State) : Answer :=
  .next (s.scalarRR t 3 1 d a b fun a b => a ||| b)

/-- XOR: d := a xor b (R373). -/
def execXor (t : Fin 272) (d a b : Fin 16) (s : State) : Answer :=
  .next (s.scalarRR t 4 1 d a b fun a b => a ^^^ b)

/-- SHL: d := a << b[4:0] (R373). -/
def execShl (t : Fin 272) (d a b : Fin 16) (s : State) : Answer :=
  .next (s.scalarRR t 5 1 d a b fun a b => a <<< (b.toNat % 32))

/-- SHR: d := a >> b[4:0], logical (R373). -/
def execShr (t : Fin 272) (d a b : Fin 16) (s : State) : Answer :=
  .next (s.scalarRR t 6 1 d a b fun a b => a >>> (b.toNat % 32))

/-- SRA: d := a >> b[4:0], arithmetic (R373). -/
def execSra (t : Fin 272) (d a b : Fin 16) (s : State) : Answer :=
  .next (s.scalarRR t 7 1 d a b fun a b => a.sshiftRight (b.toNat % 32))

/-- MUL: d := bits 31:0 of a x b (R373). -/
def execMul (t : Fin 272) (d a b : Fin 16) (s : State) : Answer :=
  .next (s.scalarRR t 8 2 d a b fun a b => a * b)

/-- MULHU: d := bits 63:32 of the unsigned product (R373). -/
def execMulhu (t : Fin 272) (d a b : Fin 16) (s : State) : Answer :=
  .next (s.scalarRR t 9 2 d a b fun a b => BitVec.ofNat 32 (a.toNat * b.toNat / 2 ^ 32))

/-- SLT: d := 1 when a < b signed (R373). -/
def execSlt (t : Fin 272) (d a b : Fin 16) (s : State) : Answer :=
  .next (s.scalarRR t 10 1 d a b fun a b => if a.slt b then 1 else 0)

/-- SLTU: d := 1 when a < b unsigned (R373). -/
def execSltu (t : Fin 272) (d a b : Fin 16) (s : State) : Answer :=
  .next (s.scalarRR t 11 1 d a b fun a b => if a.ult b then 1 else 0)

/-- MIN: d := the lesser, signed (R373). -/
def execMin (t : Fin 272) (d a b : Fin 16) (s : State) : Answer :=
  .next (s.scalarRR t 12 1 d a b fun a b => if b.slt a then b else a)

/-- MAX: d := the greater, signed (R373). -/
def execMax (t : Fin 272) (d a b : Fin 16) (s : State) : Answer :=
  .next (s.scalarRR t 13 1 d a b fun a b => if a.slt b then b else a)

/-! Table TI-6. -/

/-- ADDI: d := a + IMM (R373). -/
def execAddi (t : Fin 272) (d a : Fin 16) (imm : BitVec 12) (s : State) : Answer :=
  .next (s.scalarRI t 0 d a imm fun a i => a + i.signExtend 32)

/-- ANDI: d := a and IMM, zero-extended (R373). -/
def execAndi (t : Fin 272) (d a : Fin 16) (imm : BitVec 12) (s : State) : Answer :=
  .next (s.scalarRI t 1 d a imm fun a i => a &&& i.setWidth 32)

/-- ORI: d := a or IMM, zero-extended (R373). -/
def execOri (t : Fin 272) (d a : Fin 16) (imm : BitVec 12) (s : State) : Answer :=
  .next (s.scalarRI t 2 d a imm fun a i => a ||| i.setWidth 32)

/-- XORI: d := a xor IMM, zero-extended (R373). -/
def execXori (t : Fin 272) (d a : Fin 16) (imm : BitVec 12) (s : State) : Answer :=
  .next (s.scalarRI t 3 d a imm fun a i => a ^^^ i.setWidth 32)

/-- SLTI: d := 1 when a < IMM signed (R373). -/
def execSlti (t : Fin 272) (d a : Fin 16) (imm : BitVec 12) (s : State) : Answer :=
  .next (s.scalarRI t 7 d a imm fun a i => if a.slt (i.signExtend 32) then 1 else 0)

/-- SLTIU: d := 1 when a < IMM unsigned, IMM sign-extended first (R373). -/
def execSltiu (t : Fin 272) (d a : Fin 16) (imm : BitVec 12) (s : State) : Answer :=
  .next (s.scalarRI t 8 d a imm fun a i => if a.ult (i.signExtend 32) then 1 else 0)

/-- SHLI: d := a << IMM[4:0] (R373). -/
def execShli (t : Fin 272) (d a : Fin 16) (imm : Fin 32) (s : State) : Answer :=
  .next (s.scalarRI t 4 d a (BitVec.ofNat 12 imm) fun a i => a <<< i.toNat)

/-- SHRI: d := a >> IMM[4:0], logical (R373). -/
def execShri (t : Fin 272) (d a : Fin 16) (imm : Fin 32) (s : State) : Answer :=
  .next (s.scalarRI t 5 d a (BitVec.ofNat 12 imm) fun a i => a >>> i.toNat)

/-- SRAI: d := a >> IMM[4:0], arithmetic (R373). -/
def execSrai (t : Fin 272) (d a : Fin 16) (imm : Fin 32) (s : State) : Answer :=
  .next (s.scalarRI t 6 d a (BitVec.ofNat 12 imm) fun a i => a.sshiftRight i.toNat)

/-- LUI: s_REG := OFF[19:0] << 12 (R373). -/
def execLui (t : Fin 272) (r : Fin 16) (off : BitVec 20) (s : State) : Answer :=
  .next (s.alu t (encD 0x03 r off) [] [rS r] 1 fun x => x.setS r ((off.setWidth 32) <<< 12))

/-! Table TI-7. -/

/-- VADD, per lane: d := a + b, wrapping (R373, R367). -/
def execVadd (t : Fin 272) (d a b : Fin 32) (p : Fin 8) (s : State) : Answer :=
  .next (s.vectorRR t 0 1 d a b p fun a b => a + b)

/-- VSUB, per lane: d := a - b, wrapping (R373, R367). -/
def execVsub (t : Fin 272) (d a b : Fin 32) (p : Fin 8) (s : State) : Answer :=
  .next (s.vectorRR t 1 1 d a b p fun a b => a - b)

/-- VADDUS, per lane: d := min(a + b, 65,535) (R373, R367). -/
def execVaddus (t : Fin 272) (d a b : Fin 32) (p : Fin 8) (s : State) : Answer :=
  .next (s.vectorRR t 2 1 d a b p fun a b => BitVec.ofNat 16 (min (a.toNat + b.toNat) 65535))

/-- VSUBUS, per lane: d := max(a - b, 0) (R373, R367). -/
def execVsubus (t : Fin 272) (d a b : Fin 32) (p : Fin 8) (s : State) : Answer :=
  .next (s.vectorRR t 3 1 d a b p fun a b => BitVec.ofNat 16 (a.toNat - b.toNat))

/-- VADDSS, per lane: d := a + b clamped, signed (R373, R367). -/
def execVaddss (t : Fin 272) (d a b : Fin 32) (p : Fin 8) (s : State) : Answer :=
  .next (s.vectorRR t 4 1 d a b p fun a b => ofInt16 (clampI (a.toInt + b.toInt) (-32768) 32767))

/-- VSUBSS, per lane: d := a - b clamped, signed (R373, R367). -/
def execVsubss (t : Fin 272) (d a b : Fin 32) (p : Fin 8) (s : State) : Answer :=
  .next (s.vectorRR t 5 1 d a b p fun a b => ofInt16 (clampI (a.toInt - b.toInt) (-32768) 32767))

/-- VMULLO, per lane: d := bits 15:0 of a x b (R373, R367). -/
def execVmullo (t : Fin 272) (d a b : Fin 32) (p : Fin 8) (s : State) : Answer :=
  .next (s.vectorRR t 6 2 d a b p fun a b => a * b)

/-- VMULHU, per lane: d := (a x b) >> 16, unsigned (R373, R367). -/
def execVmulhu (t : Fin 272) (d a b : Fin 32) (p : Fin 8) (s : State) : Answer :=
  .next (s.vectorRR t 7 2 d a b p fun a b => BitVec.ofNat 16 (a.toNat * b.toNat / 65536))

/-- VMULHS, per lane: d := (a x b) >> 16, signed (R373, R367). -/
def execVmulhs (t : Fin 272) (d a b : Fin 32) (p : Fin 8) (s : State) : Answer :=
  .next (s.vectorRR t 8 2 d a b p fun a b => ofInt16 (floorDiv (a.toInt * b.toInt) 65536))

/-- VMINU, per lane: d := min(a, b) (R373, R367). -/
def execVminu (t : Fin 272) (d a b : Fin 32) (p : Fin 8) (s : State) : Answer :=
  .next (s.vectorRR t 9 1 d a b p fun a b => if b.ult a then b else a)

/-- VMAXU, per lane: d := max(a, b) (R373, R367). -/
def execVmaxu (t : Fin 272) (d a b : Fin 32) (p : Fin 8) (s : State) : Answer :=
  .next (s.vectorRR t 10 1 d a b p fun a b => if a.ult b then b else a)

/-- VMINS, per lane: d := min(a, b), signed (R373, R367). -/
def execVmins (t : Fin 272) (d a b : Fin 32) (p : Fin 8) (s : State) : Answer :=
  .next (s.vectorRR t 11 1 d a b p fun a b => if b.slt a then b else a)

/-- VMAXS, per lane: d := max(a, b), signed (R373, R367). -/
def execVmaxs (t : Fin 272) (d a b : Fin 32) (p : Fin 8) (s : State) : Answer :=
  .next (s.vectorRR t 12 1 d a b p fun a b => if a.slt b then b else a)

/-- VABSDU, per lane: d := |a - b| (R373, R367). -/
def execVabsdu (t : Fin 272) (d a b : Fin 32) (p : Fin 8) (s : State) : Answer :=
  .next (s.vectorRR t 13 1 d a b p fun a b => if a.ult b then b - a else a - b)

/-- VAVGU, per lane: d := (a + b + 1) >> 1, on 17 bits (R373, R367). -/
def execVavgu (t : Fin 272) (d a b : Fin 32) (p : Fin 8) (s : State) : Answer :=
  .next (s.vectorRR t 14 1 d a b p fun a b => BitVec.ofNat 16 ((a.toNat + b.toNat + 1) / 2))

/-- VAND, per lane: d := a and b (R373, R367). -/
def execVand (t : Fin 272) (d a b : Fin 32) (p : Fin 8) (s : State) : Answer :=
  .next (s.vectorRR t 15 1 d a b p fun a b => a &&& b)

/-- VOR, per lane: d := a or b (R373, R367). -/
def execVor (t : Fin 272) (d a b : Fin 32) (p : Fin 8) (s : State) : Answer :=
  .next (s.vectorRR t 16 1 d a b p fun a b => a ||| b)

/-- VXOR, per lane: d := a xor b (R373, R367). -/
def execVxor (t : Fin 272) (d a b : Fin 32) (p : Fin 8) (s : State) : Answer :=
  .next (s.vectorRR t 17 1 d a b p fun a b => a ^^^ b)

/-- VSHL, per lane: d := a << b[3:0] (R373, R367). -/
def execVshl (t : Fin 272) (d a b : Fin 32) (p : Fin 8) (s : State) : Answer :=
  .next (s.vectorRR t 18 1 d a b p fun a b => a <<< (b.toNat % 16))

/-- VSHR, per lane: d := a >> b[3:0], logical (R373, R367). -/
def execVshr (t : Fin 272) (d a b : Fin 32) (p : Fin 8) (s : State) : Answer :=
  .next (s.vectorRR t 19 1 d a b p fun a b => a >>> (b.toNat % 16))

/-- VSRA, per lane: d := a >> b[3:0], arithmetic (R373, R367). -/
def execVsra (t : Fin 272) (d a b : Fin 32) (p : Fin 8) (s : State) : Answer :=
  .next (s.vectorRR t 20 1 d a b p fun a b => a.sshiftRight (b.toNat % 16))

/-- VSHLI, per lane: d := a << IMM[3:0] (R373). -/
def execVshli (t : Fin 272) (d a : Fin 32) (imm : Fin 16) (s : State) : Answer :=
  .next (s.vectorRI t 0 d a (BitVec.ofNat 12 imm) fun a => a <<< imm.val)

/-- VSHRI, per lane: d := a >> IMM[3:0], logical (R373). -/
def execVshri (t : Fin 272) (d a : Fin 32) (imm : Fin 16) (s : State) : Answer :=
  .next (s.vectorRI t 1 d a (BitVec.ofNat 12 imm) fun a => a >>> imm.val)

/-- VSRAI, per lane: d := a >> IMM[3:0], arithmetic (R373). -/
def execVsrai (t : Fin 272) (d a : Fin 32) (imm : Fin 16) (s : State) : Answer :=
  .next (s.vectorRI t 2 d a (BitVec.ofNat 12 imm) fun a => a.sshiftRight imm.val)

/-- VSPLATI: d := IMM sign-extended to 16 bits, in every lane (R373). -/
def execVsplati (t : Fin 272) (d : Fin 32) (imm : BitVec 12) (s : State) : Answer :=
  .next (s.alu t (encB 0x08 d 0 3 imm) [] [rV d] 1 fun x => x.setV d (ofLanes fun _ => imm.signExtend 16))

/-! Table TI-8. -/

/-- VCMPEQ: p_D[i] := p_P[i] and a[i] = b[i] (R373). -/
def execVcmpeq (t : Fin 272) (d : Fin 8) (a b : Fin 32) (p : Fin 8) (s : State) : Answer :=
  .next (s.vectorCmp t 0 d a b p fun a b => a == b)

/-- VCMPNE: p_D[i] := p_P[i] and a[i] differs from b[i] (R373). -/
def execVcmpne (t : Fin 272) (d : Fin 8) (a b : Fin 32) (p : Fin 8) (s : State) : Answer :=
  .next (s.vectorCmp t 1 d a b p fun a b => a != b)

/-- VCMPLTU: p_D[i] := p_P[i] and a[i] < b[i] (R373). -/
def execVcmpltu (t : Fin 272) (d : Fin 8) (a b : Fin 32) (p : Fin 8) (s : State) : Answer :=
  .next (s.vectorCmp t 2 d a b p fun a b => a.ult b)

/-- VCMPLEU: p_D[i] := p_P[i] and a[i] <= b[i] (R373). -/
def execVcmpleu (t : Fin 272) (d : Fin 8) (a b : Fin 32) (p : Fin 8) (s : State) : Answer :=
  .next (s.vectorCmp t 3 d a b p fun a b => a.ule b)

/-- VCMPLTS: p_D[i] := p_P[i] and a[i] < b[i], signed (R373). -/
def execVcmplts (t : Fin 272) (d : Fin 8) (a b : Fin 32) (p : Fin 8) (s : State) : Answer :=
  .next (s.vectorCmp t 4 d a b p fun a b => a.slt b)

/-- VCMPLES: p_D[i] := p_P[i] and a[i] <= b[i], signed (R373). -/
def execVcmples (t : Fin 272) (d : Fin 8) (a b : Fin 32) (p : Fin 8) (s : State) : Answer :=
  .next (s.vectorCmp t 5 d a b p fun a b => a.sle b)

/-- VSEL: d[i] := a[i] when p_P[i], otherwise b[i]; every lane written (R367). -/
def execVsel (t : Fin 272) (d a b : Fin 32) (p : Fin 8) (s : State) : Answer :=
  .next (s.alu t (encA 0x06 d a b p 0x00) [rV a, rV b, rP p] [rV d] 1 fun x =>
    x.setV d (ofLanes fun i => if (x.preg p).getLsbD i then lane (x.vreg a) i else lane (x.vreg b) i))

/-- VSPLAT: d[i] := s_A[15:0] (R373). -/
def execVsplat (t : Fin 272) (d : Fin 32) (a : Fin 16) (p : Fin 8) (s : State) : Answer :=
  .next (s.alu t (encA 0x06 d a 0 p 0x01) [rS a, rP p] [rV d] 1 fun x =>
    x.setLanes d p fun _ => (x.sreg a).setWidth 16)

/-- VEXT: s_D := v_A lane B, zero-extended (R373). -/
def execVext (t : Fin 272) (d : Fin 16) (a : Fin 32) (l : Fin 4) (s : State) : Answer :=
  .next (s.alu t (encA 0x06 d a l 0 0x02) [rV a] [rS d] 1 fun x =>
    x.setS d ((lane (x.vreg a) l).setWidth 32))

/-- VINS: lane B of v_D := s_A[15:0]; other lanes kept (R373). -/
def execVins (t : Fin 272) (d : Fin 32) (a : Fin 16) (l : Fin 4) (s : State) : Answer :=
  .next (s.alu t (encA 0x06 d a l 0 0x03) [rS a] [rV d] 1 fun x =>
    x.setV d (ofLanes fun i => if i = l then (x.sreg a).setWidth 16 else lane (x.vreg d) i))

/-- VHSUM: s_D := the sum of the four lanes of v_A, unsigned (R373). -/
def execVhsum (t : Fin 272) (d : Fin 16) (a : Fin 32) (s : State) : Answer :=
  .next (s.alu t (encA 0x06 d a 0 0 0x04) [rV a] [rS d] 2 fun x =>
    x.setS d ((List.range 4).foldl (fun n i => n + (lane (x.vreg a) i).setWidth 32) 0))

/-- PAND: p_D := p_A and p_B (R373). -/
def execPand (t : Fin 272) (d a b : Fin 8) (s : State) : Answer :=
  .next (s.alu t (encA 0x06 d a b 0 8) [rP a, rP b] [rP d] 1 fun x => x.setP d (x.preg a &&& x.preg b))

/-- POR: p_D := p_A or p_B (R373). -/
def execPor (t : Fin 272) (d a b : Fin 8) (s : State) : Answer :=
  .next (s.alu t (encA 0x06 d a b 0 9) [rP a, rP b] [rP d] 1 fun x => x.setP d (x.preg a ||| x.preg b))

/-- PNOT: p_D := not p_A, in 4 bits (R373). -/
def execPnot (t : Fin 272) (d a : Fin 8) (s : State) : Answer :=
  .next (s.alu t (encA 0x06 d a 0 0 0x0A) [rP a] [rP d] 1 fun x => x.setP d (~~~ x.preg a))

/-- PTOS: s_D := p_A, zero-extended (R373). -/
def execPtos (t : Fin 272) (d : Fin 16) (a : Fin 8) (s : State) : Answer :=
  .next (s.alu t (encA 0x06 d a 0 0 0x0B) [rP a] [rS d] 1 fun x => x.setS d ((x.preg a).setWidth 32))

/-- STOP: p_D := s_A[3:0] (R373). -/
def execStop (t : Fin 272) (d : Fin 8) (a : Fin 16) (s : State) : Answer :=
  .next (s.alu t (encA 0x06 d a 0 0 0x0C) [rS a] [rP d] 1 fun x => x.setP d ((x.sreg a).setWidth 4))

/-! Table TI-9. -/

/-- AZERO: a_D := 0 (R373). -/
def execAzero (t : Fin 272) (d : Fin 4) (p : Fin 8) (s : State) : Answer :=
  .next (s.alu t (encA 0x07 d 0 0 p 0x00) [rP p] [rA d] 1 fun x => x.accLanes d p fun _ => 0)

/-- VMACU: a_D := a_D + a x b, unsigned (R373). -/
def execVmacu (t : Fin 272) (d : Fin 4) (a b : Fin 32) (p : Fin 8) (s : State) : Answer :=
  .next (s.alu t (encA 0x07 d a b p 0x01) [rV a, rV b, rP p] [rA d] 2 (chain := true) fun x => x.accLanes d p fun i =>
    x.alane d i + BitVec.ofNat 40 ((lane (x.vreg a) i).toNat * (lane (x.vreg b) i).toNat))

/-- VMACS: a_D := a_D + a x b, signed (R373). -/
def execVmacs (t : Fin 272) (d : Fin 4) (a b : Fin 32) (p : Fin 8) (s : State) : Answer :=
  .next (s.alu t (encA 0x07 d a b p 0x02) [rV a, rV b, rP p] [rA d] 2 (chain := true) fun x => x.accLanes d p fun i =>
    x.alane d i + BitVec.ofInt 40 ((lane (x.vreg a) i).toInt * (lane (x.vreg b) i).toInt))

/-- AADDV: a_D := a_D + a, zero-extended (R373). -/
def execAaddv (t : Fin 272) (d : Fin 4) (a : Fin 32) (p : Fin 8) (s : State) : Answer :=
  .next (s.alu t (encA 0x07 d a 0 p 0x03) [rV a, rP p] [rA d] 2 (chain := true) fun x => x.accLanes d p fun i =>
    x.alane d i + (lane (x.vreg a) i).setWidth 40)

/-- AGET: d := clamp((a_A + rnd) >> B, 0, 65,535) (R373). -/
def execAget (t : Fin 272) (d : Fin 32) (a : Fin 4) (b : Fin 32) (p : Fin 8) (s : State) : Answer :=
  .next (s.alu t (encA 0x07 d a b p 0x04) [rA a, rP p] [rV d] 2 fun x =>
    x.setLanes d p fun i => accGet (x.alane a i) b 0 65535)

/-- AGETS: d := clamp((a_A + rnd) >> B, -32,768, 32,767) (R373). -/
def execAgets (t : Fin 272) (d : Fin 32) (a : Fin 4) (b : Fin 32) (p : Fin 8) (s : State) : Answer :=
  .next (s.alu t (encA 0x07 d a b p 0x05) [rA a, rP p] [rV d] 2 fun x =>
    x.setLanes d p fun i => accGet (x.alane a i) b (-32768) 32767)

/-! Table TI-10. -/

/-- LDW: s_DATA := the word at the address (R374). -/
def execLdw (t : Fin 272) (data base : Fin 16) (space : Fin 4) (post : Bool) (off : BitVec 12) (s : State) : Answer :=
  .next (s.loadOp t 0x10 4 data false base space post off)

/-- LDH: s_DATA := the half-word, zero-extended (R374). -/
def execLdh (t : Fin 272) (data base : Fin 16) (space : Fin 4) (post : Bool) (off : BitVec 12) (s : State) : Answer :=
  .next (s.loadOp t 0x11 2 data false base space post off)

/-- LDV: v_DATA := the 8 bytes at the address (R374). -/
def execLdv (t : Fin 272) (data : Fin 32) (base : Fin 16) (space : Fin 4) (post : Bool) (off : BitVec 12) (s : State) : Answer :=
  .next (s.loadOp t 0x12 8 data true base space post off)

/-- STW: the word at the address := s_DATA (R374). -/
def execStw (t : Fin 272) (data base : Fin 16) (space : Fin 4) (post : Bool) (off : BitVec 12) (s : State) : Answer :=
  .next (s.storeOp t 0x14 4 data (rS data) base space post off fun x => leBytes 4 (x.sreg data).toNat)

/-- STH: the half-word at the address := s_DATA[15:0] (R374). -/
def execSth (t : Fin 272) (data base : Fin 16) (space : Fin 4) (post : Bool) (off : BitVec 12) (s : State) : Answer :=
  .next (s.storeOp t 0x15 2 data (rS data) base space post off fun x => leBytes 2 (x.sreg data).toNat)

/-- STV: the 8 bytes at the address := v_DATA (R374). -/
def execStv (t : Fin 272) (data : Fin 32) (base : Fin 16) (space : Fin 4) (post : Bool) (off : BitVec 12) (s : State) : Answer :=
  .next (s.storeOp t 0x16 8 data (rV data) base space post off fun x => leBytes 8 (x.vreg data).toNat)

/-! Table TI-11. -/

/-- JAL: always taken; s_REG := pc + 4 (R376). -/
def execJal (t : Fin 272) (r : Fin 16) (off : BitVec 20) (s : State) : Answer :=
  .next (s.branchOp t 0x18 r [] [rS r] off (fun _ => true) fun x => x.setS r (x.pc + 4))

/-- BEQZ: taken when s_REG = 0 (R376). -/
def execBeqz (t : Fin 272) (r : Fin 16) (off : BitVec 20) (s : State) : Answer :=
  .next (s.branchOp t 25 r [rS r] [] off (fun x => x.sreg r == 0) id)

/-- BNEZ: taken when s_REG is not 0 (R376). -/
def execBnez (t : Fin 272) (r : Fin 16) (off : BitVec 20) (s : State) : Answer :=
  .next (s.branchOp t 26 r [rS r] [] off (fun x => x.sreg r != 0) id)

/-- BLTZ: taken when s_REG < 0, signed (R376). -/
def execBltz (t : Fin 272) (r : Fin 16) (off : BitVec 20) (s : State) : Answer :=
  .next (s.branchOp t 27 r [rS r] [] off (fun x => (x.sreg r).slt 0) id)

/-- BGEZ: taken when s_REG >= 0, signed (R376). -/
def execBgez (t : Fin 272) (r : Fin 16) (off : BitVec 20) (s : State) : Answer :=
  .next (s.branchOp t 28 r [rS r] [] off (fun x => !(x.sreg r).slt 0) id)

/-- DBNZ: s_REG := s_REG - 1; taken when the result is not 0 (R376). -/
def execDbnz (t : Fin 272) (r : Fin 16) (off : BitVec 20) (s : State) : Answer :=
  .next (s.branchOp t 0x1D r [rS r] [rS r] off (fun x => x.sreg r - 1 != 0) fun x => x.setS r (x.sreg r - 1))

/-- BPANY: taken when any bit of p_REG is set (R376). -/
def execBpany (t : Fin 272) (r : Fin 8) (off : BitVec 20) (s : State) : Answer :=
  .next (s.branchOp t 0x1E r [rP r] [] off (fun x => x.preg r != 0) id)

/-- BPNONE: taken when no bit of p_REG is set (R376). -/
def execBpnone (t : Fin 272) (r : Fin 8) (off : BitVec 20) (s : State) : Answer :=
  .next (s.branchOp t 0x1F r [rP r] [] off (fun x => x.preg r == 0) id)

/-! Table TI-12. -/

/-- NOP (R373). -/
def execNop (t : Fin 272) (s : State) : Answer :=
  .next (s.alu t (encA 0x3E 0 0 0 0 0x00) [] [] 1 id)

/-- FENCE.S: waits until every store before it has left the buffer (R341). -/
def execFenceS (t : Fin 272) (s : State) : Answer :=
  .next (s.afterStores t (encA 0x3E 0 0 0 0 0x01) [] [] fun r c s =>
    (s.updTine t fun x => x.wrote c 1 [] false).goTo t r ((s.tine t).pc + 4))

/-- FENCE.L: every load before it has been performed (R341). -/
def execFenceL (t : Fin 272) (s : State) : Answer :=
  .next (s.issue t (encA 0x3E 0 0 0 0 0x02) [] [] false fun r c s =>
    ((s.allLoads t).updTine t fun x => x.wrote c 1 [] false).goTo t r ((s.tine t).pc + 4))

/-- TRAP: traps with cause TRAP (R379). -/
def execTrap (t : Fin 272) (s : State) : Answer :=
  .next (s.issue t (encA 0x3E 0 0 0 0 0x03) [] [] false fun _ _ s => s.trapKernel t 5 (s.tine t).pc)

/-- CLOSE: waits until the store buffer is empty, then passes the result of length s_A and ends the kernel's run on
the line; a length above OUT_MAX traps WINDOW (R336, R377). -/
def execClose (t : Fin 272) (a : Fin 16) (s : State) : Answer :=
  .next (if (s.tine t).stores.isEmpty then
      s.issue t (encA 0x3E 0 a 0 0 0x04) [rS a, rStores] [] false fun r c s =>
        let s := s.allLoads t
        let x := s.tine t
        let len := (x.sreg a).toNat
        if r.outMax < len then s.trapKernel t 1 x.pc
        else
          let res : Res := { bed := r.bed, band := r.band, num := r.num, kernel := r.kernel,
                             epoch := tget 0 s.bandEpochs (256 * r.bed + r.band),
                             bytes := some ((List.range len).map fun i => tget 0 x.lo (r.loBase + i)) }
          s.updTine t fun x => { x with run := none, cyc := c + 1, gate := x.gate ++ [res] }
    else s)

/-- JR: pc := s_A; ALIGN when it is not a multiple of 4, otherwise R376 applies. -/
def execJr (t : Fin 272) (a : Fin 16) (s : State) : Answer :=
  .next (s.issue t (encA 0x3E 0 a 0 0 0x05) [rS a] [] false fun r c s =>
    let x := s.tine t
    let target := x.sreg a
    if target.toNat % 4 ≠ 0 then s.trapKernel t 3 x.pc
    else (s.updTine t fun x => { x.wrote c 1 [] false with cyc := c + 3 }).goTo t r target)

/-- CYC: s_D := the cycles counted since entry, before this instruction (R370, R373). -/
def execCyc (t : Fin 272) (d : Fin 16) (s : State) : Answer :=
  .next (s.issue t (encA 0x3E d 0 0 0 0x06) [] [rS d] false fun r c s =>
    let pc := (s.tine t).pc
    (s.updTine t fun x => (x.setS d (BitVec.ofNat 32 c)).wrote c 1 [rS d] false).goTo t r (pc + 4))

/-- PFSET: Plot flag B := 1, after every older load and store (R341, R378). -/
def execPfset (t : Fin 272) (flag : Fin 32) (s : State) : Answer :=
  .next (s.flagOp t (encA 0x3E 0 0 flag 0 8) [] [] fun r c s =>
    ((s.updPlot (t / 17) fun p =>
      { p with
        flags := p.flags ||| (1#32 <<< flag.val)
        flagSet := if p.flags.getLsbD flag then p.flagSet
          else tset (0, 0) p.flagSet flag (t.val, (s.tine t).start + c) }).updTine t fun x =>
      x.wrote c 1 [] false).goTo t r ((s.tine t).pc + 4))

/-- PFCLR: Plot flag B := 0, after every older load and store (R341, R378). -/
def execPfclr (t : Fin 272) (flag : Fin 32) (s : State) : Answer :=
  .next (s.flagOp t (encA 0x3E 0 0 flag 0 9) [] [] fun r c s =>
    ((s.updPlot (t / 17) fun p => { p with flags := p.flags &&& ~~~(1#32 <<< flag.val) }).updTine t fun x =>
      x.wrote c 1 [] false).goTo t r ((s.tine t).pc + 4))

/-- PFWAIT: waits until the tine sees plot flag B set, and counts the cycles of the wait (R370, R378). -/
def execPfwait (t : Fin 272) (flag : Fin 32) (s : State) : Answer :=
  .next (match (s.tine t).run with
    | none => s
    | some r =>
      let word := encA 0x3E 0 0 flag 0 0x0A
      if (s.plot (t / 17)).flags.getLsbD flag && (s.tine t).stores.isEmpty && s.atWord t r word then
        (s.seeFlag t flag).flagOp t word [rFlag] []
          fun r c s => (s.updTine t fun x => x.wrote c 1 [] false).goTo t r ((s.tine t).pc + 4)
      else s)

/-- PFTEST: s_D := plot flag B (R378). -/
def execPftest (t : Fin 272) (d : Fin 16) (flag : Fin 32) (s : State) : Answer :=
  .next (s.flagOp t (encA 0x3E d 0 flag 0 0x0B) [] [rS d] fun r c s =>
    let v : BitVec 32 := if (s.plot (t / 17)).flags.getLsbD flag then 1 else 0
    (s.updTine t fun x => (x.setS d v).wrote c 1 [rS d] false).goTo t r ((s.tine t).pc + 4))

/-- An encoding that matches no row: traps OPCODE (R365), ahead of WATCHDOG (R380). -/
def execUndefinedEncoding (t : Fin 272) (s : State) : Answer :=
  .next (match (s.tine t).run with
    | none => s
    | some r =>
      match (s.tine t).fetch r with
      | none => s
      | some w => if wordDefined w ∨ !s.clkOk (4 + t / 17) then s else s.trapKernel t 2 (s.tine t).pc)

end Sys2Proof.Machine
end

