-- ==== Sys2Proof/Machine/Rake.lean ====
section
/-! DEFINITION. The Rake: bands, placements and their checks, the line queue and its windows, the stock kernels, the
collector and the items it writes, scrubs. Chapters 11, 12 and 13. -/

namespace Sys2Proof.Machine

/-! Bands (R331). -/

/-- OUT_WIDTH of a bed: that of its graft table in force, else of the default table (R136). -/
def Bed.outWidth (x : Bed) : Nat := match x.graft with
  | some g => g.outWidth
  | none => 1152 * x.segs.length

/-- Bands of a bed: 16 for each plot that serves it. -/
def State.bandCount (s : State) (b : Nat) : Nat := 16 * (s.bedPlots b).length

/-- Wb. -/
def State.bandWidth (s : State) (b : Nat) : Nat := 8 * ceilDiv (s.bed b).outWidth (8 * s.bandCount b)

/-- The non-empty bands, ascending. -/
def State.bands (s : State) (b : Nat) : List Nat :=
  (List.range (s.bandCount b)).filter fun k => k * s.bandWidth b < (s.bed b).outWidth

/-- Columns of band k. -/
def State.bandCols (s : State) (b k : Nat) : Nat := min (s.bandWidth b) ((s.bed b).outWidth - k * s.bandWidth b)

/-- The tine that holds a position of a plot. -/
def State.holder (s : State) (p pos : Nat) : Nat := ((s.plot p).holders.getD pos none).getD (17 * p + pos)

/-- Every position that a tine holds, as plot and position. -/
def State.heldBy (s : State) (t : Nat) : List (Nat × Nat) :=
  (List.range 16).flatMap fun p => (List.range 16).filterMap fun i => if s.holder p i = t then some (p, i) else none

/-- The tine that runs band k of a bed. -/
def State.tineOfBand (s : State) (b k : Nat) : Nat := s.holder ((s.bedPlots b).getD (k / 16) 0) (k % 16)

/-- The bands a tine runs on a bed. -/
def State.bandsOfTine (s : State) (b t : Nat) : List Nat :=
  (List.range (s.bandCount b)).filter fun k => s.tineOfBand b k = t

/-- The active tines of a bed: those that hold a position, ascending. -/
def State.activeTines (s : State) (b : Nat) : List Nat :=
  (s.bedTines b).filter fun t => (s.bedPlots b).any fun p => (List.range 16).any fun i => s.holder p i = t

def State.bandEpoch (s : State) (b k : Nat) : Nat := tget 0 s.bandEpochs (256 * b + k)
def State.nextEpoch (s : State) (b k : Nat) : State :=
  { s with bandEpochs := tupd 0 s.bandEpochs (256 * b + k) fun e => (e + 1) % 256 }

/-- The band whose epoch a tine's lines of a LINE placement carry. -/
def State.lineBand (s : State) (b t : Nat) : Nat := (s.bandsOfTine b t).headD 0

/-- The bed whose lines a tine serves: that of its plot. -/
def State.bedOfTine (s : State) (t : Nat) : Nat := s.plotBed (t / 17)

/-! Kernels (Table DO-15, R384). -/

/-- ENTRIES of a stock kernel's ARG. -/
def argEntries (k : Kern) : List Nat :=
  if k.id = 4 ∨ k.id = 5 then [k.arg.toNat % 8] else (List.range 8).filter fun e => k.arg.getLsbD e

/-- The selection of a kernel as a mask. -/
def argMask (k : Kern) : Nat := (argEntries k).foldl (fun m e => m + 2 ^ e) 0

def up8 (n : Nat) : Nat := 8 * ceilDiv n 8

/-- What a kernel declares: code words, LM_SIZE, OUT_MAX per band, least halo, C. -/
structure KernInfo where
  words : Nat
  lm : Nat
  outMax : Nat
  halo : Nat
  cycles : Nat

/-- The figures of a kernel of a placement on a bed; a stock kernel's code is the firmware's (DEDUCED, log 18). -/
def State.kernInfo (s : State) (b halo : Nat) (k : Kern) : KernInfo :=
  let ow := (s.bed b).outWidth
  let wb := s.bandWidth b
  let n := (argEntries k).length
  match k.id with
  | 1 => { words := 0, lm := 0, outMax := 2 * n * wb, halo := 0, cycles := 24 + ceilDiv (wb * n) 4 }
  | 2 => { words := 0, lm := 0, outMax := n * wb, halo := 0, cycles := 32 + ceilDiv (wb * n) 2 }
  | 3 => { words := 0, lm := 0, outMax := up8 (2 * n * wb / bits k.arg.toNat 11 8), halo := 0, cycles := 48 + wb * n }
  | 4 => { words := 0, lm := 0, outMax := up8 (wb / 8), halo := 8, cycles := 64 + 6 * (wb + 2 * halo) }
  | 5 => { words := 0, lm := 0, outMax := up8 (ow + 64), halo := 0, cycles := 400 + 12 * ow }
  | 6 => { words := 0, lm := 0, outMax := up8 (min 16384 (40 * wb * n + 16)), halo := 0, cycles := 200 + 40 * wb * n }
  | id =>
    match tget none s.cuttings id with
    | some c =>
      { words := c.code.length, lm := c.lmSize, outMax := c.outMax, halo := c.halo,
        cycles := c.cycBase + ceilDiv (c.cycCol * (wb + 2 * halo)) 256 }
    | none => { words := 0, lm := 0, outMax := 0, halo := 0, cycles := 0 }

/-- Whether a stock kernel's ARG keeps the fields of Table DO-15 under a SEQ_LEN and a band width (R411). -/
def argOk (k : Kern) (seqLen wb : Nat) : Bool :=
  let v := k.arg.toNat
  let es := argEntries k
  let ent := !es.isEmpty && es.all fun e => decide (e < seqLen)
  match k.id with
  | 1 => ent && decide (v < 2 ^ 8)
  | 2 => ent && decide (v < 2 ^ 12) && inR 1 (bits v 11 8) 8
  | 3 => ent && decide (v < 2 ^ 16) && inR 2 (bits v 11 8) 8 && inR 2 (bits v 15 12) 8 && wb % bits v 11 8 == 0
  | 4 => ent && decide (v < 2 ^ 40) && bits v 15 4 == 0
  | 5 => ent && decide (v < 2 ^ 40) && bits v 15 4 == 0
  | 6 => ent && decide (v < 2 ^ 15) && (es.length == 1 || es.length == 3) && inR 1 (bits v 14 8) 100
  | _ => true

/-- Whether an ID is a stock kernel's, or a cutting of the cabinet (R347). -/
def State.kernKnown (s : State) (c id : Nat) : Bool :=
  inR 1 id 6 || (match tget none s.cuttings id with
    | some x => x.cab == c
    | none => false)

/-- B of R349. -/
def State.budget (s : State) (b : Nat) (line : Bool) : Nat :=
  let x := s.bed b
  (if line then (s.activeTines b).length else 1) * 20 * x.seqLen * x.slotCycles - 200

/-- The resource checks of Table RK-8: DETAIL of the first that fails. -/
def State.placeShort (s : State) (b : Nat) (p : Place) : Option Nat :=
  let ks := p.kernels.map fun k => s.kernInfo b p.halo k
  let sum (f : KernInfo → Nat) : Nat := ks.foldl (fun n k => n + f k) 0
  let ow := (s.bed b).outWidth
  let rows := p.kernels.foldl (fun n k => n + 2 * (argEntries k).length) 0
  if 16384 < 4 * sum KernInfo.words ∨ 65536 < sum KernInfo.lm ∨
      524288 < p.kernels.foldl (fun n k => n + k.psSize) 0 ∨ 16384 < sum KernInfo.outMax ∨
      (p.line ∧ 40960 < 64 + rows * up8 (2 * ow)) then some (dField 8)
  else if s.budget b p.line < sum KernInfo.cycles then some (dSubject 4)
  else none

def placeKey (c b : Nat) : Nat := 4 * c + b
def State.place (s : State) (c b : Nat) : Option Place := tget none s.places (placeKey c b)

/-- The plots that hold a cabinet's placement on a bed hold it no more: a placement that follows is another (R343). -/
def State.forgetPlace (s : State) (c b : Nat) : State :=
  { s with plots := tmap {} s.plots fun x =>
      { x with loaded := x.loaded.filter fun l => l.1 ≠ c ∨ l.2.1 ≠ b } }

/-- Void a cabinet's placement on a bed, with a cause 1 CUT.ASSIGN, 2 BED.CONFIG, 3 cabinet reset (R329); the last is told to
cabinet 0 alone (Table CB-6). -/
def State.voidPlace (s : State) (c b cause : Nat) : State :=
  match s.place c b with
  | none => s
  | some _ =>
    let s := ({ s with places := tset none s.places (placeKey c b) none }).forgetPlace c b
    s.raiseTo (if c = 0 ∨ cause = 3 then [0] else [0, c]) (s.ev 0x0802 b c (w2 cause))

/-- Cabinets with a placement on a bed, ascending. -/
def State.placedOn (s : State) (b : Nat) : List Nat :=
  s.places.filterMap fun (k, p) => if k % 4 = b ∧ p.isSome then some (k / 4) else none

/-- Void the placements of a bed that fail a resource check or a check of R411 now (R351). -/
def State.recheckPlaces (s : State) (b cause : Nat) : State :=
  forEach (s.placedOn b) (fun c s =>
    match s.place c b with
    | none => s
    | some p =>
      if (s.placeShort b p).isSome ∨ ¬ p.kernels.all fun k => argOk k (s.bed b).seqLen (s.bandWidth b) then
        s.voidPlace c b cause
      else s) s

/-! The line window (Table RK-2). -/

/-- The line tag of Table BD-5. -/
def State.tagOf (s : State) (l : GLine) : List Byte :=
  leBytes 4 l.line ++ leBytes 1 l.bed ++ leBytes 1 l.pixels.length ++
    leBytes 2 ((if l.acc = 0 then 1 else 0) + (if l.darkUnchecked then 2 else 0) + (if l.deadRun then 4 else 0)) ++
    leBytes 8 l.pos.toNat ++ leBytes 8 l.time ++ leBytes 1 l.invalid.toNat ++ leBytes 1 l.fluxShort.toNat ++
    leBytes 2 (s.bed l.bed).outWidth ++ leBytes 4 0

/-- The value of a column, halo columns beyond an edge repeating the edge's. -/
def colAt (row : List Nat) (c : Int) : Nat := row.getD (min c.toNat (row.length - 1)) 0

/-- The LI window of a tine for a line's band (R332). A column of a row beyond the halo of a band narrower than Wb repeats the
last one (DESIGN CHOICE, log 87). -/
def State.liBytes (s : State) (l : GLine) (band : Nat) (spare : Bool) : List Byte :=
  let b := l.bed
  let ow := (s.bed b).outWidth
  let wb := s.bandWidth b
  let first := band * wb
  let w := s.bandCols b band
  let h := l.place.halo
  let row := up8 (2 * (wb + 2 * h))
  let edgeR := decide (ow < first + w + h)
  let flags := (if l.docStart then 1 else 0) + (if l.docEnd then 2 else 0) + (if first < h then 4 else 0) +
    (if edgeR then 8 else 0) + (if spare then 16 else 0)
  s.tagOf l ++ leBytes 4 first ++ leBytes 2 w ++ leBytes 1 h ++ leBytes 1 l.pixels.length ++ leBytes 2 row ++
    leBytes 1 (s.bandEpoch b band) ++ leBytes 1 flags ++ leBytes 2 band ++ leBytes 2 0 ++ leBytes 8 l.acc ++
    leBytes 8 0 ++
    l.pixels.flatMap fun px =>
      padTo row ((List.range (wb + 2 * h)).flatMap fun (i : Nat) => leBytes 2 (colAt px ((first + i : Nat) - h : Int)))

/-- The LI window of a tine for a line of a LINE placement: the entries its kernel selects, of this line and of the one
before it, which are 0 for line 1 (R332). -/
def State.lineWindow (s : State) (l : GLine) (t : Nat) (spare : Bool) : List Byte :=
  let ow := (s.bed l.bed).outWidth
  let row := up8 (2 * ow)
  let es := match l.place.kernels.head? with
    | some k => argEntries k
    | none => []
  let prev := if l.docStart then [] else l.prev
  let flags := (if l.docStart then 1 else 0) + (if l.docEnd then 2 else 0) + (if spare then 16 else 0)
  s.tagOf l ++ leBytes 4 0 ++ leBytes 2 ow ++ leBytes 1 0 ++ leBytes 1 (2 * es.length) ++ leBytes 2 row ++
    leBytes 1 (s.bandEpoch l.bed (s.lineBand l.bed t)) ++ leBytes 1 flags ++ leBytes 2 0 ++ leBytes 2 0 ++
    leBytes 8 l.acc ++ leBytes 8 0 ++
    (es.map (fun e => l.pixels.getD e []) ++ es.map fun e => prev.getD e []).flatMap fun px =>
      padTo row ((List.range ow).flatMap fun i => leBytes 2 (px.getD i 0))

/-! Windows of the kernels of a placement (R335). -/

/-- The window record of kernel j of a line's placement on a band. -/
def State.runningOf (s : State) (l : GLine) (band j : Nat) : Running :=
  let ks := l.place.kernels.map fun k => s.kernInfo l.bed l.place.halo k
  let before (f : KernInfo → Nat) : Nat := (ks.take j).foldl (fun n k => n + f k) 0
  let k := ks.getD j { words := 0, lm := 0, outMax := 0, halo := 0, cycles := 0 }
  { bed := l.bed, band, num := l.num, kernel := j, acc := l.acc,
    imBase := 4 * before KernInfo.words, imSize := 4 * k.words,
    lmBase := before KernInfo.lm, lmSize := k.lm,
    psBase := (l.place.kernels.take j).foldl (fun n k => n + k.psSize) 0,
    psSize := match l.place.kernels[j]? with
      | some k => k.psSize
      | none => 0,
    loBase := before KernInfo.outMax, outMax := k.outMax, cycles := k.cycles }

/-- The code of a placement, its kernels side by side, as IM holds it (R344). -/
def State.placeCode (s : State) (p : Place) : Tab (BitVec 32) :=
  let code := p.kernels.flatMap fun k => match tget none s.cuttings k.id with
    | some c => c.code
    | none => []
  (code.zipIdx).filterMap fun (w, i) => if w = 0 then none else some (i, w)

/-- Zero n bytes of a memory from a place. -/
def zeroBytes (t : Tab Byte) (base n : Nat) : Tab Byte := t.filter fun (k, _) => ¬ (base ≤ k ∧ k < base + n)

/-! The stock kernels (R411). -/

/-- Bits packed with the first in bit 7. -/
def packBits (bs : List Bool) : List Byte :=
  (List.range (ceilDiv bs.length 8)).map fun i =>
    BitVec.ofNat 8 ((List.range 8).foldl (fun n j => 2 * n + (bs.getD (8 * i + j) false).toNat) 0)

/-- The selected entries of a line. -/
def selected (k : Kern) (px : List (List Nat)) : List (List Nat) := (argEntries k).map fun e => px.getD e []

/-- DEPTH8's rounding. -/
def depth8 (shift v : Nat) : Nat := min 255 ((v + 2 ^ (shift - 1)) / 2 ^ shift)

/-- Columns of a selection, the entries of each side by side. -/
def interleave (rows : List (List Nat)) (n : Nat) (f : Nat → List Byte) : List Byte :=
  (List.range n).flatMap fun c => rows.flatMap fun r => f (r.getD c 0)

/-- Whether a column is black under BITONAL: fixed, or against the mean of the 17 columns centred on it, compared
exactly. -/
def blackAt (k : Kern) (row : List Nat) (c : Nat) : Bool :=
  let v := row.getD c 0
  let a := k.arg.toNat
  if bit a 3 then
    let sum := (List.range 17).foldl (fun n i => n + colAt row ((c : Int) + i - 8)) 0
    decide (v * 256 * 17 < bits a 39 32 * sum)
  else decide (v < bits a 31 16)

/-- A line as black and white. -/
def bitonal (k : Kern) (row : List Nat) : List Bool := (List.range row.length).map fun c => blackAt k row c

/-- The rounded mean of the samples present of a box. -/
def boxMean (rows : List (List Nat)) (c0 dx : Nat) : Nat :=
  let vs := rows.flatMap fun r => (r.drop c0).take dx
  (2 * vs.foldl (· + ·) 0 + vs.length) / (2 * vs.length)

/-- One output line of DECIMATE from the lines of a strip. -/
def decimated (k : Kern) (strip : List (List (List Nat))) (ow : Nat) : List Byte :=
  let dx := bits k.arg.toNat 11 8
  (List.range (ceilDiv ow dx)).flatMap fun c =>
    (List.range (argEntries k).length).flatMap fun e =>
      leBytes 2 (boxMean (strip.map fun ln => ln.getD e []) (c * dx) dx)

/-- An item a kernel gives: kind, flags, payload. -/
structure Given where
  kind : Nat
  flags : Nat
  payload : List Byte

def givenLine (tag bs : List Byte) : Given := { kind := 2, flags := 0, payload := tag ++ bs }
def givenCoded (tag : List Byte) (flags nbits : Nat) (bs : List Byte) : Given :=
  { kind := 3, flags, payload := tag ++ leBytes 4 nbits ++ leBytes 4 0 ++ bs }

/-- FRAME_WIDTH of JPEG: the non-empty bands times Wb. -/
def State.jpegWidth (s : State) (b : Nat) : Nat := (s.bands b).length * s.bandWidth b

/-- The intervals of a strip, one for each band, each but the image's first preceded by its RSTm (R411). -/
def State.jpegStrip (s : State) (b : Nat) (k : Kern) (strip : List (List (List Nat))) (first outMax : Nat) :
    List Byte × Bool :=
  let wb := s.bandWidth b
  let q := bits k.arg.toNat 14 8
  (s.bands b).foldl (fun (acc, tr) band =>
    let comps := (List.range (argEntries k).length).map fun e =>
      strip.map fun ln => (List.range wb).map fun (i : Nat) => depth8 8 (colAt (ln.getD e []) ((band * wb + i : Nat) : Int))
    let n := first + band
    let rst : List Byte := if n = 0 then [] else [0xFF#8, BitVec.ofNat 8 (0xD0 + n % 8)]
    let code := jpegInterval false q comps
    if outMax - 16 < rst.length + code.length then (acc ++ rst ++ jpegInterval true q comps, true)
    else (acc ++ rst ++ code, tr)) ([], false)

/-- A strip of JPEG as its CODED item. -/
def State.jpegGiven (s : State) (b : Nat) (r : Run) (strip : List (List (List Nat))) (tag : List Byte) : Run × Given :=
  let (bs, tr) := s.jpegStrip b r.kern strip r.intervals (s.kernInfo b 0 r.kern).outMax
  ({ r with intervals := r.intervals + (s.bands b).length, height := r.height + strip.length, strip := [] },
    givenCoded tag (if tr then 2 else 0) (8 * bs.length) bs)

/-- One line, handed or filled, through a stock coding kernel. -/
def State.codeLine (s : State) (b : Nat) (r : Run) (no : Nat) (tag : List Byte) (sel : List (List Nat)) :
    Run × List Given :=
  let k := r.kern
  let (r, out) : Run × List Given :=
    if k.id = 5 then
      let cur := bitonal k (sel.headD [])
      let prev := if r.lastLine = 0 then cur.map fun _ => false else bitonal k (r.last.headD [])
      let code := t6Code prev cur
      ({ r with height := r.height + 1 }, [givenCoded tag 0 code.length (packBits code)])
    else
      let strip := r.strip ++ [sel]
      if k.id = 3 then
        (if strip.length = bits k.arg.toNat 15 12 then
          ({ r with height := r.height + 1, strip := [] },
            [givenLine tag (decimated k strip (s.bed b).outWidth)])
        else ({ r with strip }, []))
      else if strip.length = 8 then
        let (r, g) := s.jpegGiven b r strip tag
        (r, [g])
      else ({ r with strip }, [])
  ({ r with lastLine := no, tag, last := sel }, out)

/-- The lines from the one after the last handed to this one: missing ones are filled with the last line handed, under
its tag with their own number (R412). -/
def State.codeLines (s : State) (b : Nat) (r : Run) (no : Nat) (tag : List Byte) (sel : List (List Nat)) :
    Run × List Given :=
  let missing := if r.lastLine = 0 then 0 else no - r.lastLine - 1
  let (r, out) := (List.range missing).foldl (fun (r, out) _ =>
    let m := r.lastLine + 1
    let (r', g) := s.codeLine b r m (patch r.tag 0 (leBytes 4 m)) r.last
    (r', out ++ g)) (r, ([] : List Given))
  let (r, g) := s.codeLine b r no tag sel
  (r, out ++ g)

/-- Whether a kernel is a stock coding kernel (R412). -/
def coding (k : Kern) : Bool := k.id == 3 || k.id == 5 || k.id == 6

/-- What a stock kernel that codes nothing gives for a line. -/
def State.plainLine (s : State) (l : GLine) (k : Kern) : List Byte :=
  let ow := (s.bed l.bed).outWidth
  let sel := selected k l.pixels
  if k.id = 1 then interleave sel ow (leBytes 2 ·)
  else if k.id = 2 then interleave sel ow (fun v => leBytes 1 (depth8 (bits k.arg.toNat 11 8) v))
  else packBits (bitonal k (sel.headD []))

/-! Runs (R406). -/

/-- FORM of Table DO-13. -/
def formOf (id : Nat) : Nat := if inR 1 id 6 then id - 1 else 0xFF

/-- The DOC_BEGIN payload of a run. FRAME_WIDTH and ENTRIES of a cutting are free values. -/
def State.docBegin (s : State) (d : Doc) (r : Run) : List Byte :=
  let x := s.bed r.bed
  let k := r.kern
  let a := k.arg.toNat
  let ow := x.outWidth
  let dx := if k.id = 3 then bits a 11 8 else 1
  let dy := if k.id = 3 then bits a 15 12 else 1
  let stock := inR 1 k.id 6
  let frame := if !stock then s.drawn.toNat % 65536
    else if k.id = 3 then ceilDiv ow dx
    else if k.id = 4 then up8 ow
    else if k.id = 6 then s.jpegWidth r.bed
    else ow
  let entries := if stock then argMask k else s.draw.drawn.toNat % 256
  leBytes 2 k.id ++ leBytes 2 ow ++ leBytes 2 frame ++ leBytes 1 entries ++ leBytes 1 (formOf k.id) ++
    leBytes 8 x.pitch.toNat ++ leBytes 1 dx ++ leBytes 1 dy ++
    leBytes 2 (match d.job with
      | some j => j.id
      | none => 0) ++ leBytes 12 0 ++
    (if k.id = 6 then jpegHead (bits a 14 8) frame (argEntries k).length (s.bandWidth r.bed / 8) else [])

/-- Draw the free values that a run's DOC_BEGIN used. -/
def State.drawFor (s : State) (r : Run) : State := if inR 1 r.kern.id 6 then s else s.draw.draw

def Doc.runOf (d : Doc) (b kernel : Nat) : Option Run := d.runs.find? fun r => r.bed = b ∧ r.kernel = kernel
def Doc.setRun (d : Doc) (r : Run) : Doc :=
  { d with runs := d.runs.map fun (q : Run) => if q.bed = r.bed ∧ q.kernel = r.kernel then r else q }

/-- Write an item of a run, releasing a reservation: a DOC_END is a last item of its document (R486). -/
def State.writeGiven (s : State) (c acc : Nat) (b : Nat) (j : Nat) (k : Kern) (g : Given) (res : Nat) : State :=
  let (s, bs) := s.makeItem c k.stream g.kind g.flags b j acc g.payload
  s.putItem c k.stream bs g.kind acc res (g.kind == 5)

/-- Release a reservation without an item (R407); the room it leaves takes what is held (R408). -/
def State.release (s : State) (c n res : Nat) : State :=
  State.flushHeld (s.stream c n).heldItems.length c n (s.chgStream c n fun x => { x with reserved := x.reserved - res })

/-- Write a run's DOC_BEGIN if it has none. -/
def State.beginRun (s : State) (d : Doc) (r : Run) : State × Run :=
  if r.begun then (s, r)
  else
    let g : Given := { kind := 1, flags := 0, payload := s.docBegin d r }
    ((s.drawFor r).writeGiven d.cab d.acc r.bed r.kernel r.kern g 0, { r with begun := true })

/-- Write several items of one line: the first releases the line's reservation. -/
def State.writeAll (s : State) (c acc b j : Nat) (k : Kern) (gs : List Given) (res : Nat) : State :=
  match gs with
  | [] => s.release c k.stream res
  | g :: rest => forEach rest (fun g s => s.writeGiven c acc b j k g 0) (s.writeGiven c acc b j k g res)

/-- The joined result of a cutting: its bands in order (R336). -/
def GLine.joined (l : GLine) (bands : List Nat) (j : Nat) : List Byte :=
  bands.flatMap fun k => match l.results.find? fun r => r.band = k ∧ r.kernel = j with
    | some r => r.bytes.getD []
    | none => []

/-- Bands whose results a line awaits. -/
def State.lineBands (s : State) (l : GLine) : List Nat := if l.place.line then [0] else s.bands l.bed

/-- Whether every result of a line for kernel j has been accepted. -/
def State.kernelDone (s : State) (l : GLine) (j : Nat) : Bool :=
  (s.lineBands l).all fun k => l.results.any fun r => r.band = k ∧ r.kernel = j

/-- The items of a line for kernel j, once its results are all accepted (R406, R410). Outside a document the box and
strip kernels give no item (DESIGN CHOICE, log 19). -/
def State.emit (s : State) (l : GLine) (j : Nat) (k : Kern) : State :=
  let res := l.reserved.getD j 0
  let tag := s.tagOf l
  let fault := l.results.any fun r => r.kernel = j ∧ r.bytes.isNone
  match s.doc l.acc with
  | none =>
    if l.acc ≠ 0 then s.release l.cab k.stream res
    else
      let gs : List Given :=
        if fault then [{ kind := 4, flags := 0, payload := tag }]
        else if k.id = 3 ∨ k.id = 6 then []
        else if k.id = 5 then
          let cur := bitonal k ((selected k l.pixels).headD [])
          let code := t6Code (cur.map fun _ => false) cur
          [givenCoded tag 0 code.length (packBits code)]
        else
          let bs := if inR 1 k.id 6 then s.plainLine l k else l.joined (s.lineBands l) j
          if bs.isEmpty then [] else [givenLine tag bs]
      s.writeAll l.cab 0 l.bed j k gs res
  | some d =>
    match d.runOf l.bed j with
    | none => s.release l.cab k.stream res
    | some r =>
      if d.orphaned then s.release l.cab k.stream res
      else
        let (r, gs) : Run × List Given :=
          if fault then (r, [{ kind := 4, flags := 0, payload := tag }])
          else if coding k then s.codeLines l.bed r l.line tag (selected k l.pixels)
          else
            let bs := if inR 1 k.id 6 then s.plainLine l k else l.joined (s.lineBands l) j
            (r, if bs.isEmpty then [] else [givenLine tag bs])
        let items := (gs.filter fun g => g.kind ≠ 4).length
        let r := { r with items := r.items + items, height := if coding k then r.height else r.height + items }
        let (s, r) := if gs.isEmpty then (s, r) else s.beginRun d r
        (s.writeAll l.cab l.acc l.bed j k gs res).updDoc l.acc fun d => d.setRun r

/-- The first kernel and line of a bed's queue whose item may be written: its results are all accepted, and every
earlier line's item of that kernel has been written. -/
def State.writable (s : State) (b : Nat) : Option (GLine × Nat × Kern) :=
  let q := (s.bed b).queue
  q.findSome? fun l =>
    ((l.place.kernels.zipIdx).find? fun (_, j) =>
      !l.written.contains j && s.kernelDone l j &&
      q.all fun e => decide (l.num ≤ e.num) || decide (e.place.kernels.length ≤ j) || e.written.contains j).map
        fun (k, j) => (l, j, k)

/-- Write every item of a bed that may be written, and let complete lines leave the queue (R333). -/
def State.collect (fuel : Nat) (b : Nat) (s : State) : State :=
  match fuel with
  | 0 => s
  | fuel + 1 =>
    match s.writable b with
    | none => s
    | some (l, j, k) =>
      let s := s.emit l j k
      let w := l.written ++ [j]
      if w.length = l.place.kernels.length then
        let plots := (if l.place.line then [(l.tine.getD 0) / 17]
          else (s.bands l.bed).map fun k => (s.bedPlots b).getD (k / 16) 0).dedup
        let s := forEach plots (fun p s => s.inc 7 p 0 1) s
        State.collect fuel b (s.updBed b fun x => { x with queue := x.queue.filter fun e => e.num ≠ l.num })
      else
        State.collect fuel b (s.updBed b fun x =>
          { x with queue := x.queue.map fun e => if e.num = l.num then { e with written := w } else e })

/-- Lines in a bed's Line Queue: a line has left it once every result of its kernels has been accepted, though an earlier
line's result may still keep its items from being written (R333). -/
def State.queued (s : State) (b : Nat) : Nat :=
  ((s.bed b).queue.filter fun l => !(List.range l.place.kernels.length).all fun j => s.kernelDone l j).length

/-- Fuel for a bed's queue. -/
def State.collected (s : State) (b : Nat) : State := State.collect (4 * (s.bed b).queue.length + 1) b s

/-- Lines of a document still in a bed's queue. -/
def State.linesQueued (s : State) (acc : Nat) : Bool :=
  (List.range 4).any fun b => (s.bed b).queue.any fun l => l.acc = acc

/-- End the runs of a document (R406, R411, R412): what a coding kernel holds, EOFB, DOC_END. -/
def State.endRun (s : State) (d : Doc) (r : Run) : State :=
  let k := r.kern
  let x := d.bed r.bed
  let lastDropped := coding k && decide (r.lastLine ≠ x.captured + x.dropped)
  let (r, gs) : Run × List Given :=
    if !coding k || r.lastLine == 0 then (r, [])
    else if k.id = 5 then (r, [givenCoded r.tag 0 t6Eofb.length (packBits t6Eofb)])
    else if lastDropped || r.strip.isEmpty then (r, [])
    else if k.id = 3 then
      ({ r with height := r.height + 1 }, [givenLine r.tag (decimated k r.strip (s.bed r.bed).outWidth)])
    else
      let (r, g) := s.jpegGiven r.bed r r.strip r.tag
      (r, [g])
  let (s, r) := s.beginRun d r
  let s := forEach gs (fun g s => s.writeGiven d.cab d.acc r.bed r.kernel k g 0) s
  let fin : Given :=
    { kind := 5, flags := if lastDropped then 2 else 0,
      payload := leBytes 4 (r.items + gs.length) ++ leBytes 4 r.height ++ leBytes 8 0 ++
        (if k.id = 6 then jpegTail r.height else []) }
  s.writeGiven d.cab d.acc r.bed r.kernel k fin 0

/-- End every run of a document. -/
def State.endRuns (s : State) (acc : Nat) : State :=
  match s.doc acc with
  | none => s
  | some d =>
    let s := if d.orphaned then s else forEach d.runs (fun r s => s.endRun d r) s
    s.updDoc acc fun d => { d with runs := [] }

/-- The runs of a document on a bed, one for each kernel of the cabinet's placement (R406). -/
def State.openRuns (s : State) (acc b : Nat) : State :=
  match s.doc acc with
  | none => s
  | some d =>
    match s.place d.cab b with
    | none => s
    | some p =>
      s.updDoc acc fun d =>
        { d with
          runs := d.runs ++ (p.kernels.zipIdx).map fun ((k, j) : Kern × Nat) => ({ bed := b, kernel := j, kern := k } : Run) }

/-! Admission (R407). -/

/-- The reservation of a kernel of a placement for one line. -/
def State.reservation (s : State) (c b : Nat) (p : Place) (k : Kern) : Nat :=
  let n := if p.line then 1 else (s.bands b).length
  48 + up8 ((s.kernInfo b p.halo k).outMax * n) + (if (s.stream c k.stream).encrypt then 32 else 0)

/-- Whether a line is admitted: every reservation fits and leaves 4,096 bytes, and no item of such a stream is held
(R407, R408). -/
def State.admits (s : State) (c b : Nat) (p : Place) : Bool :=
  p.kernels.all fun k =>
    let x := s.stream c k.stream
    x.kind == 2 && x.heldItems.isEmpty && decide (s.reservation c b p k + 4096 ≤ x.room)

/-- Enter a line into the queue with its reservations. -/
def State.enterLine (s : State) (b : Nat) (l : GLine) : State :=
  let p := l.place
  let rs := p.kernels.map fun k => s.reservation l.cab b p k
  let s := forEach (p.kernels.zip rs) (fun ((k, r) : Kern × Nat) s =>
    s.chgStream l.cab k.stream fun x => { x with reserved := x.reserved + r }) s
  let s := forEach p.kernels (fun k s => s.inc 9 (16 * l.cab + k.stream) 7 1) s
  let ts := s.activeTines b
  let turn := (s.bed b).lineTurn
  s.updBed b fun x =>
    { x with
      queue := x.queue ++ [{ l with num := x.queueNum, reserved := rs,
                                    prev := if x.handed.1 = l.acc then x.handed.2 else [],
                                    tine := if p.line then ts[turn % ts.length]? else none }],
      handed := (l.acc, l.pixels), queueNum := x.queueNum + 1, lineTurn := if p.line then turn + 1 else turn }

/-! Scrubs (R343, R344). -/

/-- A tine scrubbed: buffers, registers and memories zero, its code loaded. -/
def Tine.scrubbed (x : Tine) (code : Tab (BitVec 32)) : Tine :=
  { im := code, gate := x.gate, declared := x.declared, quarantined := x.quarantined, retired := x.retired,
    closed := x.closed, declarations := x.declarations, spareStart := x.spareStart, take := x.take }

/-- The oldest line of a plot's bed whose results on the plot's bands are not all accepted, and which the plot must
therefore take. -/
def State.nextLine (s : State) (p : Nat) : Option GLine :=
  let b := s.plotBed p
  if 4 ≤ b then none
  else (s.bed b).queue.find? fun l =>
    (List.range l.place.kernels.length).any fun j =>
      if l.place.line then decide (l.tine.map (· / 17) = some p) && !s.kernelDone l j
      else (s.bands b).any fun k => decide (s.tineOfBand b k / 17 = p) &&
        !l.results.any fun r => r.band = k ∧ r.kernel = j

/-- Whether a plot must be scrubbed before it takes a line (R343). -/
def State.needsScrub (s : State) (p : Nat) (l : GLine) : Bool :=
  let x := s.plot p
  x.scrubDue || x.lastCab != some l.cab || x.loaded != some (l.cab, l.bed, l.place)

/-- A tine that is up: its gate open. -/
def Tine.up (x : Tine) : Bool := !x.closed && !x.retired && !x.quarantined

/-- Live tines of a plot that are not its spare. -/
def State.liveTines (s : State) (p : Nat) : List Nat :=
  ((List.range 17).map fun t => 17 * p + t).filter fun t => (s.tine t).up && (s.plot p).spare != some (t % 17)

end Sys2Proof.Machine
end

