-- ==== Sys2Proof/Machine/Turns.lean ====
section
/-! DEFINITION. Which jobs share a transport and which cabinets are backlogged. Chapter 14. -/

namespace Sys2Proof.Machine

/-- Two jobs share a transport (R434). -/
def shares (a b : Job) : Bool :=
  (!a.flatbed && !b.flatbed && a.entryGpio == b.entryGpio) || (a.bedMask &&& b.bedMask) != 0

/-- A job that may still feed a document. -/
def Job.canFeed (j : Job) : Bool := !j.cancelled && (j.docs == 0 || decide (j.fed < j.docs))

/-- Whether each of a job's beds has a valid placement of its cabinet (R351). -/
def State.placesValid (s : State) (j : Job) : Bool :=
  (List.range 4).all fun b => !j.bedMask.getLsbD b || (s.place j.cab b).isSome

/-- A job for which its cabinet is backlogged (R435). -/
def State.eligible (s : State) (j : Job) : Bool :=
  j.canFeed && decide (s.inFlight j.cab < (s.entry j.cab).maxDocs) && s.placesValid j

/-- Change the queued job of a cabinet and a number. -/
def State.updJob (s : State) (c id : Nat) (f : Job → Job) : State :=
  { s with jobs := s.jobs.map fun (k : Job) => if k.cab = c ∧ k.id = id then f k else k }

/-- Jobs for which a cabinet is noted backlogged on the transport of a job (R434, R435). -/
def State.backlogOn (s : State) (j : Job) : List Job := s.jobs.filter fun k => k.backlog && s.eligible k && shares j k

/-- The least V of the other cabinets backlogged on the transport of a job (R435). -/
def State.leastV (s : State) (j : Job) : Nat :=
  match ((s.backlogOn j).filter fun k => k.cab != j.cab).map fun k => (s.cab k.cab).vtime with
  | [] => 0
  | v :: t => t.foldl min v

/-- Note for which jobs their cabinets are backlogged now; the virtual time of one that becomes so on a transport rises
(R435). -/
def State.reBacklog (s : State) : State :=
  forEach s.jobs (fun j s =>
    let now := s.eligible j
    if now = j.backlog then s
    else
      let s := if now && (s.backlogOn j).all fun k => k.cab != j.cab then
          s.updCab j.cab fun x => { x with vtime := max x.vtime (s.leastV j) }
        else s
      s.updJob j.cab j.id fun k => { k with backlog := now }) s

end Sys2Proof.Machine
end

