-- ==== Sys2Proof/Machine/Cut.lean ====
section
/-! DEFINITION. The CUT family (Table MB-10) and the events of the Rake. Chapters 11 and 12. -/

namespace Sys2Proof.Machine

/-! Shared checks of a bed command. -/

/-- The bed of a command is allowed to its cabinet. -/
def bedCharter (off : Nat) (s : State) (r : Req) : Option Err :=
  need (decide (3 < r.u8 off) || s.bedAllowed r.cab (r.u8 off)) (eCharter off)

/-- The bed of a command is a bed. -/
def bedValue (off : Nat) (r : Req) : Option Err := need (decide (r.u8 off ≤ 3)) (eValue off)

/-- No job of another cabinet holds the bed. -/
def bedBusy (off : Nat) (s : State) (r : Req) : Option Err := need (!s.bedHeldByOther r.cab (r.u8 off)) (eBusy off)

/-! CUT.LOAD. -/

def imgU (r : Req) (off n : Nat) : Nat := fieldU r.p off n

/-- A cutting image of Table TI-13. -/
def cuttingOf (r : Req) : Cutting :=
  { cab := r.cab,
    code := (List.range (imgU r 0x20 2)).map fun i => BitVec.ofNat 32 (imgU r (0x40 + 4 * i) 4),
    entry := imgU r 0x22 2, lmSize := imgU r 0x24 4, outMax := imgU r 0x28 2, halo := imgU r 0x2A 1,
    cycBase := imgU r 0x2C 4, cycCol := imgU r 0x30 4 }

/-- Whether an image keeps the fixed fields, the length and the CRC of Table TI-13 (R382, R383). -/
def imageOk (r : Req) : Bool :=
  let l := r.p.length
  imgU r 0 4 == 0x4C4D5548 && imgU r 4 2 == 1 && imgU r 6 1 == 3 && imgU r 7 1 == 0 &&
    imgU r 8 4 == l && l == 64 + 4 * imgU r 0x20 2 && imgU r 0x10 2 == 0 && imgU r 0x12 14 == 0 &&
    imgU r 0x2B 1 == 0 && imgU r 0x34 12 == 0 &&
    crc32 (patch r.p 0x0C [0, 0, 0, 0]) == BitVec.ofNat 32 (imgU r 0x0C 4)

/-- The lowest KERNEL_ID free in the device. -/
def State.freeKernel (s : State) : Nat :=
  ((List.range 64).map (· + 0x100)).find? (fun k => (tget none s.cuttings k).isNone) |>.getD 0x140

def cutLoad : Cmd :=
  { op := 0x0801, legal := mSetRun, len := fun _ _ => true,
    charter := fun s r => [need (s.entry r.cab).cuttings { code := 0x05, detail := dSubject 2 }],
    value := fun _ r =>
      let x := cuttingOf r
      [need (imageOk r) { code := 0x0B, detail := dSubject 3 },
       need (inR 1 (imgU r 0x20 2) 4096) (eValue 0x20),
       need (decide (x.entry < imgU r 0x20 2)) (eValue 0x22),
       need (decide (x.lmSize ≤ 65536) && x.lmSize % 8 == 0) (eValue 0x24),
       need (inR 8 x.outMax 16384 && x.outMax % 8 == 0) (eValue 0x28),
       need (decide (x.halo ≤ 32)) (eValue 0x2A),
       need (decide (x.cycBase ≤ 16777215)) (eValue 0x2C),
       need (decide (x.cycCol ≤ 16777215)) (eValue 0x30),
       need (x.cycBase != 0 || x.cycCol != 0) (eValue 0x2C)],
    domains := fun s _ => s.enters [20, 21],
    quota := fun s r => [need (decide ((s.cuttings.filter fun (_, c) => match c with
      | some c => c.cab = r.cab
      | none => false).length < 16)) eQuota],
    resource := fun s _ => [need (decide (s.cuttings.length < 64)) eResource],
    commit := fun s r =>
      let id := s.freeKernel
      { s := { s with cuttings := tset none s.cuttings id (some (cuttingOf r)) }, result := leBytes 2 id } }

/-- CUT.LOAD (R346, R383): a cutting enters the kernel store under the lowest free KERNEL_ID. -/
def execCutLoad (m : Fin 257) (n : Fin 4) (s : State) : Answer := .next (runCommand cutLoad m n s)

/-! CUT.UNLOAD. -/

def cutUnload : Cmd :=
  { op := 0x0802, legal := mSetRun, len := lenIs 8,
    value := fun s r => [need (match tget none s.cuttings (r.u16 0) with
      | some c => c.cab == r.cab
      | none => false) (eValue 0)],
    reserved := fun r => [r.zero 2 6],
    domains := fun s _ => s.enters [20, 21],
    state := fun s r => [need (s.places.all fun (k, p) => decide (k / 4 ≠ r.cab) || (match p with
      | some p => p.kernels.all fun x => x.id != r.u16 0
      | none => true)) (eState 0)],
    commit := fun s r => { s := { s with cuttings := tset none s.cuttings (r.u16 0) none } } }

/-- CUT.UNLOAD (R347). -/
def execCutUnload (m : Fin 257) (n : Fin 4) (s : State) : Answer := .next (runCommand cutUnload m n s)

/-! CUT.PLACE. -/

/-- Kernel entry i of the parameters (Table RK-7). -/
def kernOf (r : Req) (i : Nat) : Kern :=
  { id := r.u16 (8 + 16 * i), stream := r.u8 (10 + 16 * i), psSize := r.u32 (12 + 16 * i),
    arg := BitVec.ofNat 64 (r.u64 (16 + 16 * i)) }

def placeOf (r : Req) : Place :=
  { line := bit (r.u8 2) 0, halo := r.u8 3, kernels := (List.range (r.u8 1)).map (kernOf r) }

/-- The kernel checks of Table RK-8 on one entry: known, placeable this way, its halo, its ARG, its stream. -/
def kernOk (s : State) (r : Req) (i : Nat) : Bool :=
  let p := placeOf r
  let k := kernOf r i
  let b := r.u8 0
  s.kernKnown r.cab k.id && (p.line == (k.id == 5)) && (!p.line || r.u8 1 == 1) &&
    decide ((s.kernInfo b p.halo k).halo ≤ p.halo) && argOk k (s.bed b).seqLen (s.bandWidth b) &&
    (p.kernels.take i).all fun q => q.stream != k.stream

def idx (e : Err) (i : Nat) : Err := { e with index := i }

def cutPlace : Cmd :=
  { op := 0x0803, legal := fun m _ => mSet m, len := fun r l => l % 16 == 8 && lenBy 8 4088 (fun r => 8 + 16 * r.u8 1) r l,
    charter := fun s r => [bedCharter 0 s r],
    value := fun s r =>
      let n := r.u8 1
      [bedValue 0 r, need (decide (n ≤ 4)) (eValue 1),
       need (decide (r.u8 3 ≤ 32) && (!bit (r.u8 2) 0 || r.u8 3 == 0)) (eValue 3)] ++
      ((List.range n).flatMap fun i =>
        [need (decide (r.u8 (10 + 16 * i) ≤ 15)) (idx (eValue (10 + 16 * i)) i),
         need (decide (r.u32 (12 + 16 * i) ≤ 524288) && r.u32 (12 + 16 * i) % 64 == 0)
          (idx (eValue (12 + 16 * i)) i)]) ++
      [r.bitsBelow 2 1, r.zero 4 4] ++
      ((List.range n).map fun i => need (r.u8 (11 + 16 * i) == 0) (idx (eValue (11 + 16 * i)) i)) ++
      [need (!(bit (r.u8 2) 0 && n == 0)) (eValue 8)] ++
      ((List.range n).map fun i => need (kernOk s r i) (idx (eValue (8 + 16 * i)) i)),
    domains := fun s r => s.enters ((s.bedPlots (r.u8 0)).map (· + 4)),
    state := fun s r =>
      let b := r.u8 0
      [need (!s.docOpenOn b && !(s.bed b).reading) (eState 0),
       need (s.configured b && !(s.bedPlots b).isEmpty) (eState 0)] ++
      ((List.range (r.u8 1)).map fun i =>
        need ((s.stream r.cab (kernOf r i).stream).kind != 0) (idx (eState (10 + 16 * i)) i)),
    resource := fun s r => [match s.placeShort (r.u8 0) (placeOf r) with
      | some d => if r.u8 1 = 0 then none else some { code := 0x07, detail := d }
      | none => none],
    busy := fun s r => [bedBusy 0 s r],
    commit := fun s r =>
      let p := placeOf r
      { s := ({ s with
          places := tset none s.places (placeKey r.cab (r.u8 0)) (if r.u8 1 = 0 then none else some p) }.forgetPlace
            r.cab (r.u8 0)).reBacklog } }

/-- CUT.PLACE (R348, R350, R411): the cabinet's placement on a bed; a COUNT of 0 removes it. -/
def execCutPlace (m : Fin 257) (n : Fin 4) (s : State) : Answer := .next (runCommand cutPlace m n s)

/-! CUT.ASSIGN. -/

/-- Beds whose set of plots a new assignment changes. -/
def State.assignChanges (s : State) (f : Nat → Nat) : List Nat :=
  (List.range 4).filter fun b => (List.range 16).any fun p => (s.plotBed p = b) != (f p = b)

def cutAssign : Cmd :=
  { op := 0x0804, owner := some (dField 0), legal := fun m _ => mSet m, len := lenIs 16,
    value := fun _ r => (List.range 16).map fun i =>
      need (decide (r.u8 i ≤ 3) || r.u8 i == 0xFF) (idx (eValue i) i),
    state := fun s r => [need ((s.assignChanges r.u8).all fun b => !s.docOpenOn b && !(s.bed b).reading) (eState 0)],
    commit := fun s r =>
      let beds := s.assignChanges r.u8
      let s := forEach (List.range 16) (fun p s =>
        s.updPlot p fun x => { x with assign := if r.u8 p = p / 4 then none else some (r.u8 p) }) s
      { s := forEach beds (fun b s => forEach (s.placedOn b) (fun c s => s.voidPlace c b 1) s) s } }

/-- CUT.ASSIGN (R329): the bed each plot serves; the placements of a bed whose plots change are void. -/
def execCutAssign (m : Fin 257) (n : Fin 4) (s : State) : Answer := .next (runCommand cutAssign m n s)

/-! KERNEL_ENTRY (R334, R352, R358, R368, R369). -/

/-- Whether a result of a kernel on a band of a line has been accepted or waits at a gate. -/
def State.produced (s : State) (t : Nat) (l : GLine) (band j : Nat) : Bool :=
  l.results.any (fun r => r.band = band && r.kernel = j) ||
    (s.tine t).gate.any fun r => r.bed = l.bed && r.num = l.num && r.band = band && r.kernel = j

/-- The next line, band and kernel a tine takes: its oldest line, the lowest of its bands, the first kernel in
placement order whose result is still missing. -/
def State.nextWork (s : State) (t : Nat) : Option (GLine × Nat × Nat) :=
  let b := s.bedOfTine t
  if 4 ≤ b then none
  else
    let mine := (s.bandsOfTine b t).filter fun k => k * s.bandWidth b < (s.bed b).outWidth
    (s.bed b).queue.findSome? fun l =>
      let bands := if l.place.line then (if l.tine = some t then [0] else []) else mine
      bands.findSome? fun k =>
        ((List.range l.place.kernels.length).find? fun j => !s.produced t l k j).map fun j => (l, k, j)

/-- Whether kernel j has trapped on an earlier line of the line's document (R352, R369). -/
def State.faultedBefore (s : State) (l : GLine) (j : Nat) : Bool := match s.doc l.acc with
  | some d => d.faulted.any fun f => f.1 = 4 * l.bed + j && decide (f.2 < l.line)
  | none => false

/-- Zero the windows of a kernel that trapped in an earlier document (R352). -/
def State.zeroWindows (s : State) (t : Nat) (l : GLine) (r : Running) : State :=
  let due := fun (z : List (Nat × Nat)) => z.any fun f => f.1 = r.kernel && decide (f.2 ≠ l.acc)
  let rest := fun (z : List (Nat × Nat)) => z.filter fun f => ¬ (f.1 = r.kernel ∧ f.2 ≠ l.acc)
  let s := if due (s.tine t).zero then
      s.updTine t fun x => { x with lm := zeroBytes x.lm r.lmBase r.lmSize, zero := rest x.zero }
    else s
  let p := t / 17
  if due (s.plot p).zero then
    s.updPlot p fun x => { x with ps := zeroBytes x.ps r.psBase r.psSize, zero := rest x.zero }
  else s

/-- Load the line into the idle LI buffer and change over to it, unless the window holds it already (R334). -/
def State.loadLine (s : State) (t : Nat) (l : GLine) (band : Nat) : State :=
  let x := s.tine t
  if x.liOf = some (l.bed, band, l.num) then s
  else
    let here := if l.place.line then (s.heldBy t).map fun h => 16 * h.1 + h.2
      else [16 * (s.bedPlots l.bed).getD (band / 16) 0 + band % 16]
    let spare := here.any fun h => x.spareStart.contains h
    let bs := if l.place.line then s.lineWindow l t spare else s.liBytes l band spare
    let buf : Tab Byte := (bs.zipIdx).filterMap fun (v, i) => if v = 0 then none else some (i, v)
    s.updTine t fun x =>
      { x with
        liSel := !x.liSel, liOf := some (l.bed, band, l.num), spareStart := x.spareStart.filter fun h => !here.contains h,
        li0 := if x.liSel then buf else x.li0, li1 := if x.liSel then x.li1 else buf }

/-- On a line that carries SPARE_START a kernel finds its LM window zeroed (R358). -/
def State.zeroSpare (s : State) (t : Nat) (r : Running) : State :=
  if (s.tineByte t 2 0x2B).getLsbD 4 then s.updTine t fun x => { x with lm := zeroBytes x.lm r.lmBase r.lmSize } else s

/-- Mark a document some of whose lines were processed under R358 or R360 (R361): a band by a tine other than its own of
device reset, a line of a LINE placement by a tine that has it from a dead one or that stands in for one. -/
def State.noteSubstitute (s : State) (t : Nat) (l : GLine) (band : Nat) : State :=
  let p := (s.bedPlots l.bed).getD (band / 16) 0
  let own := if l.place.line then s.holder (t / 17) (t % 17) = t && t % 17 != 16 && !l.rehanded
    else t = 17 * p + band % 16
  if !own then s.bedFlag l.bed l.acc 0x80 else s

/-- Whether a tine may take a line: it is idle and up, its plot's clock runs, and its plot holds the line's
placement. -/
def State.mayEnter (s : State) (t : Nat) (l : GLine) : Bool :=
  let x := s.tine t
  x.run.isNone && x.up && s.clkOk (4 + t / 17) && !s.needsScrub (t / 17) l

/-- KERNEL_ENTRY: a tine takes its next line and enters a kernel with the registers of R368. A kernel that trapped on
an earlier line of the document gives its Fault Result in place; a stock kernel's result is given whole (DEDUCED, log 18). -/
def execKernelEntry (t : Fin 272) (s : State) : Answer :=
  .next (match s.nextWork t with
    | none => s
    | some (l, band, j) =>
      if !s.mayEnter t l then s
      else
        match l.place.kernels[j]? with
        | none => s
        | some k =>
          let s := s.noteSubstitute t l band
          let ep := if l.place.line then s.bandEpoch l.bed (s.lineBand l.bed t) else s.bandEpoch l.bed band
          let res : Res := { bed := l.bed, band, num := l.num, kernel := j, epoch := ep, bytes := none }
          if s.faultedBefore l j then s.updTine t fun x => { x with gate := x.gate ++ [res] }
          else if inR 1 k.id 6 then
            (s.loadLine t l band).updTine t fun x => { x with gate := x.gate ++ [{ res with bytes := some [] }] }
          else
            let r := s.runningOf l band j
            let entry := match tget none s.cuttings k.id with
              | some c => c.entry
              | none => 0
            let bad := match tget none s.cuttings k.id with
              | some c => c.bad
              | none => false
            let s := ((s.zeroWindows t l r).loadLine t l band).zeroSpare t r
            let s := s.updTine t fun x =>
              { x with
                s := tset 0 (tset 0 [] 1 (k.arg.setWidth 32)) 2 ((k.arg >>> 32).setWidth 32),
                v := [], a := [], p := [], pc := BitVec.ofNat 32 (4 * entry), ready := [], chained := [], late := [], cyc := 0,
                start := max (s.now * 6 / 5) (x.start + x.cyc), run := some r }
            if bad then s.trapKernel t 2 (s.tine t).pc else s)

/-! RESULT_ACCEPTED (R336, R356, R357). -/

/-- Whether a tine's result is accepted: through its open gate, for the band it serves, under the present epoch, and
the first for its band, kernel and line. -/
def State.accepts (s : State) (t : Nat) (r : Res) : Bool :=
  match s.qline r.bed r.num with
  | none => false
  | some l =>
    !(s.tine t).closed &&
    (if l.place.line then l.tine == some t && r.epoch == s.bandEpoch r.bed (s.lineBand r.bed t)
     else s.tineOfBand r.bed r.band == t && r.epoch == s.bandEpoch r.bed r.band) &&
    !l.results.any fun q => q.band = r.band && q.kernel = r.kernel

/-- Give a position to a tine, loaded with the placement's code. -/
def State.setHolder (s : State) (p pos t : Nat) : State :=
  let code := match (s.plot p).loaded with
    | some (_, _, pl) => s.placeCode pl
    | none => []
  (s.updPlot p fun x => { x with holders := x.holders.set pos (if t = 17 * p + pos then none else some t) }).updTine t
    fun x => { x with im := code, spareStart := x.spareStart ++ [16 * p + pos] }

/-- The positions of a plot whose band a tine runs beside another, or a tine of another plot runs (R360). -/
def State.doubled (s : State) (p : Nat) : List Nat := (List.range 16).filter fun i =>
  s.holder p i / 17 != p || (List.range 16).any fun j => i != j && s.holder p i == s.holder p j

/-- A revived tine takes its doubled band at that band's next line (R359): once the tine that served it has no result
of the band's current line outstanding. -/
def State.takeBands (s : State) : State :=
  forEach (s.tines.filterMap fun (t, x) => x.take.map fun pos => (t, pos)) (fun tp s =>
    let t := tp.1
    let pos := tp.2
    let p := t / 17
    let b := s.plotBed p
    let old := s.holder p pos
    let k := (s.bedPlots b).idxOf p * 16 + pos
    let busy := b < 4 && ((match (s.tine old).run with
        | some r => r.bed = b && r.band = k
        | none => false) || (s.tine old).gate.any (fun r => r.bed = b && r.band = k) ||
      (match (s.bed b).queue.find? fun l => !(List.range l.place.kernels.length).all fun j => s.produced old l k j with
        | some l => l.results.any fun r => r.band = k
        | none => false))
    if busy then s
    else
      let s := (s.updTine t fun x => { x with take := none }).setHolder p pos t
      let s := if b < 4 then s.nextEpoch b k else s
      s.updPlot p fun x => { x with degraded := !(s.doubled p).isEmpty }) s

/-- RESULT_ACCEPTED: the collector takes the oldest result at a tine's gate. A stale one is discarded and counted;
another is joined to its line, whose item is written once every band's result is there. -/
def execResultAccepted (t : Fin 272) (s : State) : Answer :=
  .next (match (s.tine t).gate with
    | [] => s
    | r :: rest =>
      let s := s.updTine t fun x => { x with gate := rest }
      let s := if s.accepts t r then
          ((s.updBed r.bed fun x =>
            { x with queue := x.queue.map fun l =>
                if l.num = r.num then { l with results := l.results ++ [r] } else l }).inc 7 (t / 17) 1 1).collected r.bed
        else s.inc 7 (t / 17) 2 1
      s.takeBands)

/-! STORE_PERFORMED and KERNEL_WATCHDOG. -/

/-- STORE_PERFORMED: while the plot's clock runs, the oldest buffered store leaves the buffer, no earlier than the cycle after its issue and one in
each cycle, after every load older than it, and becomes visible (R337, R338, R372). -/
def execStorePerformed (t : Fin 272) (s : State) : Answer :=
  .next (match (s.tine t).stores with
    | [] => s
    | st :: rest =>
      if !s.clkOk (4 + t / 17) then s else
      let c := max (st.cycle + 1) ((s.tine t).readyAt rStores + 1)
      let s := s.performLoads t ((s.tine t).late.takeWhile fun l => l.older == 0).length
      (s.perform t st).updTine t fun x =>
        { x with
          stores := rest, late := x.late.map fun l => { l with older := l.older - 1 },
          ready := tset 0 x.ready rStores c })

/-- Whether a kernel waits on something that no passage of cycles alone ends: a plot flag not set, a full store buffer,
or an instruction that waits for the buffer to empty. -/
def State.blocked (s : State) (t : Nat) (r : Running) : Bool :=
  let x := s.tine t
  match x.fetch r with
  | none => false
  | some w =>
    let v := w.toNat
    let op := bits v 31 26
    let fn := bits v 7 0
    if op = 0x3E ∧ fn = 0x0A ∧ !(s.plot (t / 17)).flags.getLsbD (bits v 15 11) then true
    else if op = 0x3E ∧ (fn = 1 ∨ fn = 4 ∨ inR 8 fn 0x0B) then !x.stores.isEmpty
    else if inR 0x14 op 0x16 then decide (8 ≤ x.stores.length)
    else false

/-- Whether the word at a kernel's pc matches no row: OPCODE comes before WATCHDOG (R380). -/
def Tine.undefined (x : Tine) (r : Running) : Bool := match x.fetch r with
  | some w => !wordDefined w
  | none => false

/-- KERNEL_WATCHDOG: the count reaches 4 x C while the kernel waits, or at the instruction whose issue cycle has come
to it, while the plot's clock runs (R353, R380). -/
def execKernelWatchdog (t : Fin 272) (s : State) : Answer :=
  .next (match (s.tine t).run with
    | none => s
    | some r =>
      let x := s.tine t
      if !s.clkOk (4 + t / 17) then s
      else if x.undefined r then (if 4 * r.cycles ≤ x.cyc then s.trapKernel t 2 x.pc else s)
      else if s.blocked t r ∨ 4 * r.cycles ≤ x.cyc then
        (s.updTine t fun x => { x with cyc := 4 * r.cycles }).trapKernel t 4 x.pc
      else s)

/-! Failed tines (R355 to R361). -/

/-- Events of a tine go to cabinet 0 and to each cabinet allowed the bed its plot serves. -/
def State.tineEvent (s : State) (t code aux : Nat) : State :=
  let b := s.plotBed (t / 17)
  let dest := if b < 4 then s.bedCabs b else [0]
  s.raiseTo dest (s.ev code (t / 17) aux (w2 b))

/-- The live tine that serves the fewest positions, lowest first, of a list. -/
def State.leastLoaded (s : State) (ts : List Nat) : Option Nat :=
  ts.foldl (fun best t => match best with
    | none => some t
    | some u => if (s.heldBy t).length < (s.heldBy u).length then some t else some u) none

/-- Where a position passes with no spare ready (R360): a live tine of its plot, else of the other plots of the bed. -/
def State.refuge (s : State) (p : Nat) : Option Nat :=
  match s.leastLoaded (s.liveTines p) with
  | some t => some t
  | none =>
    let b := s.plotBed p
    if b < 4 then s.leastLoaded ((s.bedPlots b).filter (· ≠ p) |>.flatMap s.liveTines) else none

/-- Lines of a LINE placement handed to a tine pass to another. -/
def State.rehand (s : State) (t u : Nat) : State :=
  forEach (List.range 4) (fun b s => s.updBed b fun x =>
    { x with queue := x.queue.map fun l => if l.tine = some t then { l with tine := some u, rehanded := true } else l }) s

/-- A tine is declared dead (R355, R356, R358, R360): its gate and port close, its bands' epochs increment, its
buffered stores are lost, and its bands pass to the spare or to live tines. -/
def State.declareDead (s : State) (t : Nat) (error : Bool) : State :=
  let p := t / 17
  let b := s.plotBed p
  let late : List Res := match (s.tine t).run with
    | some r => if error then [] else
      [{ bed := r.bed, band := r.band, num := r.num, kernel := r.kernel, epoch := s.bandEpoch r.bed r.band,
         bytes := some [] }]
    | none => []
  let bands := if b < 4 then s.bandsOfTine b t else []
  let held := s.heldBy t
  let s := forEach bands (fun k s => s.nextEpoch b k) s
  let s := (s.updTine t fun x =>
    { x.scrubbed [] with
      gate := x.gate ++ late, closed := true, declared := true, declarations := x.declarations + 1, take := none }).inc
        7 p 5 1
  let s := s.tineEvent t 0x0803 (t % 17)
  let wasSpare := (s.plot p).spare = some (t % 17)
  let s := if wasSpare then s.updPlot p fun x => { x with spare := none } else s
  let s : State := match held with
    | [] => s
    | _ =>
      match (s.plot p).spare with
      | some sp =>
        let u := 17 * p + sp
        let s := s.updPlot p fun x => { x with spare := none }
        (forEach held (fun ph s => s.setHolder ph.1 ph.2 u) s).rehand t u
      | none =>
        let s := s.updPlot p fun x => { x with degraded := true }
        let s := s.tineEvent t 0x0806 (s.liveTines p).length
        forEach held (fun ph s =>
          match s.refuge ph.1 with
          | some u => (s.setHolder ph.1 ph.2 u).rehand t u
          | none => s) s
  if 3 ≤ (s.tine t).declarations then
    (s.updTine t fun x => { x with retired := true }).tineEvent t 0x0805 (t % 17)
  else s

/-- TINE_DEAD: no heartbeat for 10 us, or an uncorrectable error. The event needs a plot whose clock runs and a tine not
already declared or retired. -/
def execTineDead (t : Fin 272) (error : Bool) (s : State) : Answer :=
  .next (let x := s.tine t
    if x.declared ∨ x.retired ∨ !s.clkOk (4 + t / 17) then s else s.declareDead t error)

/-- TINE_REVIVED: a declared tine's heartbeat returns; it is quarantined and scrubbed, its gate still closed (R359). -/
def execTineRevived (t : Fin 272) (s : State) : Answer :=
  .next (let x := s.tine t
    if x.declared && !x.retired && !x.quarantined then
      s.updTine t fun x => { x.scrubbed [] with quarantined := true }
    else s)

/-- SELF_TEST_DONE (R359): on a pass the tine becomes its plot's spare, or takes a doubled band of a degraded plot; on
a fail it is retired. -/
def execSelfTestDone (t : Fin 272) (pass : Bool) (s : State) : Answer :=
  .next (let x := s.tine t
    let p := t.val / 17
    if !x.quarantined then s
    else if !pass then
      (s.updTine t fun x => { x.scrubbed [] with retired := true, quarantined := false }).tineEvent t 0x0805 (t % 17)
    else
      let s := (s.updTine t fun x =>
        { x.scrubbed [] with declared := false, quarantined := false, closed := false }).tineEvent t 0x0804 (t % 17)
      if (s.plot p).degraded then
        match (s.doubled p).find? fun i => !s.tines.any fun (u, y) => u / 17 = p && y.take == some i with
        | some pos => (s.updTine t fun x => { x with take := some pos }).takeBands
        | none => s.updPlot p fun x => { x with spare := some (t.val % 17) }
      else s.updPlot p fun x => { x with spare := some (t.val % 17) })

/-! PLOT_SCRUB (R343, R344, R357). -/

/-- Scrub a plot: stores discarded, registers, memories, PS and flags zero, IM loaded with a placement's code. -/
def State.scrubPlot (s : State) (p : Nat) (code : Tab (BitVec 32)) : State :=
  let s := forEach (List.range 17) (fun i s => s.updTine (17 * p + i) fun x => x.scrubbed code) s
  (s.updPlot p fun x => { x with ps := [], flags := 0, flagSet := [], zero := [] }).inc 7 p 6 1

/-- PLOT_SCRUB: before a plot takes a line of another cabinet or placement, and at entry to P3. The event needs the
plot's tines idle and their results accepted. -/
def execPlotScrub (p : Fin 16) (s : State) : Answer :=
  .next (
    let idle := (List.range 17).all fun i =>
      let x := s.tine (17 * p.val + i)
      x.run.isNone && (x.gate.isEmpty || x.closed)
    if !s.clkOk (4 + p) || !idle then s
    else
      match s.nextLine p with
      | none => if (s.plot p).scrubDue then
          let code := match (s.plot p).loaded with
            | some (_, _, pl) => s.placeCode pl
            | none => []
          (s.scrubPlot p code).updPlot p fun x => { x with scrubDue := false } else s
      | some l =>
        if !s.needsScrub p l then s
        else
          let changed := (s.plot p).loaded != some (l.cab, l.bed, l.place) || (s.plot p).lastCab != some l.cab
          let s := s.scrubPlot p (s.placeCode l.place)
          let s := s.updPlot p fun x =>
            { x with scrubDue := false, loaded := some (l.cab, l.bed, l.place), lastCab := some l.cab }
          if changed then
            forEach ((List.range (s.bandCount l.bed)).filter fun k => (s.bedPlots l.bed).getD (k / 16) 0 = p.val)
              (fun k s => s.nextEpoch l.bed k) s
          else s)

end Sys2Proof.Machine
end

