-- ==== Sys2Proof/Machine/Lamp.lean ====
section
/-! DEFINITION. The shared operations of illumination: windows, effective codes, inhibit, lamp checks, probes.
Chapter 05. -/

namespace Sys2Proof.Machine

def State.updLed (s : State) (b c : Nat) (f : Led → Led) : State :=
  s.updBed b fun x => { x with leds := tupd {} x.leds c f }

/-- S and Weff (R149). -/
def Bed.slotBed (x : Bed) : Nat := x.slotCycles * 10 / 3
def Bed.weff (x : Bed) : Nat := min x.window (x.slotBed - 80)

/-- On-time of a channel at an effective code, in BED cycles (R148). -/
def onTime (weff eff : Nat) : Nat := if 4096 ≤ eff then weff else (weff * eff + 2048) / 4096

/-- Where the on-time begins within the window (R148). -/
def onStart (weff eff : Nat) : Nat := (weff - onTime weff eff) / 2

/-- Current of a sink in mA (R148). -/
def sinkCurrent (eff : Nat) : ℚ := if 4096 ≤ eff then 600 * eff / 65535 else if eff = 0 then 0 else 75 / 2

def Bed.effOf (x : Bed) (e c : Nat) : Nat := tget 0 x.eff (8 * e + c)

/-- The cover mask in force (Table BD-7). -/
def State.coverMask (s : State) (b : Nat) : BitVec 4 := (s.bed b).coverMask.getD (1#4 <<< b)

/-- The UV inhibit of a channel (R169). -/
def State.inhibited (s : State) (b c : Nat) : Bool :=
  ((s.bed b).led c).cls == 3 && (s.coverMask b == 0 || (s.coverMask b &&& s.coverOpen) != 0)

/-- A channel that may be driven: used, not latched off, not inhibited, its supply within limits; no sink conducts in
HALTED (R67, R153, R161, R162, R169). -/
def State.drivable (s : State) (b c : Nat) : Bool :=
  let x := (s.bed b).led c
  x.cls != 0 && x.state != 4 && x.state != 5 && !s.inhibited b c && s.mode != .halted

/-- Whether a channel is lit in some entry of the sequence by a strobe of 300 ns or more. -/
def Bed.longStrobe (x : Bed) (c : Nat) : Bool :=
  (x.led c).cls != 0 && (List.range x.seqLen).any fun e =>
    (x.seq.getD e 0).getLsbD c && decide (60 ≤ onTime x.weff (x.effOf e c))

/-- f of R158: 1 + a1 dT + a2 dT^2, scaled by 2^34. -/
def tempFactor (a1 a2 t : Int) : Int :=
  let dt := t - 400
  2 ^ 34 + a1 * dt + floorDiv (a2 * dt * dt) 1024

/-- The ceiling of R158. -/
def ceiling (knee slope : Nat) (t : Int) : Nat :=
  if t > 16 * (knee : Int) then (65535 - floorDiv (65535 * slope * (t - 16 * knee)) 409600).toNat else 65535

/-- The compensated code of R158. -/
def compensated (code : Nat) (f : Int) : Nat := (floorDiv (code * f + 2 ^ 33) (2 ^ 34)).toNat

/-- The effective codes of a bed, its FLUX_SHORT entries and which channels are limited (R158). The effective code of an
entry that does not light the channel is 0 (R174; DESIGN CHOICE, log 90). -/
def Bed.recompute (x : Bed) : Bed :=
  let t := if x.tempFixed then x.tempValue else x.temp
  let lit := (List.range x.seqLen).flatMap fun e =>
    ((List.range 8).filter fun c => (x.seq.getD e 0).getLsbD c).map fun c => (e, c)
  let rs := lit.map fun ((e, c) : Nat × Nat) =>
    let l := x.led c
    let lc := compensated (x.codeOf e c) (tempFactor l.a1 l.a2 t)
    let ce := ceiling l.knee l.slope t
    (e, c, min lc ce, decide (ce < lc))
  { x with
    eff := rs.foldl (fun m r => tset 0 m (8 * r.1 + r.2.1) r.2.2.1) [],
    fluxShort := rs.foldl (fun m r => if r.2.2.2 then m ||| (1#8 <<< r.1) else m) 0,
    leds := (List.range 8).foldl (fun m c =>
      tupd {} m c fun l => { l with limited := rs.any fun r => r.2.1 == c && r.2.2.2 }) x.leds }

/-- The ceilings of a bed, with ILL_CUTOFF at each passage of a channel's ceiling to or from 0 (R159). -/
def State.cutoffs (s : State) (b : Nat) : State :=
  forEach (List.range 8) (fun c s =>
    let x := s.bed b
    let l := x.led c
    let t := if x.tempFixed then x.tempValue else x.temp
    let cut := ceiling l.knee l.slope t == 0
    if cut = l.cut then s
    else (s.updLed b c fun l => { l with cut }).raiseTo (s.bedCabs b) (s.ev 0x0404 b c (w2 cut.toNat))) s

/-- A change of codes, of the window, as set or as clipped, or of the sequence: a channel whose codes or window it changes
and leaves without a strobe of 300 ns reads UNVERIFIED (R164), the effective codes follow (R150). -/
def State.relight (s : State) (b : Nat) (f : Bed → Bed) : State :=
  let old := s.bed b
  let s := (s.updBed b fun x => (f x).recompute).cutoffs b
  forEach (List.range 8) (fun c s =>
    let x := s.bed b
    let same := x.weff = old.weff && x.window = old.window && (List.range 8).all fun e => x.codeOf e c = old.codeOf e c
    if same || x.longStrobe c then s else s.updLed b c fun l => { l with verified := false }) s

/-- The course a bed's accumulator serves: started and not stopped. -/
def Bed.course (x : Bed) : Option Course := x.courses.find? fun c => c.started && !c.stopped

/-- The channels of a CLASS other than UNUSED that are lit in the sequence. -/
def Bed.probed (x : Bed) : List Nat := (List.range 8).filter fun c => x.litIn c && (x.led c).cls != 0

/-- Probes due for every used channel lit in the sequence (R164). -/
def State.probesDue (s : State) (b : Nat) : State :=
  forEach (s.bed b).probed (fun c s =>
    s.updLed b c fun l => { l with probeDue := true }) s

/-- The accumulator that runs for a strip read stops: a BED_STOP, at which probes fall due (R89, R164). -/
def State.stripStop (s : State) (b : Nat) : State :=
  let x := s.bed b
  if x.course.isSome || !x.accOn then s
  else (s.updBed b fun x => { x with accOn := false, running := false }).probesDue b

/-- A read in progress ends FAIL: its accumulator stops and its comparator is free (R188, R203); it is the last read on the
bed from then on (R196). -/
def State.failRead (s : State) (b : Nat) (abandoned : Bool) : State :=
  let x := s.bed b
  match x.read with
  | none => s
  | some r =>
    if r.phase ≠ 0 then s
    else
      let s := match r.comp with
        | some k => s.setComp k none
        | none => s
      (s.stripStop b).updBed b fun x => { x with lastRead := 2, read := some { r with phase := 3, comp := none, abandoned } }

/-! What the sinks carry (R148, R149, R165). -/

/-- Whether the line in progress is a D line of a strip read (R184). -/
def Exposing.dLine (e : Exposing) : Bool := e.kind == 2 && e.num % 2 == 0

/-- How sink c is driven in the slot in progress: from which BED cycle, for how many, and with what current in mA; a probe
is 37.5 mA for 80 cycles, centred in the slot. -/
def Bed.drive (x : Bed) (c : Nat) : Option (Nat × Nat × ℚ) :=
  match x.cur, x.expo with
  | .probe m, _ => if m.getLsbD c then some ((x.slotBed - 80) / 2, 80, 75 / 2) else none
  | .line, some e =>
    let eff := (e.codes.getD e.entry []).getD c 0
    let t := onTime e.weff eff
    if e.dLine || !(x.seq.getD e.entry 0).getLsbD c || t == 0 then none
    else some ((x.slotBed - e.weff) / 2 + onStart e.weff eff, t, sinkCurrent eff)
  | _, _ => none

/-- The current that a sink conducts now, in mA. -/
def State.sinkMa (s : State) (b c : Nat) : ℚ :=
  let x := s.bed b
  let t := s.now - x.curAt
  match x.drive c with
  | some (k, n, i) => if s.drivable b c ∧ 5 * k ≤ t ∧ t < 5 * (k + n) then i else 0
  | none => 0

/-- The strobes and probes of the slot in progress end: where and when the check of each falls (R160, R163). -/
def State.strobeEnds (s : State) : State :=
  forEach (List.range 4) (fun b s =>
    let x := s.bed b
    let done := (List.range 8).filter fun c => s.drivable b c && x.checks.all (fun k => k.1 != c) && match x.drive c with
      | some (k, n, _) => decide (60 ≤ n ∧ x.curAt + 5 * (k + n) ≤ s.now)
      | none => false
    if done.isEmpty then s
    else s.updBed b fun x => { x with checks := x.checks ++ done.map fun c => (c, s.chanPos x.chan, s.now) }) s

/-- Position and time of a channel's check in the slot in progress: now, where its end has not been noted. -/
def State.checkAt (s : State) (b c : Nat) : Pos × Nat :=
  match (s.bed b).checks.find? fun k => k.1 == c with
  | some (_, p, t) => (p, t)
  | none => (s.chanPos (s.bed b).chan, s.now)

/-- A check of a channel, made at the end of a strobe or probe (R160, R161, R163). -/
def State.lampCheck (s : State) (b c : Nat) (reg short : Bool) : State :=
  if (s.supply (supplyOfBed b)).outside then s
  else
    let (p, t) := s.checkAt b c
    let new := if short then 4 else if reg then 3 else 0
    let l := (s.bed b).led c
    let s := (s.updLed b c fun l =>
      { l with
        state := new, verified := true, sinceCheck := 0,
        passedAt := if new = 0 then some t else l.passedAt }).inc 3 (8 * b + c) 1 1
    let s := if new = 3 then s.inc 3 (8 * b + c) 3 1 else if new = 4 then s.inc 3 (8 * b + c) 4 1 else s
    let s := if new ≠ 0 ∧ (s.bed b).litIn c then
        (forEach (s.docsOn b) (fun d s => if (d.bed b).used then s.bedFlag b d.acc 0x2 else s) s).failRead b false
      else s
    if new = l.state then s
    else
      let e := s.evChan (if new = 0 then 0x0402 else 0x0401) b c (s.bed b).chan (w2 (if new = 0 then 1 else new))
      s.raiseTo (s.bedCabs b) { e with w0 := BitVec.ofNat 64 t, w1 := p }

/-- Channels whose due probe the next idle slot makes (R165). -/
def State.probeMask (s : State) (b : Nat) : BitVec 8 :=
  ((List.range 8).filter fun c => ((s.bed b).led c).probeDue && s.drivable b c).foldl (fun m c => m ||| (1#8 <<< c)) 0

/-- A line counts toward the probes of its lit channels (R164). -/
def State.countLine (s : State) (b : Nat) : State :=
  forEach (s.bed b).probed (fun c s =>
    s.updLed b c fun l =>
      let n := l.sinceCheck + 1
      { l with sinceCheck := n, probeDue := l.probeDue || decide (512 ≤ n) }) s

/-- STATE of Table IL-7: a channel latched off is SHORT or HOT, and one not checked since it became UNVERIFIED, or with a
probe due, is that (R161, R162, R164). -/
def Led.stateCode (l : Led) : Nat :=
  if l.cls = 0 then 0 else if l.state = 4 ∨ l.state = 5 then l.state
  else if l.state = 6 ∨ !l.verified ∨ l.probeDue then 2 else if l.state = 3 then 3 else 1

end Sys2Proof.Machine
end

