-- ==== Sys2Proof/Machine/Stop.lean ====
section
/-! DEFINITION. Entry to P3 and the leaving of it, what a BED.CONFIG does when it takes effect, entry to HALTED and the
protective stop, the loss and return of a timebase source. Chapters 01, 02, 04 and 06. -/

namespace Sys2Proof.Machine

/-- Whether new jobs become current: the modes in which documents are fed (DEDUCED, log 25). -/
def Mode.feeds (m : Mode) : Bool := m == .capture || m == .paused

/-! Grafting (R136 to R139). -/

/-- The table in force, or the default of R136. -/
def Bed.graftTable (x : Bed) : Graft := x.graft.getD
  { outFirst := 0, outWidth := 1152 * x.segs.length,
    entries := x.segs.map fun i => { along := 0, seg := i, mirror := false, overlap := 0, gap := 0 } }

/-- A_max in sixteenths, and its ceiling in lines. -/
def Graft.alongMax (g : Graft) : Nat := g.entries.foldl (fun m e => max m e.along) 0
def Graft.tailLines (g : Graft) : Nat := ceilDiv g.alongMax 16

/-- Whether no copy of a set is still in the writing: its header page, the last, has committed (R201). -/
def State.refWhole (s : State) (b copy : Nat) : Bool :=
  s.nvsWrites.all fun x => match x.record with
    | .ref c k _ => !(c == b && k == copy) || x.words.all fun w => decide (w.2.2 ≤ s.now)
    | _ => true

/-- The set in force: of the valid copies whose layout is the bed's, the one of highest generation (R178). -/
def State.bestRef (s : State) (b : Nat) : RefSet :=
  let x := s.bed b
  (x.refCopies.filterMap fun (k, r) => if s.refWhole b k then r else none).foldl (fun best r =>
    if r.segMask = x.segMask ∧ r.seqLen = x.seqLen ∧ best.gen < r.gen then r else best) {}

/-- Choose the set in force anew; it takes effect where no document is open (R179). -/
def State.chooseRef (s : State) (b : Nat) : State :=
  let r := s.bestRef b
  if s.docOpenOn b then s.updBed b fun x => { x with refNext := if r = x.refSet then none else some r }
  else s.updBed b fun x => { x with refSet := r, refNext := none }

/-- Total delay memory of a table under a SEQ_LEN (R141). -/
def Graft.memory (t : Graft) (seqLen : Nat) : Nat :=
  t.entries.foldl (fun n e => n + (t.tailLines - e.along / 16 + 1) * 1152 * seqLen * 2) 0

/-- The stored table that R136 takes for a mask and a SEQ_LEN. -/
def Bed.storedGraft (x : Bed) (mask : BitVec 8) (seqLen : Nat) : Option Graft :=
  x.graftStored.foldl (fun best g =>
    if (g.entries.foldl (fun m e => m ||| (1#8 <<< e.seg)) 0#8) = mask ∧ g.memory seqLen ≤ 67108864 then some g
    else best) none

/-- A setting of Table SH-2 or the layout may have changed: STALE is noted, and a read in progress discards its cycles (R186,
R196); its idle slots stay (R190). -/
def State.settingsChanged (s : State) (b : Nat) : State :=
  let s := s.noteStale b
  s.updBed b fun x =>
    { x with read := x.read.map fun r =>
        if r.phase = 0 ∧ (r.settings ≠ x.settings ∨ r.mask ≠ x.segMask) then
          { r with settings := x.settings, mask := x.segMask, cycle := [], bad := false, kept := 0, sums := [],
                   dark := [], cyc := r.turn, lastKept := none }
        else r }

/-! The configuration of a bed. -/

/-- The bed's clocks start, or its cadence restarts: slot 0, and every segment's next 2 lines INVALID (R118, R120,
R136). The baseline of the first 16 dark slots is then formed anew, though under a BED.CONFIG in P3 the clocks of a bed
configured before do not stop (R129; DESIGN CHOICE, log 85). -/
def State.restartBed (s : State) (b : Nat) : State :=
  s.updBed b fun x =>
    { x with
      slotNo := 0, cur := .none, expo := none, fit := none, darkSeen := 0, darkAcc := [], darkRun := 0, sinceDark := 0,
      checks := [], invalidLeft := x.segs.foldl (fun m i => tset 0 m i 2) [] }

/-- The bed's clocks start: no valid reading of the temperature has been made since (R157). -/
def State.startTemp (s : State) (b : Nat) : State :=
  (s.updBed b fun x => { x with temp := 400 }.recompute).cutoffs b

/-- Key of the node and partner table: kind of DISCOVERY and index within kind (R33). -/
def partnerKey (kind idx : Nat) : Nat := kind * 65536 + idx
def State.partner (s : State) (kind idx : Nat) : Partner := tget {} s.partners (partnerKey kind idx)

/-- The segments of a mask that the last probe did not find PRESENT: their lines are INVALID (R133). -/
def State.absentSegs (s : State) (b : Nat) (mask : BitVec 8) : BitVec 8 :=
  ((List.range 8).filter fun i => mask.getLsbD i && (s.partner 0 (8 * b + i)).outcome != 1).foldl
    (fun m i => m ||| (1#8 <<< i)) 0

/-- An accepted BED.CONFIG takes effect (R133, R136, R155, R178, R351). -/
def State.applyCfg (s : State) (b : Nat) (c : BedCfg) : State :=
  let old := s.bed b
  let s := s.relight b fun x =>
    { x with
      segMask := c.segMask, seqLen := c.seqLen, coverMask := c.coverMask, slotCycles := c.slotCycles,
      spWidth := c.spWidth, lead := c.lead, tapMap := c.tapMap, clkInvert := c.clkInvert, darkCount := c.darkCount,
      darkLimit := c.darkLimit, phase := c.phase, seq := c.seq, segBad := s.absentSegs b c.segMask, cfgNext := none }
  let s := if old.segMask = c.segMask then s
    else s.updBed b fun x => { x with graft := x.storedGraft c.segMask c.seqLen, graftNext := none }
  let s := (s.chooseRef b).settingsChanged b
  let s := if old.segMask = 0 then s.startTemp b else s
  (s.restartBed b).recheckPlaces b 2

/-! Channels held (R88). -/

/-- Entry to P3: each held channel goes on from its held position, as a LOAD; a REMOTE one stands there until its first
valid sync. -/
def State.resumeChans (s : State) : State :=
  forEach (List.range 4) (fun c s =>
    if !(s.chan c).held then s
    else
      let s := s.updChan c fun k =>
        { k with held := false, t0 := s.now, axis0 := s.axisAt k.unit, intervalValid := false, interval := 0, vel := 0,
                 fresh := decide (k.source = .remote) }
      s.discontinuity c 1) s

/-! Entry to a P3 mode (Table MO-2, R136, R157, R164, R304, R330). -/

/-- The clocks of a bed start: a BED.CONFIG accepted in IDLE takes effect, no temperature has been read, every channel reads
UNVERIFIED and its probe is due. -/
def State.startBed (s : State) (b : Nat) : State :=
  let s := match (s.bed b).cfgNext with
    | some c => s.applyCfg b c
    | none => s
  let s := (s.updBed b fun x => { x with leds := tmap {} x.leds fun l => { l with verified := false } }).startTemp b
  if s.configured b then (s.restartBed b).probesDue b else s

/-- The capture path's clocks start. -/
def State.startP3 (s : State) : State :=
  let s := s.confirmsMissed.resumeChans.sourcesMissing
  let s := forEach (List.range 16) (fun p s => s.updPlot p fun x => { x with scrubDue := true }) s
  (forEach (List.range 4) (fun b s => s.startBed b) s).gaugesStart

/-! HALTED (R46, R66 to R70). -/

/-- Turn off every axis held by a stop of kind HOLD (R69). -/
def State.allOff (s : State) : State :=
  { forEach (List.range 8) (fun a s => s.stopAxis a true) s with haltOff := true }

/-- Enter HALTED with a cause and a stop kind (R67), from a P2 mode as an entry to P3, or add a cause to a halt in force,
which it does not leave then (R46, R69, R304, R626). -/
def State.enterHalted (s : State) (cause : Nat) (off : Bool) : State :=
  let new := !s.haltCauses.getLsbD cause
  let s := { s with haltCauses := s.haltCauses ||| (1#16 <<< cause) }
  let s := if new ∨ s.mode ≠ .halted then s.countStop cause else s
  if s.mode = .halted then { if off && !s.haltOff then s.allOff else s with change := none }
  else
    let s := forEach (List.range 8) (fun a s => s.stopAxis a off) s
    let s := { s with haltSettled := false, haltOff := off }
    let wasP3 := s.mode.p3
    let s := s.enterMode .halted 3
    let s := if wasP3 then s else s.startP3
    let s := forEach (List.range 4) (fun b s => s.haltBed b) s
    let gone := s.comps.filterMap fun (k, c) => match c with
      | some { use := .snap _, .. } => none
      | some _ => some k
      | none => none
    let s := forEach gone (fun k s => s.disarm k) s
    let disp := if s.haltCauses.getLsbD 0 then 0x05 else 0x07
    let s := s.noteLeft
    let s := forEach s.transportDocs (fun d s =>
      (s.closeDoc d.acc (some disp)).updDoc d.acc fun d => { d with reserved := [], divertArmed := false }) s
    { s with groups := tmap {} s.groups fun x => { x with phase := 0 } }

/-- Whether a protective stop takes the device to HALTED (R46, R66). -/
def State.stops (s : State) : Bool :=
  s.mode.p3 || (match s.change with
    | some c => c.target.p3
    | none => false)

/-- A protective stop (R66): HALTED from a P3 mode or during a change into or out of one; elsewhere no mode change
(R579). -/
def State.protect (s : State) (cause : Nat) (off : Bool) : State :=
  if s.stops then s.enterHalted cause off else s

/-- A timebase source of a channel in use is lost in P3 (R24). -/
def State.sourceStop (s : State) (c : Nat) : State :=
  if s.stops then ({ s with haltSource := s.haltSource ||| (1#4 <<< c) }).enterHalted 1 false else s

/-- A channel's source is lost (R75, R84, R85, R108): told and counted; in P3, on a channel in use, the protective stop
of R24, and a breach (R23, R55). -/
def State.loseSource (s : State) (c : Nat) : State :=
  let s := (s.updChan c fun k => { k with present := false }).inc 6 c 3 1
  let s := s.raiseTo (s.chanCabs c []) (s.evChan 0x0103 c (s.chan c).source.code c 0)
  if s.chanInUse c then
    let s := if s.mode.p3 then s.breach 1 (s.chanPos c) else s
    s.sourceStop c
  else s

/-- A lost source is present again (R87): told; the SOURCE cause of this channel is cleared. -/
def State.sourceBack (s : State) (c : Nat) : State :=
  let s := s.updChan c fun k => { k with present := true, lostIllegal := false }
  let s := { s with haltSource := s.haltSource &&& ~~~(1#4 <<< c) }
  let s := s.sourcesAgain c
  s.raiseTo (s.chanCabs c []) (s.evChan 0x0104 c (s.chan c).source.code c 0)

/-! Leaving P3 (R54, R88). -/

/-- The change from a P3 mode to a P2 mode, before the domains stop: axes that move are frozen with HOLD, bridges go
off, every axis not UNUSED is marked, ENC channels hold, armed snapshots are missed, every store buffer empties (R54, R88,
R342, R596). An absent source is
no breach outside P3 (R55). An axis that is RUNNING though it stands, under an override of 0 or in a dwell, counts as moving
(DESIGN CHOICE, log 91). -/
def State.leaveP3 (s : State) : State :=
  let s := s.breachEnd 1 (s.chanPos 0)
  let s := forEach (List.range 8) (fun a s =>
    let x := s.axis a
    if s.axisMoves a || x.st == .running || x.st == .geared || x.ramp.isSome then s.freeze a false (s.bridgesOn a) else s) s
  let s := forEach (List.range 8) (fun a s =>
    if (s.axis a).role = 0 then s
    else (s.setLost a).updAxis a fun x => { x with confirmAt := none, watch := false }.dark) s
  let s := forEach (List.range 4) (fun c s => if (s.chan c).source = .enc then s.holdChan c else s) s
  let snaps := s.comps.filterMap fun (k, c) => match c with
    | some { use := .snap n, .. } => some (k, n)
    | _ => none
  let s := forEach snaps (fun kn s => (s.setComp kn.1 none).missSnap kn.2 5) s
  let s := forEach (s.tines.map (·.1)) (fun t s => ((s.allLoads t).performAll t).updTine t fun x => { x with run := none }) s
  forEach (List.range 4) (fun b s => s.updBed b fun x =>
    { x with accOn := false, expo := none, fit := none, running := false, cur := .none, checks := [] }) s.gaugesStop

end Sys2Proof.Machine
end

