-- ==== Sys2Proof/Machine/Beds.lean ====
section
/-! DEFINITION. Sensor beds: conversion, shading, grafting, slots, line triggers, release of grafted lines, and the BED
family. Chapters 03, 04 and 06. -/

namespace Sys2Proof.Machine

/-! Conversion and shading (R113, R114, R176). -/

/-- Converter sample of an input in nV above VREF (R114). -/
def convert (a : Afe) (nv : Int) : Nat :=
  (clampI (floorDiv ((nv + a.offset * 500000) * a.gain * 8192) (64 * 1000000000)) 0 16383).toNat

/-- The 1,152 converter samples of a segment, by pixel, from its taps' inputs in readout order, tap by tap (R113,
Table BD-2). -/
def Bed.pixelSamples (x : Bed) (seg : Nat) (vin : List Int) : List Nat :=
  (List.range 1152).map fun p =>
    let t := if x.tapMap then p % 4 else p / 288
    let i := if x.tapMap then p / 4 else p % 288
    convert (x.afeOf seg t) (vin.getD (288 * t + i) 0)

/-- Converter samples of a slot, by segment interface. -/
def Bed.slotSamples (x : Bed) (vin : List (List Int)) : List (List Nat) :=
  (List.range 8).map fun i => if x.segMask.getLsbD i then x.pixelSamples i (vin.getD i []) else []

/-- Rank of a segment within a mask. -/
def rankIn (mask : BitVec 8) (seg : Nat) : Nat := ((List.range seg).filter fun i => mask.getLsbD i).length

/-- The reference word of a pixel in a set (Table SH-1, R200); every word of the identity set is gain 1.0 and black 0. -/
def Bed.wordOf (x : Bed) (r : RefSet) (e seg q : Nat) : BitVec 32 :=
  if r.copy = 0 then 0x40000000#32
  else tget 0 r.words ((e * x.segs.length + rankIn x.segMask seg) * 1152 + q)

/-- That of the set in force. -/
def Bed.refWord (x : Bed) (e seg q : Nat) : BitVec 32 := x.wordOf x.refSet e seg q

def refGain (w : BitVec 32) : Nat := w.toNat / 65536
def refBlack (w : BitVec 32) : Int := signed 16 (w.toNat % 65536)

/-- The shaded sample of a raw value under a reference word (R176, R177). -/
def shade (w : BitVec 32) (raw : Int) : Nat :=
  (clampI (floorDiv ((raw - refBlack w) * refGain w) 16384) 0 65535).toNat

/-- Shaded samples of a line under a set: per entry, per segment. -/
def Bed.shadeLine (x : Bed) (r : RefSet) (samples : List (List (List Nat))) : List (List (List Nat)) :=
  (samples.zipIdx).map fun (segs, e) => (segs.zipIdx).map fun (px, i) =>
    (px.zipIdx).map fun (v, q) => shade (x.wordOf r e i q) (4 * v)

/-! Pixels of a grafted line (R138, R139). -/

/-- One segment's pixels of a grafted line: along-track interpolation, with the dead pixels of a set missing (R138). -/
def Bed.segPixels (x : Bed) (r : RefSet) (g : GEntry) (e : Nat) (a b : List Nat) : List (Option Nat) :=
  (List.range 1152).map fun p =>
    let q := if g.mirror then 1151 - p else p
    let f := g.along % 16
    if refGain (x.wordOf r e g.seg q) = 0 then none
    else some ((a.getD q 0 * (16 - f) + (if f = 0 then 0 else b.getD q 0 * f) + 8) / 16)

/-- Cross-fade of overlap position k of o (R138). -/
def crossFade (o k : Nat) : Option Nat → Option Nat → Option Nat
  | some l, some r => some ((l * (o - k) + r * (k + 1) + (o + 1) / 2) / (o + 1))
  | some l, none => some l
  | none, r => r

/-- Place an entry's pixels after those placed, under the joint of the entry before: overlap or gap. -/
def placeNext (placed : List (Option Nat)) (o gap : Nat) (next : List (Option Nat)) : List (Option Nat) :=
  let n := placed.length
  let fade := (List.range o).map fun k => crossFade o k (placed.getD (n - o + k) none) (next.getD k none)
  placed.take (n - o) ++ fade ++ List.replicate gap none ++ next.drop o

/-- Coefficients c1 to c4 of Table BD-8, by run length and position in the run. -/
def fillCoef (len pos : Nat) : List Int :=
  match len, pos with
  | 1, _ => [-5, 20, 20, -5]
  | 2, 0 => [-9, 30, 15, -6]
  | 2, _ => [-6, 15, 30, -9]
  | _, 0 => [-12, 36, 12, -6]
  | _, 1 => [-12, 27, 27, -12]
  | _, _ => [-6, 12, 36, -12]

/-- First present position at or after a place, and last present before it. -/
def nextPresent (xs : List (Option Nat)) (i : Nat) : Option Nat :=
  (List.range xs.length).find? fun j => decide (i ≤ j) && (xs.getD j none).isSome
def prevPresent (xs : List (Option Nat)) (i : Nat) : Option Nat :=
  (List.range i).reverse.find? fun j => (xs.getD j none).isSome

/-- The value of a missing position, and whether its run makes the line DEAD_RUN (R139). -/
def fillAt (xs : List (Option Nat)) (i : Nat) : Nat × Bool :=
  let v := fun (j : Nat) => ((xs.getD j none).getD 0 : Nat)
  match prevPresent xs i, nextPresent xs i with
  | none, none => (0, true)
  | some a, none => (v a, true)
  | none, some b => (v b, true)
  | some a, some b =>
    let len := b - a - 1
    if len ≤ 3 ∧ 1 ≤ a ∧ (xs.getD (a - 1) none).isSome ∧ (xs.getD (b + 1) none).isSome then
      let c := fillCoef len (i - a - 1)
      let sum : Int := c.getD 0 0 * v (a - 1) + c.getD 1 0 * v a + c.getD 2 0 * v b + c.getD 3 0 * v (b + 1)
      ((clampI (floorDiv (sum + 15) 30) 0 65535).toNat, false)
    else
      let d : Int := b - a
      let num : Int := (v a : Int) * (b - i) + (v b : Int) * (i - a)
      ((floorDiv (2 * num + d) (2 * d)).toNat, true)

/-- The placed line of one entry with its runs filled: pixels delivered, and DEAD_RUN. -/
def graftEntry (t : Graft) (segs : List (List (Option Nat))) : List Nat × Bool :=
  let placed := (segs.zipIdx).foldl (fun acc (px, j) =>
    if j = 0 then px
    else match t.entries[j - 1]? with
      | some g => placeNext acc g.overlap g.gap px
      | none => acc) ([] : List (Option Nat))
  let full := (placed.zipIdx).map fun (v, i) => match v with
    | some v => (v, false)
    | none => fillAt placed i
  (((full.map (·.1)).drop t.outFirst).take t.outWidth, full.any (·.2))

/-- A grafted line from the raw lines each entry reads (R138): `src` gives, for an entry's whole part plus 0 or 1, the
shaded samples of that raw line. -/
def Bed.graftLine (x : Bed) (t : Graft) (r : RefSet) (src : GEntry → Nat → List (List (List Nat))) : List (List Nat) × Bool :=
  let out := (List.range x.seqLen).map fun e =>
    graftEntry t (t.entries.map fun g =>
      x.segPixels r g e (((src g 0).getD e []).getD g.seg []) (((src g 1).getD e []).getD g.seg []))
  (out.map (·.1), out.any (·.2))

/-! Courses and triggers (R89, R90, R126, R142). -/

def State.updCourse (s : State) (b acc : Nat) (f : Course → Course) : State :=
  s.updBed b fun x => { x with courses := x.courses.map fun c => if c.acc = acc then f c else c }

/-- A 48.16 position as the start of a 48.32 accumulator. -/
def accAt (t : Pos) : BitVec 80 := t ++ 0#16

/-- Position k pitches beyond a start: the upper 48.16 bits (R94, R282). -/
def pitchPos (start : Pos) (pitch : BitVec 64) (k : Nat) : Pos :=
  (accAt start + BitVec.ofNat 80 (pitch.toNat * k)).extractLsb' 16 64

/-- Whether position a lies strictly beyond b (R72). -/
def beyond (a b : Pos) : Bool := decide (0 < (a - b).toInt)

/-- First line number whose position lies beyond a bed's last BED_STOP, counted from 0 (R142). -/
def firstBeyond (fuel : Nat) (start : Pos) (pitch : BitVec 64) (stop : Pos) (k : Nat) : Nat :=
  match fuel with
  | 0 => k
  | fuel + 1 => if beyond (pitchPos start pitch k) stop then k else firstBeyond fuel start pitch stop (k + 1)

/-- Lines of a document that its bed misses because the document before was too close (R142): those up to its BED_STOP. The
first line beyond it is armed, also where it lies less than a pitch beyond; BED_STOP's position is kept over a LOAD and a
change of channel (DESIGN CHOICE, log 85). -/
def Bed.gapLines (x : Bed) (start : Pos) : Nat :=
  match x.lastStop with
  | none => 0
  | some t =>
    let d := (t - start).toInt
    if d < 0 then 0 else firstBeyond 3 start x.pitch t ((d * 65536 / x.pitch.toNat).toNat - 1)

/-- Take the reference set that waits, now that no document is open on the bed (R179). -/
def State.takeRef (s : State) (b : Nat) : State :=
  match (s.bed b).refNext with
  | some r => if s.docOpenOn b then s else s.updBed b fun x => { x with refSet := r, refNext := none }
  | none => s

/-- The comparator reserved to a document for a bed (R628). -/
def Doc.compOf (d : Doc) (b : Nat) : Option Nat := match d.job with
  | none => none
  | some j => d.reserved[((List.range b).filter fun i => j.bedMask.getLsbD i).length]?

/-- Arm a document's BED_STOP on a bed with the comparator of its BED_START (R628, Table DO-3). -/
def State.armStop (s : State) (b acc : Nat) : State :=
  match (s.bed b).courses.find? fun c => c.acc = acc, s.doc acc with
  | some c, some d =>
    match c.stop, d.compOf b with
    | some t, some k =>
      if c.started && !c.stopped then
        s.arm k { owner := d.cab, chan := (s.bed b).chan, action := 5, arg := BitVec.ofNat 32 b, dir := 0, notify := false,
                  target := t, period := 0, below := false, use := .frame acc }
      else s
    | _, _ => s
  | _, _ => s

/-- Graft-gap lines of a document: counted triggered and dropped at once (R142), under DISCARD where that applies first
(R125). -/
def State.dropGap (s : State) (b acc n : Nat) (discard : Bool) : State :=
  if n = 0 then s
  else
    let s := forEach (List.range n) (fun _ s => s.dropLine b acc (if discard then 3 else 4)) s
    if discard then s else s.bedFlag b acc 0x40

/-- A document's BED_START falls due during a read: under SPAN it ends FAIL (R188), under BACKING it waits for the
document to pass (R185). -/
def State.readYields (s : State) (b : Nat) : State :=
  if (s.bed b).method = 2 then s.failRead b false
  else
    let s := match (s.bed b).read with
      | some { comp := some k, phase := 0, .. } => s.setComp k none
      | _ => s
    s.updBed b fun x => { x with read := x.read.map fun r => if r.phase = 0 then { r with cycle := [], bad := false } else r }

/-- BED_START of a document at T (R89, R142, R143, R157, R179, R196): the pending graft table applies, the record learns the
set in force, the runs open, the accumulator starts. Under TEMP_FIXED, where TEMPb is not read, no thermistor fault is in
force (DESIGN CHOICE, log 90). -/
def State.bedStart (s : State) (b acc : Nat) (t : Pos) : State :=
  match (s.bed b).courses.find? fun c => c.acc = acc with
  | none => s
  | some c =>
    let s := s.readYields b
    let s := s.updBed b fun x => match x.graftNext with
      | some g => { x with graft := some g, graftNext := none }
      | none => x
    let x := s.bed b
    let gap := ((t - c.start).toInt * 65536 / x.pitch.toNat).toNat
    let gap := if pitchPos c.start x.pitch gap = t then gap else gap + 1
    let gap := match c.tail with
      | some f => ((List.range gap).filter fun k => beyond f (pitchPos c.start x.pitch k)).length
      | none => gap
    let s := s.updDoc acc fun d => d.updBed b fun y =>
      { y with used := true, gen := x.refSet.gen,
               flags := y.flags ||| 0x1 ||| (if x.stale then 0x10 else 0) ||| (if x.lastRead = 2 then 0x20 else 0) |||
                 (if x.tempFault && !x.tempFixed then 0x8 else 0) }
    let s := s.openRuns acc b
    let s := s.updBed b fun x => { x with acc := accAt t, accOn := true, running := true, gateShut := false }
    let s := s.updCourse b acc fun c => { c with started := true, triggers := gap, lines := gap, decided := gap }
    let s := if gap = 0 then s else s.updDoc acc fun d => d.updBed b fun y =>
      { y with last := some (pitchPos y.first (s.bed b).pitch (gap - 1)) }
    ((s.dropGap b acc gap c.discard).inc 1 b 15 1).armStop b acc

/-- BED_STOP of a document at T (R89, R164). -/
def State.bedStop (s : State) (b acc : Nat) (t : Pos) : State :=
  let s := s.updBed b fun x =>
    { x with accOn := false, running := false, gateShut := false, inExcursion := false, lastStop := some t }
  ((s.updCourse b acc fun c => { c with stopped := true }).updDoc acc fun d =>
    d.updBed b fun y => { y with ended := true }).probesDue b

/-- Whether the slot that begins next is not part of an earlier line (R122). -/
def Bed.fits (x : Bed) : Bool := x.fit.isNone && (match x.expo with
  | some e => decide (x.seqLen ≤ e.entry + 1)
  | none => true)

/-- Fit a line to the next slot. -/
def State.fitLine (s : State) (b : Nat) (e : Exposing) : State :=
  (s.flushOverrun b).updBed b fun x => { x with fit := some e }

/-- A trigger of a document's course (R122, R124, R126); `reaches` unless the crossing to the bed lost it (R549). -/
def State.docTrigger (s : State) (b : Nat) (c : Course) (t : Pos) (reaches : Bool) : State :=
  let isTail := match c.tail with
    | some f => reachedFwd t f
    | none => false
  let n := c.triggers + 1
  let s := s.updCourse b c.acc fun c => { c with triggers := n, lines := if isTail then c.lines else c.lines + 1 }
  let s := s.updDoc c.acc fun d => d.updBed b fun y =>
    if isTail then { y with ended := true } else { y with last := some t }
  let s := s.inc 1 b 11 1
  let s := if isTail then s.inc 1 b 8 1 else s
  if reaches && (s.bed b).fits then s.fitLine b { kind := 0, acc := c.acc, num := n }
  else
    let s := s.updBed b fun x => { x with delay := x.delay ++ [{ num := n, acc := c.acc }] }
    if isTail || c.discard then s
    else
      let cab := match s.doc c.acc with
        | some d => d.cab
        | none => 0
      let pos := s.chanPos (s.bed b).chan
      let s := match (s.bed b).overrun with
        | some o => if o.acc = c.acc then s else s.flushOverrun b
        | none => s
      s.updBed b fun x =>
        { x with overrun := match x.overrun with
          | some o => some { o with count := o.count + 1 }
          | none => some { acc := c.acc, line := n, count := 1, pos, time := s.now, cab } }

/-- Where the graft tail of a document ends on a bed: F + DIST + ceil(A_max) x PITCH (Table DO-3). -/
def Bed.stopAt (x : Bed) (tail : Pos) : Pos := pitchPos tail x.pitch (x.graftNext.getD x.graftTable).tailLines

/-- Whether a document lies over some segment row of a bed: from its leading edge's arrival at the reference row until its
trailing edge has passed the last row (R185); one without a job, whose DIST is not known, from its entry sensor on (DESIGN
CHOICE, log 85). -/
def State.covers (s : State) (b : Nat) (d : Doc) : Bool :=
  let x := s.bed b
  let dist := match d.job with
    | some j => BitVec.ofNat 64 (j.dist.getD b 0 * 65536)
    | none => 0
  let p := s.chanPos x.chan
  d.open_ && d.chan == x.chan && (match d.job with
    | some j => j.bedMask.getLsbD b
    | none => true) && reachedFwd p (d.start + dist) && (match d.tail with
    | some f => !reachedFwd p (x.stopAt (f + dist))
    | none => true)

/-- Whether a document keeps a bed from taking strip lines: under SPAN one open on the bed, under BACKING one that lies over
it (R185). -/
def State.stripBlocked (s : State) (b : Nat) : Bool :=
  if (s.bed b).method = 2 then s.docOpenOn b else s.docs.any fun d => s.covers b d

/-- The cabinet of a line that a strip read triggers: cabinet 0 while no job is open, else that whose job or CAL.RUN requires
the read; R9 names none for a CAL.RUN's line while some job is open (R9, R184; DESIGN CHOICE, log 90). -/
def State.stripCab (s : State) (r : StripRead) : Nat := if s.jobs.isEmpty then 0 else r.cab

/-- A trigger of a strip read: a strip line, counted, taken where it fits (R184); while a document is in the way none is
taken, and the next cycle begins anew (R185). -/
def State.stripTrigger (s : State) (b : Nat) (r : StripRead) (reaches : Bool) : State :=
  if s.stripBlocked b then
    s.updBed b fun x => { x with read := some { r with turn := (r.turn + 3) / 4 * 4, cycle := [], bad := false } }
  else
    let s := s.updBed b fun x => { x with read := some { r with turn := r.turn + 1 } }
    let s := s.inc 1 b 10 1
    if reaches && (s.bed b).fits then s.fitLine b { kind := 2, cab := s.stripCab r, num := r.turn } else s

/-- A line trigger crosses to its bed's domain: delivered when three of its cycles, 15 ns, have passed since the last
delivery, and otherwise counted in OVERRUN (R21, R549, Table CK-3). -/
def State.lineCross (s : State) (b : Nat) : State × Bool :=
  s.pulse (lineCrossing b) 95 (66 + b)

/-- The trigger due at a bed's accumulator, if any (R90, R122): the accumulator moves on by the pitch, and the line is
fitted or dropped. -/
def State.bedTrigger (s : State) (b : Nat) : State :=
  let x := s.bed b
  if !s.bedClock b || !s.triggerDue b then s
  else
    let t := x.acc.extractLsb' 16 64
    let s := s.updBed b fun x => { x with acc := x.acc + x.pitch.setWidth 80 }
    let (s, reaches) := s.lineCross b
    match x.course, x.read with
    | some c, _ => s.docTrigger b c t reaches
    | none, some r => if r.phase = 0 then s.stripTrigger b r reaches else s
    | none, none => s

/-- LINE_TRIGGER: the channel has reached the bed's next trigger (R90), after the due actions that R101 puts before
it. -/
def execLineTrigger (b : Fin 4) (s : State) : Answer :=
  .next (if s.dueComps.any (fun kc => decide (actionRank kc.2.action < 4)) then s else s.bedTrigger b)

/-! Slots (R120 to R123, R129, R131). -/

/-- The dark baseline of a segment (R129, R190): that of the set in force, or the mean of the first 16 dark slots. -/
def Bed.darkBase (x : Bed) (seg : Nat) : Option Nat :=
  if x.refSet.copy ≠ 0 then some (x.refSet.darkBase.getD seg 0)
  else if x.darkSeen < 16 then none
  else some ((2 * tget 0 x.darkAcc seg + 16 * 1152) / (2 * 16 * 1152))

/-- A dark slot's check on every segment (R129, R130). The first 16 slots without a set in force have no baseline yet: they
are not checked, and no run goes on through them (DESIGN CHOICE, log 85). -/
def State.darkSlot (s : State) (b : Nat) (smp : List (List Nat)) : State :=
  let x := s.bed b
  let sum := fun (i : Nat) => (smp.getD i []).foldl (· + ·) 0
  let s := (s.inc 1 b 13 1).updBed b fun x => { x with sinceDark := 0 }
  let high := x.segs.any fun i => match x.darkBase i with
    | some base => decide (1152 * (base + x.darkLimit) < sum i)
    | none => false
  let run := if high then x.darkRun + 1 else 0
  let s := s.updBed b fun x =>
    { x with
      darkRun := run, darkHigh := if high then x.darkHigh || decide (x.darkCount ≤ run) else false,
      darkSeen := x.darkSeen + 1,
      darkAcc := if x.darkSeen < 16 then x.segs.foldl (fun m i => tupd 0 m i (· + sum i)) x.darkAcc else x.darkAcc }
  if high && decide (x.darkCount ≤ run) && !x.darkHigh then s.protect 0 true else s

/-- Sum two lists of numbers. -/
def addLists (a b : List Nat) : List Nat := if a.isEmpty then b else List.zipWith (· + ·) a b

/-- Sums over lines, entries, segments and pixels. -/
def addCycle (a b : List (List (List (List Nat)))) : List (List (List (List Nat))) :=
  if a.isEmpty then b
  else List.zipWith (List.zipWith (List.zipWith addLists)) a b

/-- Add a slot's or line's raw values to the dark sums of a read. -/
def addIdle (idle : List (Nat × Nat)) (smp : List (List Nat)) : List (Nat × Nat) :=
  (List.range 8).map fun i =>
    let (a, n) := idle.getD i (0, 0)
    (a + 4 * (smp.getD i []).foldl (· + ·) 0, n + (smp.getD i []).length)

/-- A line of a strip read has been exposed: its cycle is kept, discarded or goes on; a read whose last cycle is kept
goes to its evaluation (R184, R186, R189 to R192). -/
def State.stripLine (s : State) (b : Nat) (e : Exposing) : State :=
  let x := s.bed b
  match x.read with
  | none => s
  | some r =>
    if r.phase ≠ 0 then s
    else
      let raws := e.samples.map fun segs => segs.map fun px => px.map (4 * ·)
      let isNew := decide (e.num / 4 ≠ r.cyc) || r.cycle.isEmpty
      let r := if isNew then { r with cyc := e.num / 4, cycle := [], bad := false } else r
      let r := { r with
        cycle := r.cycle ++ [raws], bad := r.bad || e.invalid != 0 || (!e.dLine && e.fluxShort != 0) }
      let s := if x.deliver && !e.dLine && (s.place e.cab b).isSome then
          s.updBed b fun x =>
            { x with delay := x.delay ++ [{
                num := e.num, acc := 0, fitted := true, pos := e.pos, time := e.time, invalid := e.invalid,
                fluxShort := e.fluxShort, darkUnchecked := e.darkUnchecked, samples := x.shadeLine e.ref e.samples,
                cab := e.cab, ref := e.ref }] }
        else s
      let r :=
        if e.num % 4 = 3 then
          if r.cycle.length = 4 && !r.bad then
            let dark := (r.cycle.getD 0 []) ++ (r.cycle.getD 2 [])
            let r := { r with
              sums := addCycle r.sums r.cycle, kept := r.kept + 1, lastKept := some (e.pos, e.time),
              dark := dark.foldl (fun m (segs : List (List Nat)) => addIdle m (segs.map fun (px : List Nat) => px.map (· / 4))) r.dark }
            if r.kept = x.cycles then
              { r with phase := if r.full || x.refSet.copy == 0 || x.stale then 2 else 1, cycle := [] }
            else { r with cycle := [] }
          else { r with cycle := [] }
        else r
      let s := s.updBed b fun x => { x with read := some r }
      if r.phase = 0 then s
      else
        let s := match r.comp with
          | some k => s.setComp k none
          | none => s
        s.stripStop b

/-- A line has been exposed whole. -/
def State.lineDone (s : State) (b : Nat) (e : Exposing) : State :=
  if e.kind = 2 then s.stripLine b e
  else if e.kind = 1 then s
  else
    let s := s.updBed b fun x =>
      { x with delay := x.delay ++ [{
          num := e.num, acc := e.acc, fitted := true, pos := e.pos, time := e.time, invalid := e.invalid,
          fluxShort := e.fluxShort, darkUnchecked := e.darkUnchecked, samples := x.shadeLine e.ref e.samples,
          ref := e.ref }] }
    if (s.bed b).courses.any fun c => c.acc == e.acc && decide (e.num ≤ c.lines) then
      s.updDoc e.acc fun d => d.updBed b fun y => { y with exposedAt := s.now }
    else s

/-- Whether the short-lamp comparator of a channel trips: the voltage at its sink ball exceeds SHORT_V. -/
def State.ballShort (s : State) (b c : Nat) (ball : List Nat) : Bool :=
  decide (100 * ((s.bed b).led c).shortV < ball.getD c 0)

/-- The strobes of an entry of the line in progress, with a check at the end of each of 300 ns or more (R160). -/
def State.strobes (s : State) (b : Nat) (e : Exposing) (reg : BitVec 8) (ball : List Nat) : State :=
  let x := { s.bed b with expo := some e }
  forEach ((List.range 8).filter fun c => s.drivable b c) (fun c s => match x.drive c with
    | some (_, n, _) =>
      let s := s.inc 3 (8 * b + c) 0 1
      if 60 ≤ n then s.lampCheck b c (reg.getLsbD c) (s.ballShort b c ball) else s
    | none => s) s

/-- The slot in progress ends: its samples have been shifted out and its comparators read (R113, R160). -/
def State.finishSlot (s : State) (b : Nat) (vin : List (List Int)) (reg : BitVec 8) (ball : List Nat) : State :=
  let x := s.bed b
  let smp := x.slotSamples vin
  match x.cur with
  | .none => s
  | .probe m =>
    forEach ((List.range 8).filter fun c => m.getLsbD c && s.drivable b c) (fun c s =>
      (s.lampCheck b c (reg.getLsbD c) (s.ballShort b c ball)).updLed b c fun l => { l with probeDue := false }) s
  | .idle =>
    let s := s.updBed b fun x => { x with read := x.read.map fun r =>
      if r.phase = 0 then { r with idle := addIdle r.idle smp } else r }
    s.darkSlot b smp
  | .line =>
    match x.expo with
    | none => s
    | some e =>
      let e := if e.posTaken then e
        else { e with pos := s.chanPos x.chan, time := s.now, posTaken := true }
      let s := s.strobes b e reg ball
      let s := if x.seq.getD e.entry 0 = 0 && !e.dLine then s.darkSlot b smp else s
      let e := { e with samples := e.samples ++ [smp] }
      if e.entry + 1 < x.seqLen then s.updBed b fun x =>
          { x with expo := if x.expo.isSome then some { e with entry := e.entry + 1 } else none }
      else
        let live := (s.bed b).expo.isSome
        let s := s.updBed b fun x => { x with expo := none }
        if live then s.lineDone b e else s

/-- Accepted AFE settings take effect at a slot that is not part of a line in progress (R117, R118). -/
def State.takeAfe (s : State) (b : Nat) : State :=
  let x := s.bed b
  let segs := ((List.range 8).filter fun i => (List.range 4).any fun t => (tget none x.afeNext (4 * i + t)).isSome)
  s.updBed b fun x =>
    { x with
      afe := x.afeNext.foldl (fun m (k, v) => match v with
        | some a => tset {} m k a
        | none => m) x.afe,
      afeNext := [],
      invalidLeft := segs.foldl (fun m i => tset 0 m i 2) x.invalidLeft }

/-- The first slot of a fitted line begins (R92, R118, R131, R150, R164). -/
def State.startLine (s : State) (b : Nat) (e : Exposing) : State :=
  let x := s.bed b
  let bad := x.segs.filter fun i => tget 0 x.invalidLeft i != 0 || x.segBad.getLsbD i
  let invalid := bad.foldl (fun m i => m ||| (1#8 <<< i)) 0#8
  let flux := if e.dLine then 0 else x.fluxShort
  let s := forEach bad (fun i s => s.inc 2 (8 * b + i) 0 1) s
  let s := if e.dLine then s
    else forEach ((List.range 8).filter fun c => (x.led c).limited) (fun c s => s.inc 3 (8 * b + c) 6 1) s
  let s := s.updBed b fun x =>
    { x with
      fit := none, cur := .line, curAt := s.now, sinceDark := x.sinceDark + 1,
      invalidLeft := x.segs.foldl (fun m i => tupd 0 m i (· - 1)) x.invalidLeft,
      expo := some { e with
        entry := 0, invalid, fluxShort := flux, darkUnchecked := decide (1024 ≤ x.sinceDark),
        codes := (List.range 8).map fun k => (List.range 8).map fun c => x.effOf k c, weff := x.weff, ref := x.refSet } }
  s.countLine b

/-- The next slot begins. -/
def State.beginSlot (s : State) (b : Nat) : State :=
  let s := (s.inc 1 b 12 1).updBed b fun x => { x with slotNo := x.slotNo + 1, checks := [] }
  if (s.bed b).expo.isSome then s.updBed b fun x => { x with cur := .line, curAt := s.now }
  else
    let s := if (s.bed b).afeNext.isEmpty then s else (s.takeAfe b).settingsChanged b
    match (s.bed b).fit with
    | some e => s.startLine b e
    | none =>
      let m := s.probeMask b
      if m = 0 then s.updBed b fun x => { x with cur := .idle, curAt := s.now }
      else
        let s := s.updBed b fun x =>
          { x with
            cur := .probe m, curAt := s.now,
            read := x.read.map fun r => if r.cycle.isEmpty then r else { r with bad := true } }
        forEach ((List.range 8).filter fun c => m.getLsbD c) (fun c s => s.inc 3 (8 * b + c) 2 1) s

/-- SLOT_START: a bed's slot begins. The operands are what the slot just ended gave: the inputs of its taps in nV above
VREF, by segment, the regulation comparators of its channels, and the voltage at each sink ball in mV (R113, R120, R160). -/
def execSlotStart (b : Fin 4) (vin : List (List Int)) (reg : BitVec 8) (ball : List Nat) (s : State) : Answer :=
  .next (if s.bedClock b && s.clkOk (66 + b) then (s.finishSlot b vin reg ball).beginSlot b else s)

/-- When the strobe centre of the first slot of a line is due (R92, R149). -/
def State.strobeCentres (s : State) : State :=
  forEach (List.range 4) (fun b s =>
    let x := s.bed b
    match x.expo with
    | some e =>
      if x.cur = .line ∧ e.entry = 0 ∧ ¬ e.posTaken ∧
          x.curAt + 5 * ((x.slotBed - e.weff) / 2 + e.weff / 2) ≤ s.now then
        s.updBed b fun x =>
          { x with expo := some { e with pos := s.chanPos x.chan, time := s.now, posTaken := true } }
      else s
    | none => s) s

/-! Release of grafted lines (R125, R138, R140, R333). -/

/-- The raw line of a document with a number. -/
def Bed.raw (x : Bed) (acc n : Nat) : Option RawLine := x.delay.find? fun r => r.acc = acc ∧ r.num = n

/-- The raw numbers that grafted line n reads with nonzero weight, other than its own, by entry. -/
def Graft.reads (t : Graft) (n : Nat) : List Nat :=
  t.entries.flatMap fun g => if g.along % 16 = 0 then [n + g.along / 16] else [n + g.along / 16, n + g.along / 16 + 1]

/-- Whether what line n reads has been taken or is known never to be: a raw line beyond a stopped course's last
trigger. -/
def Bed.ready (x : Bed) (c : Course) (t : Graft) (n : Nat) : Bool :=
  (n :: t.reads n).all fun m => (x.raw c.acc m).isSome || (c.stopped && decide (c.triggers < m))

/-- Whether a raw line can be read: fitted, and without an uncorrectable error. -/
def Bed.usable (x : Bed) (acc n : Nat) : Bool := match x.raw acc n with
  | some r => r.fitted && !r.bad
  | none => false

/-- Whether every line of a course has been triggered: N is known (R126). -/
def Bed.linesKnown (x : Bed) (c : Course) : Bool := c.stopped || (match c.tail with
  | some f => reachedFwd (x.acc.extractLsb' 16 64) f
  | none => false)

/-- The grafted line n of a course. -/
def State.formLine (s : State) (b : Nat) (c : Course) (cab : Nat) (p : Place) (n : Nat) : GLine :=
  let x := s.bed b
  let t := x.graftTable
  let own := (x.raw c.acc n).getD { num := n, acc := c.acc }
  let (px, dead) := x.graftLine t own.ref fun g k => match x.raw c.acc (n + g.along / 16 + k) with
    | some r => r.samples
    | none => []
  let invalid := t.entries.foldl (fun m g =>
    if (t.reads n).isEmpty then m
    else
      let rs := (n + g.along / 16) :: (if g.along % 16 = 0 then [] else [n + g.along / 16 + 1])
      if rs.any fun k => match x.raw c.acc k with
        | some r => r.invalid.getLsbD g.seg
        | none => false
      then m ||| (1#8 <<< g.seg) else m) 0#8
  { acc := c.acc, line := n, bed := b, pos := own.pos, time := own.time, invalid, fluxShort := own.fluxShort,
    darkUnchecked := own.darkUnchecked, deadRun := dead, pixels := px, num := 0, cab, docStart := n == 1,
    docEnd := x.linesKnown c && n == c.lines, place := p, results := [], reserved := [], tine := none }

/-- Drop the raw lines that no line still to be decided reads, and a course all of whose lines are decided. -/
def State.trimCourse (s : State) (b acc : Nat) : State :=
  s.updBed b fun x =>
    match x.courses.find? fun c => c.acc = acc with
    | none => x
    | some c =>
      if c.stopped ∧ c.lines ≤ c.decided then
        { x with courses := x.courses.filter fun k => k.acc ≠ acc, delay := x.delay.filter fun r => r.acc ≠ acc }
      else { x with delay := x.delay.filter fun r => r.acc ≠ acc ∨ c.decided < r.num }

/-- Flags of Table DO-9 that a captured line gives its document's bed. -/
def GLine.flags (l : GLine) : BitVec 16 :=
  (if l.invalid != 0 then 0x200 else 0) ||| (if l.darkUnchecked then 0x400 else 0) |||
    (if l.deadRun then 0x800 else 0) ||| (if l.fluxShort != 0 then 0x1000 else 0)

/-- Release line n of a course: drop it under the first cause that applies, or capture it (R125, R333, R396, R407). -/
def State.releaseLine (s : State) (b : Nat) (c : Course) : State :=
  let x := s.bed b
  let n := c.decided + 1
  let s := s.updCourse b c.acc fun c => { c with decided := n }
  let t := x.graftTable
  let d := s.doc c.acc
  let cab := match d with
    | some d => d.cab
    | none => 0
  let s :=
    if c.discard then s.dropLine b c.acc 3
    else if !(match x.raw c.acc n with
        | some r => r.fitted
        | none => false) then s.dropLine b c.acc 5
    else if !(n :: t.reads n).all fun m => x.usable c.acc m then s.dropLine b c.acc 6
    else
      match s.place cab b with
      | none => s.dropLine b c.acc 7
      | some p =>
        if 256 ≤ s.queued b then (s.inc 1 b 14 1).dropLine b c.acc 7
        else if !s.admits cab b p then s.dropLine b c.acc 7
        else
          let l := s.formLine b c cab p n
          ((s.captureLine b c.acc).bedFlag b c.acc l.flags).enterLine b l
  s.trimCourse b c.acc

/-- A delivered strip line passes to the Rake with every ALONG taken as 0 (R189). One that finds the queue full counts in
QUEUE_FULL (R333); the DROP counters count lines of documents alone (R585). -/
def State.releaseStrip (s : State) (b : Nat) (r : RawLine) : State :=
  let x := s.bed b
  let s := s.updBed b fun x => { x with delay := x.delay.erase r }
  match s.place r.cab b with
  | none => s
  | some p =>
    if 256 ≤ s.queued b then s.inc 1 b 14 1
    else if !s.admits r.cab b p then s
    else
      let t := x.graftTable
      let flat := { t with entries := t.entries.map fun g => { g with along := 0 } }
      let (px, dead) := x.graftLine flat r.ref fun _ _ => r.samples
      s.enterLine b
        { acc := 0, line := 0, bed := b, pos := r.pos, time := r.time, invalid := r.invalid, fluxShort := r.fluxShort,
          darkUnchecked := r.darkUnchecked, deadRun := dead, pixels := px, num := 0, cab := r.cab, docStart := false,
          docEnd := false, place := p, results := [], reserved := [], tine := none }

/-- LINE_RELEASE: the graft unit releases the bed's next line, once what it reads is there: a delivered strip line, or
the next line of the oldest course. -/
def execLineRelease (b : Fin 4) (s : State) : Answer :=
  .next (
    let x := s.bed b
    if !s.mode.p3 then s
    else match x.delay.find? fun r => r.acc = 0 with
      | some r => s.releaseStrip b r
      | none =>
        match x.courses.find? fun c => decide (c.decided < c.lines) with
        | none => s
        | some c =>
          if c.discard || x.ready c x.graftTable (c.decided + 1) then s.releaseLine b c else s)

/-! BED commands. -/

def bedSeq (r : Req) : List (BitVec 8) := (List.range 8).map fun i => BitVec.ofNat 8 (r.u8 (0x10 + i))

/-- The fields of Table BD-7. -/
def Req.bedCfg (r : Req) : BedCfg :=
  { segMask := BitVec.ofNat 8 (r.u8 1), seqLen := r.u8 2,
    coverMask := if r.u8 3 = 2 ^ r.u8 0 then none else some (BitVec.ofNat 4 (r.u8 3)),
    slotCycles := r.u16 4, spWidth := r.u8 6, lead := r.u8 7, tapMap := bit (r.u8 8) 0, clkInvert := bit (r.u8 8) 1,
    darkCount := r.u8 9, darkLimit := r.u16 0x0A, phase := (List.range 4).map fun i => r.u8 (0x0C + i), seq := bedSeq r }

def bedConfig : Cmd :=
  { op := 0x0301, legal := fun m _ => mSet m, len := lenIs 32,
    charter := fun s r => [bedCharter 0 s r],
    value := fun _ r =>
      [bedValue 0 r, need (r.u8 1 != 0) (eValue 1), need (inR 1 (r.u8 2) 8) (eValue 2),
       need (decide (300 ≤ r.u16 4)) (eValue 4), need (inR 1 (r.u8 6) 8) (eValue 6), need (inR 1 (r.u8 7) 11) (eValue 7),
       need (inR 1 (r.u8 9) 16) (eValue 9),
       need (inR 1 (r.u16 0x0A) 4095) (eValue 0x0A)] ++
      ((List.range 4).map fun i => need (decide (r.u8 (0x0C + i) ≤ 15)) (idx (eValue (0x0C + i)) i)) ++
      [need (decide (r.u8 6 + r.u8 7 ≤ 12)) (eValue 7)] ++
      ((List.range 8).map fun i => need (decide (i < r.u8 2) || r.u8 (0x10 + i) == 0) (idx (eValue (0x10 + i)) i)),
    reserved := fun r => [r.bitsBelow 3 4, r.bitsBelow 8 2, r.zero 0x18 8],
    domains := fun s r => s.enters [66 + r.u8 0, 70 + r.u8 0],
    state := fun s r => [need (!s.docOpenOn (r.u8 0) && !(match (s.bed (r.u8 0)).read with
      | some x => x.isRun
      | none => false)) (eState 0)],
    resource := fun s r => [need ((List.range 8).all fun i =>
      !bit (r.u8 1) i || (s.partner 0 (8 * r.u8 0 + i)).outcome == 1) { code := 0x07, detail := dField 1 }],
    busy := fun s r => [bedBusy 0 s r],
    commit := fun s r =>
      let b := r.u8 0
      { s :=
          if s.mode.p3 then
            let s := s.applyCfg b r.bedCfg
            if s.bedCover b then s.protect 0 true
            else if !s.suppliesGood then (s.breach 0 (s.chanPos 0)).protect 5 true
            else s
          else s.updBed b fun x => { x with cfgNext := some r.bedCfg } } }

/-- BED.CONFIG (R134 to R136, R155, R178, R351): accepted in IDLE it takes effect on the next entry to a P3 mode, and until
then every command sees the configuration in force (DESIGN CHOICE, log 85). -/
def execBedConfig (m : Fin 257) (n : Fin 4) (s : State) : Answer := .next (runCommand bedConfig m n s)

def mAfe : Mode → Req → Bool := fun m _ => mSet m || mRun m || m == .service

def bedAfe : Cmd :=
  { op := 0x0302, legal := mAfe, len := lenIs 20,
    charter := fun s r => [bedCharter 0 s r],
    value := fun s r =>
      let m := r.u8 2
      [bedValue 0 r, need (decide (r.u8 1 ≤ 7)) (eValue 1)] ++
      ((List.range 4).map fun t => need (!bit m t || inR 32 (r.u16 (4 + 2 * t)) 512) (idx (eValue (4 + 2 * t)) t)) ++
      ((List.range 4).map fun t =>
        need (!bit m t || inI (-512) (r.s16 (0x0C + 2 * t)) 511) (idx (eValue (0x0C + 2 * t)) t)) ++
      ((List.range 4).map fun t => need (bit m t || r.u16 (4 + 2 * t) == 0) (idx (eValue (4 + 2 * t)) t)) ++
      ((List.range 4).map fun t => need (bit m t || r.u16 (0x0C + 2 * t) == 0) (idx (eValue (0x0C + 2 * t)) t)) ++
      [need (m % 16 != 0) (eValue 2), need ((s.bed (r.u8 0)).segMask.getLsbD (r.u8 1)) (eValue 1)],
    reserved := fun r => [r.bitsBelow 2 4, r.zero 3 1],
    domains := fun s r => s.enters [34 + 8 * r.u8 0 + r.u8 1],
    busy := fun s r => [bedBusy 0 s r],
    commit := fun s r =>
      let b := r.u8 0
      let next := (List.range 4).filter fun t => bit (r.u8 2) t
      let s := s.updBed b fun x =>
        { x with afeNext := next.foldl (fun m t =>
            tset none m (4 * r.u8 1 + t) (some { gain := r.u16 (4 + 2 * t), offset := r.s16 (0x0C + 2 * t) })) x.afeNext }
      let s := if s.bedClock b then s else s.takeAfe b
      { s := s.settingsChanged b } }

/-- BED.AFE (R115 to R118). -/
def execBedAfe (m : Fin 257) (n : Fin 4) (s : State) : Answer := .next (runCommand bedAfe m n s)

def bedPitch : Cmd :=
  { op := 0x0303,
    legal := fun m r => mSet m || ((m == .capture || m == .paused) && bit (r.u8 2) 0),
    len := lenIs 24,
    charter := fun s r => [bedCharter 0 s r],
    value := fun s r =>
      [bedValue 0 r,
       need (decide (r.u8 1 ≤ 3) && (!bit (r.u8 2) 0 || r.u8 1 == (s.bed (r.u8 0)).chan)) (eValue 1),
       need (decide (2 ^ 32 ≤ r.u64 8)) (eValue 8), need (bit (r.u8 2) 0 || r.u64 0x10 == 0) (eValue 0x10)],
    reserved := fun r => [r.bitsBelow 2 1, r.zero 3 5],
    domains := fun s _ => s.enters [95],
    state := fun s r => [need (!bit (r.u8 2) 0 || !reachedFwd (s.chanPos (r.u8 1)) (r.pos 0x10)) (eState 0x10)],
    quota := fun s r => [need (!bit (r.u8 2) 0 || decide (s.hostHeld r.cab < 16)) eQuota],
    resource := fun s r => [need (!bit (r.u8 2) 0 || s.freeHost.isSome) eResource],
    busy := fun s r => [bedBusy 0 s r],
    commit := fun s r =>
      let b := r.u8 0
      let v := BitVec.ofNat 64 (r.u64 8)
      { s :=
          if bit (r.u8 2) 0 then
            match s.freeHost with
            | some k => s.arm k
                { owner := r.cab, chan := r.u8 1, action := 6, arg := BitVec.ofNat 32 b, dir := 0, notify := false,
                  target := r.pos 0x10, period := 0, below := false, use := .pitch v }
            | none => s
          else s.updBed b fun x => { x with chan := r.u8 1, pitch := v } } }

/-- BED.PITCH (R93, R94). -/
def execBedPitch (m : Fin 257) (n : Fin 4) (s : State) : Answer := .next (runCommand bedPitch m n s)

/-- Graft entry i of the parameters (Table BD-10). -/
def graftEntryOf (r : Req) (i : Nat) : GEntry :=
  let v := r.u32 (8 + 4 * i)
  { along := bits v 13 0, seg := bits v 16 14, mirror := bit v 17, overlap := bits v 24 18, gap := bits v 26 25 }

def graftOf (r : Req) : Graft :=
  { outFirst := r.u16 4, outWidth := r.u16 6, entries := (List.range (r.u8 1)).map (graftEntryOf r) }

/-- W: the placed width. -/
def Graft.placed (g : Graft) : Int :=
  g.entries.foldl (fun (n : Int) e => n + 1152 - (e.overlap : Int) + e.gap) 0

/-- The checks of R144 in its order, after the range of COUNT; where no used entry has ALONG 0 the first is named (DESIGN
CHOICE, log 85); those that refer to SEG_MASK or to W are made on a configured bed alone (R143). -/
def graftChecks (s : State) (r : Req) : List (Option Err) :=
  let x := s.bed (r.u8 0)
  let on := s.configured (r.u8 0)
  let g := graftOf r
  let n := min (r.u8 1) 8
  let ent := fun (i : Nat) => idx (eValue (8 + 4 * i)) i
  let e := fun (i : Nat) => graftEntryOf r i
  [need (!on || r.u8 1 == x.segs.length) (eValue 1)] ++
  ((List.range n).map fun i =>
    need ((!on || x.segMask.getLsbD (e i).seg) && (List.range i).all fun j => (e j).seg != (e i).seg) (ent i)) ++
  ((List.range n).map fun i => need (decide ((e i).overlap ≤ 64)) (ent i)) ++
  ((List.range n).map fun i => need (!((e i).overlap != 0 && (e i).gap != 0)) (ent i)) ++
  [need (n == 0 || ((e (n - 1)).overlap == 0 && (e (n - 1)).gap == 0)) (ent (n - 1)),
   need ((List.range n).any fun i => (e i).along == 0) (ent 0),
   need (!on || decide ((g.outFirst : Int) < g.placed)) (eValue 4),
   need (!on || decide (1 ≤ g.outWidth ∧ g.outWidth ≤ 9216 ∧ (g.outFirst + g.outWidth : Int) ≤ g.placed)) (eValue 6)] ++
  -- reserved bits and bytes, in the order of their offsets (R6)
  [r.bitsBelow 2 1, r.zero 3 1] ++
  ((List.range 8).map fun i => need (if i < n then r.u32 (8 + 4 * i) / 2 ^ 27 == 0 else r.u32 (8 + 4 * i) == 0) (ent i))

def bedGraft : Cmd :=
  { op := 0x0304, legal := fun m _ => mSet m, len := lenIs 40,
    charter := fun s r => [bedCharter 0 s r],
    value := fun s r => [bedValue 0 r] ++ graftChecks s r,
    domains := fun s r => s.enters [70 + r.u8 0] ++ (if bit (r.u8 2) 0 then s.enters [97] else []),
    state := fun s r => [need (s.configured (r.u8 0)) (eState 0)],
    resource := fun s r => [need (decide ((graftOf r).memory (s.bed (r.u8 0)).seqLen ≤ 67108864))
      { code := 0x07, detail := dField 8 }],
    busy := fun s r => [bedBusy 0 s r],
    commit := fun s r =>
      let b := r.u8 0
      let g := graftOf r
      let s := if bit (r.u8 2) 0 && !(s.supply 0).outside then
          ((s.beginRecord (.graft b (s.bed b).graftStored)).freeRecord (21408 + 2 * b)).updBed b fun x => { x with graftStored := x.graftStored.drop (x.graftStored.length - 1) ++ [g] }
        else s
      { s :=
          if s.jobs.any fun j => j.current then s.updBed b fun x => { x with graftNext := some g }
          else s.updBed b fun x => { x with graft := some g, graftNext := none } } }

/-- BED.GRAFT (R141, R143, R144); the data words of a stored page are free values (DESIGN CHOICE, log 23). -/
def execBedGraft (m : Fin 257) (n : Fin 4) (s : State) : Answer := .next (runCommand bedGraft m n s)

end Sys2Proof.Machine
end

