-- ==== Sys2Proof/Machine/Illum.lean ====
section
/-! DEFINITION. The ILL family, the temperature reading and the sink overtemperature. Chapter 05. -/

namespace Sys2Proof.Machine

/-! Temperature (R156). -/

/-- The natural logarithm of a / b in units of 2^-64, by the series of the inverse hyperbolic tangent, within 2^-56
(DEDUCED, log 22). -/
def lnFix (a b : Nat) : Int :=
  let e : Int := (Nat.log2 a : Int) - Nat.log2 b
  let a' : Int := a * 2 ^ (-e).toNat
  let b' : Int := b * 2 ^ e.toNat
  let z := floorDiv ((a' - b') * 2 ^ 64) (a' + b')
  let z2 := floorDiv (z * z) (2 ^ 64)
  let r := (List.range 26).foldl (fun (acc : Int × Int) (i : Nat) =>
    (acc.1 + floorDiv acc.2 (2 * i + 1), floorDiv (acc.2 * z2) (2 ^ 64))) (0, z)
  2 * r.1 + e * 12786308645202655660

/-- The thermistor's temperature in 1/16 degC from its resistance in mOhm and B_CONST, rounded to nearest (R156); none
beyond any temperature. -/
def thermistor (mohm b : Nat) : Option Int :=
  if mohm = 0 then none
  else
    let l := lnFix mohm 10000000
    let n : Int := 5963 * b * 2 ^ 64
    let d : Int := 20 * b * 2 ^ 64 + 5963 * l
    if d ≤ 0 then none else some (floorDiv (160 * n - 43699 * d) (10 * d))

/-- TEMP_READ: the 10 ms reading of TEMPb from its resistance in mOhm, then the effective codes (R156 to R159). -/
def execTempRead (b : Fin 4) (mohm : Nat) (s : State) : Answer :=
  .next (
    if !(s.mode.p2 || s.mode.p3) then s
    else
      let x := s.bed b
      let s :=
        if x.tempFixed then s
        else
          match thermistor mohm x.bConst with
          | some t =>
            if inI (-640) t 2400 then s.updBed b fun x => { x with temp := t, tempFault := false }
            else
              let s := if x.tempFault then s
                else s.raiseTo (s.bedCabs b) (s.ev 0x0403 b 0 (w2 (mohm / 1000)))
              s.updBed b fun x => { x with tempFault := true }
          | none =>
            let s := if x.tempFault then s
              else s.raiseTo (s.bedCabs b) (s.ev 0x0403 b 0 (w2 (mohm / 1000)))
            s.updBed b fun x => { x with tempFault := true }
      let s := if (s.bed b).tempFault && !(s.bed b).tempFixed then
          -- those captured on the bed: BED_START has fired, BED_STOP has not (R157)
          forEach ((s.bed b).courses.filter fun c => c.started && !c.stopped) (fun c s => s.bedFlag b c.acc 0x8) s
        else s
      (s.updBed b Bed.recompute).cutoffs b)

/-- SINK_OVERTEMP: a reading of a sink's junction in 1/16 degC; above 150 degC the sink is latched off HOT (R162,
R163, R203). -/
def execSinkOvertemp (b : Fin 4) (c : Fin 8) (temp : Int) (s : State) : Answer :=
  .next (
    let l := (s.bed b).led c
    let s := s.updLed b c fun l => { l with sinkTemp := temp }
    if temp ≤ 2400 ∨ l.state = 5 then s
    else
      let s := (s.updLed b c fun l => { l with state := 5 }).inc 3 (8 * b + c) 5 1
      let s := if (s.bed b).litIn c then
          (forEach (s.docsOn b) (fun d s => if (d.bed b).used then s.bedFlag b d.acc 0x2 else s) s).failRead b false
        else s
      s.raiseTo (s.bedCabs b) (s.evChan 0x0401 b c (s.bed b).chan (w2 5)))

/-! Commands. -/

/-- No document open on the bed and no CAL.RUN in progress on it (R135, R151). -/
def bedIdle (s : State) (r : Req) : Option Err :=
  need (!s.docOpenOn (r.u8 0) && !(match (s.bed (r.u8 0)).read with
    | some x => x.isRun
    | none => false)) (eState 0)

def illBed : Cmd :=
  { op := 0x0401, legal := fun m _ => mSet m, len := lenIs 16,
    charter := fun s r => [bedCharter 0 s r],
    value := fun _ r =>
      [bedValue 0 r, need (inR 3000 (r.u16 2) 5000) (eValue 2), need (inR 20 (r.u32 4) 218370) (eValue 4),
       need (if bit (r.u8 1) 0 then inI (-640) (r.s16 8) 2000 else r.s16 8 == 0) (eValue 8)],
    reserved := fun r => [r.bitsBelow 1 1, r.zero 0x0A 6],
    domains := fun s r => s.enters [66 + r.u8 0],
    state := fun s r => [bedIdle s r],
    busy := fun s r => [bedBusy 0 s r],
    commit := fun s r =>
      { s := (s.relight (r.u8 0) fun x =>
          { x with tempFixed := bit (r.u8 1) 0, bConst := r.u16 2, window := r.u32 4, tempValue := r.s16 8 }).settingsChanged
            (r.u8 0) } }

/-- ILL.BED (R151). -/
def execIllBed (m : Fin 257) (n : Fin 4) (s : State) : Answer := .next (runCommand illBed m n s)

def chanValue (r : Req) : Option Err := need (decide (r.u8 1 ≤ 7)) (eValue 1)

def illChannel : Cmd :=
  { op := 0x0402, legal := fun m _ => mSet m, len := lenIs 24,
    charter := fun s r => [bedCharter 0 s r],
    value := fun _ r =>
      [bedValue 0 r, chanValue r, need (decide (r.u8 2 ≤ 3)) (eValue 2), need (decide (r.u8 3 ≤ 125)) (eValue 3),
       need (decide (r.u16 4 ≤ 1280)) (eValue 4), need (inR 10 (r.u8 6) 200) (eValue 6)],
    reserved := fun r => [r.zero 7 1, r.zero 0x10 8],
    domains := fun s r => s.enters [66 + r.u8 0],
    state := fun s r => [bedIdle s r],
    busy := fun s r => [bedBusy 0 s r],
    commit := fun s r =>
      { s := (s.relight (r.u8 0) fun x =>
          { x with leds := tupd {} x.leds (r.u8 1) fun l =>
              { l with cls := r.u8 2, knee := r.u8 3, slope := r.u16 4, shortV := r.u8 6, a1 := r.s32 8,
                       a2 := r.s32 0x0C } }).settingsChanged (r.u8 0) } }

/-- ILL.CHANNEL (R152). -/
def execIllChannel (m : Fin 257) (n : Fin 4) (s : State) : Answer := .next (runCommand illChannel m n s)

def illLevel : Cmd :=
  { op := 0x0403, legal := mSetRun, len := lenIs 24,
    charter := fun s r => [bedCharter 0 s r],
    value := fun s r => [bedValue 0 r, need (decide (r.u8 1 < (s.bed (r.u8 0)).seqLen)) (eValue 1)],
    reserved := fun r => [r.zero 2 6],
    domains := fun s r => s.enters [66 + r.u8 0],
    busy := fun s r => [bedBusy 0 s r],
    commit := fun s r =>
      { s := (s.relight (r.u8 0) fun x =>
          { x with code := (List.range 8).foldl (fun m c => tset 0 m (8 * r.u8 1 + c) (r.u16 (8 + 2 * c))) x.code
            }).settingsChanged (r.u8 0) } }

/-- ILL.LEVEL (R154, R155). -/
def execIllLevel (m : Fin 257) (n : Fin 4) (s : State) : Answer := .next (runCommand illLevel m n s)

/-- The status word of Table IL-7; LOW_DUTY of a channel of CLASS UNUSED, which has no strobe at all, keeps its reset value
(DESIGN CHOICE, log 85). -/
def State.lampWord (s : State) (b c : Nat) : Nat :=
  let x := s.bed b
  let l := x.led c
  l.stateCode + l.disc * 2 ^ 4 + (if l.cls == 0 || x.longStrobe c then 0 else 2 ^ 8) + (if l.limited then 2 ^ 9 else 0) +
    (if s.inhibited b c then 2 ^ 10 else 0) + (if l.neighbour then 2 ^ 11 else 0) +
    (if x.ntestRun then 2 ^ 12 else 0) + l.vf % 65536 * 2 ^ 16

def illStatus : Cmd :=
  { op := 0x0404, legal := mAny, len := lenIs 8, long := true,
    charter := fun s r => [bedCharter 0 s r],
    value := fun _ r => [bedValue 0 r, chanValue r],
    reserved := fun r => [r.zero 2 6],
    commit := fun s r =>
      let x := s.bed (r.u8 0)
      { s, result := leBytes 4 (s.lampWord (r.u8 0) (r.u8 1)) ++ leBytes 4 x.weff ++
          ((List.range 8).flatMap fun e => leBytes 2 (x.effOf e (r.u8 1))) ++
          leInt 2 (if x.tempFixed then x.tempValue else x.temp) } }

/-- ILL.STATUS (R174). -/
def execIllStatus (m : Fin 257) (n : Fin 4) (s : State) : Answer := .next (runCommand illStatus m n s)

def illClear : Cmd :=
  { op := 0x0405, legal := fun m _ => mSet m, len := lenIs 8,
    charter := fun s r => [bedCharter 0 s r],
    value := fun _ r => [bedValue 0 r, chanValue r],
    reserved := fun r => [r.zero 2 6],
    domains := fun s r => s.enters [66 + r.u8 0],
    state := fun s r =>
      let l := (s.bed (r.u8 0)).led (r.u8 1)
      [need (l.state == 4 || l.state == 5) (eState 1), need (l.state != 5 || decide (l.sinkTemp < 2000)) (eState 1)],
    busy := fun s r => [bedBusy 0 s r],
    commit := fun s r =>
      { s := s.updLed (r.u8 0) (r.u8 1) fun l => { l with state := 6, verified := false } } }

/-- ILL.CLEAR (R162, R175). -/
def execIllClear (m : Fin 257) (n : Fin 4) (s : State) : Answer := .next (runCommand illClear m n s)

end Sys2Proof.Machine
end

