-- ==== Sys2Proof/Machine/Calibration.lean ====
section
/-! DEFINITION. Calibration: the strip read, its quick check, full calibration and result, and the CAL family.
Chapter 06. -/

namespace Sys2Proof.Machine

/-! The strip read (R184 to R188, R628). -/

/-- Arm the comparator that starts the accumulator of a read: at the present position under BACKING, at SPAN_FIRST, or
the present position where that is past, under SPAN. A read that finds none free waits (R628), and so does one while a
document is captured on the bed (R185); under SPAN it ends FAIL once the position has reached SPAN_LAST (R188). -/
def State.kickRead (s : State) (b : Nat) : State :=
  let x := s.bed b
  let pos := s.chanPos x.chan
  match x.read with
  | none => s
  | some r =>
    let armed := match r.comp with
      | some k => (s.comp k).isSome
      | none => false
    if r.phase ≠ 0 || x.accOn || armed then s
    else if x.method = 2 ∧ reachedFwd pos x.spanLast then s.failRead b false
    else if x.courses.any fun c => !c.stopped && c.started then s
    else
      match r.comp.or s.freeCurators.head? with
      | none => s
      | some k =>
        let s := s.updBed b fun x => { x with read := some { r with comp := some k } }
        s.arm k { owner := r.cab, chan := x.chan, action := 4, arg := BitVec.ofNat 32 b, dir := 0, notify := false,
                  target := if x.method = 2 ∧ !reachedFwd pos x.spanFirst then x.spanFirst else pos, period := 0,
                  below := false, use := .strip b }

/-- Begin a strip read for a cabinet (R184, R187, R197). -/
def State.startRead (s : State) (b cab : Nat) (isRun full : Bool) (deadline : Option Nat) (fails : Nat) : State :=
  (s.updBed b fun x =>
    { x with read := some { cab, isRun, full, began := s.now, deadline, settings := x.settings, mask := x.segMask,
                            fails } }).kickRead b

/-- The accumulator of a read starts at T; under SPAN its comparator is armed for SPAN_LAST. -/
def State.stripStart (s : State) (b k : Nat) (t : Pos) : State :=
  let x := s.bed b
  match x.read with
  | none => s
  | some r =>
    if r.phase ≠ 0 then s
    else
      let s := s.updBed b fun x =>
        { x with acc := accAt t, accOn := true, running := true,
                 read := some { r with cyc := (r.turn + 3) / 4, turn := (r.turn + 3) / 4 * 4, cycle := [], bad := false } }
      if x.method = 2 then
        s.arm k { owner := r.cab, chan := x.chan, action := 5, arg := BitVec.ofNat 32 b, dir := 0, notify := false,
                  target := x.spanLast, period := 0, below := false, use := .strip b }
      else s

/-! Measurement (R190). -/

/-- Per-pixel means over the kept cycles of line 0 D1, 1 W1, 2 D2 or 3 W2, of an entry and a segment. -/
def StripRead.mean (r : StripRead) (line e i : Nat) : List Int :=
  (((r.sums.getD line []).getD e []).getD i []).map fun v => ((v + r.kept / 2) / r.kept : Nat)

/-- The segments a read measured. -/
def StripRead.segs (r : StripRead) : List Nat :=
  (List.range 8).filter fun i => !(((r.sums.getD 0 []).getD 0 []).getD i []).isEmpty

/-- Whether an entry is lit under recorded settings. -/
def CalSettings.lit (x : CalSettings) (e : Nat) : Bool :=
  (List.range 8).any fun c => (x.seq.getD e 0).getLsbD c && x.cls.getD c 0 != 0

/-- The 576th smallest of 1,152 values. -/
def median576 (a : List Int) : Int :=
  (a.find? fun v => decide ((a.filter (· < v)).length < 576) && decide (576 ≤ (a.filter (· ≤ v)).length)).getD 0

/-- dead of R190, by pixel. -/
def deadPixels (lit : Bool) (frac : Nat) (d w : List Int) : List Bool :=
  let a := List.zipWith (· - ·) w d
  let m := median576 a
  List.zipWith (fun d a => decide (32767 < d) || (lit && (decide (a ≤ 0) || decide (a * 256 < frac * m)))) d a

/-- The dark baseline of a segment, in converter LSB: over the D lines of both runs and the idle slots of the read
(R190). -/
def StripRead.base (r : StripRead) (i : Nat) : Nat :=
  let sum := (r.idle.getD i (0, 0)).1 + (r.dark.getD i (0, 0)).1
  let n := (r.idle.getD i (0, 0)).2 + (r.dark.getD i (0, 0)).2
  if n = 0 then 0 else (2 * sum + 4 * n) / (8 * n)

/-! The quick check (R191). -/

/-- Whether a pair deviates; none where the set marks it dead. -/
def deviates (w : BitVec 32) (lit : Bool) (target : Nat) (d1 d2 w1 w2 : Int) : Option Bool :=
  if refGain w = 0 then none
  else
    let bq := floorDiv (d1 + d2 + 1) 2
    let wq := floorDiv (w1 + w2 + 1) 2
    some (decide (32 < |bq - refBlack w|) ||
      (lit && decide ((target : Int) < |(shade w wq : Int) - target| * 100)))

/-- The pairs examined and those that deviate. -/
def State.quickPairs (s : State) (b : Nat) (r : StripRead) : List Bool :=
  let x := s.bed b
  (List.range r.settings.seq.length).flatMap fun e => r.segs.flatMap fun i =>
    (List.range 1152).filterMap fun q =>
      deviates (x.refWord e i q) (r.settings.lit e) (r.settings.target.getD e 0) ((r.mean 0 e i).getD q 0)
        ((r.mean 2 e i).getD q 0) ((r.mean 1 e i).getD q 0) ((r.mean 3 e i).getD q 0)

/-- Whether the quick check is PASS. -/
def State.quickPass (s : State) (b : Nat) (r : StripRead) : Bool :=
  let ps := s.quickPairs b r
  decide ((ps.filter id).length ≤ ps.length / 1000)

/-! Full calibration (R192). -/

/-- One pixel under one entry: outside, and its reference word. -/
structure CalPair where
  outside : Bool
  gain : Nat
  black : Int
deriving DecidableEq, Repr

/-- The pair of R192 from the means of both runs. -/
def calPair (lit : Bool) (target : Nat) (d1 d2 w1 w2 : Int) (dead1 dead2 : Bool) : CalPair :=
  let a1 := w1 - d1
  let a2 := w2 - d2
  let outside := (dead1 != dead2) || (!dead1 && !dead2 &&
    (decide (16 < |d1 - d2|) || (lit && decide (a1 + a2 < 400 * |a1 - a2|))))
  let black := floorDiv (d1 + d2 + 1) 2
  let a := floorDiv (w1 + w2 + 1) 2 - black
  let g : Int := if lit then (if 0 < a then floorDiv (target * 16384 + floorDiv a 2) a else 0) else 16384
  if dead1 || dead2 || (lit && (decide (a ≤ 0) || decide (65535 < g))) then { outside, gain := 0, black := 0 }
  else { outside, gain := g.toNat, black }

/-- The pairs of an entry and a segment, by pixel. -/
def StripRead.pairs (r : StripRead) (frac e i : Nat) : List CalPair :=
  let lit := r.settings.lit e
  let d1 := r.mean 0 e i
  let w1 := r.mean 1 e i
  let d2 := r.mean 2 e i
  let w2 := r.mean 3 e i
  let k1 := deadPixels lit frac d1 w1
  let k2 := deadPixels lit frac d2 w2
  (List.range 1152).map fun q =>
    calPair lit (r.settings.target.getD e 0) (d1.getD q 0) (d2.getD q 0) (w1.getD q 0) (w2.getD q 0)
      (k1.getD q false) (k2.getD q false)

/-- Every pair, by entry and segment. -/
def StripRead.allPairs (r : StripRead) (frac : Nat) : List (List CalPair) :=
  (List.range r.settings.seq.length).flatMap fun e => r.segs.map fun i => r.pairs frac e i

/-- Whether the calibration is accepted. -/
def calAccepted (maxDead : Nat) (ps : List (List CalPair)) : Bool :=
  let all := ps.flatten
  decide ((all.filter (·.outside)).length ≤ all.length / 1000) &&
    ps.all fun seg => decide ((seg.filter (·.gain == 0)).length ≤ maxDead)

/-- The reference word of a pair (Table SH-1). -/
def CalPair.word (p : CalPair) : BitVec 32 := BitVec.ofNat 32 (p.gain * 65536 + (p.black % 65536).toNat)

/-! Storage (R180, R200, R201). -/

/-- Copy to which an accepted set goes: the one not in force, else an invalid one, else the lower generation. -/
def Bed.refTarget (x : Bed) : Nat :=
  if x.refSet.copy = 1 then 2
  else if x.refSet.copy = 2 then 1
  else match tget none x.refCopies 1, tget none x.refCopies 2 with
    | none, _ => 1
    | _, none => 2
    | some a, some b => if a.gen ≤ b.gen then 1 else 2

/-- The highest generation in a valid copy. -/
def Bed.refGenHigh (x : Bed) : Nat := x.refCopies.foldl (fun g (_, r) => match r with
  | some r => max g r.gen
  | none => g) 0

/-- The header page of Table SH-6. Where it gives no value, TARGET of an entry that was not used reads 61,440, and AFE_GAIN and
AFE_OFFSET of an interface outside SEG_MASK 64 and 0 (DESIGN CHOICE, log 90). -/
def RefSet.header (r : RefSet) (b dataPages : Nat) (crc : BitVec 32) (segs : List Nat) : List Byte :=
  let t := r.settings.timing
  let afe := fun (seg tap : Nat) => if segs.contains seg then
      r.settings.afe.getD (4 * ((segs.filter (· < seg)).length) + tap) (64, 0)
    else (64, 0)
  leBytes 4 r.gen ++ leBytes 1 b ++ leBytes 1 r.segMask.toNat ++ leBytes 1 r.seqLen ++
    leBytes 1 (t.getD 3 0 + 2 * t.getD 4 0) ++ leBytes 8 r.accepted ++ leBytes 4 r.epoch ++
    leBytes 2 (t.getD 0 0) ++ leBytes 1 (t.getD 1 0) ++ leBytes 1 (t.getD 2 0) ++ leBytes 4 r.settings.window ++
    ((List.range 4).flatMap fun i => leBytes 1 (t.getD (5 + i) 0)) ++
    ((List.range 8).flatMap fun e => leBytes 2 (r.settings.target.getD e 61440)) ++
    ((List.range 8).flatMap fun i => leBytes 2 (r.darkBase.getD i 0)) ++
    ((List.range 32).flatMap fun i => leBytes 2 (afe (i / 4) (i % 4)).1) ++
    ((List.range 32).flatMap fun i => leInt 2 (afe (i / 4) (i % 4)).2) ++
    ((List.range 64).flatMap fun i => leBytes 2 ((r.settings.codes.getD (i / 8) []).getD (i % 8) 0)) ++
    ((List.range 8).flatMap fun e => leBytes 1 (r.settings.seq.getD e 0).toNat) ++
    leBytes 2 ((List.range 8).foldl (fun n c => n + r.settings.cls.getD c 0 * 4 ^ c) 0) ++
    leBytes 2 dataPages ++ leBytes 4 crc.toNat

/-- Store an accepted set: data pages in ascending order, the header page last; then it is a valid copy (R201). While VIN12
lies outside its limits no word is written, and the copy that was there stays (R202, R567). -/
def State.storeRef (s : State) (b : Nat) (r : RefSet) (segs : List Nat) (words : List (BitVec 32)) : State :=
  if (s.supply 0).outside then s
  else
  let first := refPage b r.copy
  let bytes := words.flatMap fun w => leBytes 4 w.toNat
  let n := ceilDiv words.length 126
  let data := (List.range n).flatMap fun i => padTo 504 ((bytes.drop (504 * i)).take 504)
  let s := (s.beginRecord (.ref b r.copy (tget none (s.bed b).refCopies r.copy))).writePages (first + 1) data r.gen
  let s := s.writePage first (r.header b n (crc32 data) segs) r.gen
  s.updBed b fun x => { x with refCopies := tset none x.refCopies r.copy (some r) }

/-- The set of an accepted calibration (R180, R192). -/
def State.newRef (s : State) (b : Nat) (r : StripRead) (words : List (BitVec 32)) : RefSet :=
  let x := s.bed b
  { gen := (x.refGenHigh + 1) % 2 ^ 32, copy := x.refTarget, epoch := s.epoch, accepted := s.now,
    segMask := r.segs.foldl (fun m i => m ||| (1#8 <<< i)) 0, seqLen := r.settings.seq.length,
    words := (words.zipIdx).filterMap fun (w, i) => if w = 0 then none else some (i, w),
    darkBase := (List.range 8).map fun i => if r.segs.contains i then r.base i else 0,
    settings := r.settings }

/-! The result (R193 to R195). -/

/-- A read ends PASS or FAIL: CAL_RESULT to the cabinet that required it and to cabinet 0; under ON_FAIL HOLD, where
documents are fed, a new read begins, up to three for one document, and after a third FAIL the feed stays held (R193, R195,
R203). A read that kept no cycle gives its channel's present position and the present time (DESIGN CHOICE, log 90). -/
def State.endRead (s : State) (b : Nat) (r : StripRead) (pass : Bool) : State :=
  let x := s.bed b
  let (p, t) := r.lastKept.getD (s.chanPos x.chan, s.now)
  let e : Ev := { code := 0x0501, unit := b, aux := if pass then 1 else 2, w0 := BitVec.ofNat 64 t, w1 := p,
                  w2 := w2 x.refSet.gen }
  let s := match r.comp with
    | some k => s.setComp k none
    | none => s
  let hold := !pass && !r.isRun && x.onFailHold && !r.abandoned && s.mode.feeds
  let s := (s.stripStop b).updBed b fun x =>
    { x with
      lastRead := if pass then 1 else 2, sinceRead := 0,
      read := if hold && decide (2 ≤ r.fails) then some { r with phase := 4, comp := none, fails := 3 } else none }
  let s := s.raiseTo (if r.cab = 0 then [0] else [0, r.cab]) e
  if hold && decide (r.fails < 2) then s.startRead b r.cab false false none (r.fails + 1) else s

/-- Evaluate a full calibration: an accepted one is stored, and the read ends when its header page has committed (R192 to
R194, R201). -/
def State.calibrate (s : State) (b : Nat) (r : StripRead) : State :=
  let x := s.bed b
  let ps := r.allPairs x.deadFrac
  if calAccepted x.maxDead ps then
    let words := ps.flatten.map CalPair.word
    (s.storeRef b (s.newRef b r words) r.segs words).updBed b fun x => { x with read := some { r with phase := 5 } }
  else s.endRead b r false

/-- A stored set has been written, or cut short: the set in force is chosen, and the read ends PASS (R193, R201, R202). -/
def State.refStored (s : State) (b : Nat) (r : StripRead) : State :=
  if s.refWhole b 1 && s.refWhole b 2 then (s.chooseRef b).endRead b r true else s

/-- STRIP_READ_COMPLETE: the quick check of a read whose last cycle has been kept; PASS ends the read, and otherwise
full calibration follows (R191). -/
def execStripReadComplete (b : Fin 4) (s : State) : Answer :=
  .next (
    let x := s.bed b
    match x.read with
    | none => s
    | some r =>
      if r.phase ≠ 1 then s
      else if x.refSet.copy = 0 || x.stale || !s.quickPass b r then
        s.updBed b fun x => { x with read := some { r with phase := 2 } }
      else s.endRead b r true)

/-- CAL_RESULT: a full calibration is evaluated, and where it is accepted its set stored; the result of one whose header page
has committed, or of a read that ended FAIL; in HALTED the latter waits for HALT_SETTLED (R192 to R195, R201, R203). -/
def execCalResult (b : Fin 4) (s : State) : Answer :=
  .next (match (s.bed b).read with
    | none => s
    | some r =>
      if r.phase = 2 then s.calibrate b r
      else if r.phase = 3 then (if s.mode = .halted && !s.haltSettled then s else s.endRead b r false)
      else if r.phase = 5 then s.refStored b r
      else s)

/-- CAL_RUN_TIMEOUT: a CAL.RUN that has not completed within TIMEOUT ends FAIL (R197). -/
def execCalRunTimeout (b : Fin 4) (s : State) : Answer :=
  .next (match (s.bed b).read with
    | none => s
    | some r =>
      match r.deadline with
      | none => s
      | some t => if r.phase = 0 && decide (t ≤ s.now) then s.endRead b r false else s)

/-! Commands. -/

def calConfig : Cmd :=
  { op := 0x0501, legal := fun m _ => mSet m, len := lenIs 48,
    charter := fun s r => [bedCharter 0 s r],
    value := fun _ r =>
      [bedValue 0 r, need (decide (r.u8 1 ≤ 2)) (eValue 1), need (decide (r.u8 3 ≤ 1)) (eValue 3),
       need (inR 16 (r.u16 4) 256) (eValue 4), need (decide (1 ≤ r.u8 6)) (eValue 6),
       need (decide (r.u8 7 ≤ 64)) (eValue 7),
       need (r.u8 1 == 2 || r.u64 0x10 == 0) (eValue 0x10), need (r.u8 1 == 2 || r.u64 0x18 == 0) (eValue 0x18)] ++
      ((List.range 8).map fun i => need (decide (1024 ≤ r.u16 (0x20 + 2 * i))) (idx (eValue (0x20 + 2 * i)) i)) ++
      [need (r.u8 1 != 2 || decide (r.s64 0x10 < r.s64 0x18)) (eValue 0x18),
       need (!(r.u8 1 == 2 && r.u8 3 == 1)) (eValue 3)],
    reserved := fun r => [r.bitsBelow 2 1, r.zero 0x0A 6],
    state := fun s r => [need (!s.docOpenOn (r.u8 0) && !(s.bed (r.u8 0)).reading) (eState 0)],
    busy := fun s r => [bedBusy 0 s r],
    commit := fun s r =>
      { s := (s.updBed (r.u8 0) fun x =>
          { x with
            method := r.u8 1, deliver := bit (r.u8 2) 0, onFailHold := r.u8 3 == 1, cycles := r.u16 4,
            deadFrac := r.u8 6, maxDead := r.u8 7, recheck := r.u16 8, spanFirst := r.pos 0x10,
            spanLast := r.pos 0x18, target := (List.range 8).map fun i => r.u16 (0x20 + 2 * i) }).settingsChanged
          (r.u8 0) } }

/-- CAL.CONFIG (R182, R183). -/
def execCalConfig (m : Fin 257) (n : Fin 4) (s : State) : Answer := .next (runCommand calConfig m n s)

def calRun : Cmd :=
  { op := 0x0502, legal := fun m _ => m == .calibrate, modeErr := dField 0, len := lenIs 16,
    charter := fun s r => [bedCharter 0 s r],
    value := fun _ r => [bedValue 0 r, need (inR 1 (r.u32 4) 600) (eValue 4)],
    reserved := fun r => [r.bitsBelow 1 1, r.zero 2 2, r.zero 8 8],
    domains := fun s r => s.enters [66 + r.u8 0, 70 + r.u8 0],
    state := fun s r =>
      let x := s.bed (r.u8 0)
      [need (s.configured (r.u8 0)) (eState 0), need ((s.chan x.chan).source != .none) (eState 0),
       need (x.method != 0) { code := 0x04, detail := dSubject 5 }],
    busy := fun s r => [need (!(s.bed (r.u8 0)).reading) (eBusy 0), bedBusy 0 s r],
    commit := fun s r =>
      { s := s.startRead (r.u8 0) r.cab true (bit (r.u8 1) 0) (some (s.now + r.u32 4 * 1000000000)) 0 } }

/-- CAL.RUN (R197, R198). -/
def execCalRun (m : Fin 257) (n : Fin 4) (s : State) : Answer := .next (runCommand calRun m n s)

def calStatus : Cmd :=
  { op := 0x0503, legal := mAny, len := lenIs 8, long := true,
    charter := fun s r => [bedCharter 0 s r],
    value := fun _ r => [bedValue 0 r],
    reserved := fun r => [r.zero 1 7],
    commit := fun s r =>
      let x := s.bed (r.u8 0)
      let copy := fun (k : Nat) => if (tget none x.refCopies k).isSome && s.refWhole (r.u8 0) k then k else 0
      { s, result := leBytes 4 x.refSet.gen ++
          leBytes 1 (if x.refSet.copy = 0 then 0 else if x.stale then 2 else 1) ++ leBytes 1 x.lastRead ++
          leBytes 1 x.reading.toNat ++ leBytes 1 (copy 1 + copy 2) ++ leBytes 4 x.refSet.epoch ++
          leBytes 8 x.refSet.accepted } }

/-- CAL.STATUS (R199). -/
def execCalStatus (m : Fin 257) (n : Fin 4) (s : State) : Answer := .next (runCommand calStatus m n s)

end Sys2Proof.Machine
end

