-- ==== Sys2Proof/Machine/Documents.lean ====
section
/-! DEFINITION. Documents: leading and trailing edges, feed decisions, jams, the closing of records, delivery notes.
Chapters 13 and 14. -/

namespace Sys2Proof.Machine

/-! Numbers. -/

/-- A whole number of ticks as a position (R71). -/
def ticks (n : Nat) : Pos := BitVec.ofNat 64 (n * 65536)

/-- The device's node ID (R540): DEVICE_UID[9:0] until RUN.CONFIG sets one. -/
def State.nodeId (s : State) : Nat := s.runCfg.node.getD (Config.deviceUid.toNat % 1024)

/-- The next accession number (R394). -/
def State.nextAccession (s : State) : Nat := s.nodeId % 1024 * 2 ^ 54 + s.accSeq % 2 ^ 54

/-- Lines a document of MAX_LEN would have on the beds of a job (R435). -/
def State.jobLines (s : State) (j : Job) : Nat :=
  ((List.range 4).filter fun b => j.bedMask.getLsbD b).foldl (fun n b =>
    n + ceilDiv (j.maxLen * 2 ^ 32) (s.bed b).pitch.toNat) 0

/-! Reads that a job requires (R187). -/

/-- Begin the strip reads due before a job's next document: before its first, and under RECHECK before every RECHECK-th
document after the last read. -/
def State.jobReads (s : State) (j : Job) (first : Bool) : State :=
  forEach ((List.range 4).filter fun b => j.bedMask.getLsbD b) (fun b s =>
    let x := s.bed b
    if x.read.isNone && (first || (x.recheck != 0 && decide (x.recheck ≤ x.sinceRead))) then
      s.startRead b j.cab false false none 0
    else s) s

/-! The opening of a record (R389, R390, R392, R394, R628). -/

/-- Whether a group with FEED set that serves a job's beds has no permit (R278). -/
def State.feedWithdrawn (s : State) (j : Job) : Bool :=
  (List.range 8).any fun a =>
    let x := s.axis a
    x.pHold && (x.bedMask &&& j.bedMask) != 0 && !(s.group x.bedMask.toNat).permit

/-- The comparator that frames a document: its action, its bed and its target. -/
def frameCmp (d : Doc) (action bed : Nat) (target : Pos) : Cmp :=
  { owner := d.cab, chan := d.chan, action, arg := BitVec.ofNat 32 bed, dir := 0, notify := false, target,
    period := 0, below := false, use := .frame d.acc }

/-- Comparators reserved for a document's beds: those that start for it. -/
def Doc.bedComps (d : Doc) : Nat :=
  match d.job with
  | some j => if d.refusedDoc then 0 else ((List.range 4).filter fun b => j.bedMask.getLsbD b).length
  | none => 0

/-- The comparator of a document's jam check, and then of its exit check. -/
def Doc.jamComp (d : Doc) : Option Nat := if d.job.isSome then d.reserved[d.bedComps]? else none

/-- The comparator of its diversion, where one was reserved at its leading edge (R628). -/
def Doc.divertComp (d : Doc) : Option Nat := if d.job.isSome then d.reserved[d.bedComps + 1]? else none

/-- The course of a document begins on a bed: BED_START armed at E + DIST, or at the first line beyond the BED_STOP of
the document before (R89, R142). -/
def State.beginCourse (s : State) (d : Doc) (j : Job) (b : Nat) : State :=
  let x := s.bed b
  let start := d.start + ticks (j.dist.getD b 0)
  let x := match x.courses.getLast? with
    | some c => match c.stop with
      | some t => { x with lastStop := some t }
      | none => x
    | none => x
  let g := x.gapLines start
  let tail := d.tail.map fun f => f + ticks (j.dist.getD b 0)
  let s := s.updBed b fun x =>
    { x with
      courses := x.courses ++ [{ acc := d.acc, start, tail, stop := tail.map x.stopAt }],
      sinceRead := x.sinceRead + 1 }
  let s := s.updDoc d.acc fun d => d.updBed b fun y => { y with first := start }
  match d.compOf b with
  | some k => s.arm k (frameCmp d 4 b (pitchPos start x.pitch g))
  | none => s

/-- Arm a document's jam check at E + MAX_LEN (R391); with FLATBED there is only the exit check. -/
def State.armJam (s : State) (d : Doc) : State :=
  match d.job, d.jamComp with
  | some j, some k =>
    match d.tail with
    | none => s.arm k (frameCmp d 0 0xFF (d.start + ticks j.maxLen))
    | some f => if j.exitCheck then s.arm k (frameCmp d 0 0xFF (f + ticks j.exitDist)) else s
  | _, _ => s

/-- Flag of Table DO-6 under which a cabinet cannot take a document (R392); in HALTED no bed starts for one either (R67),
and none of the three flags tells it (DEDUCED, log 25). -/
def State.cannotTake (s : State) (j : Option Job) : Option (BitVec 32) :=
  match j with
  | none => some 0x80
  | some j =>
    if !j.canFeed then some 0x80
    else if (s.entry j.cab).maxDocs ≤ s.inFlight j.cab then some 0x100
    else if !s.placesValid j then some 0x200
    else if s.mode = .halted then some 0
    else none

/-- The excursions in progress of groups on a job's beds: pauses during which a document that enters is open (R288). -/
def State.pausesOn (s : State) (j : Job) : Nat :=
  ((List.range 16).filter fun m => (m &&& j.bedMask.toNat) != 0 && (s.group m).excursion &&
    (List.range 8).any fun a => (s.axis a).bedMask.toNat == m).length

/-- Open the record of a document that enters the transport at E (R17, R390 to R394), with the job current there. Its
comparators are reserved; where they are not to be had the device stops with the jam cause (R628). Its cabinet is charged for
it, be it refused under R392 (R435). -/
def State.openDocument (s : State) (pin chan : Nat) (job : Option Job) (e : Pos) (tail : Option Pos) : State :=
  let why := s.cannotTake job
  let cab := match job with
    | some j => j.cab
    | none => 0
  let held := match job with
    | some j => s.feedWithdrawn j
    | none => false
  let flat := match job with
    | some j => j.flatbed
    | none => false
  let beds := match job with
    | some j => if why.isSome then [] else (List.range 4).filter fun b => j.bedMask.getLsbD b
    | none => []
  let d : Doc :=
    { acc := s.nextAccession, cab, chan, entryGpio := pin, job, start := e, tail, refusedDoc := why.isSome,
      flags := (why.getD 0 ||| (if held then 0x4 else 0)) +
        (match job with
          | some j => if why.isSome then 0 else BitVec.ofNat 32 (s.pausesOn j) <<< 28
          | none => 0),
      recordKey := (s.cab cab).recordKey }
  let need := beds.length + (if job.isSome then 1 else 0) +
    (if !flat && (tget {} s.diverts pin).pin != 0xFF then 1 else 0)
  let free := s.freeCurators
  let s := { s with accSeq := s.accSeq + 1 }
  let s := (s.updCab cab fun x => { x with opened := x.opened + 1 }).inc 8 cab 18 1
  if free.length < need then ({ s with docs := s.docs ++ [d] }).protect 2 false
  else
    let d := { d with reserved := free.take need }
    let s := { s with docs := s.docs ++ [d] }
    let s := s.armJam d
    match job with
    | none => s
    | some j =>
      let charge := s.vCharge j.cab (s.jobLines j)
      let s := s.updCab j.cab fun x => { x with vtime := x.vtime + charge }
      let s := s.updDoc d.acc fun d => { d with charge }
      if why.isSome then s
      else
        let s := s.updJob j.cab j.id fun k => { k with fed := k.fed + 1, turn := k.turn + 1 }
        forEach beds (fun b s => s.beginCourse d j b) s

/-! Feed decisions (R387, R434 to R436). -/

/-- First cause of Table DO-2 that refuses a job, by its order. -/
def State.refusal (s : State) (j : Job) : Option Nat :=
  let beds := (List.range 4).filter fun b => j.bedMask.getLsbD b
  let streams := (if j.gaugeStream = 0xFF then [] else [j.gaugeStream]) ++
    beds.flatMap fun b => match s.place j.cab b with
      | some p => p.kernels.map (·.stream)
      | none => []
  if beds.any fun b => !s.configured b || (s.bed b).chan != j.chan then some 1
  else if (s.chan j.chan).source = .none then some 2
  else if beds.any fun b => (s.bed b).method == 0 then some 3
  else if !s.placesValid j then some 4
  else if streams.any (fun n => (s.stream j.cab n).kind == 0) || (s.stream j.cab 0).kind != 1 then some 5
  else if beds.any fun b => decide (16777215 < ceilDiv (j.maxLen * 2 ^ 32) (s.bed b).pitch.toNat) then some 6
  else none

/-- A strip read of a job holds the feed of a bed: under BACKING until it has a result, and under ON_FAIL HOLD after the third
FAIL (R187, R195). -/
def Bed.holdsFeed (x : Bed) : Bool := match x.read with
  | some r => !r.isRun && (x.method == 1 || r.phase == 4)
  | none => false

/-- Whether the Curator starts no feed for a job: a strip read holds it, or the permit of a group is withdrawn (R187, R195,
R277), or its cabinet cannot take a document (R388, R409). -/
def State.feedHeld (s : State) (j : Job) : Bool :=
  ((List.range 4).any fun b => j.bedMask.getLsbD b && (s.bed b).holdsFeed) || s.feedWithdrawn j ||
    (s.cannotTake (some j)).isSome

/-- The one document of a current FLATBED job is fed, once nothing holds the feed: E is the channel's position at which the job
became current (R389; DEDUCED, log 25). -/
def State.feedFlat (s : State) (j : Job) : State :=
  if j.flatbed ∧ j.fed = 0 ∧ j.current ∧ ¬ s.feedHeld j then
    s.openDocument j.entryGpio j.chan (some j) j.flatE (some (j.flatE + ticks j.maxLen))
  else s

/-- A job becomes current (R81, R187, R387, R389): refused, or with a new turn; a FLATBED job's document opens at
once, unless the feed is held. -/
def State.makeCurrent (s : State) (j : Job) : State :=
  match s.refusal j with
  | some order => s.closeJob j 3 order
  | none =>
    let flatE := s.chanPos j.chan
    let s := s.updJob j.cab j.id fun k => { k with current := true, turn := 0, flatE }
    let s := if j.free then
        (s.dropRate j).updChan j.chan fun k => { k with jobRates := (j.cab, j.id, j.freeRate) :: k.jobRates }
      else s
    (s.jobReads j (j.fed == 0)).feedFlat { j with current := true, flatE }

/-- A job that is current no longer: its FREE_RATE ceases (R81). -/
def State.unmakeCurrent (s : State) (j : Job) : State :=
  let s := s.updJob j.cab j.id fun k => { k with current := false }
  s.dropRate j

/-- Whether a job may become current: it qualifies, and no job that shares a transport with it is current (R434). -/
def State.mayTurn (s : State) (ok : Job → Bool) (j : Job) : Bool :=
  ok j && j.canFeed && !j.current && s.jobs.all fun k => !(k.current && shares j k)

/-- A job for which the backlogged cabinet of least V is backlogged, the lowest number winning ties (R436). -/
def State.leastCab (s : State) (ok : Job → Bool) : Option Job :=
  (s.jobs.filter fun j => s.mayTurn ok j && s.eligible j).foldl (fun best j => match best with
    | none => some j
    | some k =>
      let vj := (s.cab j.cab).vtime
      let vk := (s.cab k.cab).vtime
      if vj < vk ∨ (vj = vk ∧ j.cab < k.cab) then some j else some k) none

/-- Of the jobs that qualify, the oldest queued one of that cabinet on the transport, whatever its placements (R387, R436). -/
def State.choose (s : State) (ok : Job → Bool) : Option Job :=
  (s.leastCab ok).bind fun j => s.jobs.find? fun k => k.cab == j.cab && s.mayTurn ok k && shares j k

/-- Choose the current job of a transport that has none, a refused one giving way to the next (R436). -/
def State.fill (fuel : Nat) (ok : Job → Bool) (s : State) : State :=
  match fuel with
  | 0 => s
  | fuel + 1 =>
    match s.choose ok with
    | none => s
    | some j =>
      let s := s.makeCurrent j
      if s.jobs.any fun k => k.cab == j.cab && k.id == j.id then s else State.fill fuel ok s

/-- The feed decision made at a leading edge on the transport of its current job (R436); while a placement of that job is void
it stays current (R388). -/
def State.decideAfter (s : State) (cab id : Nat) : State :=
  let s := s.reBacklog
  match s.jobs.find? fun (j : Job) => j.cab = cab ∧ j.id = id with
  | none => s
  | some j =>
    let s :=
      if j.canFeed && !s.placesValid j || s.eligible j && decide (j.turn < s.charter.quantum) then s
      else if !s.mode.feeds then s
      else State.fill (s.jobs.length + 1) (fun k => shares j k) (s.unmakeCurrent j)
    match s.jobs.find? fun (k : Job) => k.current && shares j k && k.canFeed with
    | some k => if s.mode.feeds then s.jobReads k false else s
    | none => s

/-- FEED_DECISION: the transports of a bed that have no current job choose one (R436); a FLATBED document whose feed is held
no longer is fed. -/
def execFeedDecision (b : Fin 4) (s : State) : Answer :=
  .next (
    if !s.mode.feeds then s
    else
      let s := s.reBacklog
      let s := forEach (s.jobs.filter fun j => j.current && j.bedMask.getLsbD b) (fun j s => s.feedFlat j) s
      let seeds := s.jobs.filter fun j => j.bedMask.getLsbD b
      State.fill (s.jobs.length + 1) (fun k => seeds.any fun j => shares j k) s)

/-! Edges (R389 to R392). -/

/-- The modes in which the entry and exit sensors are followed. -/
def Mode.senses (m : Mode) : Bool := m.p3

/-- The job current on the transport of an entry sensor. -/
def State.jobOnPin (s : State) (p : Nat) : Option Job :=
  s.jobs.find? fun j => j.current && !j.flatbed && j.entryGpio == p

/-- The channel of a transport: that of its current job, else of its oldest job, else PC0 (DEDUCED, log 26). -/
def State.chanOfPin (s : State) (p : Nat) : Nat :=
  match s.jobOnPin p with
  | some j => j.chan
  | none => match s.jobs.find? fun (j : Job) => !j.flatbed && j.entryGpio == p with
    | some j => j.chan
    | none => 0

/-- LEADING_EDGE: the entry sensor of a transport rises, at the instant the edge is dated (R389): a record opens and a
feed decision is made. -/
def execLeadingEdge (p : Fin 16) (s : State) : Answer :=
  .next (
    if s.gpioIn.getLsbD p then s
    else
      let s := { s with gpioIn := s.gpioIn ||| (1#16 <<< (p : Nat)) }
      if !s.mode.senses then s
      else
        let job := s.jobOnPin p
        let s := (s.noteLeft).openDocument p (s.chanOfPin p) job (s.chanPos (s.chanOfPin p)) none
        match job with
        | some j => s.decideAfter j.cab j.id
        | none =>
          if s.mode.feeds then
            State.fill (s.jobs.length + 1) (fun k => !k.flatbed && k.entryGpio == p.val) s.reBacklog
          else s)

/-- The document on a transport whose trailing edge has not passed. -/
def State.entering (s : State) (p : Nat) : Option Doc :=
  s.docs.find? fun d => d.open_ && d.tail.isNone && d.entryGpio == p

/-- TRAILING_EDGE: the entry sensor falls: F is known, each BED_STOP is armed, the jam check gives way to the exit check
(Table DO-3, steps 3 and 4). -/
def execTrailingEdge (p : Fin 16) (s : State) : Answer :=
  .next (
    if !s.gpioIn.getLsbD p then s
    else
      let s := { s with gpioIn := s.gpioIn &&& ~~~(1#16 <<< (p : Nat)) }
      match s.entering p with
      | none => s
      | some d =>
        let f := s.chanPos d.chan
        let s := s.updDoc d.acc fun d => { d with tail := some f }
        let s := match d.jamComp with
          | some k => s.setComp k none
          | none => s
        let s := s.armJam { d with tail := some f }
        match d.job with
        | none => s
        | some j =>
          forEach ((List.range 4).filter fun b => j.bedMask.getLsbD b) (fun b s =>
            let t := f + ticks (j.dist.getD b 0)
            let s := s.updCourse b d.acc fun c => { c with tail := some t, stop := some ((s.bed b).stopAt t) }
            s.armStop b d.acc) s)

/-- EXIT_SENSOR_CHANGE: a sensor pin that is not an entry sensor takes a level for 2 us (R389). -/
def execExitSensorChange (p : Fin 16) (high : Bool) (s : State) : Answer :=
  .next (({ s with
    gpioIn := if high then s.gpioIn ||| (1#16 <<< (p : Nat)) else s.gpioIn &&& ~~~(1#16 <<< (p : Nat)) }).noteLeft)

/-! Jams (R391). -/

/-- Whether a document's armed check finds a jam: the entry sensor still high at E + MAX_LEN, or the exit sensor high at
F + EXIT_DIST. -/
def State.jammed (s : State) (d : Doc) : Bool :=
  match d.job with
  | none => false
  | some j => d.open_ && (if d.tail.isNone then s.gpioIn.getLsbD d.entryGpio else s.gpioIn.getLsbD j.exitGpio)

/-- The check of a document falls due: a jam is the jam cause of Table MO-10, and every document in the transport learns
of it (Table DO-6). -/
def State.jamCheck (s : State) (acc k : Nat) : State :=
  match s.doc acc with
  | none => s
  | some d =>
    let s := s.setComp k none
    if s.jammed d then
      let s := s.noteLeft
      (forEach (s.transportDocs.map (·.acc)) (fun a s => s.docFlag a 1) s).protect 2 false
    else s

/-- JAM: the check of some document has fallen due and finds a jam. -/
def execJam (s : State) : Answer :=
  .next (match s.dueComps.find? fun (_, c) => c.action == 0 && (match c.use with
      | .frame acc => (match s.doc acc with
        | some d => s.jammed d
        | none => false)
      | _ => false) with
    | some (k, { use := .frame acc, .. }) => s.jamCheck acc k
    | _ => s)

/-! Closing (R390, R395, R409, R414). -/

/-- Whether the summary of a channel for a document has closed: the last sample that can lie in its window has been produced
(R322), or the channel produces none. -/
def State.summaryClosed (s : State) (d : Doc) (g : Nat) : Bool :=
  let x := s.gauge g
  !s.gaugeRuns g ||
    (x.index != 0 && s.windowPast d g (BitVec.ofNat 64 (fieldU x.lastSample 0x10 8)))

/-- Whether a document may close: out of the transport, every BED_STOP past, its lines finished, its gauge summaries closed,
and its diversion fired (Table DO-3, R322, R442). -/
def State.closable (s : State) (d : Doc) : Bool :=
  d.open_ && !d.inTransport && !d.divertArmed && !s.linesQueued d.acc && (s.docGauges d).all (fun g => s.summaryClosed d g) &&
    s.beds.all fun (_, x) => x.courses.all fun c => c.acc != d.acc || (c.stopped && decide (c.lines ≤ c.decided))

/-- RECORD_CLOSE: the oldest document that may close does so: its runs end, its record is sealed and queued, its job may
close with it (R81, R179, R388, R395, R400, R441, R628). -/
def execRecordClose (s : State) : Answer :=
  .next (
    let s := s.noteLeft
    match s.docs.find? fun d => s.closable d with
    | none => s
    | some d =>
      let s := forEach (List.range 4) (fun b s =>
        s.updBed b fun x =>
          { x with courses := x.courses.filter fun c => c.acc ≠ d.acc, delay := x.delay.filter fun r => r.acc ≠ d.acc }) s
      let s := ((s.endOverruns d.acc).endRuns d.acc).closeDoc d.acc none
      let s := s.updDoc d.acc fun d => { d with reserved := [] }
      let s := forEach (List.range 4) (fun b s => s.takeRef b) s
      s.reBacklog)

/-- Whether every item of a document has been carried by returned descriptors (R414). -/
def State.delivered (s : State) (d : Doc) : Bool :=
  d.recorded && !d.noted && d.runs.isEmpty && s.streams.all fun (k, x) => k / 16 != d.cab ||
    (x.items.all (fun i => i.acc != d.acc) && x.heldItems.all fun i => i.acc != d.acc)

/-- DELIVERY_NOTE: the note of the oldest document whose every item has been delivered (R414). -/
def execDeliveryNote (s : State) : Answer :=
  .next (match s.docs.find? fun d => s.delivered d with
    | none => s
    | some d =>
      ((s.updDoc d.acc fun d => { d with noted := true }).queueRecord d.cab d.acc true).reBacklog.trimWindows)

end Sys2Proof.Machine
end

