-- ==== Sys2Proof/Machine/Jobs.lean ====
section
/-! DEFINITION. The JOB family. Chapters 09, 13 and 14. -/

namespace Sys2Proof.Machine

/-- A pin granted to a cabinet as a job's sensor (Table CB-3). -/
def State.pinAllowed (s : State) (c p : Nat) : Bool := c == 0 || (s.entry c).gpio.getLsbD p

/-- An open job of a cabinet. -/
def State.jobOf (s : State) (c id : Nat) : Option Job := s.jobs.find? fun j => j.cab = c ∧ j.id = id

/-- The job of Table DO-1. -/
def jobIn (r : Req) : Job :=
  { cab := r.cab, id := r.u16 0, bedMask := BitVec.ofNat 4 (r.u8 2), flatbed := bit (r.u8 3) 0,
    exitCheck := bit (r.u8 3) 1, free := bit (r.u8 3) 2, chan := r.u8 4, entryGpio := r.u8 5, exitGpio := r.u8 6,
    gaugeStream := r.u8 7, docs := r.u32 8, freeRate := r.u32 0x0C,
    dist := (List.range 4).map fun b => r.u32 (0x10 + 4 * b), maxLen := r.u32 0x20, exitDist := r.u32 0x24 }

def jobOpen : Cmd :=
  { op := 0x0201,
    legal := fun m _ => m == .idle || m == .calibrate || m == .armed || m == .capture || m == .paused,
    len := lenIs 48,
    charter := fun s r =>
      let j := jobIn r
      [need ((List.range 4).all fun b => !j.bedMask.getLsbD b || s.bedAllowed r.cab b) (eCharter 2),
       need (j.flatbed || decide (15 < j.entryGpio) || s.pinAllowed r.cab j.entryGpio) (eCharter 5),
       need (!j.exitCheck || decide (15 < j.exitGpio) || s.pinAllowed r.cab j.exitGpio) (eCharter 6)],
    value := fun _ r =>
      let j := jobIn r
      [need (decide (1 ≤ j.id)) (eValue 0), need (j.bedMask != 0) (eValue 2), need (decide (j.chan ≤ 3)) (eValue 4),
       need (decide (j.entryGpio ≤ 15) && (!j.flatbed || j.entryGpio == 0)) (eValue 5),
       need (if j.exitCheck then decide (j.exitGpio ≤ 15) else j.exitGpio == 0) (eValue 6),
       need (inR 1 j.gaugeStream 15 || j.gaugeStream == 0xFF) (eValue 7),
       need (!j.flatbed || j.docs == 1) (eValue 8),
       need (if j.free then inR 1 j.freeRate 100000000 else j.freeRate == 0) (eValue 0x0C)] ++
      ((List.range 4).map fun b => need (if j.bedMask.getLsbD b then decide (j.dist.getD b 0 < 2 ^ 31)
        else j.dist.getD b 0 == 0) (idx (eValue (0x10 + 4 * b)) b)) ++
      [need (inR 1 j.maxLen (2 ^ 31 - 1)) (eValue 0x20),
       need (if j.exitCheck then inR 1 j.exitDist (2 ^ 31 - 1) else j.exitDist == 0) (eValue 0x24)],
    reserved := fun r => [r.bitsBelow 2 4, r.bitsBelow 3 3, r.zero 0x28 8],
    state := fun s r => [need (s.jobOf r.cab (r.u16 0)).isNone (eState 0)],
    quota := fun s r => [need (decide ((s.jobs.filter fun j => j.cab = r.cab).length < 16)) eQuota],
    commit := fun s r => { s := { s with jobs := s.jobs ++ [jobIn r] }.reBacklog } }

/-- JOB.OPEN (R385, R386). -/
def execJobOpen (m : Fin 257) (n : Fin 4) (s : State) : Answer := .next (runCommand jobOpen m n s)

def jobCancel : Cmd :=
  { op := 0x0202, legal := mAnyNotBoot, len := lenIs 8,
    value := fun s r => [need (s.jobOf r.cab (r.u16 0)).isSome (eValue 0)],
    reserved := fun r => [r.zero 2 6],
    commit := fun s r =>
      match s.jobOf r.cab (r.u16 0) with
      | none => { s }
      | some j =>
        { s :=
            if !j.current || (s.jobDocs j.cab j.id).isEmpty then (s.closeJob j 2 0).reBacklog
            else (s.updJob j.cab j.id fun k => { k with cancelled := true }).reBacklog } }

/-- JOB.CANCEL (R388): a queued job closes at once, the current one when its documents have run to their closing. -/
def execJobCancel (m : Fin 257) (n : Fin 4) (s : State) : Answer := .next (runCommand jobCancel m n s)

/-- Whether a job not yet closed, as its GAUGE_STREAM, or a placement of a cabinet names a stream (R404, Table DO-1). -/
def State.streamNamed (s : State) (c n : Nat) : Bool :=
  s.jobs.any (fun j => j.cab == c && j.gaugeStream == n) ||
    s.places.any fun (k, p) => k / 4 == c && (match p with
      | some p => p.kernels.any fun x => x.stream == n
      | none => false)

def jobStream : Cmd :=
  { op := 0x0203, legal := fun m _ => mSet m, len := lenIs 24,
    value := fun s r =>
      let base := r.u64 8
      let cap := r.u64 0x10
      [need (decide (r.u8 0 ≤ 15)) (eValue 0), need (decide (r.u8 1 ≤ 3)) (eValue 1), r.bitsBelow 2 1, r.zero 3 5,
       need (base % 4096 == 0) (eValue 8),
       need (if r.u8 1 = 0 then cap == 0 else decide (65536 ≤ cap) && cap % 4096 == 0) (eValue 0x10),
       need ((r.u8 1 == 1) == (r.u8 0 == 0)) (eValue 1),
       need (cap == 0 || (List.range 16).all fun n => n == r.u8 0 || (s.stream r.cab n).kind == 0 ||
         decide (base + cap ≤ (s.stream r.cab n).base ∨
           (s.stream r.cab n).base + (s.stream r.cab n).capacity ≤ base)) (eValue 8)],
    state := fun s r =>
      let x := s.stream r.cab (r.u8 0)
      [need (x.held == 0 && !s.streamNamed r.cab (r.u8 0)) (eState 0),
       need (!bit (r.u8 2) 0 || (s.cab r.cab).streamKey.isSome) (eState 2)],
    quota := fun s r => [need (decide (r.u64 8 + r.u64 0x10 ≤ s.windowSize r.cab))
      { code := 0x06, detail := dField 0x10 }],
    busy := fun s r => [need (!(s.cab r.cab).scrubbing) (eBusy 0)],
    commit := fun s r =>
      let n := r.u8 0
      let old := s.stream r.cab n
      let drop := (s.cab r.cab).ring.waiting.any fun w => w.1 == n
      let s := s.updRing r.cab fun g =>
        { g with raised := g.raised &&& ~~~(1#16 <<< n), waiting := g.waiting.filter fun w => w.1 ≠ n,
                 held := g.held.filter fun h => h ≠ .wm n }
      let s := if drop then s.overflow r.cab 9 else s
      let s := s.updStream r.cab n fun _ =>
        { kind := r.u8 1, encrypt := bit (r.u8 2) 0, base := r.u64 8, capacity := r.u64 0x10,
          rateMark := old.rateMark, holdMark := old.holdMark, pauseMark := old.pauseMark,
          releaseMark := old.releaseMark }
      let s := s.updRingOf r.cab n fun g =>
        { g with next := 0, opened := g.opened.map fun d => { d with first := 0 } }
      let s := if r.u8 1 = 0 then s else s.armWm r.cab n
      { s := if n = 0 then State.flushWaiting ((tget [] s.waiting r.cab).length + 1) r.cab s else s } }

/-- JOB.STREAM (R404, R409, R475, R476). -/
def execJobStream (m : Fin 257) (n : Fin 4) (s : State) : Answer := .next (runCommand jobStream m n s)

def jobPace : Cmd :=
  { op := 0x0204, legal := mSetRun, len := lenIs 16,
    value := fun _ r =>
      let rate := r.u16 4
      let hold := r.u16 6
      let pause := r.u16 8
      let rel := r.u16 0x0A
      [need (decide (r.u8 0 ≤ 15)) (eValue 0), r.zero 1 3, need (inR 1 rate 10000) (eValue 4),
       need (inR 1 hold 10000) (eValue 6), need (inR 1 pause 10000) (eValue 8), need (decide (rel ≤ 9999)) (eValue 0x0A),
       r.zero 0x0C 4,
       need (decide (rel < rate)) (eValue 4), need (decide (rate ≤ hold)) (eValue 6),
       need (decide (hold ≤ pause)) (eValue 8)],
    state := fun s r => [need ((s.stream r.cab (r.u8 0)).kind != 0) (eState 0)],
    commit := fun s r =>
      { s := s.updStream r.cab (r.u8 0) fun x =>
          { x with rateMark := r.u16 4, holdMark := r.u16 6, pauseMark := r.u16 8, releaseMark := r.u16 0x0A } } }

/-- JOB.PACE (R270). -/
def execJobPace (m : Fin 257) (n : Fin 4) (s : State) : Answer := .next (runCommand jobPace m n s)

/-- The key that JOB.KEY carries (R430): unwrapped under the key-encryption key of the ECDH secret. -/
def unwrapKey (r : Req) : Option (List Byte) :=
  let z := ecdhX ((r.p.drop 8).take 64)
  let label : List Byte := [0x47, 0x57, 0x2D, 0x4B, 0x45, 0x4B]
  let ck := leBytes 1 r.cab ++ leBytes 1 (r.u8 0)
  gcmDecrypt (hmacSha256 z (label ++ ck)) (List.replicate 12 0) ((r.p.drop 0x48).take 32)
    ((r.p.drop 0x68).take 16) ck

def jobKey : Cmd :=
  { op := 0x0205, legal := fun m _ => mSet m, len := lenIs 120,
    value := fun _ r =>
      [need (r.u8 0 == 1 || r.u8 0 == 2) (eValue 0),
       need (fieldU r.p 1 7 == 0) (eValue 0)],
    state := fun s r =>
      [need (!(r.u8 0 == 2 && (List.range 16).any fun n => (s.stream r.cab n).encrypt)) (eState 0),
       need (onCurve ((r.p.drop 8).take 64) && (unwrapKey r).isSome)
         { code := 0x0B, detail := dField 0x48 }],
    domains := fun s _ => s.enters [98],
    commit := fun s r =>
      { s := s.updCab r.cab fun x =>
          if r.u8 0 = 1 then { x with recordKey := unwrapKey r, eraseRecord := false }
          else { x with streamKey := unwrapKey r, eraseStream := false } } }

/-- JOB.KEY (R430, R431). -/
def execJobKey (m : Fin 257) (n : Fin 4) (s : State) : Answer := .next (runCommand jobKey m n s)

def jobLedger : Cmd :=
  { op := 0x0206, legal := mAny, len := lenIs 8, long := true,
    commit := fun s r =>
      let x := s.cab r.cab
      let body := leBytes 4 s.epoch ++ leBytes 4 0 ++ leBytes 8 x.opened ++ leBytes 8 x.closed ++ leBytes 8 x.noted ++
        leBytes 8 (r.u64 0)
      { s, result := body ++ sealOf x.recordKey body } }

/-- JOB.LEDGER (R403). -/
def execJobLedger (m : Fin 257) (n : Fin 4) (s : State) : Answer := .next (runCommand jobLedger m n s)

end Sys2Proof.Machine
end

