-- ==== Sys2Proof/Machine/Coil.lean ====
section
/-! DEFINITION. Coil drive: the microstep table, the voltage command, standstill reduction, diagnosis, the coil faults
and their events. Chapter 08. -/

namespace Sys2Proof.Machine

/-! The microstep table (R249, R250). -/

/-- round(2047 cos(2 pi k / 1024)) for k from 0 to 256. -/
def cosQuarter : List Int :=
  [2047, 2047, 2047, 2047, 2046, 2046, 2046, 2045, 2045, 2044, 2043, 2042, 2041, 2040, 2039, 2038, 2037,
    2036, 2035, 2033, 2032, 2030, 2028, 2027, 2025, 2023, 2021, 2019, 2017, 2015, 2012, 2010, 2008, 2005,
    2003, 2000, 1997, 1994, 1992, 1989, 1986, 1983, 1979, 1976, 1973, 1969, 1966, 1962, 1959, 1955, 1951,
    1948, 1944, 1940, 1936, 1932, 1927, 1923, 1919, 1914, 1910, 1905, 1901, 1896] ++
  [1891, 1886, 1881, 1876, 1871, 1866, 1861, 1856, 1850, 1845, 1840, 1834, 1828, 1823, 1817, 1811, 1805,
    1799, 1793, 1787, 1781, 1775, 1769, 1762, 1756, 1749, 1743, 1736, 1729, 1723, 1716, 1709, 1702, 1695,
    1688, 1681, 1674, 1666, 1659, 1652, 1644, 1637, 1629, 1621, 1614, 1606, 1598, 1590, 1582, 1574, 1566,
    1558, 1550, 1542, 1533, 1525, 1517, 1508, 1500, 1491, 1483, 1474, 1465, 1456] ++
  [1447, 1439, 1430, 1421, 1411, 1402, 1393, 1384, 1375, 1365, 1356, 1347, 1337, 1328, 1318, 1308, 1299,
    1289, 1279, 1269, 1259, 1249, 1239, 1229, 1219, 1209, 1199, 1189, 1179, 1168, 1158, 1148, 1137, 1127,
    1116, 1106, 1095, 1085, 1074, 1063, 1052, 1042, 1031, 1020, 1009, 998, 987, 976, 965, 954, 943, 932, 920,
    909, 898, 887, 875, 864, 852, 841, 830, 818, 807, 795] ++
  [783, 772, 760, 748, 737, 725, 713, 701, 690, 678, 666, 654, 642, 630, 618, 606, 594, 582, 570, 558, 546,
    534, 522, 510, 497, 485, 473, 461, 449, 436, 424, 412, 399, 387, 375, 362, 350, 338, 325, 313, 300, 288,
    275, 263, 251, 238, 226, 213, 201, 188, 176, 163, 151, 138, 126, 113, 100, 88, 75, 63, 50, 38, 25, 13, 0]

/-- T[k] of R250. -/
def cosEntry (k : Nat) : Int :=
  if k ≤ 256 then cosQuarter.getD k 0
  else if k ≤ 512 then -cosQuarter.getD (512 - k) 0
  else if k ≤ 768 then -cosQuarter.getD (k - 512) 0
  else cosQuarter.getD (1024 - k) 0

/-- Entry k of an axis's table. -/
def Axis.entry (x : Axis) (k : Nat) : Int := match x.table with
  | some t => t.getD k 0
  | none => cosEntry k

/-- t of R249 at a set-point, for phase A or B. -/
def Axis.tableValue (x : Axis) (p : Int) (phB : Bool) : Int :=
  let i := ((p / 256 - if phB then 256 else 0) % 1024).toNat
  let f := p % 256
  let a := x.entry i
  a + ((x.entry ((i + 1) % 1024) - a) * f + 128) / 256

/-! The voltage command (R253 to R255). -/

/-- Model current of R254 in mA. -/
def Axis.modelCurrent (x : Axis) (ph : Phase) (t : Int) : Int :=
  (t * x.amplitude * x.h * 1000) / (2047 * 256 * ph.rcoil)

/-- u of R253 in mV. -/
def Axis.voltage (x : Axis) (t : Int) (v : Nat) (ihat : Int) : Int :=
  (t * x.amplitude * x.h) / (2047 * 256) + (t * x.ke * v * x.h) / (2047 * 256 * 1000000) + (x.resist * ihat) / 1000

/-- D of R253 from u and VMk in mV. -/
def dutyOf (u : Int) (vm : Nat) : Int :=
  let d : Int := if 4095 * vm < u.natAbs * 4096 then 4095 else (u.natAbs * 4096 + vm / 2) / vm
  if u < 0 then -d else d

/-- A phase's command for the next cycle. -/
def Axis.phaseNext (x : Axis) (ph : Phase) (phB : Bool) (cur : Int) (vm : Nat) : Phase :=
  let t := x.tableValue x.posNext phB
  let model := x.modelCurrent ph t
  let ihat := if x.modelOnly || ph.senseFault then model else cur
  let u := x.voltage t ((x.posNext - x.pos).natAbs * 40000 / 256) ihat
  { ph with ihat, model, duty := dutyOf u vm, sat := decide (4095 * vm < u.natAbs * 4096) }

/-! Supply and bridge faults (R262, R266). -/

/-- VMk lies outside its limits while it feeds an axis that is not UNUSED: each phase tells SUPPLY,
and an axis whose bridges were on is frozen (Table CD-7, R266). -/
def State.motorSupply (s : State) (a : Nat) (on : Bool) : State :=
  if (s.axis a).role = 0 then s
  else
    let s := (s.coilFault a false 6 0).coilFault a true 6 0
    if on then s.freeze a true true else s

/-- A bridge fault: the freeze of R237 and the protective stop of R262. `on` is whether the bridges were on before. -/
def State.bridgeStop (s : State) (a : Nat) (on : Bool) : State := (s.freeze a true on).protect 3 true

/-! Diagnosis (R264). -/

/-- The decision of Table CD-8 over 64 qualifying cycles: OPEN 3, SENSE_FAULT 2, none 0. -/
def decideWindow (w : List Cycle) (tripped : Bool) : Nat :=
  let signs := (w.filter fun c => c.sign != 0).length
  let low := (w.filter fun c => decide (c.cur.natAbs < 50)).length
  let full := (w.filter fun c => decide (3200 ≤ c.cur.natAbs)).length
  let against := (w.filter fun c => c.sign != 0 && decide (200 ≤ c.cur.natAbs) && (c.cur < 0) != (c.sign < 0)).length
  if signs = 0 then 3
  else if 60 ≤ signs ∧ 60 ≤ low then 2
  else if 60 ≤ signs ∧ 8 ≤ full ∧ ¬ tripped then 2
  else if 32 ≤ against then 2 else 0

/-- The sample of the cycle in which a phase's duty was applied. -/
def Phase.sampled (p : Phase) (cur fw : Int) : Phase :=
  if 64 ≤ p.duty.natAbs ∧ 200 ≤ p.model.natAbs then
    { p with window := (p.window ++ [({ sign := fw, cur } : Cycle)]).drop (p.window.length + 1 - 64) }
  else p

/-- Take a phase's sample and decide; whether it was found OPEN. -/
def State.diagnose (s : State) (a : Nat) (phB : Bool) (cur fw : Int) : State × Bool :=
  let s := s.updAxis a fun x => x.updPhase phB fun p => p.sampled cur fw
  let p := (s.axis a).phase phB
  let d := if p.window.length < 64 then 0 else decideWindow p.window p.trip
  if d = 3 ∧ ¬ p.openFault then
    let s := (s.updAxis a fun x => x.updPhase phB fun p => { p with openFault := true }).inc 4 a 7 1
    (s.coilFault a phB 3 0, true)
  else if d = 2 ∧ ¬ p.senseFault then
    let s := (s.updAxis a fun x => x.updPhase phB fun p => { p with senseFault := true }).inc 4 a 8 1
    (s.coilFault a phB 2 0, false)
  else (s, false)

/-! The hold factor (R246, R256). -/

/-- Bridges that were off and are on: h ramps from 0, the windows are empty, and what was held applies (R246, R264,
R266). -/
def Axis.comeOn (x : Axis) : Axis :=
  { x with
    off := false, watch := false, h := 0, holdRamp := true, standing := 0, holding := false,
    phA := { x.phA with window := [] }, phB := { x.phB with window := [] } }

/-- Settings accepted and not yet in effect. -/
def Axis.takeHeld (x : Axis) : Axis :=
  let x := match x.held with
    | some (hold, amp, res, ke, delay, model) =>
      { x with holdF := hold, amplitude := amp, resist := res, ke, delay, modelOnly := model, held := none }
    | none => x
  match x.heldTable with
  | some t => { x with table := t, heldTable := none }
  | none => x

/-- h at an update. -/
def Axis.stepHold (x : Axis) : Axis :=
  let x := if x.moving then { x with standing := 0, holding := false } else { x with standing := x.standing + 1 }
  if x.holdRamp then { x with h := min 256 (x.h + 4), holdRamp := decide (x.h + 4 < 256) }
  else if x.moving then { x with h := 256 }
  else if x.holding then { x with h := if x.holdF < x.h then x.h - 1 else min x.holdF (x.h + 1) }
  else x

/-- The coil part of a servo update (Table CD-2): the samples of the cycle, then the commands of the next. -/
def State.coilUpdate (s : State) (a : Nat) (curA curB fwA fwB : Int) (vm : Nat) : State :=
  if s.bridgesOn a then
    let s := if (s.axis a).off then s.updAxis a Axis.comeOn else s
    let (s, openA) := s.diagnose a false curA fwA
    let (s, openB) := s.diagnose a true curB fwB
    if openA || openB then s.bridgeStop a true
    else
      let s := s.coilTell a
      let s := s.updAxis a fun x =>
        let x := x.takeHeld.stepHold
        { x with phA := x.phaseNext x.phA false curA vm, phB := x.phaseNext x.phB true curB vm }
      if (s.axis a).phA.sat || (s.axis a).phB.sat then s.inc 4 a 4 1 else s
  else (s.updAxis a Axis.dark).coilTell a

/-! Faults found in hardware (R261 to R263). -/

/-- Whether the MOT domain of an axis runs. -/
def State.motClock (s : State) (a : Nat) : Bool := s.clkOk (74 + a)

/-- OVERCURRENT: switches of an axis exceed the trip while its bridges are on. Bits 3:0 of the operand are the switches
of phase A, bits 7:4 those of phase B. -/
def execOvercurrent (a : Fin 8) (switches : BitVec 8) (s : State) : Answer :=
  .next (
    if !s.motClock a || !s.bridgesOn a || switches == 0 then s
    else
      let s := s.inc 4 a 5 1
      let s := forEach [false, true] (fun phB s =>
        let sw := bits switches.toNat (if phB then 7 else 3) (if phB then 4 else 0)
        if sw = 0 then s
        else (s.updAxis a fun x => x.updPhase phB fun p => { p with trip := true }).coilFault a phB 4 sw) s
      s.bridgeStop a true)

/-- BRIDGE_OVERTEMP: the bridge die of an axis reads a temperature, in 1/16 degC (R261, R262). -/
def execBridgeOvertemp (a : Fin 8) (temp : Int) (s : State) : Answer :=
  .next (
    if !s.motClock a then s
    else
      let on := s.bridgesOn a
      let s := s.updAxis a fun x => { x with dieTemp := temp }
      let s := if 115 * 16 < temp ∧ ¬ (s.axis a).warm then
          (s.updAxis a fun x => { x with warm := true }).axisEvent a
            (s.ev 0x0608 a 0 (BitVec.ofInt 64 temp))
        else if temp < 105 * 16 then s.updAxis a fun x => { x with warm := false } else s
      if 125 * 16 < temp ∧ ¬ (s.axis a).hot then
        let s := (s.updAxis a fun x => { x with hot := true }).inc 4 a 6 1
        ((s.coilFault a false 5 0).coilFault a true 5 0).bridgeStop a on
      else s)

/-- STANDSTILL_DELAY: an axis with its bridges on has stood for DELAY (R256). -/
def execStandstillDelay (a : Fin 8) (s : State) : Answer :=
  .next (
    let x := s.axis a
    if s.motClock a ∧ s.bridgesOn a ∧ ¬ x.holding ∧ ¬ x.holdRamp ∧ 40 * x.delay ≤ x.standing then
      s.updAxis a fun x => { x with holding := true }
    else s)

end Sys2Proof.Machine
end

