-- ==== Sys2Proof/Machine/Motion.lean ====
section
/-! DEFINITION. Profiles, gearing and the servo update: the commanded position of an axis, the end of segments, the
underrun ramp, the override, ratio changes, motion faults, confirmation. Chapter 07. -/

namespace Sys2Proof.Machine

/-! One interval of 25 us (R206, R219 to R225). -/

/-- What happened at a joint: units into the interval, the segment, and whether the queue was empty after it. -/
structure Joint where
  units : Nat
  seg : Seg
  free : Nat
  under : Bool
deriving DecidableEq, Repr

/-- Pass the joints that profile time has reached. -/
def passJoints (eff : Nat) : List Seg → Axis → List Joint → Axis × List Joint
  | [], x, js => (x, js)
  | g :: rest, x, js =>
    if x.tau < g.span then (x, js)
    else
      let under := rest.isEmpty && g.endVel != 0
      let left := x.tau - g.span
      let y := { x with p0 := g.endPos, v0 := g.endVel, tau := left, queue := rest }
      let y := if ¬ rest.isEmpty then y
        else if g.endVel = 0 then { y with st := .atRest, pos := g.endPos, tau := 0 }
        else
          { y with
            st := .underrun, tau := 0,
            ramp := some { p := g.endPos, v := (g.endVel : ℚ) * eff / 655360000, t := (left : ℚ) / eff / 40000 } }
      passJoints eff rest y
        (js ++ [{ units := eff - left, seg := g, free := 64 - rest.length, under }])

/-- The exact value of P(n), which its rounding gives: the position itself after a freeze, a stop or a MOVE.SETPOS. -/
def exactOf (p : Int) (e : ℚ) : ℚ := if ⌊e⌋ = p then e else p

/-- Take an exact position, rounded toward minus infinity (R206). -/
def Axis.goTo (x : Axis) (p : ℚ) : Axis := { x with pos := ⌊p⌋, exact := p }

/-- The axis one interval on, with the joints it passed. The gear and the excursion give their own set-points. -/
def Axis.advance (x : Axis) : Axis × List Joint :=
  match x.excursion with
  | some e =>
    let t := e.t + 1 / 40000
    ({ x with pos := x.excursionPos e t, exact := x.excursionExact e t, exc := some { e with t } }, [])
  | none =>
    match x.ramp with
    | some r =>
      let r := { r with t := r.t + 1 / 40000 }
      let (d, done) := r.at_ x.decel
      ({ x with ramp := if done then none else some r }.goTo (r.p + d), [])
    | none =>
      if x.st = .running then
        let (y, js) := passJoints x.eff x.queue { x with tau := x.tau + x.eff } []
        match y.queue, y.ramp with
        | g :: _, _ => (y.goTo (hermite y.p0 y.v0 g y.tau), js)
        | [], some r =>
          let (d, done) := r.at_ y.decel
          ({ y with ramp := if done then none else some r }.goTo (r.p + d), js)
        | [], none => (y.goTo y.pos, js)
      else ({ x with pos := x.posNext, exact := exactOf x.posNext x.exactNext }, [])

/-- P(n + 1) of an axis that is not geared. -/
def Axis.plan (x : Axis) : Axis :=
  let y := x.advance.1
  { x with posNext := y.pos, exactNext := y.exact }

/-! Electronic gearing (R229, R230, R233, R234). -/

/-- Displacement of a blend at x, within it (R230); behind its start the slave follows the ratio before it. -/
def blendAt (num : Int) (den : Nat) (r : Ratio) (x : Int) : Int :=
  let l16 : Int := r.blend * 65536
  if x < 0 then floorDiv (x * num) (den * 256)
  else floorDiv (2 * l16 * num * r.den * x + (r.num * den - num * r.den) * x * x) (512 * l16 * den * r.den)

/-- The slave position of a gear at a master position, no blend having ended. -/
def Gear.posAt (g : Gear) (m : Pos) : Int :=
  let x := (m - g.mA).toInt
  match g.blend with
  | some r => g.sA + blendAt g.num g.den r x
  | none => g.sA + floorDiv (x * g.num) (g.den * 256)

/-- The same before its rounding. -/
def Gear.exactAt (g : Gear) (m : Pos) : ℚ :=
  let x := (m - g.mA).toInt
  match g.blend with
  | some r =>
    let l16 : ℚ := r.blend * 65536
    if x < 0 then g.sA + x * g.num / (g.den * 256)
    else g.sA + (2 * l16 * g.num * r.den * x + (r.num * g.den - g.num * r.den : Int) * x * x) / (512 * l16 * g.den * r.den)
  | none => g.sA + x * g.num / (g.den * 256)

/-- Whether the blend in progress is over at a master position. -/
def Gear.blendOver (g : Gear) (m : Pos) : Bool := match g.blend with
  | some r => r.blend == 0 || decide ((r.blend * 65536 : Nat) ≤ (m - g.mA).toInt)
  | none => false

/-- End the blend of an axis: anchored where it ended; a change to numerator 0 leaves GEARED. -/
def State.endBlend (s : State) (a : Nat) (g : Gear) (r : Ratio) : State :=
  let l16 : Int := r.blend * 65536
  let sA := g.sA + (if r.blend = 0 then 0 else blendAt g.num g.den r l16)
  let mA := g.mA + posOf l16
  let s := s.gearChanged a r sA mA
  if r.num = 0 then s.unGear a sA
  else s.updAxis a fun x => { x with gear := some { g with sA, mA, num := r.num, den := r.den, blend := none } }

/-- Start the ratio changes that are due, one after another, ending those whose blend is over; one that fell due within the
blend of the change before it waits for that blend's end (R234). -/
def State.gearSteps (fuel : Nat) (a : Nat) (m : Pos) (s : State) : State :=
  match fuel with
  | 0 => s
  | fuel + 1 =>
    match (s.axis a).gear with
    | none => s
    | some g =>
      match g.blend, g.due with
      | some r, _ => if g.blendOver m then State.gearSteps fuel a m (s.endBlend a g r) else s
      | none, [] => s
      | none, r :: rest =>
        let m0 := if r.late then m else r.from_.getD m
        let waits (q : Ratio) : Ratio :=
          let x := (q.from_.getD m - m0).toInt
          { q with late := q.late || (q.from_.isSome && decide (0 ≤ x ∧ x < (r.blend * 65536 : Nat))) }
        let g := { g with sA := g.posAt m0, mA := m0, blend := some r, due := rest.map waits }
        State.gearSteps fuel a m (s.updAxis a fun x =>
          { x with gear := some g, gslots := tset none x.gslots r.slot none })

/-- The gear at a master position: changes start and end; those still waiting are LATE (R234). -/
def State.gearAt (s : State) (a : Nat) (m : Pos) : State :=
  let s := State.gearSteps 16 a m s
  s.updAxis a fun x =>
    { x with gear := x.gear.map fun g => { g with due := g.due.map fun r => { r with late := true } } }

/-- Put a change among those due, in the order of the update and then of the slot. -/
def insertDue (r : Ratio) : List Ratio → List Ratio
  | [] => [r]
  | q :: t => if r.at_ < q.at_ ∨ (r.at_ = q.at_ ∧ r.slot < q.slot) then r :: q :: t else q :: insertDue r t

/-- A ratio change falls due (R233, R234); with AT it starts where the master is at the firing. -/
def State.gearDue (s : State) (a slot : Nat) (at_ : Bool) : State :=
  let x := s.axis a
  match x.gear, tget none x.gslots slot with
  | some g, some q =>
    s.updAxis a fun x =>
      { x with gear := some { g with
          due := insertDue
            { num := q.num, den := q.den, blend := q.blend, slot, late := g.blend.isSome, at_ := x.servoAt,
              from_ := if at_ then some (s.chanPos g.master) else none }
            g.due } }
  | _, _ => s

/-- A RATIO_CHANGE comparator fires: the change starts at the master position of now, and the next servo update takes it
up, with those that fell due with it in slot order; behind a blend in progress it waits (R233, R234). -/
def State.ratioChange (s : State) (a slot : Nat) : State := s.gearDue a slot true

/-! Events of a segment's end (R219 to R222). -/

/-- An axis event at a position and a time of the axis channel. -/
def State.evAxisAt (s : State) (code a aux : Nat) (w2 : BitVec 64) (p : Int) (time : Nat) : Ev :=
  let e := s.evAxis code a aux w2
  match s.chanOfAxis a with
  | some c =>
    let d := posOf ((p - s.axisAt a) * 256)
    { e with w0 := BitVec.ofNat 64 time, w1 := s.chanPos c + (if (s.chan c).invert then -d else d) }
  | none => { e with w0 := BitVec.ofNat 64 time }

/-- Flag the records that an underrun marks (R222). -/
def State.flagUnderrun (s : State) (a : Nat) : State :=
  let beds := (List.range 4).filter fun b =>
    (s.chan (s.bed b).chan).source == .axis && (s.chan (s.bed b).chan).unit == a
  let docs := (beds.flatMap fun b => s.docsOn b) ++ (if (s.axis a).role = 1 then s.transportDocs else [])
  forEach docs (fun d s => s.docFlag d.acc 0x2) s

/-- What follows a joint: SEGMENT_DONE under NOTIFY, and the underrun. -/
def State.jointDone (s : State) (a eff : Nat) (j : Joint) : State :=
  let x := s.axis a
  let dt := 25000 * j.units / eff
  let time := x.servoAt + dt
  let s := s.inc 4 a 0 1
  let s := if j.seg.notify then
      s.axisEvent a
        (s.evAxisAt 0x0601 a j.free (BitVec.ofInt 64 j.seg.endPos) (x.pos + (x.posNext - x.pos) * dt / 25000) time)
    else s
  if j.under then
    let v : Int := ⌊(j.seg.endVel : ℚ) * eff / 655360000⌋
    let e := { s.evAxisAt 0x0602 a 0 (w2 (v % 2 ^ 32).toNat) j.seg.endPos time with w1 := posOf j.seg.endPos }
    ((s.inc 4 a 1 1).axisEvent a e).flagUnderrun a
  else s

/-! The override (R225). -/

/-- The demand. -/
def Axis.demand (x : Axis) : Nat := x.host * x.pace / 10000

/-- The slew of an axis: while its group decelerates for a pause, the smallest of the group (Table PA-5). -/
def State.slewOf (s : State) (a : Nat) : Nat :=
  let x := s.axis a
  if x.bedMask ≠ 0 ∧ (s.group x.bedMask.toNat).phase = 1 then
    (List.range 8).foldl (fun m b => if (s.axis b).bedMask = x.bedMask then min m (s.axis b).ovrSlew else m) x.ovrSlew
  else x.ovrSlew

/-- The effective override moves toward its demand. -/
def slew (eff demand step : Nat) : Nat :=
  let d := demand * 65536
  let st := step * 65536 / 40
  if eff < d then (if d - eff < st then d else eff + st) else (if eff - d < st then d else eff - st)

/-! Motion faults (R236). -/

/-- Whether the set-point just computed is a motion fault. -/
def State.motionFault (s : State) (a : Nat) : Bool :=
  let x := s.axis a
  let d := (x.posNext - x.pos).natAbs
  decide ((x.vmax : ℚ) < |x.exactNext - exactOf x.pos x.exact| * 40000) ||
  (d != 0 && (decide (x.posNext < x.limLo) || decide (x.limHi < x.posNext))) ||
  (x.confirm && x.ftol != 0 && d != 0 && decide (x.ftol * 256 < (s.encPos a - x.pos).natAbs))

/-! Confirmation (R240). -/

/-- Whether the encoder confirms the position. -/
def State.confirms (s : State) (a : Nat) : Bool :=
  let x := s.axis a
  (s.chan x.cchan).present && decide ((s.encPos a - x.pos).natAbs ≤ 256 * x.ctol)

/-- The check repeated at each update while the bridges stay off. -/
def State.watchCheck (s : State) (a : Nat) : State :=
  if (s.axis a).watch && !s.bridgesOn a && !s.confirms a then
    (s.updAxis a fun x => { x with watch := false, confirmed := false }).setLost a
  else s

/-- CONFIRMATION: 50 ms after a freeze, a turn-off or a coil check; outside P3 none can be made, and position is lost (R240,
R260). -/
def execConfirmation (a : Fin 8) (s : State) : Answer :=
  .next (
    match (s.axis a).confirmAt with
    | some t =>
      if s.now < t then s
      else if !s.mode.p3 then (s.updAxis a fun x => { x with confirmAt := none }).setLost a
      else if !s.motClock a then s
      else if s.confirms a then
        s.updAxis a fun x => { x with confirmAt := none, confirmed := true, watch := !s.bridgesOn a }
      else (s.updAxis a fun x => { x with confirmAt := none, confirmed := false }).setLost a
    | none => s)

/-! The servo update (R248, Table CD-2). -/

/-- The interval just ended: the axis takes the set-point computed for this update, and its joints are told. -/
def State.endInterval (s : State) (a : Nat) : State :=
  let x := s.axis a
  let (y, js) := x.advance
  let s := forEach js (fun j s => s.jointDone a x.eff j) s
  s.updAxis a fun z =>
    { z with
      servoAt := s.now, pos := y.pos, exact := y.exact, posNext := y.pos, exactNext := y.exact, p0 := y.p0, v0 := y.v0, tau := y.tau, queue := y.queue,
      st := y.st, ramp := y.ramp, exc := y.exc }

/-- P(n + 1) (R206, R213, R221, R224, R229, R281). -/
def State.setPoint (s : State) (a : Nat) : State :=
  let x := s.axis a
  match x.gear with
  | some g =>
    let m := s.chanPos g.master
    let s := s.gearAt a m
    s.updAxis a fun x => match x.gear with
      | some g => { x with posNext := g.posAt m, exactNext := g.exactAt m }
      | none => { x with exactNext := x.posNext }
  | none =>
    let x := if x.st = .atRest ∧ ¬ x.queue.isEmpty ∧ x.excursion.isNone then { x with st := .running, p0 := x.pos, v0 := 0, tau := 0 } else x
    let x := if x.st = .running then { x with eff := slew x.eff x.demand (s.slewOf a) } else x
    s.updAxis a fun _ => x.plan

/-- SERVO_UPDATE: the 25 us update of an axis. The operands are what the cycle sampled: the currents of phases A and B
in mA, VMk in mV, and the freewheel signs. -/
def execServoUpdate (a : Fin 8) (curA curB : Int) (vm : Nat) (fwA fwB : Int) (s : State) : Answer :=
  .next (
    if !s.motClock a then s
    else
      let u := supplyOfAxis a
      let s := { s with supplies := tupd {} s.supplies u fun x => { x with mv := vm } }
      let s := s.endInterval a
      let s := s.setPoint a
      let s := if s.motionFault a then (s.freeze a true (s.bridgesOn a)).protect 3 true else s
      let s := s.motCross a (s.axis a).pos (s.axis a).posNext
      (s.coilUpdate a curA curB fwA fwB vm).watchCheck a)

end Sys2Proof.Machine
end

