-- ==== Sys2Proof/Machine/Moves.lean ====
section
/-! DEFINITION. The motion commands: MOVE.CONFIG, QUEUE, OVERRIDE, GEAR, STOP, SETPOS, STATUS, TABLE, COIL, CLEAR and
DRIVE. Chapters 07 and 08. -/

namespace Sys2Proof.Machine

/-! Shared checks of an axis command. -/

def axisCharter (s : State) (r : Req) : Option Err :=
  need (decide (7 < r.u8 0) || s.axisAllowed r.cab (r.u8 0)) (eCharter 0)
def axisValue (r : Req) : Option Err := need (decide (r.u8 0 ≤ 7)) (eValue 0)
/-- Every motion command but MOVE.STATUS and MOVE.CONFIG needs an axis that is not UNUSED (R208). -/
def axisUsed (s : State) (r : Req) : Option Err := need ((s.axis (r.u8 0)).role != 0) (eState 0)
def axisBusy (s : State) (r : Req) : Option Err := need (!s.axisHeldByOther r.cab (r.u8 0)) (eBusy 0)

/-- The axes of a mask at offset 0. -/
def Req.axes (r : Req) : List Nat := (List.range 8).filter fun a => bit (r.u8 0) a
def axesCharter (s : State) (r : Req) : Option Err := need (r.axes.all fun a => s.axisAllowed r.cab a) (eCharter 0)
def axesValue (r : Req) : Option Err := need (r.u8 0 != 0) (eValue 0)
def axesUsed (s : State) (r : Req) : Option Err := need (r.axes.all fun a => (s.axis a).role != 0) (eState 0)

/-- A position field whose bits 63:48 repeat bit 47 (R204). -/
def inR48 (v : Int) : Bool := inI (-140737488355328) v 140737488355327

/-- Whether an axis drives, as the AXIS source of its channel, a bed with an open document. -/
def State.axisDrivesOpen (s : State) (a : Nat) : Bool :=
  (List.range 4).any fun b =>
    (s.chan (s.bed b).chan).source == .axis && (s.chan (s.bed b).chan).unit == a && s.docOpenOn b

/-- Motor domains that a command's axes enter. -/
def motDomains (s : State) (axes : List Nat) : List Nat := s.enters (axes.map fun a => 74 + a)

/-! MOVE.CONFIG. -/

/-- An axis removed from the configuration, or put into it, as the source of channels (Table TB-2). -/
def State.axisSource (s : State) (a : Nat) : State :=
  forEach ((List.range 4).filter fun c => (s.chan c).source == .axis && (s.chan c).unit == a) (fun c s =>
    if (s.axis a).role = 0 then (if (s.chan c).present then s.loseSource c else s)
    else if (s.chan c).present then s else s.sourceBack c) s

def moveConfig : Cmd :=
  { op := 0x0601, legal := fun m _ => mSet m, len := lenIs 48,
    charter := fun s r => [axisCharter s r],
    value := fun _ r =>
      let role := r.u8 1
      let conf := bit (r.u8 2) 1
      [axisValue r, need (decide (role ≤ 3)) (eValue 1),
       need (if conf then decide (r.u8 3 ≤ 3) else r.u8 3 == 0) (eValue 3),
       need (inR 1 (r.u32 4) 2147483647) (eValue 4), need (r.u32 8 != 0) (eValue 8),
       need (r.u32 0x0C != 0) (eValue 0x0C), need (inR 1 (r.u16 0x10) 20000) (eValue 0x10),
       need ((r.u16 0x12 != 0) == conf) (eValue 0x12), need (conf || r.u16 0x14 == 0) (eValue 0x14),
       need (if conf then inI (-8388608) (r.s32 0x18) 8388607 && r.s32 0x18 != 0 else r.u32 0x18 == 0) (eValue 0x18),
       need (if conf then inR 1 (r.u32 0x1C) 16777215 else r.u32 0x1C == 0) (eValue 0x1C),
       need (inR48 (r.s64 0x20)) (eValue 0x20),
       need (inR48 (r.s64 0x28) && decide (r.s64 0x20 < r.s64 0x28)) (eValue 0x28),
       need (!(bit (r.u8 2) 0 && (role == 0 || role == 3)) && !(conf && role == 0)) (eValue 2)],
    reserved := fun r => [r.bitsBelow 2 2, r.zero 0x16 2],
    domains := fun s r => motDomains s [r.u8 0],
    state := fun s r =>
      let a := r.u8 0
      let x := s.axis a
      [need (x.st == .unused || x.st == .atRest || (x.st == .underrun && x.ramp.isNone) || x.st == .stopped) (eState 0),
       need (!bit (r.u8 2) 1 || (s.chan (r.u8 3)).source == .enc) (eState 3),
       need (!(r.u8 1 == 0 && (List.range 4).any fun c =>
         (s.chan c).source == .axis && (s.chan c).unit == a && s.chanInUse c)) (eState 1)],
    busy := fun s r => [axisBusy s r],
    commit := fun s r =>
      let a := r.u8 0
      let conf := bit (r.u8 2) 1
      let used := (s.axis a).role != 0
      let waits := (s.axis a).confirmAt.isSome && !conf
      let s := s.updAxis a fun x =>
        let x := { x with
          role := r.u8 1, reversible := bit (r.u8 2) 0, confirm := conf, cchan := r.u8 3, vmax := r.u32 4,
          amax := r.u32 8, decel := r.u32 0x0C, ovrSlew := r.u16 0x10, ctol := r.u16 0x12, ftol := r.u16 0x14,
          cnum := r.s32 0x18, cden := r.u32 0x1C, limLo := r.s64 0x20, limHi := r.s64 0x28,
          st := if x.st = .unused then .atRest else x.st }
        if r.u8 1 = 0 then { x with st := .unused, queue := [], posNext := x.pos }.dark else x
      let into := !used && r.u8 1 != 0 && s.vmOff a
      let s := if into then s.motorSupply a false else s
      let s := if waits then (s.updAxis a fun x => { x with confirmAt := none, confirmed := false }).setLost a else s
      let s := ((s.anchor a).axisSource a).coilTell a
      { s := if into then (s.breach 0 (s.chanPos 0)).protect 5 true else s } }

/-- MOVE.CONFIG (R208, R209, R211); an axis put into use while its VMk is outside its limits is in SUPPLY, which is the supply
cause (R261). -/
def execMoveConfig (m : Fin 257) (n : Fin 4) (s : State) : Answer := .next (runCommand moveConfig m n s)

/-! The kinematic checks of R216. -/

/-- Sign of x + y sqrt d, for d at least 0. -/
def rootSign (x y d : ℚ) : Int :=
  let sx : Int := if x < 0 then -1 else if 0 < x then 1 else 0
  let sy : Int := if y < 0 then -1 else if 0 < y then 1 else 0
  let sy := if d = 0 then 0 else sy
  if sx = sy then sx
  else if sx = 0 then sy
  else if sy = 0 then sx
  else if x ^ 2 = y ^ 2 * d then 0
  else if y ^ 2 * d < x ^ 2 then sx else sy

/-- Velocity coefficients of a segment from a start state: v(s) = c0 + c1 s + c2 s^2. -/
def segVel (p0 v0 : Int) (g : Seg) : ℚ × ℚ × ℚ :=
  let t : ℚ := (g.dur : ℚ) / 1000000
  let d : ℚ := g.endPos - p0
  let a0 := (6 * d - t * (4 * v0 + 2 * g.endVel)) / t ^ 2
  let a1 := (-6 * d + t * (2 * v0 + 4 * g.endVel)) / t ^ 2
  (v0, t * a0, t * (a1 - a0) / 2)

/-- The peak speed of a segment: at its ends and where the acceleration passes zero. -/
def segPeak (p0 v0 : Int) (g : Seg) : ℚ :=
  let (c0, c1, c2) := segVel p0 v0 g
  let mid : ℚ := if c2 = 0 then 0 else
    let s := -c1 / (2 * c2)
    if 0 < s ∧ s < 1 then |c0 + c1 * s + c2 * s ^ 2| else 0
  max (max |(v0 : ℚ)| |(g.endVel : ℚ)|) mid

/-- Whether a root u + w sqrt d of the velocity, if it lies within the segment, has its position within the limits. -/
def rootInLimits (p0 lo hi : Int) (t c0 c1 c2 u w d : ℚ) : Bool :=
  if rootSign u w d ≤ 0 ∨ 0 ≤ rootSign (u - 1) w d then true
  else
    let k := 2 * c0 / 3 - c1 ^ 2 / (6 * c2)
    let p := (p0 : ℚ) + t * (-(c1 * c0) / (6 * c2) + u * k)
    let q := t * w * k
    decide (0 ≤ rootSign (p - lo) q d ∧ rootSign (p - hi) q d ≤ 0)

/-- Whether the position stays within the limits where the velocity passes zero. -/
def segInLimits (p0 v0 : Int) (g : Seg) (lo hi : Int) : Bool :=
  let t : ℚ := (g.dur : ℚ) / 1000000
  let (c0, c1, c2) := segVel p0 v0 g
  if c2 = 0 then
    if c1 = 0 then true
    else
      let s := -c0 / c1
      if 0 < s ∧ s < 1 then
        let p := (p0 : ℚ) + t * (c0 * s + c1 * s ^ 2 / 2)
        decide ((lo : ℚ) ≤ p ∧ p ≤ hi)
      else true
  else
    let d := c1 ^ 2 - 4 * c0 * c2
    if d < 0 then true
    else
      let u := -c1 / (2 * c2)
      let w := 1 / (2 * c2)
      rootInLimits p0 lo hi t c0 c1 c2 u w d && rootInLimits p0 lo hi t c0 c1 c2 u (-w) d

/-- The checks of Table MP-5 and R216 on one segment. -/
def Axis.segOk (x : Axis) (p0 v0 : Int) (g : Seg) : Bool :=
  let t : ℚ := (g.dur : ℚ) / 1000000
  let (_, c1, c2) := segVel p0 v0 g
  let acc : ℚ := 256 * x.amax * t
  let f : ℚ := max 1 (((max (x.host * 65536) x.eff : Nat) : ℚ) / 655360000)
  decide (|c1| ≤ acc ∧ |c1 + 2 * c2| ≤ acc) &&
    decide (segPeak p0 v0 g * f ≤ x.vmax) &&
    inI x.limLo p0 x.limHi && inI x.limLo g.endPos x.limHi && segInLimits p0 v0 g x.limLo x.limHi

/-! MOVE.QUEUE. -/

/-- Segment i of a MOVE.QUEUE. -/
def Req.seg (r : Req) (i : Nat) : Seg :=
  let o := 8 + 16 * i
  { dur := fieldU r.p o 3, notify := bit (r.u8 (o + 3)) 0, endVel := r.s32 (o + 4), endPos := r.s64 (o + 8) }

/-- Offset, within segment i, of the first of its fields that is out of range (Table MP-5). -/
def Axis.segField (x : Axis) (r : Req) (i : Nat) : Option Nat :=
  let g := r.seg i
  if g.dur = 0 then some 0
  else if 2 ≤ r.u8 (8 + 16 * i + 3) then some 3
  else if x.vmax < g.endVel.natAbs then some 4
  else if !inR48 g.endPos || !inI x.limLo g.endPos x.limHi then some 8
  else none

/-- The start state of the next segment to be queued. -/
def Axis.startState (x : Axis) (fromRest : Bool) : Int × Int :=
  match x.queue.getLast? with
  | some g => if fromRest then (x.pos, 0) else (g.endPos, g.endVel)
  | none => (x.pos, 0)

/-- The first segment of a command that fails its checks, and the offset of what fails: the field that is out of range, or
the segment's first byte (R217, R459). -/
def Axis.badSeg (x : Axis) (r : Req) : List Nat → Int → Int → Option (Nat × Nat)
  | [], _, _ => none
  | i :: t, p, v =>
    let g := r.seg i
    match x.segField r i with
    | some o => some (i, 8 + 16 * i + o)
    | none => if x.segOk p v g then x.badSeg r t g.endPos g.endVel else some (i, 8 + 16 * i)

def moveQueue : Cmd :=
  { op := 0x0602, legal := fun m _ => mRun m, modeErr := dField 0, 
    len := fun r l => l % 16 == 8 && lenBy 8 4088 (fun r => 8 + 16 * r.u8 1) r l,
    charter := fun s r => [axisCharter s r],
    value := fun s r =>
      let x := s.axis (r.u8 0)
      let (p, v) := x.startState (bit (r.u8 2) 0)
      [axisValue r, need (inR 1 (r.u8 1) 64) (eValue 1), r.bitsBelow 2 1, r.zero 3 5,
       match x.badSeg r (List.range (r.u8 1)) p v with
       | some (i, o) => some { code := 0x03, detail := dField o, index := i }
       | none => none],
    domains := fun s r => motDomains s [r.u8 0],
    state := fun s r =>
      let x := s.axis (r.u8 0)
      let rest := bit (r.u8 2) 0
      [need (x.st != .unused && x.st != .geared) (eState 0),
       need (rest || (x.st != .underrun && x.st != .stopped)) (eState 2),
       need (!rest || (!s.axisMoves (r.u8 0) && x.st != .running && x.queue.isEmpty && x.ramp.isNone)) (eState 2)],
    resource := fun s r =>
      [need (decide ((s.axis (r.u8 0)).queue.length + r.u8 1 ≤ 64)) { code := 0x07, detail := dField 1 }],
    busy := fun s r => [axisBusy s r],
    commit := fun s r =>
      { s := s.updAxis (r.u8 0) fun x =>
          let x := { x with queue := x.queue ++ (List.range (r.u8 1)).map r.seg }
          if bit (r.u8 2) 0 then { x with st := .atRest, stopOff := false }
          else if x.st = .running then x.plan else x } }

/-- MOVE.QUEUE (R215 to R218). -/
def execMoveQueue (m : Fin 257) (n : Fin 4) (s : State) : Answer := .next (runCommand moveQueue m n s)

/-! MOVE.OVERRIDE. -/

/-- The greatest peak speed of the segments of a queue from a start state. -/
def queuePeak (p v : Int) : List Seg → ℚ
  | [] => 0
  | g :: t => max (segPeak p v g) (queuePeak g.endPos g.endVel t)

/-- The peak speed of an axis's queued segments; those of an axis at rest start from its position. -/
def Axis.peak (x : Axis) : ℚ :=
  if x.st = .running then queuePeak x.p0 x.v0 x.queue else queuePeak x.pos 0 x.queue

def moveOverride : Cmd :=
  { op := 0x0603, legal := fun m _ => mSet m || m == .capture || m == .paused || m == .drain, len := lenIs 8,
    charter := fun s r => [axesCharter s r],
    value := fun s r =>
      [axesValue r,
       need (decide (r.u16 2 ≤ 20000) && r.axes.all fun a =>
         decide ((s.axis a).peak * r.u16 2 ≤ 10000 * (s.axis a).vmax)) (eValue 2)],
    reserved := fun r => [r.zero 1 1, r.zero 4 4],
    domains := fun s r => motDomains s r.axes,
    state := fun s r => [axesUsed s r],
    commit := fun s r => { s := forEach r.axes (fun a s => s.updAxis a fun x => { x with host := r.u16 2 }) s } }

/-- MOVE.OVERRIDE (R226). -/
def execMoveOverride (m : Fin 257) (n : Fin 4) (s : State) : Answer := .next (runCommand moveOverride m n s)

/-! MOVE.GEAR. -/

/-- Whether a channel's source leads back to an axis through AXIS sources and gears. -/
def State.leadsTo (fuel : Nat) (a c : Nat) (s : State) : Bool :=
  match fuel with
  | 0 => false
  | fuel + 1 =>
    let k := s.chan c
    k.source == .axis && (k.unit == a || match (s.axis k.unit).gear with
      | some g => State.leadsTo fuel a g.master s
      | none => false)

/-- DIR of the FLAGS at offset 3. -/
def Req.gearDir (r : Req) : Nat := bits (r.u8 3) 2 1

def moveGear : Cmd :=
  { op := 0x0604, legal := fun m _ => mRun m, len := lenIs 32,
    charter := fun s r => [axisCharter s r],
    value := fun s r =>
      let at_ := bit (r.u8 3) 0
      [axisValue r,
       need (decide (r.u8 1 ≤ 3) && match (s.axis (r.u8 0)).gear with
         | some g => g.master == r.u8 1
         | none => true) (eValue 1),
       need (decide (r.u8 2 ≤ 3)) (eValue 2), need (decide (r.gearDir ≤ 2) && (at_ || r.gearDir == 0)) (eValue 3),
       need (inI (-8388608) (r.s32 4) 8388607) (eValue 4), need (inR 1 (r.u32 8) 16777215) (eValue 8),
       need (at_ || r.u64 0x10 == 0) (eValue 0x10)],
    reserved := fun r => [r.bitsBelow 3 3, r.zero 0x18 8],
    domains := fun s r => motDomains s [r.u8 0],
    state := fun s r =>
      let x := s.axis (r.u8 0)
      [need (x.st == .geared || (x.st == .atRest && x.queue.isEmpty)) (eState 0),
       need (tget none x.gslots (r.u8 2)).isNone (eState 2),
       need ((s.chan (r.u8 1)).source != .none && !s.leadsTo 9 (r.u8 0) (r.u8 1)) (eState 1),
       need (!bit (r.u8 3) 0 || !reachedIn r.gearDir (s.chanPos (r.u8 1)) (r.pos 0x10)) (eState 0x10)],
    quota := fun s r => [need (!bit (r.u8 3) 0 || decide (s.hostHeld r.cab < 16)) eQuota],
    resource := fun s r => [need (!bit (r.u8 3) 0 || s.freeHost.isSome) eResource],
    busy := fun s r => [axisBusy s r],
    commit := fun s r =>
      let a := r.u8 0
      let slot := r.u8 2
      let m := s.chanPos (r.u8 1)
      let s := s.updAxis a fun x =>
        { x with
          gslots := tset none x.gslots slot (some { num := r.s32 4, den := r.u32 8, blend := r.u32 0x0C }),
          st := .geared,
          gear := match x.gear with
            | some g => some g
            | none => some { master := r.u8 1, sA := x.pos, mA := m, num := 0, den := 1, blend := none, due := [] } }
      { s := if bit (r.u8 3) 0 then
          match s.freeHost with
          | some k => s.arm k
            { owner := r.cab, chan := r.u8 1, action := 0x08, arg := BitVec.ofNat 32 (a + 256 * slot),
              dir := r.gearDir, notify := false, target := r.pos 0x10, period := 0, below := false,
              use := .gear a slot }
          | none => s
        else s.gearDue a slot false } }

/-- MOVE.GEAR (R231 to R233). -/
def execMoveGear (m : Fin 257) (n : Fin 4) (s : State) : Answer := .next (runCommand moveGear m n s)

/-! MOVE.STOP and MOVE.SETPOS. -/

def moveStop : Cmd :=
  { op := 0x0605, legal := fun m _ => mRun m || m == .halted, len := lenIs 8,
    charter := fun s r => [axesCharter s r],
    value := fun _ r => [axesValue r, need (decide (r.u8 1 ≤ 1)) (eValue 1)],
    reserved := fun r => [r.zero 2 6],
    domains := fun s r => motDomains s r.axes,
    state := fun s r =>
      [axesUsed s r,
       need (r.u8 1 != 0 || r.axes.all fun a => s.bridgesOn a) (eState 1),
       need (!r.axes.any fun a => ((s.axis a).role == 1 && !s.transportDocs.isEmpty) || s.axisDrivesOpen a) (eState 0)],
    commit := fun s r => { s := forEach r.axes (fun a s => s.stopAxis a (r.u8 1 == 1)) s } }

/-- MOVE.STOP (R238). -/
def execMoveStop (m : Fin 257) (n : Fin 4) (s : State) : Answer := .next (runCommand moveStop m n s)

def moveSetpos : Cmd :=
  { op := 0x0606, legal := fun m _ => m == .armed || m == .calibrate, len := lenIs 16,
    charter := fun s r => [axisCharter s r],
    value := fun s r =>
      let x := s.axis (r.u8 0)
      [axisValue r, need (inR48 (r.s64 8) && inI x.limLo (r.s64 8) x.limHi) (eValue 8)],
    reserved := fun r => [r.zero 1 7],
    domains := fun s r => motDomains s [r.u8 0],
    state := fun s r =>
      let x := s.axis (r.u8 0)
      [axisUsed s r,
       need (!s.axisMoves (r.u8 0) && x.st != .running && x.st != .geared && x.queue.isEmpty && x.ramp.isNone) (eState 0),
       need (!s.axisDrivesOpen (r.u8 0)) (eState 0)],
    commit := fun s r =>
      let a := r.u8 0
      let p := r.s64 8
      let s := s.updAxis a fun x =>
        { x with
          pos := p, posNext := p, exact := p, exactNext := p, st := .atRest, lost := false, stopOff := false, confirmAt := none, watch := false,
          ramp := none }
      let cs := (List.range 4).filter fun c => (s.chan c).source == .axis && (s.chan c).unit == a
      let s := forEach cs (fun c s =>
        (s.updChan c fun k => { k with base := posOf (p * 256), axis0 := p }).discontinuity c 0) s
      { s := s.anchor a } }

/-- MOVE.SETPOS (R241). -/
def execMoveSetpos (m : Fin 257) (n : Fin 4) (s : State) : Answer := .next (runCommand moveSetpos m n s)

/-! MOVE.STATUS. -/

/-- Code of Table MP-14. -/
def AxState.code : AxState → Nat
  | .unused => 0 | .atRest => 1 | .running => 2 | .geared => 3 | .underrun => 4 | .stopped => 5

/-- The status word of Table MP-14. -/
def State.axisStatus (s : State) (a : Nat) : Nat :=
  let x := s.axis a
  let master := match x.gear with
    | some g => g.master
    | none => 0
  let blending := match x.gear with
    | some g => g.blend.isSome
    | none => false
  x.st.code + 16 * x.lost.toNat + 32 * x.confirmed.toNat + 64 * (!s.bridgesOn a).toNat + 128 * blending.toNat +
    256 * (decide (x.eff ≠ x.demand * 65536)).toNat + 512 * x.excursion.isSome.toNat + 65536 * master

/-- Ratio reported: during a blend the target's. -/
def Axis.ratio (x : Axis) : Int × Nat :=
  match x.gear with
  | some g => (match g.blend with
    | some r => (r.num, r.den)
    | none => (g.num, g.den))
  | none => (0, 1)

def moveStatus : Cmd :=
  { op := 0x0607, legal := mAny, len := lenIs 8, long := true,
    charter := fun s r => [axisCharter s r],
    value := fun _ r => [axisValue r],
    reserved := fun r => [r.zero 1 7],
    commit := fun s r =>
      let a := r.u8 0
      let x := s.axis a
      { s, result := leBytes 4 (s.axisStatus a) ++ leInt 4 ⌊s.axisVel a⌋ ++ leInt 8 x.pos ++
          leInt 8 (if x.confirm then s.encPos a else 0) ++ leBytes 2 x.host ++ leBytes 2 x.pace ++
          leBytes 2 (x.eff / 65536) ++ leBytes 1 x.queue.length ++
          leBytes 1 (((List.range 4).filter fun k => (tget none x.gslots k).isSome).foldl (fun n k => n + 2 ^ k) 0) ++
          leInt 4 x.ratio.1 ++ leBytes 4 x.ratio.2 } }

/-- MOVE.STATUS (R243). -/
def execMoveStatus (m : Fin 257) (n : Fin 4) (s : State) : Answer := .next (runCommand moveStatus m n s)

/-! MOVE.TABLE, MOVE.COIL, MOVE.CLEAR and MOVE.DRIVE. -/

/-- Entry k of the table that a MOVE.TABLE carries. -/
def Req.tableEntry (r : Req) (k : Nat) : Int := r.s16 (8 + 2 * k)

def moveTable : Cmd :=
  { op := 0x0608, legal := fun m _ => mSet m,
    len := fun r l => (l == 8 || l == 2056) && lenBy 8 2056 (fun r => if bit (r.u8 1) 0 then 8 else 2056) r l,
    charter := fun s r => [axesCharter s r],
    value := fun _ r =>
      [axesValue r, r.bitsBelow 1 1, r.zero 2 6,
       if bit (r.u8 1) 0 then none
       else match (List.range 1024).find? fun k => !inI (-2048) (r.tableEntry k) 2047 with
         | some k => some { code := 0x03, detail := dField (8 + 2 * k), index := k }
         | none => none],
    domains := fun s r => motDomains s r.axes,
    state := fun s r =>
      [axesUsed s r,
       need (r.axes.all fun a =>
         let x := s.axis a
         x.st != .running && x.st != .geared && x.ramp.isNone) (eState 0)],
    busy := fun s r => [need (!r.axes.any fun a => s.axisHeldByOther r.cab a) (eBusy 0)],
    commit := fun s r =>
      let t := if bit (r.u8 1) 0 then none else some ((List.range 1024).map r.tableEntry)
      { s := forEach r.axes (fun a s => s.updAxis a fun x => { x with heldTable := some t }) s } }

/-- MOVE.TABLE (R251, R252). -/
def execMoveTable (m : Fin 257) (n : Fin 4) (s : State) : Answer := .next (runCommand moveTable m n s)

def moveCoil : Cmd :=
  { op := 0x0609, legal := fun m _ => mSet m, len := lenIs 24,
    charter := fun s r => [axisCharter s r],
    value := fun _ r =>
      [axisValue r, need (decide (r.u16 2 ≤ 256)) (eValue 2), need (decide (r.u16 4 ≤ 40000)) (eValue 4),
       need (decide (r.u16 6 ≤ 10000)) (eValue 6), need (decide (r.u32 8 ≤ 1000000)) (eValue 8),
       need (inR 1 (r.u16 0x0C) 16000) (eValue 0x0C)],
    reserved := fun r => [r.bitsBelow 1 1, r.zero 0x0E 10],
    domains := fun s r => motDomains s [r.u8 0],
    state := fun s r => [axisUsed s r],
    resource := fun s r =>
      let x := s.axis (r.u8 0)
      [need (x.phA.disc == 1 && x.phB.disc == 1) { code := 0x07, detail := dField 0 },
       need (decide (r.u16 4 * 1000 ≤ 2100 * x.phA.rcoil ∧ r.u16 4 * 1000 ≤ 2100 * x.phB.rcoil))
         { code := 0x07, detail := dField 4 },
       need (decide (r.u16 6 * 2 ≤ x.phA.rcoil ∧ r.u16 6 * 2 ≤ x.phB.rcoil)) { code := 0x07, detail := dField 6 }],
    busy := fun s r => [axisBusy s r],
    commit := fun s r =>
      { s := s.updAxis (r.u8 0) fun x =>
          { x with held := some (r.u16 2, r.u16 4, r.u16 6, r.u32 8, r.u16 0x0C, bit (r.u8 1) 0) } } }

/-- MOVE.COIL (R257, R258, R266). -/
def execMoveCoil (m : Fin 257) (n : Fin 4) (s : State) : Answer := .next (runCommand moveCoil m n s)

/-- Clear every latched fault of an axis and empty its windows. -/
def Axis.clearFaults (x : Axis) : Axis :=
  let f := fun (p : Phase) => { p with trip := false, openFault := false, senseFault := false, window := [] }
  { x with hot := false, phA := f x.phA, phB := f x.phB }

def moveClear : Cmd :=
  { op := 0x060A, legal := fun m _ => mSet m || m == .halted, len := lenIs 8,
    charter := fun s r => [axesCharter s r],
    value := fun _ r => [axesValue r],
    reserved := fun r => [r.zero 1 7],
    domains := fun s r => motDomains s r.axes,
    state := fun s r =>
      [axesUsed s r,
       need (r.axes.all fun a =>
         let x := s.axis a
         x.latched && !(x.hot && decide (105 * 16 ≤ x.dieTemp))) (eState 0)],
    commit := fun s r => { s := forEach r.axes (fun a s => (s.updAxis a Axis.clearFaults).coilTell a) s } }

/-- MOVE.CLEAR (R267). -/
def execMoveClear (m : Fin 257) (n : Fin 4) (s : State) : Answer := .next (runCommand moveClear m n s)

/-- The status word of Table CD-10. -/
def State.coilStatus (s : State) (a : Nat) : Nat :=
  let x := s.axis a
  s.phaseState a false + 16 * s.phaseState a true + 256 * x.phA.disc + 4096 * x.phB.disc + 65536 * x.warm.toNat +
    131072 * x.holding.toNat + 262144 * x.phA.sat.toNat + 524288 * x.phB.sat.toNat + 1048576 * x.mismatch.toNat

def moveDrive : Cmd :=
  { op := 0x060B, legal := mAny, len := lenIs 8, long := true,
    charter := fun s r => [axisCharter s r],
    value := fun _ r => [axisValue r],
    reserved := fun r => [r.zero 1 7],
    state := fun s r => [axisUsed s r],
    commit := fun s r =>
      let a := r.u8 0
      let x := s.axis a
      { s, result := leBytes 4 (s.coilStatus a) ++ leBytes 2 x.phA.rcoil ++ leBytes 2 x.phB.rcoil ++
          leInt 2 x.phA.ihat ++ leInt 2 x.phB.ihat ++ leInt 2 x.phA.duty ++ leInt 2 x.phB.duty ++
          leBytes 2 (s.supply (supplyOfAxis a)).mv ++ leInt 2 x.dieTemp ++ leBytes 4 0 } }

/-- MOVE.DRIVE (R268). DUTY and SAT of the last cycle are those of the command most recently computed, which the cycle in
progress applies (DESIGN CHOICE, log 91). -/
def execMoveDrive (m : Fin 257) (n : Fin 4) (s : State) : Answer := .next (runCommand moveDrive m n s)

end Sys2Proof.Machine
end

