-- ==== Sys2Proof/Machine/Pacing.lean ====
section
/-! DEFINITION. Pacing: stream marks, rate match, feed hold, the seamless pause with its excursion, pre-roll, gates and
re-plans, and MOVE.PACE. Chapter 09. -/

namespace Sys2Proof.Machine

/-! Streams (R269, R271). -/

/-- The configured streams of a cabinet. -/
def State.streamsOf (s : State) (c : Nat) : List Stream :=
  ((List.range 16).map fun n => s.stream c n).filter fun x => x.kind != 0

/-- HOLD and PAUSE of a stream after an evaluation. -/
def Stream.evaluate (x : Stream) : Stream :=
  if x.kind = 0 then x
  else
    let f := x.fill
    { x with
      hold := if x.holdMark ≤ f then true else if f ≤ x.releaseMark then false else x.hold,
      pause := if x.pauseMark ≤ f then true else if f ≤ x.releaseMark then false else x.pause }

/-- r of R271. -/
def Stream.rateValue (x : Stream) (minRate : Nat) : Nat :=
  let f := x.fill
  let span := x.pauseMark - x.rateMark
  if f ≤ x.rateMark then 10000
  else if span = 0 then minRate
  else max minRate (10000 - (10000 - minRate) * (f - x.rateMark) / span)

/-! Groups (R272, R274, R275). -/

/-- The axes of the group of a BED_MASK, lowest first. -/
def State.groupAxes (s : State) (g : Nat) : List Nat :=
  (List.range 8).filter fun a =>
    let x := s.axis a
    g != 0 && x.bedMask.toNat == g && (x.role == 1 || x.role == 2)

/-- The axis whose number a group's events carry, and whose group-wide fields are the group's. -/
def State.groupLead (s : State) (g : Nat) : Nat := (s.groupAxes g).headD 0

def groupBeds (g : Nat) : List Nat := (List.range 4).filter fun b => bit g b

/-- Whether a document's job captures on a bed of a group. -/
def Doc.onGroup (d : Doc) (g : Nat) : Bool := match d.job with
  | some j => (j.bedMask.toNat &&& g) != 0
  | none => false

/-- Documents open on a group. -/
def State.groupDocs (s : State) (g : Nat) : List Doc :=
  s.docs.filter fun d => d.open_ && !d.refusedDoc && d.onGroup g

/-- Governing and feed streams of a group (R274). -/
def State.governing (s : State) (g : Nat) : List Stream :=
  (s.enabledCabs.filter fun c => (s.groupDocs g).any fun d => d.cab == c).flatMap s.streamsOf

def State.feedStreams (s : State) (g : Nat) : List Stream :=
  (s.enabledCabs.filter fun c => s.jobs.any fun (j : Job) =>
    j.current && j.cab == c && (j.bedMask.toNat &&& g) != 0).flatMap s.streamsOf

def State.groupPaused (s : State) (g : Nat) : Bool := (s.governing g).any Stream.pause

def State.pliant (s : State) (g : Nat) : Bool :=
  (s.groupAxes g).all fun a => (s.axis a).st == .running || (s.axis a).st == .atRest

/-- Change every axis of a group. -/
def State.eachAxis (s : State) (g : Nat) (f : Axis → Axis) : State :=
  forEach (s.groupAxes g) (fun a s => s.updAxis a f) s

/-- Write a pacing event of a group about each document open on it to that document's cabinet (DEDUCED, log 27). -/
def State.pauseEvent (s : State) (g code aux : Nat) : State :=
  forEach (s.groupDocs g) (fun d s => s.raise d.cab (s.ev code (s.groupLead g) aux (w2 d.acc))) s

/-! Feed permit (R277). -/

/-- Evaluate the permit of a group. -/
def State.permitOf (s : State) (g : Nat) : State :=
  let a := s.groupLead g
  let x := s.axis a
  let p := s.group g
  if (s.groupAxes g).isEmpty ∨ ¬ x.pHold then s
  else
    let stands := !((s.feedStreams g).any Stream.hold) && !(p.phase == 1 || p.excursion) && s.mode != .drain
    if stands = p.permit then s
    else
      let s := s.updGroup g fun p => { p with permit := stands }
      let s := if x.feedGpio < 16 then s.drivePins (1#16 <<< x.feedGpio) stands else s
      let cabs := s.enabledCabs.filter fun c => c == 0 || ((s.entry c).beds.toNat &&& g) != 0
      s.raiseTo cabs (s.ev (if stands then 0x0203 else 0x0202) a 0 (w2 g))

/-! The plan of an excursion (R281). -/

/-- Profile velocity at a point times k0, in 1/256 microstep per second. -/
def Axis.paused (x : Axis) (v : ℚ) : ℚ := v * x.k0 / 655360000

/-- ta of R281, from each axis and its V. -/
def planTa (vs : List (Axis × ℚ)) : ℚ := vs.foldl (fun m (x, v) => max m (|v| / (256 * x.pauseAccel))) 0

/-- tc of R281. -/
def planTc (vs : List (Axis × ℚ)) : ℚ :=
  vs.foldl (fun m (x, v) => if v = 0 then m else max m (256 * (x.backlash + x.settle) / |v|)) 0

/-- tb squared, from each axis, its V and the way it backs up. -/
def planTb2 (vs : List (Axis × ℚ × ℚ)) : ℚ :=
  vs.foldl (fun m (x, v, l) =>
    max m (max (4 * |l| / (256 * x.pauseAccel)) (if v = 0 then 0 else (2 * |l| / |v|) ^ 2))) 0

/-- Where a back-up ends, from p(tau) and V. -/
def backPoint (p v ta tc : ℚ) : ℚ := p - v * (ta / 2 + tc)

/-- Units of profile time that a deceleration from an effective override runs through. -/
def slewTravel (eff step : Nat) : Nat :=
  let n := (eff - 1) / step
  n * eff - step * (n * (n + 1) / 2)

/-- Where an axis will be, and its V, when PACE set to 0 now has brought it to rest. -/
def State.restAhead (s : State) (g a : Nat) : ℚ × ℚ :=
  let x := s.axis a
  let step := (s.groupAxes g).foldl (fun m b => min m ((s.axis b).ovrSlew * 65536 / 40)) (20000 * 65536 / 40)
  let (p, v) := x.profile (slewTravel x.eff step)
  (p, v * x.eff / 655360000)

/-- REVERSE_LIMIT of Table PA-4. -/
def State.reverseLimit (s : State) (g : Nat) : Bool :=
  let vs := (s.groupAxes g).map fun a => (s.axis a, s.restAhead g a)
  let ta := planTa (vs.map fun (x, p) => (x, p.2))
  let tc := planTc (vs.map fun (x, p) => (x, p.2))
  vs.any fun (x, p, v) =>
    let b := backPoint p v ta tc
    decide (256 * (x.maxReverse : ℚ) < |v| * (ta / 2 + tc) ∨ b < x.limLo ∨ x.limHi < b)

/-! Refusals (R279, Table PA-4). -/

/-- A document that a sheet sensor framed. -/
def Doc.sheet (d : Doc) : Bool := match d.job with
  | some j => !j.flatbed
  | none => true

/-- Documents in the transport on a group's beds, and further sheets that entered where its sheets did. -/
def State.crowd (s : State) (g : Nat) : Nat :=
  (s.docs.filter fun d => d.inTransport &&
    (d.onGroup g || (d.sheet && (s.groupDocs g).any fun e => e.sheet && e.entryGpio == d.entryGpio))).length

/-- The causes that refuse a pause now. -/
def State.refusalsOf (s : State) (g : Nat) : List Nat :=
  let axes := s.groupAxes g
  let bad := fun b =>
    let k := (s.chan (s.bed b).chan).source
    k == .none || k == .remote || k == .free
  [(1, !(s.axis (s.groupLead g)).pPause), (2, !s.pliant g || axes.any fun a => (s.axis a).excursion.isSome),
   (3, axes.any fun a => !(s.axis a).reversible), (4, (groupBeds g).any bad), (5, decide (1 < s.crowd g)),
   (6, s.reverseLimit g)].filterMap fun (c, on) => if on then some c else none

/-- A refused pause: each cause once per document, and the record flagged. -/
def State.refusePause (s : State) (g : Nat) (causes : List Nat) : State :=
  forEach (s.groupDocs g) (fun d s =>
    forEach causes (fun c s =>
      if (s.group g).refusals.contains (d.acc, c) then s
      else
        let s := s.updGroup g fun p =>
          { p with refusals := p.refusals.filter (fun q => (s.doc q.1).isSome) ++ [(d.acc, c)] }
        s.raise d.cab (s.ev 0x0208 (s.groupLead g) c (w2 d.acc))) (s.docFlag d.acc 0x8)) s

/-! The course of a pause (R280, Table PA-5). -/

/-- Step 1: PACE 0 on every axis, and PAUSE_START. -/
def State.beginPause (s : State) (g : Nat) : State :=
  let v0 := ((s.axis (s.groupLead g)).profile 0).2
  let s := s.updGroup g fun p => { p with phase := 1, released := false, v0, replans := 0 }
  let s := s.eachAxis g fun x => { x with pace := 0, k0 := x.eff }
  let s := forEach (groupBeds g) (fun b s => let v := s.chanVel (s.bed b).chan
    s.updBed b fun x => { x with vRef := v }) s
  s.pauseEvent g 0x0204 0

/-- Whether every document open on a group has passed its BED_STOP on the group's beds (R285). -/
def State.allStopped (s : State) (g : Nat) : Bool :=
  (groupBeds g).all fun b => (s.bed b).courses.all fun c =>
    c.stopped || !(s.groupDocs g).any fun d => d.acc == c.acc

/-- Whether an axis is at rest while PACE is 0. -/
def Axis.resting (x : Axis) : Bool := !x.moving && (x.eff == 0 || x.st != .running)

/-- The back-up begins from where each axis rests. -/
def State.beginBackup (s : State) (g : Nat) : State :=
  let ls := (s.groupAxes g).filterMap fun a =>
    let x := s.axis a
    x.exc.map fun e => (x, e.vRest, (x.pos : ℚ) - e.pBack)
  let tb2 := planTb2 ls
  let s := s.eachAxis g fun x => { x with
    exc := x.exc.map fun e => { e with phase := 2, start := x.pos, t := -1 / 40000, tb2 } }
  s.updGroup g fun p => { p with phase := 2 }

/-- Step 3: the excursion begins; gates shut, resume marks taken, PAUSED entered. A change being carried out goes on
(Table PA-6). -/
def State.beginExcursion (s : State) (g : Nat) : State :=
  let lead := s.axis (s.groupLead g)
  let vs := (s.groupAxes g).map fun a => let x := s.axis a
    (x, x.paused (x.profile 0).2)
  let ta := planTa vs
  let tc := planTc vs
  let ratio : ℚ := if (s.group g).v0 = 0 then 1 else (lead.profile 0).2 / (s.group g).v0
  let s := s.eachAxis g fun x =>
    let (p, v) := x.profile 0
    let v := x.paused v
    { x with exc := some {
        phase := 2, pRest := p, vRest := v, pBack := backPoint p v ta tc, start := x.pos, v := 0, t := -1 / 40000,
        ta, tb2 := 0 } }
  let s := forEach (groupBeds g) (fun b s => s.updBed b fun x =>
    { x with gateShut := x.accOn, inExcursion := true, prerollNext := 0, vRef := x.vRef * ratio }) s
  let s := forEach (s.groupDocs g) (fun d s => s.updDoc d.acc fun d =>
    { d with flags := if d.flags.toNat / 2 ^ 28 < 15 then d.flags + (1#32 <<< 28) else d.flags }) s
  let s := (s.beginBackup g).pauseEvent g 0x0205 0
  if s.mode = .capture then { s.enterMode .paused 1 with change := s.change } else s

/-- PAUSE_RESTED: every axis of a group has come to rest, in the deceleration of a pause or of a re-plan. -/
def execPauseRested (g : Fin 16) (s : State) : Answer :=
  .next (
    let axes := s.groupAxes g
    if axes.isEmpty then s
    else if (s.group g).phase = 1 then
      if !axes.all fun a => (s.axis a).resting then s
      else if s.allStopped g then s.updGroup g fun p => { p with phase := 7 }
      else s.beginExcursion g
    else if (s.group g).phase = 5 then
      if axes.all fun a => match (s.axis a).exc with
          | some e => decide (e.stopTime (s.axis a).pauseAccel ≤ e.t)
          | none => true
        then s.beginBackup g else s
    else s)

/-- Pre-roll triggers that lie ahead of the channel when the approach begins (R282). -/
def State.prerollsAhead (s : State) (b n : Nat) : Nat :=
  let x := s.bed b
  ((List.range n).filter fun k =>
    beyond (((x.acc - x.pitch.setWidth 80 * BitVec.ofNat 80 (k + 1)).extractLsb' 16 64)) (s.chanPos x.chan)).length

/-- Step 6: the approach begins. -/
def State.beginApproach (s : State) (g : Nat) : State :=
  let s := s.updGroup g fun p => { p with phase := 4, released := true }
  let lock := (s.groupAxes g).foldl (fun m a => match (s.axis a).exc with
    | some e => if e.vRest = 0 then m else max m e.reach
    | none => m) 0
  let s := s.eachAxis g fun x => { x with
    exc := x.exc.map fun e => { e with phase := 4, start := e.pBack, t := -1 / 40000, lock } }
  let n := (s.axis (s.groupLead g)).preroll
  forEach (groupBeds g) (fun b s =>
    if (s.bed b).gateShut then let k := s.prerollsAhead b n
      s.updBed b fun x => { x with prerollNext := k } else s) s

/-- BACKUP_END: the back-up of a group ends; where the pause has been released the approach begins. -/
def execBackupEnd (g : Fin 16) (s : State) : Answer :=
  .next (
    let done := (s.groupAxes g).all fun a => match (s.axis a).exc with
      | some e => decide (0 ≤ e.t ∧ e.tb2 ≤ e.t ^ 2)
      | none => true
    if (s.group g).phase ≠ 2 ∨ ¬ done then s
    else
      let s := s.updGroup g fun p => { p with phase := 3 }
      let s := s.eachAxis g fun x => { x with exc := x.exc.map fun e => { e with phase := 3, start := e.pBack } }
      if (s.group g).released || !s.groupPaused g then s.beginApproach g else s)

/-- PACE that a group's axes take outside a pause (R276): a group with a GEARED axis is never slowed (R275); that of one not
pliant otherwise stays as it is (DESIGN CHOICE, log 92). -/
def State.paceOf (s : State) (g : Nat) : Option Nat :=
  if ¬ (s.axis (s.groupLead g)).pRate ∨ (s.governing g).isEmpty ∨
      (s.groupAxes g).any fun a => (s.axis a).st == .geared then some 10000
  else if s.pliant g then some (s.group g).rate else none

def State.setPace (s : State) (g : Nat) : State :=
  match s.paceOf g with
  | some r => s.eachAxis g fun x => { x with pace := r }
  | none => s

/-- Whether every gate of a group is open. -/
def State.gatesOpen (s : State) (g : Nat) : Bool := (groupBeds g).all fun b => !(s.bed b).gateShut

/-- Step 8: with every gate open past the excursion, the pause is over. -/
def State.endPause (s : State) (g : Nat) : State :=
  if (s.group g).phase = 6 ∧ s.gatesOpen g then
    let s := s.updGroup g fun p => { p with phase := 0, released := false }
    let s := s.eachAxis g fun x => { x with exc := none }
    let s := forEach (groupBeds g) (fun b s => s.updBed b fun x => { x with inExcursion := false }) s
    let s := s.pauseEvent g 0x0207 0
    let s := if s.mode = .paused ∧ ¬ (s.groups.any fun (_, p) => p.excursion) then
        { s.enterMode .capture 1 with change := s.change } else s
    s.permitOf g
  else s

/-- EXCURSION_END: the axes of a group pass p(tau): the effective override is k0 and profile time resumes (R228). -/
def execExcursionEnd (g : Fin 16) (s : State) : Answer :=
  .next (
    let axes := s.groupAxes g
    let done := axes.all fun a => match (s.axis a).exc with
      | some e => decide (0 ≤ e.t ∧ e.reach ≤ e.t)
      | none => true
    if (s.group g).phase ≠ 4 ∨ ¬ done then s
    else
      let s := s.eachAxis g fun x => match x.exc with
        | some e =>
          let x := { x with exc := some { e with phase := 6 }, eff := x.k0 }
          let x := if x.st = .running then
              { x with tau := x.tau + ((e.t - e.reach) * 40000 * x.k0).floor.toNat } else x
          if x.st = .running then x.plan else { x with posNext := x.pos }
        | none => x
      ((s.updGroup g fun p => { p with phase := 6 }).setPace g).endPause g)

/-- The group that serves a bed and is in its approach, or past it with gates shut. -/
def State.approachOf (s : State) (b : Nat) : Option Nat :=
  (List.range 16).find? fun g => bit g b && !(s.groupAxes g).isEmpty &&
    ((s.group g).phase == 4 || (s.group g).phase == 6)

/-- PREROLL_TRIGGER: the channel reaches a bed's next pre-roll position during the approach, of a document or of a strip read
that the pause holds (R282). -/
def execPrerollTrigger (b : Fin 4) (s : State) : Answer :=
  .next (
    let x := s.bed b
    let k := x.prerollNext
    let pos := (x.acc - x.pitch.setWidth 80 * BitVec.ofNat 80 k).extractLsb' 16 64
    if k = 0 ∨ ¬ x.gateShut ∨ ¬ s.bedClock b ∨ (s.approachOf b).isNone ∨ ¬ reachedFwd (s.chanPos x.chan) pos then s
    else
      let s := s.updBed b fun x => { x with prerollNext := k - 1 }
      if !x.fits then s
      else match x.course with
      | some c =>
        ((s.fitLine b { kind := 1, acc := c.acc }).inc 1 b 9 1).updDoc c.acc fun d =>
          d.updBed b fun y => { y with preroll := y.preroll + 1 }
      | none => (s.fitLine b { kind := 1 }).inc 1 b 9 1)

/-- The velocity test of R283. -/
def State.seamless (s : State) (b : Nat) : Bool :=
  let x := s.bed b
  let v := s.chanVel x.chan
  decide (|v - x.vRef| * 50 ≤ x.vRef)

/-- A re-plan (R284): the group decelerates, to back up to the same point and approach again. An excursion that had
ended begins anew where profile time stands. -/
def State.replan (s : State) (g : Nat) : State :=
  let s := s.updGroup g fun p => { p with phase := 5, replans := p.replans + 1 }
  let s := s.pauseEvent g 0x0206 (s.group g).replans
  let vs := (s.groupAxes g).map fun a => let x := s.axis a
    (x, match x.excursion with
      | some e => e.vRest
      | none => x.paused (x.profile 0).2)
  let ta := planTa vs
  let s := s.eachAxis g fun x =>
    let v := x.ownVelocity
    { x with
      pace := 0,
      exc := x.exc.map fun e =>
        let e := if e.phase = 6 then
            let (p, w) := x.profile 0
            { e with pRest := p, vRest := x.paused w }
          else e
        { e with phase := 5, start := x.posNext, v, t := -1 / 40000, ta } }
  forEach (groupBeds g) (fun b s => s.updBed b fun x => { x with prerollNext := 0 }) s

/-- PAUSE_RESUMED: the channel of a bed reaches its resume mark: the gate opens, with the trigger due there in the same
evaluation, or the approach is re-planned (R283, R284, R286). -/
def execPauseResumed (b : Fin 4) (s : State) : Answer :=
  .next (
    let x := s.bed b
    match s.approachOf b with
    | none => s
    | some g =>
      if ¬ x.gateShut ∨ ¬ s.bedClock b ∨ ¬ reachedFwd (s.chanPos x.chan) (x.acc.extractLsb' 16 64) then s
      else
        let ok := s.seamless b
        if ok || decide ((s.axis (s.groupLead g)).replans ≤ (s.group g).replans) then
          let s := match ok, x.course with
            | false, some c => s.bedFlag b c.acc 0x100
            | _, _ => s
          let s := s.updBed b fun x => { x with gateShut := false, inExcursion := false, prerollNext := 0 }
          (s.bedTrigger b).endPause g
        else s.replan g)

/-! The evaluation (R269, R276, R279, R285). -/

/-- One group at a pacing evaluation. -/
def State.evaluateGroup (s : State) (g : Nat) : State :=
  if (s.groupAxes g).isEmpty ∨ s.mode = .keep then s
  else
    let rate := (s.governing g).foldl (fun m x => min m (x.rateValue (s.axis (s.groupLead g)).minRate)) 10000
    let s := s.updGroup g fun p => { p with rate }
    let paused := s.groupPaused g
    let ph := (s.group g).phase
    let s := if ph = 1 then
        (if s.allStopped g then s.updGroup g fun p => { p with phase := 7 }
         else if ¬ paused then s.updGroup g fun p => { p with phase := 0 } else s)
      else if ph = 3 ∧ ¬ paused then s.beginApproach g
      else if ph = 6 then s.endPause g
      else s
    let s := if (s.group g).phase = 7 ∧ ¬ (s.feedStreams g).any Stream.hold then
        s.updGroup g fun p => { p with phase := 0 } else s
    let s := if (s.group g).phase = 0 ∧ s.mode.p3 ∧ s.mode ≠ .halted ∧ paused then
        match s.refusalsOf g with
        | [] => s.beginPause g
        | cs => s.refusePause g cs
      else s
    let s := if (s.group g).phase = 0 ∨ (s.group g).phase = 6 then s.setPace g else s
    s.permitOf g

/-- PACING_EVALUATION: once every 1 ms of REF. -/
def execPacingEvaluation (s : State) : Answer :=
  .next (
    if !s.clkOk 3 || s.mode == .dormant then s
    else
      let s := { s with streams := tmap {} s.streams Stream.evaluate }
      forEach ((List.range 16).map id) (fun g s => s.evaluateGroup g) s)

/-! MOVE.PACE. -/

def movePace : Cmd :=
  { op := 0x060C, legal := fun m _ => mSet m, len := lenIs 32,
    charter := fun s r =>
      [axisCharter s r,
       need ((groupBeds (r.u8 2 % 16)).all fun b => s.bedAllowed r.cab b) (eCharter 2),
       need (r.u8 3 == 0xFF || r.cab == 0) (eCharter 3)],
    value := fun s r =>
      [axisValue r, need (decide (r.u8 3 ≤ 15) || r.u8 3 == 0xFF) (eValue 3), need (inR 100 (r.u16 4) 10000) (eValue 4),
       need (decide (r.u16 6 ≤ 1024)) (eValue 6), need (r.u32 8 != 0) (eValue 8),
       need (decide (r.u32 0x0C ≤ 16777215)) (eValue 0x0C), need (decide (r.u32 0x10 ≤ 16777215)) (eValue 0x10),
       need (decide (r.u8 0x18 ≤ 7)) (eValue 0x18),
       -- Table PA-3 names these after the ranges
       r.bitsBelow 1 3, r.bitsBelow 2 4, r.zero 0x19 7, need (decide (r.u32 8 ≤ (s.axis (r.u8 0)).amax)) (eValue 8),
       need (r.u8 2 != 0 || r.u8 1 == 0) (eValue 1)],
    state := fun s r =>
      let x := s.axis (r.u8 0)
      [axisUsed s r, need (r.u8 2 == 0 || x.role == 1 || x.role == 2) (eState 0),
       need (!(bit (r.u8 1) 1 && x.role == 2) && !(bit (r.u8 1) 2 && !x.reversible)) (eState 1),
       need ((List.range 8).all fun a => a == r.u8 0 ||
         ((s.axis a).bedMask.toNat &&& r.u8 2) == 0 || (s.axis a).bedMask.toNat == r.u8 2) (eState 2),
       need ((groupBeds (r.u8 2 ||| x.bedMask.toNat)).all fun b => !s.docOpenOn b) (eState 2)],
    busy := fun s r =>
      [need (!s.axisHeldByOther r.cab (r.u8 0) &&
        (groupBeds (r.u8 2)).all fun b => !s.bedHeldByOther r.cab b) (eBusy 0)],
    commit := fun s r =>
      let a := r.u8 0
      let mask := r.u8 2
      let s := s.updAxis a fun x =>
        { x with
          bedMask := BitVec.ofNat 4 mask, pauseAccel := r.u32 8, backlash := r.u32 0x0C, settle := r.u32 0x10,
          maxReverse := r.u32 0x14 }
      let s := forEach (List.range 8) (fun b s =>
        if (s.axis b).bedMask.toNat = mask then s.updAxis b fun x =>
          { x with
            pRate := bit (r.u8 1) 0, pHold := bit (r.u8 1) 1, pPause := bit (r.u8 1) 2, feedGpio := r.u8 3,
            minRate := r.u16 4, preroll := r.u16 6, replans := r.u8 0x18 }
        else s) s
      { s := if r.u8 3 < 16 && bit (r.u8 1) 1 then s.drivePins (1#16 <<< r.u8 3) (s.group mask).permit else s } }

/-- MOVE.PACE (R272, R273). -/
def execMovePace (m : Fin 257) (n : Fin 4) (s : State) : Answer := .next (runCommand movePace m n s)

end Sys2Proof.Machine
end

