-- ==== Sys2Proof/Machine/Gauge.lean ====
section
/-! DEFINITION. Gauge channels: samples, resets and INVALID runs, blanking, impedance checks, lead measurement, document
windows and double feed, the ratiometric outputs. Chapter 10. -/

namespace Sys2Proof.Machine

/-! Running and blanking (R304, R305). -/

/-- Where the channels are now, and the beds in the excursion of a pause. -/
def State.here (s : State) : Track :=
  { at_ := s.now, pos := (List.range 4).map fun c => s.chanPos c,
    paused := ((List.range 4).filter fun b => (s.bed b).inExcursion).foldl (fun m b => m ||| (1#4 <<< b)) 0 }

/-- Keep what lies within 60 ms: the centre of a sample lies at most 17 x 32,768 cycles, 54.4 ms, back. -/
def trackSince (t : Nat) : List Track → List Track
  | [] => []
  | k :: rest => if k.at_ < t then [k] else k :: trackSince t rest

/-- Note where the channels are: the centre of a sample may lie before its channel was enabled (R297). -/
def State.noteTrack (s : State) : State :=
  let h := s.here
  match s.track with
  | k :: _ => if k.pos = h.pos ∧ k.paused = h.paused then s
      else { s with track := h :: trackSince (s.now - 60000000) s.track }
  | [] => { s with track := [h] }

/-- Position at the centre of a sample, 0 with no bed, and whether it carries EXCURSION (R287, R297). -/
def State.centreOf (s : State) (g t : Nat) : Pos × Bool :=
  let b := (s.gauge g).cfg.bed
  let k := (s.track.find? fun k => decide (k.at_ ≤ t)).getD (s.track.getLast?.getD s.here)
  if b < 4 then (k.pos.getD (s.bed b).chan 0, k.paused.getLsbD b) else (0, false)

/-! The value of a sample (R294 to R296). -/

def f32Sub (a b : BitVec 32) : BitVec 32 := f32Add a (f32Neg b)

/-- A finite float32 word as a rational; 0 for others. -/
def f32Rat (a : BitVec 32) : ℚ := match f32.decode a.toNat with
  | .fin _ q => q
  | _ => 0

/-- vs of R295: the sense phasor under LEAD_SENSE, but for SENSE_OPEN; else the ball voltage less the drop. -/
def Gauge.vs (x : Gauge) (p : GaugePeriod) : BitVec 32 × BitVec 32 :=
  if x.cfg.leadSense && !x.senseOpen then (p.iSense, p.qSense)
  else
    let r := f32Div (f32OfRat x.cfg.lead) (f32OfRat 1000)
    (f32Sub p.iBall (f32Mul r p.iExc), f32Sub p.qBall (f32Mul r p.qExc))

/-- Whether |vs| is below AMPL / 200 mV (R294). -/
def Gauge.vsSmall (x : Gauge) (p : GaugePeriod) : Bool :=
  let (a, b) := x.vs p
  decide ((f32Rat a ^ 2 + f32Rat b ^ 2) * 200000 ^ 2 < (x.cfg.ampl : ℚ) ^ 2)

/-- x of R295. -/
def Gauge.ratio (x : Gauge) (p : GaugePeriod) : BitVec 32 :=
  if x.vsSmall p then 0
  else
    let (a, b) := x.vs p
    let g := f32OfRat (2 ^ x.cfg.gain : Nat)
    let i := f32Div p.iSig g
    let q := f32Div p.qSig g
    f32Div (f32Add (f32Mul i a) (f32Mul q b)) (f32Add (f32Mul a a) (f32Mul b b))

/-- t of R296. -/
def State.gaugeTemp (s : State) (g : Nat) : BitVec 32 :=
  let x := s.gauge g
  let t : Int := if x.cfg.tempSrc = 0 then x.cfg.tFixed
    else
      let b := s.bed (x.cfg.tempSrc - 1)
      if b.tempFixed then b.tempValue else b.temp
  f32OfRat ((t : ℚ) / 16)

/-- VALUE of R296. -/
def gaugeValue (coef : List (BitVec 32)) (t x : BitVec 32) : BitVec 32 :=
  let c := fun (i j : Nat) => coef.getD (3 * i + j) 0
  let ci := fun (i : Nat) => f32Add (c i 0) (f32Mul t (f32Add (c i 1) (f32Mul t (c i 2))))
  f32Add (f32Mul (f32Add (f32Mul (f32Add (f32Mul (ci 3) x) (ci 2)) x) (ci 1)) x) (ci 0)

/-! Ratiometric outputs (R326). -/

/-- The code of an output for a value. -/
def Aout.codeFor (o : Aout) (value : BitVec 32) : Nat :=
  let q := f32Div (f32Mul (f32Sub value o.zero) (f32OfRat 65536)) o.span
  match f32.decode q.toNat with
  | .nan => o.faultCode
  | .inf neg => if neg then 0 else 65535
  | .fin _ r => if r ≤ 0 then 0 else min 65535 (roundEven r)

/-- The outputs that follow a channel take a sample. -/
def State.driveAouts (s : State) (g : Nat) (fault invalid : Bool) (value : BitVec 32) : State :=
  { s with
    aouts := tmap {} s.aouts fun o =>
      if o.source ≠ g + 1 then o
      else if fault then { o with driven := o.faultCode }
      else if invalid then o else { o with driven := o.codeFor value } }

/-- The outputs that follow a channel that has not been running are left at FAULT_CODE. -/
def State.aoutsFault (s : State) (g : Nat) : State :=
  { s with aouts := tmap {} s.aouts fun o => if o.source = g + 1 then { o with driven := o.faultCode } else o }

/-- What an output drives: none is high impedance. -/
def State.aoutCode (s : State) (k : Nat) : Option Nat :=
  let o : Aout := tget {} s.aouts k
  if !s.mode.p2 && !s.mode.p3 then none
  else if o.source = 0 then some o.code
  else if s.mode.p3 && s.gaugeRuns (o.source - 1) then some o.driven else some o.faultCode

/-! Samples (R297 to R303, R307, R321, R323). -/

/-- The document in whose window a position lies, for a channel: one whose record has closed too, when its line N is known,
one whose delivery note has been written, and one that is ORPHANED (R299, R321, R324). -/
def State.windowDoc (s : State) (g : Nat) (p : Pos) : Option Doc :=
  (s.windows ++ s.docs).reverse.find? fun d =>
    (s.docGauges d).contains g && s.inWindow d g p &&
      (d.open_ || ((s.gauge g).accepted.bed < 4 && (s.lineEnd d (s.gauge g).accepted.bed).isSome))

/-- A sample in the window of a document whose record is open joins its summary (R321 to R324). -/
def State.windowSample (s : State) (d : Doc) (g : Nat) (y : GSample) : State :=
  let x := s.gauge g
  let q : GSummary := tget {} d.gauges g
  let high := y.counted && f32Lt x.dfLimit y.value
  let run := if ¬ y.counted then q.run else if high then q.run + 1 else 0
  let start := if high && q.run == 0 then y.centre else q.runStart
  let fire := x.df && !q.fired && high && decide (x.dfCount ≤ run)
  let s := s.updDoc d.acc fun d => { d with
    gauges := tset {} d.gauges g
      { samples := q.samples ++ [y], run, runStart := start, fired := q.fired || fire } }
  if fire then
    (s.inc 5 g 6 1).raiseTo (if d.cab = 0 then [0] else [d.cab, 0])
      { code := 0x0704, unit := g, aux := 0, w0 := s.time, w1 := start, w2 := w2 d.acc }
  else s

/-- The 32 bytes of Table GA-3. -/
def sampleBytes (index flags g bed : Nat) (value ratio : BitVec 32) (p : Pos) (t : Nat) : List Byte :=
  leBytes 4 index ++ leBytes 2 flags ++ leBytes 1 g ++ leBytes 1 bed ++ leBytes 4 value.toNat ++
    leBytes 4 ratio.toNat ++ leBytes 8 p.toNat ++ leBytes 8 t

/-- Deliver a sample to its cabinet's gauge stream (R299, R406, R408); those of an ORPHANED document are not delivered
(R324). -/
def State.deliverSample (s : State) (g : Nat) (d : Option Doc) (bs : List Byte) : State :=
  let b := (s.gauge g).cfg.bed
  let job := match d with
    | some d => d.job
    | none => if b < 4 then s.holderOfBed b else none
  match job with
  | none => s
  | some j =>
    let orphan := match d with
      | some d => d.orphaned
      | none => false
    if orphan ∨ j.gaugeStream = 0xFF ∨ (s.stream j.cab j.gaugeStream).kind ≠ 3 then s
    else
      let acc := match d with
        | some d => d.acc
        | none => 0
      s.putSample j.cab j.gaugeStream bs acc

/-- The next output period begins: settings accepted since apply (R300, R318). -/
def State.gaugeBoundary (s : State) (g : Nat) : State :=
  let s := s.updGauge g fun x =>
    let x := { x with began := x.began + x.period }
    let x := x.applyNext x.began
    let keep := x.blanks.filter fun (_, e) => match e with
      | some e => decide (x.began < 64 * e)
      | none => true
    { x with excite := exciteSince x.began x.excite, blanks := keep }
  let s := if (s.gauge g).cfg.enable then s else s.updGauge g fun x => x.silent s.now
  let s := s.updGauge g fun x => { x with blanks := noteBlanks s.now (s.blankState g) x.blanks }
  s.tellGauge g

/-- A lead measurement takes an unblanked sample (R310). -/
def Gauge.leadSample (x : Gauge) (p : GaugePeriod) (blanked : Bool) : Gauge :=
  match x.leadRun with
  | none => x
  | some r =>
    let i := f32Rat p.iExc
    let q := f32Rat p.qExc
    let n := i ^ 2 + q ^ 2
    if blanked ∨ n = 0 ∨ 100 ≤ r.count then x
    else
      let a := f32Rat p.iBall - f32Rat p.iSense
      let b := f32Rat p.qBall - f32Rat p.qSense
      { x with leadRun := some { r with count := r.count + 1, sum := r.sum + 1000 * (a * i + b * q) / n } }

/-- GAUGE_SAMPLE: an output period of a running channel ends. -/
def execGaugeSample (c : Fin 8) (cycles : List ModCycle) (s : State) : Answer :=
  .next (
    let g : Nat := c
    let x := s.gauge g
    let stop := x.began + x.period
    if !s.gaugeRuns g || decide (64 * s.now < stop) then s
    else
      let p := x.formed cycles
      -- LIMIT at every output period (R312, R313)
      let clean := if p.clipped then 0 else x.cleanRun + 1
      let s := s.updGauge g fun x =>
        { x with
          limit := p.clipped || (x.limit && decide (clean < 10)), cleanRun := clean, peak := p.peak,
          chain := x.filtered cycles }
      let s := s.tellGauge g
      let x := s.gauge g
      let zeroed := decide (0 < x.zeroLeft)
      let invalid := decide (0 < x.invalidLeft)
      let blanked := x.blankSeen stop
      let ratio := if zeroed then 0 else if blanked then x.lastRatio else x.ratio p
      let value := if zeroed then 0 else if blanked then x.lastValue
        else gaugeValue x.coef (s.gaugeTemp g) ratio
      let ovr := p.saturated || p.clipped || x.vsSmall p || !f32Finite value
      let fault := x.fault != 0
      let time := (stop + 9375 - 17 * x.cfg.decim * 6250) / 64
      let (pos, exc) := s.centreOf g time
      let doc := s.windowDoc g pos
      let flags := invalid.toNat + 2 * blanked.toNat + 4 * exc.toNat + 8 * ovr.toNat + 16 * fault.toNat +
        32 * zeroed.toNat + 64 * doc.isSome.toNat
      let bs := sampleBytes (x.index + 1) flags g x.cfg.bed value ratio pos time
      let s := s.updGauge g fun x =>
        let x := { x with
          index := (x.index + 1) % 2 ^ 32, lastSample := bs,
          invalidLeft := x.invalidLeft - 1, zeroLeft := x.zeroLeft - 1 }
        let x := if invalid || blanked then x else { x with lastRatio := ratio, lastValue := value }
        x.leadSample p blanked
      let s := s.inc 5 g 0 1
      let s := if invalid then s.inc 5 g 1 1 else s
      let s := if blanked then s.inc 5 g 2 1 else s
      let s := if ovr then s.inc 5 g 3 1 else s
      let s := match doc.filter fun d => d.open_ && !d.orphaned with
        | some d => s.windowSample d g
          { centre := pos, value, counted := !(invalid || blanked || exc || ovr || fault), fault }
        | none => s
      let s := s.deliverSample g doc bs
      ((s.driveAouts g fault invalid value).gaugeBoundary g).trimWindows)

/-! Resets (R301, R304, R549). -/

/-- A GAUGE_RESET comparator fires: the event is offered to the crossing; one beyond 7 is counted at its source. -/
def State.gaugeResetFired (s : State) (g : Nat) : State :=
  if ¬ (s.gauge g).cfg.enable ∨ ¬ s.mode.p3 then s
  else if 7 ≤ (s.gauge g).resets.length ∨ (tget ({} : Crossing) s.crossings g).full s.now then s.overrun g 90 1
  else (s.launch g 95 90).updGauge g fun x => { x with resets := x.resets ++ [s.now] }

/-- GAUGE_RESET: the GADC domain takes up the events that have crossed, delivers one and counts the others; on a channel that is
not enabled they have no effect (R301). -/
def execGaugeReset (c : Fin 8) (s : State) : Answer :=
  .next (
    let g : Nat := c
    let x := s.gauge g
    let ready := x.resets.filter fun t => decide (6250 ≤ 32 * (s.now - t))
    let taken := s.updGauge g fun x => { x with resets := x.resets.drop ready.length }
    if ready.isEmpty then s
    else if s.mode.p3 ∧ ¬ x.cfg.enable then taken
    else if ¬ s.gaugeRuns g then s
    else
      let s := taken
      let free := match (tget {} s.crossings g).last with
        | some t => decide (9375 ≤ 32 * (s.now - t))
        | none => true
      if free then
        let s := { s with crossings := tupd {} s.crossings g fun k => { k with last := some s.now } }
        (s.overrun g 90 (ready.length - 1)).gaugeRestart g
      else s.overrun g 90 ready.length)

/-! Impedance checks (R305, R311, R312, R315). -/

/-- GAUGE_CHECK_DUE: a check falls due, or one that waited for the gap may begin. -/
def execGaugeCheckDue (c : Fin 8) (s : State) : Answer :=
  .next (
    let g : Nat := c
    let x := s.gauge g
    let due := match x.checkBegan with
      | some t => decide (t + x.cfg.tonePeriod * 1000000 ≤ s.now)
      | none => true
    let waits := x.cfg.toneInGap && decide (x.cfg.bed < 4) && s.docOpenOn x.cfg.bed
    if !s.gaugeRuns g || x.cfg.tonePeriod == 0 || x.checking || !due || waits then s
    else
      (s.updGauge g fun x =>
        { x.exciteAt (64 * s.now) x.cfg.toneFreq with checking := true, checkBegan := some s.now }).noteBlank)

/-- |Z| in mOhm, rounded down; none when no current flows. -/
def Gauge.impedance (x : Gauge) (p : GaugePeriod) : Option ℚ :=
  let (a, b) := x.vs p
  let n := f32Rat p.iExc ^ 2 + f32Rat p.qExc ^ 2
  if n = 0 then none else some (1000000 * (f32Rat a ^ 2 + f32Rat b ^ 2) / n)

/-- The faults of Table GA-8 that a tone shows. -/
def Gauge.judge (x : Gauge) (p : GaugePeriod) : Gauge :=
  let i2 := f32Rat p.iExc ^ 2 + f32Rat p.qExc ^ 2
  let ball := f32Rat p.iBall ^ 2 + f32Rat p.qBall ^ 2
  let sense := f32Rat p.iSense ^ 2 + f32Rat p.qSense ^ 2
  let z2 := x.impedance p
  { x with
    limit := p.clipped, cleanRun := 0,
    openF := decide (i2 * 5000 ^ 2 < 1) || (match z2 with
      | some z => decide ((x.cfg.zMax : ℚ) ^ 2 < z)
      | none => true),
    short := (match z2 with
      | some z => decide (z < (x.cfg.zMin : ℚ) ^ 2)
      | none => false),
    senseOpen := x.cfg.leadSense && decide (100 * sense < ball),
    zLast := (match z2 with
      | some z => min (isqrt z.floor.toNat) 0xFFFFFFFF
      | none => 0xFFFFFFFF),
    verified := true }

/-- GAUGE_CHECK_END: the tone of a check has lasted TONE_LEN. -/
def execGaugeCheckEnd (c : Fin 8) (cycles : List ModCycle) (s : State) : Answer :=
  .next (
    let g : Nat := c
    let x := s.gauge g
    match x.checkBegan with
    | none => s
    | some t =>
      if !s.gaugeRuns g || !x.checking || decide (s.now < t + x.cfg.toneLen * 1000) then s
      else
        let p := x.toneFormed (64 * s.now) cycles
        let s := (s.updGauge g fun x =>
          { (x.judge p).exciteAt (64 * s.now) x.cfg.freq with
            checking := false, blankUntil := s.now + 100000 }).inc 5 g 4 1
        (s.tellGauge g).noteBlank)

/-- GAUGE_LEAD_DONE: a lead measurement has its 100 samples, or 1 s has passed. -/
def execGaugeLeadDone (c : Fin 8) (s : State) : Answer :=
  .next (
    let g : Nat := c
    match (s.gauge g).leadRun with
    | none => s
    | some r =>
      let ok := decide (100 ≤ r.count)
      if ¬ ok ∧ s.now < r.began + 1000000000 then s
      else
        let v : Nat := if ok then (r.sum / r.count + 1 / 2).floor.toNat else 0
        let store := ok && r.store
        let s := s.updGauge g fun x =>
          let x := { x with leadRun := none, leadResult := if ok then v else x.leadResult }
          if store then
            { x with cfg := { x.cfg with lead := v }, next := x.next.map fun n => { n with lead := v } }
          else x
        s.raise r.cab (s.evGauge 0x0703 g ((!ok).toNat + 2 * store.toNat) (w2 v)))

/-- BLANK_INPUT_CHANGE: a blanking input changes level (R291). -/
def execBlankInputChange (n : Fin 2) (high : Bool) (s : State) : Answer :=
  .next (
    let m := 1#2 <<< n.val
    { s with blank := if high then s.blank ||| m else s.blank &&& ~~~m }.noteBlank)

/-! GAUGE commands. -/

/-- The charter result of GAUGE.CONFIG on the channel at offset 0. -/
def gaugeCharter (s : State) (r : Req) : Option Err :=
  let b := (s.gauge (r.u8 0)).accepted.bed
  need (decide (7 < r.u8 0) || r.cab == 0 || (decide (b < 4) && s.bedAllowed r.cab b)) (eCharter 0)
def gaugeValueCheck (r : Req) : Option Err := need (decide (r.u8 0 ≤ 7)) (eValue 0)
/-- The E_BUSY result of GAUGE.CONFIG for the bed that a channel serves. -/
def gaugeBusy (s : State) (r : Req) : Option Err :=
  let b := (s.gauge (r.u8 0)).accepted.bed
  need (decide (3 < b) || !s.bedHeldByOther r.cab b) (eBusy 1)

/-- The settings of Table GA-5. -/
def Req.gaugeCfg (r : Req) : GaugeCfg :=
  { bed := r.u8 1, enable := bit (r.u8 2) 0, leadSense := bit (r.u8 2) 1, toneInGap := bit (r.u8 2) 2,
    gain := r.u8 3, input := r.u8 4, tempSrc := r.u8 5, blankPins := BitVec.ofNat 2 (r.u8 6),
    toneBlank := BitVec.ofNat 8 (r.u8 7), freq := r.u32 8, ampl := r.u16 0x0C, decim := r.u16 0x0E,
    phase := r.u16 0x10, tFixed := r.s16 0x12, lead := r.u32 0x14, offset := r.pos 0x18, toneFreq := r.u32 0x20,
    tonePeriod := r.u16 0x24, toneLen := r.u16 0x26, zMin := r.u32 0x28, zMax := r.u32 0x2C }

/-- Modes of GAUGE.CONFIG and GAUGE.LINEAR. -/
def mGauge : Mode → Req → Bool := fun m _ => mSet m || m == .capture || m == .paused || m == .drain

def gaugeConfig : Cmd :=
  { op := 0x0701, legal := mGauge, len := lenIs 56,
    charter := fun s r =>
      [need (r.cab == 0 || (r.u8 1 != 0xFF && (decide (3 < r.u8 1) || s.bedAllowed r.cab (r.u8 1)))) (eCharter 1),
       gaugeCharter s r],
    value := fun _ r =>
      let c := r.gaugeCfg
      let decimOk := inR 13 c.decim 32768
      [gaugeValueCheck r, need (decide (c.bed ≤ 3) || c.bed == 0xFF) (eValue 1), need (decide (c.gain ≤ 7)) (eValue 3),
       need (decide (c.input ≤ 1)) (eValue 4), need (decide (c.tempSrc ≤ 4)) (eValue 5),
       need (inR 1000 c.freq 100000 && (!decimOk || decide (1280000 ≤ c.freq * c.decim))) (eValue 8),
       need (inR 100 c.ampl 5000) (eValue 0x0C), need decimOk (eValue 0x0E), need (inI (-640) c.tFixed 2000) (eValue 0x12),
       need (decide (c.lead ≤ 100000) && (!c.leadSense || c.lead == 0)) (eValue 0x14),
       need (inI (-140737488355328) (r.s64 0x18) 140737488355328) (eValue 0x18),
       need (inR 1000 c.toneFreq 100000 && decide (1280000 ≤ c.toneFreq * c.decim)) (eValue 0x20),
       need (c.tonePeriod == 0 || inR 10 c.tonePeriod 10000) (eValue 0x24),
       need (inR 200 c.toneLen 50000 && decide (1000 * c.decim ≤ 128 * c.toneLen)) (eValue 0x26),
       need (c.zMin != 4294967295) (eValue 0x28), need (decide (c.zMin < c.zMax)) (eValue 0x2C)],
    reserved := fun r => [r.bitsBelow 2 3, r.bitsBelow 6 2, r.zero 0x30 8],
    domains := fun s _ => s.enters [90],
    state := fun s r =>
      let o := (s.gauge (r.u8 0)).accepted
      let c := r.gaugeCfg
      let isOpen := fun b => decide (b < 4) && s.docOpenOn b
      [need (!((o.bed != c.bed || o.offset != c.offset || o.enable != c.enable) && (isOpen o.bed || isOpen c.bed)))
        (eState 1)],
    busy := fun s r =>
      [gaugeBusy s r, need (decide (3 < r.u8 1) || !s.bedHeldByOther r.cab (r.u8 1)) (eBusy 1)],
    commit := fun s r =>
      let g := r.u8 0
      let x := s.gauge g
      let c := r.gaugeCfg
      let o := x.accepted
      let inv := o.gain != c.gain || o.input != c.input || o.freq != c.freq || o.phase != c.phase || o.decim != c.decim
      { s :=
          if !o.enable && c.enable then
            -- enabling: a reset of its own (R304), from which the settings apply
            let s := s.updGauge g fun x =>
              { x with cfg := c, next := none, changed := false }.enabled s.now
            ((if s.mode.p3 then s.gaugeRestart g else s).aoutsFault g).tellGauge g
          else if s.gaugeRuns g then s.updGauge g fun x => { x with next := some c, changed := x.changed || inv }
          else
            let s := s.updGauge g fun x => { x with cfg := c, next := none, changed := false }
            (if c.enable then s else s.updGauge g fun x => x.silent s.now).tellGauge g } }

/-- GAUGE.CONFIG (R317, R318). -/
def execGaugeConfig (m : Fin 257) (n : Fin 4) (s : State) : Answer := .next (runCommand gaugeConfig m n s)

def gaugeLinear : Cmd :=
  { op := 0x0702, legal := mGauge, len := lenIs 56,
    charter := fun s r => [gaugeCharter s r],
    value := fun _ r =>
      [gaugeValueCheck r,
       match (List.range 12).find? fun k => !f32Finite (BitVec.ofNat 32 (r.u32 (8 + 4 * k))) with
       | some k => some (eValue (8 + 4 * k))
       | none => none],
    reserved := fun r => [r.zero 1 7],
    domains := fun s _ => s.enters [90],
    busy := fun s r => [gaugeBusy s r],
    commit := fun s r =>
      let c := (List.range 12).map fun k => BitVec.ofNat 32 (r.u32 (8 + 4 * k))
      let runs := s.gaugeRuns (r.u8 0)
      { s := s.updGauge (r.u8 0) fun x => if runs then { x with coefNext := some c } else { x with coef := c, coefNext := none } } }

/-- GAUGE.LINEAR (R319). -/
def execGaugeLinear (m : Fin 257) (n : Fin 4) (s : State) : Answer := .next (runCommand gaugeLinear m n s)

def gaugeLead : Cmd :=
  { op := 0x0703, legal := fun m _ => m == .armed || m == .calibrate, len := lenIs 8,
    charter := fun s r => [gaugeCharter s r],
    value := fun _ r => [gaugeValueCheck r],
    reserved := fun r => [r.bitsBelow 1 1, r.zero 2 6],
    domains := fun s _ => s.enters [90],
    state := fun s r =>
      let x := s.gauge (r.u8 0)
      [need (x.accepted.enable && !(decide (x.accepted.bed < 4) && (s.holderOfBed x.accepted.bed).isSome)) (eState 0)],
    busy := fun s r => [need (s.gauge (r.u8 0)).leadRun.isNone (eBusy 0), gaugeBusy s r],
    commit := fun s r =>
      { s := s.updGauge (r.u8 0) fun x =>
          { x with leadRun := some { cab := r.cab, store := bit (r.u8 1) 0, count := 0, sum := 0, began := s.now } } } }

/-- GAUGE.LEAD (R310). -/
def execGaugeLead (m : Fin 257) (n : Fin 4) (s : State) : Answer := .next (runCommand gaugeLead m n s)

def gaugeDoc : Cmd :=
  { op := 0x0704, legal := fun m _ => mSet m, len := lenIs 16,
    charter := fun s r => [gaugeCharter s r],
    value := fun _ r =>
      [gaugeValueCheck r, need (!bit (r.u8 1) 1 || bit (r.u8 1) 0) (eValue 1), need (r.u16 2 != 0) (eValue 2),
       need (decide (r.u32 4 ≤ 16777215)) (eValue 4), r.bitsBelow 1 2, r.zero 0x0C 4,
       need (!bit (r.u8 1) 1 || f32Finite (BitVec.ofNat 32 (r.u32 8))) (eValue 8)],
    domains := fun s _ => s.enters [90],
    state := fun s r =>
      let b := (s.gauge (r.u8 0)).accepted.bed
      [need (r.u8 1 == 0 || decide (b < 4)) (eState 0), need (!(decide (b < 4) && s.docOpenOn b)) (eState 0)],
    busy := fun s r => [gaugeBusy s r],
    commit := fun s r =>
      { s := s.updGauge (r.u8 0) fun x =>
          { x with
            summary := bit (r.u8 1) 0, df := bit (r.u8 1) 1, dfCount := r.u16 2, trim := r.u32 4,
            dfLimit := BitVec.ofNat 32 (r.u32 8) } } }

/-- GAUGE.DOC (R320). -/
def execGaugeDoc (m : Fin 257) (n : Fin 4) (s : State) : Answer := .next (runCommand gaugeDoc m n s)

def gaugeAout : Cmd :=
  { op := 0x0705, owner := some (dField 0), legal := fun m _ => m.p2 || m.p3, len := lenIs 16,
    value := fun _ r =>
      let span := BitVec.ofNat 32 (r.u32 0x0C)
      [need (decide (r.u8 0 ≤ 3)) (eValue 0), need (decide (r.u8 1 ≤ 8)) (eValue 1),
       need (f32Finite span && f32Rat span != 0) (eValue 0x0C)],
    reserved := fun r => [r.zero 6 2],
    commit := fun s r =>
      let o : Aout :=
        { source := r.u8 1, code := r.u16 2, faultCode := r.u16 4, zero := BitVec.ofNat 32 (r.u32 8),
          span := BitVec.ofNat 32 (r.u32 0x0C) }
      let old : Aout := tget {} s.aouts (r.u8 0)
      let driven := if o.source = 0 then o.code
        else if s.mode.p3 && s.gaugeRuns (o.source - 1) then (if old.source = 0 then old.code else old.driven)
        else o.faultCode
      { s := { s with aouts := tset {} s.aouts (r.u8 0) { o with driven } } } }

/-- GAUGE.AOUT (R325, R326). -/
def execGaugeAout (m : Fin 257) (n : Fin 4) (s : State) : Answer := .next (runCommand gaugeAout m n s)

/-- The status word of Table GA-9. -/
def State.gaugeStatus (s : State) (g : Nat) : Nat :=
  let x := s.gauge g
  x.stateCode + 16 * (s.gaugeRuns g && s.blanking g).toNat + 32 * x.checking.toNat + 64 * (s.gaugeRuns g).toNat +
    128 * (x.cfg.leadSense && x.senseOpen).toNat + 256 * x.disc

def gaugeStatusCmd : Cmd :=
  { op := 0x0706, legal := mAny, len := lenIs 8, long := true,
    charter := fun s r => [gaugeCharter s r],
    value := fun _ r => [gaugeValueCheck r],
    reserved := fun r => [r.zero 1 7],
    commit := fun s r =>
      let x := s.gauge (r.u8 0)
      { s, result := x.lastSample ++ leBytes 4 (s.gaugeStatus (r.u8 0)) ++ leBytes 4 x.zLast ++
          leBytes 4 x.leadResult ++ leBytes 2 x.peak ++ leBytes 2 0 } }

/-- GAUGE.STATUS (R327). -/
def execGaugeStatus (m : Fin 257) (n : Fin 4) (s : State) : Answer := .next (runCommand gaugeStatusCmd m n s)

end Sys2Proof.Machine
end

