-- ==== Sys2Proof/Machine/Link.lean ====
section
/-! DEFINITION. Sending on the Runner link: packets and link control, credits and the retry store on one hop, routing.
Chapter 17. -/

namespace Sys2Proof.Machine

def State.vc (s : State) (p v : Nat) : Vc := tget {} (s.port p).vc v
def State.updVc (s : State) (p v : Nat) (f : Vc → Vc) : State :=
  s.updPort p fun x => { x with vc := tupd {} x.vc v f }

/-- Buffers of this device's receivers (R518). -/
def ownBuffers (v : Nat) : Nat := if v = 0 then 4 else if v = 3 then 8 else 16

/-- The 8-byte header of Table RN-3. -/
def packetHeader (k : Packet) : List Byte :=
  leBytes 8 (k.dest % 2 ^ 10 + k.src % 2 ^ 10 * 2 ^ 10 + k.vc % 4 * 2 ^ 20 + k.type % 2 ^ 6 * 2 ^ 22 +
    k.payload.length % 2 ^ 7 * 2 ^ 28 + k.bcast.toNat * 2 ^ 35 + k.seq % 2 ^ 12 * 2 ^ 36 + k.epoch % 2 ^ 8 * 2 ^ 48 +
    k.hops % 2 ^ 6 * 2 ^ 56)

/-- The bytes of a packet between K27.7 and K29.7: header, payload, and the CRC-32 of both (R515, R382, R2). -/
def packetWire (k : Packet) : List Byte :=
  let bs := packetHeader k ++ k.payload
  bs ++ leBytes 4 (crc32 bs).toNat

/-- Put a packet on a port's line, counted. -/
def State.portSend (s : State) (p : Nat) (k : Packet) : State := (s.push (.run p k (packetWire k))).inc 0x0A p 0 1

/-- Send a link-control packet (R516). -/
def State.control (s : State) (p type : Nat) (payload : List Byte) : State :=
  s.portSend p { type, src := s.nodeId, epoch := s.runEpoch, payload }

/-- Whether a port is trained, so that it carries link control (Table RN-2). -/
def State.trained (s : State) (p : Nat) : Bool :=
  let t := (s.port p).st
  t == 2 || t == 3 || t == 4

/-- Report FREED of every virtual channel (Table RN-4). -/
def State.sendCredit (s : State) (p : Nat) : State :=
  if (s.port p).st = 2 then
    s.control p 0x05 ((List.range 4).flatMap fun v => leBytes 2 (s.vc p v).freedHere)
  else s

/-- Report RECEIVED of VC1 to VC3 (Table RN-4). -/
def State.sendAck (s : State) (p : Nat) : State :=
  if s.trained p then
    s.control p 0x03 ((List.range 3).flatMap (fun v => leBytes 2 (s.vc p (v + 1)).received) ++ leBytes 2 0)
  else s

/-- Release a receive buffer and report it (R518). -/
def State.freeBuf (s : State) (o : Option (Nat × Nat)) : State :=
  match o with
  | none => s
  | some (p, v) => (s.updVc p v fun x => { x with freedHere := (x.freedHere + 1) % 65536 }).sendCredit p

/-- Credits a sender holds (R518). -/
def Vc.credits (x : Vc) : Nat := x.buffers - (x.sent + 65536 - x.freed) % 65536

/-- A time added to CORRECTION of a SYNC, in ns (R538). A packet that waits carries its CORRECTION less the time of its
arrival, modulo 2^32. -/
def addCorr (k : Packet) (d : Int) : Packet :=
  { k with payload := patch k.payload 8 (leBytes 4 (((fieldU k.payload 8 4 : Int) + d) % 2 ^ 32).toNat) }

/-- Send on a virtual channel what credit allows, the first packet numbered 1 (Table RN-13; DEDUCED, log 94): first what is replayed after a CREDIT_SYNC, then what waits, in order
(R517 to R519); no timebase packet in KEEP, nor below code 2 (R60, R538). -/
def State.pump (fuel : Nat) (p v : Nat) (s : State) : State :=
  match fuel with
  | 0 => s
  | fuel + 1 =>
    let x := s.vc p v
    if (s.port p).st ≠ 2 ∨ x.credits = 0 ∨ (v = 0 ∧ (s.mode = .keep ∨ (s.port p).rate < 2)) then s
    else if 0 < x.replay then
      match x.retry[x.retry.length - x.replay]? with
      | none => s.updVc p v fun x => { x with replay := 0 }
      | some (_, k) =>
        let s := s.updVc p v fun x => { x with sent := (x.sent + 1) % 65536, replay := x.replay - 1 }
        State.pump fuel p v ((s.portSend p k).inc 0x0A p 4 1)
    else
      match x.waiting with
      | [] => s
      | (o, k) :: rest =>
        let k := if v = 0 then addCorr k (s.now * 256 : Nat) else { k with seq := (x.count + 1) % 4096 }
        let s := s.updVc p v fun x =>
          { x with
            waiting := rest, sent := (x.sent + 1) % 65536, count := x.count + 1,
            retry := if v = 0 then [] else x.retry ++ [(x.count, k)] }
        State.pump fuel p v ((s.portSend p k).freeBuf o)

def State.pumped (s : State) (p v : Nat) : State :=
  let x := s.vc p v
  State.pump (x.replay + x.waiting.length) p v s

/-- Hand a packet to a port: sent as credit allows while ACTIVE; in RETRY, VC0 is discarded, VC2 waits in a store of 64
and beyond it is discarded and counted, VC1 and VC3 wait (R527). -/
def State.enqueue (s : State) (p : Nat) (o : Option (Nat × Nat)) (k : Packet) : State :=
  let v := k.vc
  let add (o : Option (Nat × Nat)) (s : State) : State :=
    s.updVc p v fun x => { x with waiting := x.waiting ++ [(o, k)] }
  let t := (s.port p).st
  if t = 2 then
    (if v = 0 ∧ (s.mode = .keep ∨ (s.port p).rate < 2) then s.freeBuf o else (add o s).pumped p v)
  else if t = 5 ∧ v = 2 then
    (if (s.vc p 2).waiting.length < 64 then (add none s).freeBuf o
     else (s.inc 0x0A p 7 1).freeBuf o)
  else if t = 5 ∧ v ≠ 0 then add o s
  else s.freeBuf o

/-- Pass on a packet that came in on a port, unless it has made 32 transmissions (R516). -/
def State.forward (s : State) (arr : Nat) (o : Option (Nat × Nat)) (p : Nat) (k : Packet) : State :=
  if 32 ≤ k.hops then (s.inc 0x0A arr 5 1).freeBuf o else s.enqueue p o { k with hops := k.hops + 1 }

def State.node (s : State) (id : Nat) : Option Node := tget none s.nodes id

/-- The port toward a node: the child port behind which it lies, otherwise the parent port (R526); only an ACTIVE port, or
one in RETRY, leads to a node (R525, R527). -/
def State.routeTo (s : State) (id : Nat) : Option Nat :=
  match s.node id with
  | some n => if (s.port n.port).st = 2 ∨ (s.port n.port).st = 5 then some n.port else s.parent
  | none => s.parent

/-- A packet for no node of the partition is discarded; a response so lost is counted at the port where it, or its
request, came in (R526, Table RN-5, item 6). -/
def State.discard (s : State) (o : Option (Nat × Nat)) (k : Packet) : State :=
  let s := match o with
    | some (p, _) => if k.type = 0x20 then s.inc 0x0A p 7 1 else s
    | none => s
  s.freeBuf o

/-- Send a packet of this node toward its destination. -/
def State.sendPkt (s : State) (o : Option (Nat × Nat)) (k : Packet) : State :=
  match s.routeTo k.dest with
  | some p => s.enqueue p o { k with src := s.nodeId, epoch := s.runEpoch, hops := 1 }
  | none => s.discard o k

/-- Ports down which a broadcast goes: every ACTIVE port but that of arrival; one in RETRY holds it as R527 says. -/
def State.treePorts (s : State) (arr : Option Nat) : List Nat :=
  (List.range 4).filter fun p => ((s.port p).st == 2 || (s.port p).st == 5) && some p != arr

/-- Broadcast a packet of this node. -/
def State.broadcast (s : State) (k : Packet) : State :=
  forEach (s.treePorts none)
    (fun p s => s.enqueue p none { k with src := s.nodeId, epoch := s.runEpoch, hops := 1, bcast := true, dest := 0 }) s

/-- Pass a broadcast on down some ports; the buffer it came in is free once it has been handed to every one. A packet that
has made 32 transmissions goes nowhere and is counted once (R516). -/
def State.rebroadcast (s : State) (arr : Nat) (o : Option (Nat × Nat)) (ps : List Nat) (k : Packet) : State :=
  let s :=
    if ps = [] then s
    else if 32 ≤ k.hops then s.inc 0x0A arr 5 1
    else forEach ps (fun p s => s.enqueue p none { k with hops := k.hops + 1, bcast := true, dest := 0 }) s
  s.freeBuf o

/-- Whether a cabinet's charter allows a node; NODE_LO and NODE_HI 0xFFFF allow none (Table CB-3). -/
def State.nodeAllowed (s : State) (c id : Nat) : Bool :=
  decide (id ≤ 1023) && inR (s.entry c).nodeLo id (s.entry c).nodeHi

/-- Cabinets that the events about a node go to (R543): cabinet 0 and each whose node range holds it. -/
def State.nodeCabs (s : State) (id : Nat) : List Nat := s.enabledCabs.filter fun c => c == 0 || s.nodeAllowed c id

/-- Whether this node follows itself (R524). -/
def State.isRoot (s : State) : Bool := s.parent.isNone

/-- The incarnation as IDENT carries it. -/
def State.inc32 (s : State) : Nat := s.incarnation % 2 ^ 32

end Sys2Proof.Machine
end

