-- ==== Sys2Proof/Machine/Inventory.lean ====
section
/-! DEFINITION. Units and counters, inventory snapshots, discovery and the node and partner table, SERVICE diagnostics.
Chapters 01 and 20. -/

namespace Sys2Proof.Machine

/-! Units (R587, R588). -/

/-- Counters of a class (Table IN-4). -/
def classCount (cls : Nat) : Nat := [0, 16, 2, 7, 9, 7, 6, 7, 28, 9, 12, 6, 2, 2, 13, 19].getD cls 0

/-- Instances of a class (Table IN-4). -/
def classUnits (cls : Nat) : Nat := [0, 4, 32, 32, 8, 8, 4, 16, 256, 4096, 4, 2, 102, 2, 1, 1].getD cls 0

/-- Domain in which the counters of a unit lie (DEDUCED, log 28). -/
def unitDomain (cls i : Nat) : Nat :=
  if cls = 1 then 66 + i else if cls = 2 then 34 + i else if cls = 3 then 66 + i / 8 else if cls = 4 then 74 + i
  else if cls = 5 then 90 else if cls = 6 then 95 else if cls = 7 then 4 + i else if cls = 8 then 3
  else if cls = 9 then 96 else if cls = 0xA then 26 + i else if cls = 0xB then 23 + i
  else if cls = 0xD then 20 + i else 99

/-- CHANNEL driving a bed or an axis that a cabinet is allowed (R588, R591); every bed has its channel (Table TB-4). -/
def State.chanAllowed (s : State) (c ch : Nat) : Bool :=
  c == 0 ||
  (List.range 4).any (fun b => (s.bed b).chan == ch && s.bedAllowed c b) ||
  (List.range 8).any fun a => s.axisAllowed c a && (match (s.axis a).gear with
    | some g => g.master == ch
    | none => false)

/-- The units a cabinet may read (R588). -/
def State.mayRead (s : State) (c cls i : Nat) : Bool :=
  c == 0 ||
  (cls == 1 && s.bedAllowed c i) || ((cls == 2 || cls == 3) && s.bedAllowed c (i / 8)) ||
  (cls == 4 && s.axisAllowed c i) ||
  (cls == 5 && decide ((s.gauge i).accepted.bed < 4) && s.bedAllowed c (s.gauge i).accepted.bed) ||
  (cls == 6 && s.chanAllowed c i) ||
  (cls == 7 && decide (s.plotBed i < 4) && s.bedAllowed c (s.plotBed i)) ||
  (cls == 8 && i == c) || (cls == 9 && i / 16 == c)

/-- The junction (R580): the highest of the four sensors. -/
def State.junctionMax (s : State) : Int :=
  (List.range 3).foldl (fun m i => max m (tget 0 s.junction (i + 1))) (tget 0 s.junction 0)

/-- The readings of class MONITOR (R587). -/
def State.readings (s : State) : List Int :=
  [s.junctionMax] ++ (List.range 4).map (fun i => tget 0 s.junction i) ++
    (List.range 4).map (fun b => (s.bed b).temp) ++
    [((s.supply 0).mv : Int), ((s.supply 9).mv : Int)] ++
    (List.range 8).map fun i => ((s.supply (1 + i)).mv : Int)

/-- A block of 8-byte entries: counters of a unit from a table, or readings. -/
def blockOf (cls i : Nat) (t : Tab (BitVec 48)) (mon : List Int) : List Byte :=
  if cls = 0xF then mon.flatMap fun v => leInt 8 v
  else (List.range (classCount cls)).flatMap fun k => leBytes 8 (tget 0 t (ctrKey cls i k)).toNat

/-! INV.READ (R589). -/

/-- The snapshot of a name: the newest taken (R597). -/
def State.findSnap (s : State) (origin id : Nat) : Option Nat :=
  (List.range 8).foldl (fun best k =>
    let x := s.snap k
    if x.phase = 2 ∧ x.origin = origin ∧ x.id = id then
      match best with
      | some j => if (s.snap j).order < x.order then some k else best
      | none => some k
    else best) none

/-- The header of Table IN-6. -/
def invHeader (r : Req) (flags epoch : Nat) (pos : Pos) (time : Nat) : List Byte :=
  leBytes 1 (r.u8 0) ++ leBytes 1 flags ++ leBytes 2 (r.u16 2) ++ leBytes 2 (classCount (r.u8 0)) ++
    leBytes 2 (r.u16 4) ++ leBytes 1 (r.u8 6) ++ leBytes 3 0 ++ leBytes 4 epoch ++ leBytes 8 pos.toNat ++
    leBytes 8 time

/-- What INV.READ writes: header and block. -/
def State.invBytes (s : State) (r : Req) : List Byte :=
  let cls := r.u8 0
  let i := r.u16 2
  let d := unitDomain cls i
  if r.u8 1 = 0 then
    invHeader r (s.clkStopped d).toNat s.epoch 0 s.now ++ blockOf cls i s.counters s.readings
  else
    match s.findSnap (r.u16 4) (r.u8 6) with
    | none => []
    | some k =>
      let x := s.snap k
      let fl := (x.stopped.contains d).toNat + 2 * (x.missed.contains d).toNat + 4 * x.late.toNat
      invHeader r fl x.epoch x.position x.timestamp ++ blockOf cls i x.latched x.monitor

/-- INV.READ's checks; the ranges that R589 does not list come after those it lists, in the order of Table IN-5. -/
def invRead : Cmd :=
  { op := 0x0B02, writes := true, legal := mAny, len := lenIs 24,
    charter := fun s r => [need (s.mayRead r.cab (r.u8 0) (r.u16 2)) (eCharter 0)],
    value := fun _ r =>
      [need (inR 1 (r.u8 0) 15) (eValue 0), need (decide (r.u16 2 < classUnits (r.u8 0))) (eValue 2),
       need (decide (r.u8 1 ≤ 1)) (eValue 1), r.zero 7 1, r.zero 0x14 4,
       need (decide (32 ≤ r.u32 0x10)) (eValue 0x10),
       need (decide (r.u16 4 ≤ 1023) && (r.u8 1 == 1 || r.u16 4 == 0)) (eValue 4),
       need (r.u8 1 == 1 || r.u8 6 == 0) (eValue 6), need (r.u64 8 % 8 == 0) (eValue 8)],
    domains := fun s r => s.enters [unitDomain (r.u8 0) (r.u16 2)],
    state := fun s r => [need (r.u8 1 == 0 || (s.findSnap (r.u16 4) (r.u8 6)).isSome) (eState 6)],
    commit := fun s r =>
      let bs := s.invBytes r
      { s, result := leBytes 4 bs.length, writes := [(r.u64 8, bs.take (r.u32 0x10))] } }

/-- INV.READ (R586 to R589). -/
def execInvRead (m : Fin 257) (n : Fin 4) (s : State) : Answer := .next (runCommand invRead m n s)

/-! Snapshots (R590 to R597). -/

/-- Domains that hold counters. -/
def counterDomains : List Nat :=
  [3, 20, 21, 23, 24, 90, 95, 96, 99] ++ (List.range 16).map (· + 4) ++ (List.range 4).map (· + 26) ++
    (List.range 32).map (· + 34) ++ (List.range 4).map (· + 66) ++ (List.range 8).map (· + 74)

/-- The pulse of a snapshot goes to a domain whose clock is good; the domains that it does not reach are gathered (R549,
R593). Crossing 16 + d carries it to domain d; TB itself it reaches at once. -/
def State.snapPulse (s : State) (d : Nat) (missed : List Nat) : State × List Nat :=
  if d = 95 then (s, if s.clkOk d then missed else missed ++ [d])
  else if !s.clkOk d then (s.overrun (16 + d) d 1, missed ++ [d])
  else
    let (s, carried) := s.pulse (16 + d) 95 d
    (s, if carried then missed else missed ++ [d])

/-- The domain of a counter, from its place. -/
def keyDomain (k : Nat) : Nat := unitDomain (k / 2 ^ 24) (k / 2 ^ 8 % 2 ^ 16)

/-- Latch every counter and reading: a unit not reached keeps its latch from before, a stopped one gives its stop copy
(R586, R592, R593). -/
def State.latchAll (s : State) (missed : List Nat) : State :=
  let now := s.counters.filter fun (k, _) => !missed.contains (keyDomain k)
  let old := s.latches.filter fun (k, _) => missed.contains (keyDomain k)
  { s with
    latches := now.foldl (fun t (k, v) => tset 0 t k v) old,
    latchMon := if missed.contains 99 then s.latchMon else s.readings }

/-- Where a snapshot's events go (R597). -/
def Snap.dest (x : Snap) : List Nat := if x.isLocal ∧ x.cabinet ≠ 0 then [0, x.cabinet] else [0]

/-- A snapshot fires (R592): every unit latches, and SNAP_TAKEN is written. -/
def State.takeSnap (s : State) (slot : Nat) (late : Bool) : State :=
  let stopped := counterDomains.filter fun d => s.clkStopped d
  let live := counterDomains.filter fun d => !s.clkStopped d
  let (s, missed) := live.foldl (fun (x : State × List Nat) d => x.1.snapPulse d x.2) (s, [])
  let s := s.latchAll missed
  let x := s.snap slot
  let s := { s with snapOrder := s.snapOrder + 1 }.updSnap slot fun x =>
    { x with
      phase := 2, late, epoch := s.epoch, position := s.chanPos x.chan, timestamp := s.now, order := s.snapOrder + 1,
      latched := s.latches, monitor := s.latchMon, missed, stopped }
  (s.inc 0x0E 0 11 1).raiseTo x.dest
    (s.evChan 0x0B01 0xFF x.id x.chan (w2 (x.origin + late.toNat * 65536)))

/-- The slot a new snapshot takes: a free one, else that of the oldest taken; none while all 8 are armed (R594). -/
def State.snapSlot (s : State) : Option Nat :=
  match (List.range 8).find? fun k => (s.snap k).phase = 0 with
  | some k => some k
  | none => (List.range 8).foldl (fun best k =>
      if (s.snap k).phase ≠ 2 then best
      else match best with
        | some j => if (s.snap k).order < (s.snap j).order then some k else best
        | none => some k) none

/-- Arm a snapshot in a slot on a comparator, or fire it at once with LATE when its target has been reached (R592). -/
def State.armSnap (s : State) (slot k owner ch dir : Nat) (target : Pos) (x : Snap) : State :=
  let s := s.updSnap slot fun _ => { x with phase := 1, chan := ch }
  if reachedIn dir (s.chanPos ch) target then
    (s.inc 6 ch 5 1).takeSnap slot true
  else s.arm k
    { owner, chan := ch, action := 9, arg := BitVec.ofNat 32 slot, dir, notify := false, target, period := 0,
      below := false, use := .snap slot }

/-- The master's channel that a channel of this node follows, or is on the master (R595). -/
def State.masterChan (s : State) (ch : Nat) : Nat :=
  if (s.chan ch).source = .remote then (s.chan ch).unit else ch

def invSnap : Cmd :=
  { op := 0x0B01, legal := fun m _ => m.p3, len := lenIs 24,
    charter := fun s r =>
      [need (decide (3 < r.u8 0) || s.chanAllowed r.cab (r.u8 0)) (eCharter 0),
       need (!bit (r.u8 1) 3 || r.cab == 0) (eCharter 1)],
    value := fun _ r => [need (decide (r.u8 0 ≤ 3)) (eValue 0), need (r.u8 1 % 4 != 3) (eValue 1)],
    reserved := fun r => [r.bitsBelow 1 4, r.zero 2 6, r.zero 0x10 8],
    domains := fun s _ => s.enters [95],
    state := fun s r =>
      let ch := r.u8 0
      [need ((s.chan ch).source != .none) (eState 0),
       need (bit (r.u8 1) 2 || !reachedIn (r.u8 1 % 4) (s.chanPos ch) (r.pos 8)) (eState 8),
       need (!bit (r.u8 1) 3 || (s.chan ch).source == .remote || ((s.chan ch).exported && s.isRoot)) (eState 0)],
    quota := fun s r => [need (decide (s.hostHeld r.cab < 16)) eQuota],
    resource := fun s _ => [need s.freeHost.isSome eResource, need s.snapSlot.isSome eResource],
    commit := fun s r =>
      let id := s.snapNext % 256
      match s.snapSlot, s.freeHost with
      | some slot, some k =>
        let s := { s with snapNext := s.snapNext + 1 }
        let body := leBytes 1 id ++ leBytes 1 (s.masterChan (r.u8 0)) ++ leBytes 1 (r.u8 1 % 8) ++ leBytes 5 0 ++
          leBytes 8 (r.u64 8)
        let s := if bit (r.u8 1) 3 then s.broadcast { type := 0x2A, vc := 3, payload := body } else s
        { s := s.armSnap slot k r.cab (r.u8 0) (r.u8 1 % 4) (r.pos 8)
            { origin := s.nodeId, id, cabinet := r.cab, isLocal := true },
          result := leBytes 2 s.nodeId ++ leBytes 1 id }
      | _, _ => { s } }

/-- INV.SNAP (R590 to R595). -/
def execInvSnap (m : Fin 257) (n : Fin 4) (s : State) : Answer := .next (runCommand invSnap m n s)

/-! Discovery (R32, R33). -/

/-- Cabinets that a discovery result goes to, and may read it (R33, R34): those of an absent node are the cabinets whose
range holds the node last found at its port (DESIGN CHOICE, log 29). -/
def State.partnerCabs (s : State) (kind idx : Nat) (p : Partner) : List Nat :=
  if kind ≤ 1 then s.bedCabs (idx / 8)
  else if kind = 2 then s.axisCabs (idx / 2)
  else if kind = 3 then
    (if (s.gauge idx).accepted.bed < 4 then s.bedCabs (s.gauge idx).accepted.bed else [0])
  else if kind = 4 then s.nodeCabs p.node
  else [0]

/-- Keep a discovery result in the node and partner table and write DISCOVERY (R33). -/
def State.found (s : State) (kind idx outcome value : Nat) : State :=
  let node := if kind = 4 ∧ outcome = 1 then value else (tget {} s.partners (partnerKey kind idx)).node
  let p : Partner := { known := true, outcome, value := BitVec.ofNat 32 value, timestamp := s.now, node }
  let s := { s with partners := tset {} s.partners (partnerKey kind idx) p }
  s.raiseTo (s.partnerCabs kind idx p) (s.ev 0x0E01 kind idx (w2 (outcome + value % 2 ^ 32 * 2 ^ 32)))

/-- The reading of a partner; none where the discovery gave none. -/
def readingOf (fs : List Found) (kind idx : Nat) : Option Found :=
  fs.find? fun f => f.kind.val = kind ∧ f.index = idx

/-- One value of a partner's readings: one that is not given is 0 (DESIGN CHOICE, log 29). -/
def readAt (f : Option Found) (list k : Nat) : Int :=
  match f with
  | some f => (f.readings.getD list []).getD k 0
  | none => 0

/-- A list of a partner's readings. -/
def readList (f : Option Found) (list : Nat) : List Int :=
  match f with
  | some f => f.readings.getD list []
  | none => []

/-- Whether a tap responds: its means with SP low and with SP running, at GAIN 512 and OFFSET 0, differ by 16 LSB or more
(R132). -/
def tapResponds (low running : List Int) : Bool :=
  let sum := fun (vs : List Int) => vs.foldl (fun n v => n + convert { gain := 512, offset := 0 } v) 0
  let n := low.length * running.length
  let a := sum running * low.length
  let b := sum low * running.length
  decide (0 < n) && decide (16 * n ≤ max a b - min a b)

/-- Segment interface 8 b + i (R132, R133). -/
def State.foundSegment (s : State) (i : Nat) (f : Option Found) : State :=
  let taps := (List.range 4).foldl (fun m t =>
    if tapResponds (readList f (2 * t + 1)) (readList f (2 * t + 2)) then m + 2 ^ t else m) 0
  let vref := (readAt f 0 0).toNat % 65536
  let n := ((List.range 4).filter fun t => bit taps t).length
  let ok := inR 800 vref 2200
  let code := if ok then (if n = 4 then 1 else if n = 0 then 5 else 2) else if n = 0 then 3 else 4
  let b := i / 8
  let m : BitVec 8 := 1#8 <<< (i % 8)
  let s := s.updBed b fun x =>
    { x with segBad := if code ≠ 1 ∧ x.segMask.getLsbD (i % 8) then x.segBad ||| m else x.segBad &&& ~~~m }
  (s.inc 2 i 1 1).found 0 i code (taps + vref * 65536)

/-- LED sink 8 b + c (R171). -/
def State.foundLed (s : State) (i : Nat) (f : Option Found) : State :=
  let b := i / 8
  let vled : Int := (s.supply (5 + b)).mv
  let pin := readAt f 0 0
  let code := if vled < 4500 then 0 else if pin < 200 then 2 else if vled - pin < 500 then 3 else 1
  let vf := (vled - pin).toNat
  let s := s.updBed b fun x =>
    { x with leds := tupd {} x.leds (i % 8) fun l =>
        { l with disc := code, vf := if code = 1 then vf else l.vf } }
  s.found 1 i code (if code = 1 then vf else 0)

/-- The neighbour-short test of the beds whose VLEDb reads below 1.0 V: the pair of sinks i and i + 1 is marked when the ball
of either rises above 0.5 V while 1 mA is sourced into the other (R172, R173). -/
def State.neighbourTests (s : State) (fs : List Found) : State :=
  let ran (b : Nat) : Bool := decide ((s.supply (5 + b)).mv < 1000)
  let rose (i k : Nat) : Bool := ran (i / 8) && decide (500 < readAt (readingOf fs 1 i) 1 k)
  let path (i : Nat) : Bool := decide (i < 31) && (rose i 1 || rose (i + 1) 0)
  forEach (List.range 4) (fun b s => s.updBed b fun x =>
    { x with
      ntestRun := ran b,
      leds := (List.range 8).foldl (fun t c => tupd {} t c fun l =>
        { l with neighbour := path (8 * b + c) || (decide (0 < 8 * b + c) && path (8 * b + c - 1)) }) x.leds }) s

/-- The servo update of a coil check at which D stops rising, D being 4 k at update k: the sampled current reaches 100 mA,
or the mean voltage 2.0 V (R259). VM is at least 8.0 V. -/
def coilStop (vm : Nat) (currents : List Int) : Nat :=
  ((List.range 257).find? fun k =>
    decide (100 ≤ currents.getD k 0) || decide (2000 * 4096 ≤ vm * (4 * k))).getD 256

/-- Outcome and resistance in mOhm of a coil phase (R259, Table CD-6): R = V / I - 0.30 over the 80 updates held. An R above
50 Ohm that no row of the table takes is PRESENT, reported as 50,000 (DESIGN CHOICE, log 91). -/
def coilCode (vm : Nat) (f : Option Found) : Nat × Nat :=
  let currents := readList f 0
  let k := coilStop vm currents
  let held := (List.range 80).foldl (fun n j => n + (currents.getD (k + 1 + j) 0).toNat) 0
  let r := if held = 0 then 50000 else vm * (4 * k) * 80000 / (4096 * held) - 300
  if vm < 8000 then (0, 0)
  else if held < 40 * 80 ∧ 2000 * 4096 ≤ vm * (4 * k) then
    (if (readList f 1).any fun v => v != 0 then (4, 0) else (2, 0))
  else if r < 100 then (3, 0)
  else (1, min r 50000)

def State.foundCoil (s : State) (i : Nat) (f : Option Found) : State :=
  let a := i / 2
  let (code, r) := coilCode (s.supply (1 + a / 2)).mv f
  let up (p : Phase) : Phase := { p with disc := code, rcoil := if code = 1 then r else p.rcoil }
  let s := s.updAxis a fun x => if i % 2 = 0 then { x with phA := up x.phA } else { x with phB := up x.phB }
  let s := s.updAxis a fun x =>
    { x with mismatch := x.phA.disc == 1 && x.phB.disc == 1 &&
        decide (min x.phA.rcoil x.phB.rcoil < 5 * (max x.phA.rcoil x.phB.rcoil - min x.phA.rcoil x.phB.rcoil)) }
  s.found 2 i code r

/-- A gauge channel (R316); its impedance is free where no reading is given (DESIGN CHOICE, log 29). -/
def State.foundGauge (s : State) (g : Nat) (f : Option Found) : State :=
  let (s, z) := match f with
    | some _ => (s, min (readAt f 0 0).toNat 0xFFFFFFFF)
    | none => (s.draw, s.drawn.toNat % 2 ^ 32)
  let cfg := (s.gauge g).cfg
  let code := if z < cfg.zMin then 3 else if cfg.zMax < z then 2 else 1
  (s.updGauge g fun x => { x with disc := code, zLast := z }).found 3 g code (if code = 1 then z else 0)

/-- The neighbour a Runner port trained with, or none. The spec numbers no outcome of a node: PRESENT 1 and ABSENT 2 as
Table GA-9 has them, and an absent node's value is 0xFFFF, as RUN_PORT has it (DESIGN CHOICE, log 29). -/
def State.foundNode (s : State) (p : Nat) : State :=
  match (s.port p).peer with
  | some q => s.found 4 p 1 q.node
  | none => s.found 4 p 2 0xFFFF

/-- Whether a PCIe function is enabled: function 0, or a virtual function of a cabinet (R503). -/
def State.fnEnabled (s : State) (f : Nat) : Bool :=
  f == 0 || (s.vfEnabled && s.enabledCabs.any fun c => s.fnOfCab c == some f)

/-- Host functions: those of the charter, and those found before; PRESENT 1 while enabled, ABSENT 2 otherwise (R33, R503;
the codes log 29). -/
def State.foundFunctions (s : State) : State :=
  let fns := (List.range 256).filter fun f =>
    f == 0 || (s.enabledCabs.any fun c => s.fnOfCab c == some f) || (tget {} s.partners (partnerKey 5 f)).known
  forEach fns (fun f s => s.found 5 f (if s.fnEnabled f then 1 else 2) 0) s

/-- The discovery of every partner kind (R32). -/
def State.discover (s : State) (fs : List Found) : State :=
  let s := forEach (List.range 32) (fun i s => s.foundSegment i (readingOf fs 0 i)) s
  let s := forEach (List.range 32) (fun i s => s.foundLed i (readingOf fs 1 i)) s
  let s := s.neighbourTests fs
  let s := forEach (List.range 16) (fun i s => s.foundCoil i (readingOf fs 2 i)) s
  let s := forEach (List.range 8) (fun g s => s.foundGauge g (readingOf fs 3 g)) s
  let s := forEach (List.range 4) (fun p s => s.foundNode p) s
  s.foundFunctions

/-- An axis whose coils a check moves, one whose VMk reads 8.0 V or more, loses its position; with CONFIRM the confirmation
50 ms later decides (R259, R260). -/
def State.coilLost (s : State) (a : Nat) : State :=
  if (s.supply (1 + a / 2)).mv < 8000 then s
  else if (s.axis a).confirm then s.updAxis a fun x => { x with confirmAt := some (s.now + 50000000) }
  else s.setLost a

def State.coilsLost (s : State) : State := forEach (List.range 8) (fun a s => s.coilLost a) s

def diagDiscover (fs : List Found) : Cmd :=
  { op := 0x0E01, owner := some (dSubject 2), legal := fun m _ => m == .idle || m == .service, len := lenIs 8,
    reserved := fun r => [r.zero 0 8],
    domains := fun s _ => s.starts ((List.range 36).map (· + 34) ++ (List.range 17).map (· + 74)),
    busy := fun s _ => [need s.diag.isNone (eBusy 0)],
    commit := fun s _ => { s := (s.discover fs).coilsLost } }

/-- DIAG.DISCOVER (R32, R260). -/
def execDiagDiscover (m : Fin 257) (n : Fin 4) (fs : List Found) (s : State) : Answer :=
  .next (runCommand (diagDiscover fs) m n s)

/-! INV.PARTNERS (R599). -/

/-- The entries a cabinet sees (R34). -/
def State.partnersOf (s : State) (c : Nat) : List Byte :=
  let ps := s.partners.filter fun (k, p) => c == 0 || (s.partnerCabs (k / 65536) (k % 65536) p).contains c
  leBytes 4 ps.length ++ leBytes 12 0 ++ ps.flatMap fun (k, p) =>
    leBytes 1 (k / 65536) ++ leBytes 1 (k % 65536) ++ leBytes 1 p.outcome ++ leBytes 1 0 ++ leBytes 4 p.value.toNat ++
      leBytes 8 p.timestamp

def invPartners : Cmd :=
  { op := 0x0B03, writes := true, legal := mAny, len := lenIs 16,
    value := fun _ r => [need (decide (16 ≤ r.u32 8)) (eValue 8)],
    reserved := fun r => [r.zero 0x0C 4],
    commit := fun s r =>
      let bs := s.partnersOf r.cab
      { s, result := leBytes 4 bs.length, writes := [(r.u64 0, bs.take (r.u32 8))] } }

/-- INV.PARTNERS (R34, R599). -/
def execInvPartners (m : Fin 257) (n : Fin 4) (s : State) : Answer := .next (runCommand invPartners m n s)

/-! SERVICE diagnostics (R598). -/

/-- Result bytes of a test (Table IN-9). -/
def diagSize (test : Nat) : Nat := [0, 8, 8, 64, 4, 8, 12].getD test 0

/-- Units of a test. -/
def diagUnits (test : Nat) : Nat := [0, 32, 8, 8, 16, 4, 1].getD test 0

/-- Whether ARG is within its range. -/
def diagArg (test arg : Nat) : Bool :=
  if test = 1 then inR 1 (arg / 65536) 10000 else if test = 5 then inR 1 arg 10000 else arg == 0

/-- Whether the unit is in a state that Table IN-9 allows. -/
def State.diagUnitOk (s : State) (test u : Nat) : Bool :=
  if test = 1 then !s.inhibited (u / 8) (u % 8)
  else if test = 5 then (s.port u).st == 0 || (s.port u).st == 3
  else true

def diagRun : Cmd :=
  { op := 0x0E02, owner := some (dSubject 2), legal := fun m _ => m == .service, len := lenIs 24,
    value := fun _ r =>
      [need (inR 1 (r.u8 0) 6) (eValue 0), need (decide (r.u8 1 < diagUnits (r.u8 0))) (eValue 1),
       need (diagArg (r.u8 0) (r.u32 4)) (eValue 4), need (decide (diagSize (r.u8 0) ≤ r.u32 0x10)) (eValue 0x10)],
    reserved := fun r => [r.zero 2 2, r.zero 0x14 4],
    domains := fun s r => s.starts (diagDomains (r.u8 0) (r.u8 1)),
    state := fun s r => [need (s.diagUnitOk (r.u8 0) (r.u8 1)) (eState 1)],
    busy := fun s _ => [need s.diag.isNone (eBusy 0)],
    commit := fun s r =>
      { s := { s with diag := some { test := r.u8 0, unit := r.u8 1, arg := BitVec.ofNat 32 (r.u32 4),
                                     addr := BitVec.ofNat 64 (r.u64 8), mbx := r.m } } } }

/-- DIAG.RUN (R598). -/
def execDiagRun (m : Fin 257) (n : Fin 4) (s : State) : Answer := .next (runCommand diagRun m n s)

/-- What a test leaves beside its result: COIL costs the axis its position (R260). -/
def State.diagEffect (s : State) (d : Diag) : State :=
  if d.test = 2 then s.coilLost d.unit else s

/-- The result a test gives: what it measured, with what the state itself holds (Table IN-9). -/
def State.diagResult (s : State) (d : Diag) (data : List Byte) : List Byte :=
  if d.test = 1 then padTo 4 data ++ leBytes 1 (((s.bed (d.unit / 8)).led (d.unit % 8)).stateCode) ++ leBytes 3 0
  else if d.test = 4 then
    leBytes 4 (((List.range 17).filter fun t => bit (fieldU data 0 4) t).foldl (fun n t => n + 2 ^ t) 0)
  else if d.test = 6 then
    leBytes 4 ((List.range 32768).filter fun p => !inR 0 p 255 && s.pageCommits p).length ++ padTo 4 (data.drop 4) ++
      leBytes 4 (s.nvsBad.filter fun p => decide (256 ≤ p)).length
  else padTo (diagSize d.test) data

/-- Whether the test in progress hangs in a domain whose clock has failed and is not yet held in reset (R554, R557). -/
def State.diagHangs (s : State) (d : Diag) : Bool :=
  (diagDomains d.test d.unit).any fun k => (s.clock k).failed && !(s.clock k).held

/-- DIAG_DONE: the test ends; its result is written and then told. -/
def execDiagDone (data : List Byte) (s : State) : Answer :=
  .next (
    match s.diag with
    | none => s
    | some d =>
      if s.diagHangs d then s else
      let s := s.diagEffect d
      let bs := s.diagResult d data
      let s := ({ s with diag := none }.deliver d.mbx [(d.addr.toNat, bs)]).1
      s.raise 0 (s.ev 0x0E02 d.unit d.test (w2 bs.length)))

end Sys2Proof.Machine
end

