-- ==== Sys2Proof/Machine/Timebase.lean ====
section
/-! DEFINITION. The timebase: DEV.TBSET, DEV.TBREAD, DEV.COMPARE and DEV.DISARM, encoder edges, the loss and return of
sources, and the firing of comparators. Chapter 03. -/

namespace Sys2Proof.Machine

/-! DEV.TBSET (R77 to R80). -/

/-- Units of a source (Table TB-3). -/
def srcUnits (src : Nat) : Nat := if src = 1 ∨ src = 3 then 3 else if src = 2 then 7 else 0

def srcOf (n : Nat) : Source :=
  if n = 1 then .enc else if n = 2 then .axis else if n = 3 then .remote else if n = 4 then .free else .none

/-- Whether a channel drives a bed whose job has a document open, or the master of a geared axis that moves (R78). -/
def State.chanBusy (s : State) (c : Nat) : Bool :=
  (List.range 4).any (fun b => s.configured b && (s.bed b).chan == c && s.docOpenOn b) ||
  (List.range 8).any fun a => s.axisMoves a && (match (s.axis a).gear with
    | some g => g.master == c
    | none => false)

/-- The effect of DEV.TBSET: the channel goes on from its present position, or from LOAD. One held since KEEP and given its
own source again without LOAD stays held (R88). To choose source NONE is no loss of a source, though NONE is always absent:
the owner deselects it (DESIGN CHOICE, log 89). -/
def State.tbset (s : State) (r : Req) : State :=
  let c := r.u8 0
  let src := srcOf (r.u8 1)
  let k := s.chan c
  let load := bit (r.u8 3) 1
  let same := decide (k.source = src) && k.unit == r.u8 2
  let kept := same && !load && decide (src = .enc) && k.invert == bit (r.u8 3) 0
  let pos := if load then r.pos 8 else if kept then k.base else s.chanPos c
  let s := s.updChan c fun k =>
    { k with
      source := src, unit := r.u8 2, invert := bit (r.u8 3) 0, indexCheck := bit (r.u8 3) 2, filter := r.u8 4,
      exported := r.u8 5 == 1, indexPeriod := r.u32 0x10, freeRate := r.u32 0x14, base := pos, t0 := s.now,
      axis0 := s.axisAt (r.u8 2),
      held := if src = .enc then !s.mode.p3 else same && !load && k.held, intervalValid := kept && k.intervalValid,
      interval := if kept then k.interval else 0 }
  let s := if same then s
    else s.updChan c fun k =>
      { k with
        present := decide (src = .enc) || decide (src = .free) ||
          (decide (src = .axis) && (s.axis (r.u8 2)).role != 0),
        lostIllegal := false, illegal := [], edges := 0, edgesAtZ := 0, zSeen := false, vel := 0,
        a := if src = .enc then (tget 0 s.encs (r.u8 2)).getLsbD 0 else k.a,
        b := if src = .enc then (tget 0 s.encs (r.u8 2)).getLsbD 1 else k.b,
        anchorUid := 0, anchorEpoch := 0, fresh := false }
  let s := if load || !same then s.discontinuity c 0 else s
  if src = .remote then s.loseSource c
  else if src = .axis ∧ ¬ (s.chan c).present ∧ ¬ same then s.loseSource c
  else s.sourcesAgain c

def devTbset : Cmd :=
  { op := 0x0103, owner := some (dSubject 2), legal := fun m _ => mSet m, len := lenIs 32,
    value := fun _ r =>
      let src := r.u8 1
      let fl := r.u8 3
      [need (decide (r.u8 0 ≤ 3)) (eValue 0), need (decide (src ≤ 4)) (eValue 1),
       need (decide (r.u8 2 ≤ srcUnits src)) (eValue 2),
       need (decide (r.u8 4 ≤ 16) && (src == 1 || r.u8 4 == 0)) (eValue 4),
       need (decide (r.u8 5 ≤ 1)) (eValue 5), need (bit fl 1 || r.u64 8 == 0) (eValue 8),
       need (if bit fl 2 then inR 4 (r.u32 0x10) 16777216 else r.u32 0x10 == 0) (eValue 0x10),
       need (if src = 4 then inR 1 (r.u32 0x14) 100000000 else r.u32 0x14 == 0) (eValue 0x14),
       need (!(src == 0 && fl % 8 != 0)) (eValue 3), need (!(src == 3 && fl % 4 != 0)) (eValue 3)],
    reserved := fun r => [r.bitsBelow 3 3, r.zero 6 2, r.zero 0x18 8],
    domains := fun s r => s.enters ([95] ++ if r.u8 1 = 1 then [91 + r.u8 2] else []),
    state := fun s r => [need (!s.chanBusy (r.u8 0)) (eState 0)],
    commit := fun s r => { s := s.tbset r } }

/-- DEV.TBSET (R77 to R80, R108). -/
def execDevTbset (m : Fin 257) (n : Fin 4) (s : State) : Answer := .next (runCommand devTbset m n s)

/-! DEV.TBREAD (R467). -/

def devTbread : Cmd :=
  { op := 0x0104, legal := mAny, len := lenIs 8, long := true,
    value := fun _ r => [need (decide (r.u8 0 ≤ 3)) (eValue 0)],
    reserved := fun r => [r.zero 1 7],
    domains := fun _ _ => [95],
    commit := fun s r =>
      let k := s.chan (r.u8 0)
      let off := if k.source = .remote then s.systemOffset else 0
      { s, result := leBytes 8 (s.chanPos (r.u8 0)).toNat ++ leBytes 8 s.now ++ leInt 8 off ++
          leBytes 1 k.source.code ++ leBytes 1 (decide (k.source ≠ .none) && k.present).toNat ++ leBytes 6 0 } }

/-- DEV.TBREAD (R106, R467): a read of TB, which in KEEP is stopped (R12). -/
def execDevTbread (m : Fin 257) (n : Fin 4) (s : State) : Answer := .next (runCommand devTbread m n s)

/-! Firing (R99 to R101, Table TB-5). -/

/-- What an action does (Table TB-5). -/
def State.act (s : State) (k : Nat) (c : Cmp) : State :=
  let mask := c.arg.extractLsb' 0 16
  match c.use with
  | .pitch v => s.updBed (c.arg.toNat % 4) fun x => { x with pitch := v }
  | .gear a slot => s.ratioChange a slot
  | .snap slot => s.takeSnap slot false
  | .strip b =>
    if c.action = 4 then s.stripStart b k c.target
    else s.failRead b false -- its BED_STOP (R89, R164)
  | .frame acc =>
    if c.action = 4 then s.bedStart (c.arg.toNat % 4) acc c.target
    else if c.action = 5 then s.bedStop (c.arg.toNat % 4) acc c.target
    else s.jamCheck acc k
  | _ =>
    let s := if c.action = 1 then s.drivePins mask true
      else if c.action = 2 then s.drivePins mask false
      else if c.action = 3 then s.pulsePins mask (c.arg.toNat / 65536)
      else if c.action = 7 then s.gaugeResetFired (c.arg.toNat % 8)
      else s
    match c.use with
    | .divert acc => (s.docFlag acc 0x40).updDoc acc fun d => { d with divertArmed := false }
    | _ => s

/-- A comparator fires: counted; a one-shot disarms, a periodic one is armed at its next target; the action acts; the
event is written when it is asked for (R96, R99, R100). One armed again at a target that the position has already reached
fires again in the same evaluation; the spec does not say (DESIGN CHOICE, log 83). -/
def State.fire (s : State) (k : Nat) (c : Cmp) (late : Bool) : State :=
  let s := s.inc 6 c.chan 5 1
  let next := if c.dir = 1 then c.target - c.period else c.target + c.period
  let s := s.setComp k (if c.period = 0 then none else some { c with target := next })
  let e := s.evChan 0x0108 k late.toNat c.chan c.target
  let s := s.act k c
  if c.use = .host ∧ (c.notify ∨ c.action = 0) then s.raise c.owner e else s

/-- COMPARE_FIRED: the comparator is due and is the first of the due actions in the order of R101. -/
def execCompareFired (k : Fin 64) (s : State) : Answer :=
  .next (match s.comp k with
    | some c => if s.firstDue k then s.fire k c false else s
    | none => s)

/-- GPIO_PULSE_END: a pulse reaches its end and drives its pin low (R102). -/
def execGpioPulseEnd (p : Fin 16) (s : State) : Answer :=
  .next (
    if (s.pin p).pulses.any fun e => decide (e ≤ s.now) then
      s.updPin p fun x => { x with level := false, pulses := x.pulses.filter fun e => decide (s.now < e) }
    else s)

/-! DEV.COMPARE and DEV.DISARM (R96 to R99). -/

/-- Whether a GAUGE_RESET is allowed to a cabinet (R97). -/
def State.resetAllowed (s : State) (c g : Nat) : Bool :=
  c == 0 || decide (7 < g) || (decide ((s.gauge g).accepted.bed < 4) && s.bedAllowed c (s.gauge g).accepted.bed)

/-- Whether ARG is within its range (Table TB-5). -/
def cmpArgOk (action arg : Nat) : Bool :=
  if action = 0 then arg == 0
  else if action = 7 then decide (arg ≤ 7)
  else if action = 3 then decide (65536 ≤ arg)
  else decide (arg < 65536)

def devCompare : Cmd :=
  { op := 0x0105, legal := fun m _ => mRun m, len := lenIs 32,
    charter := fun s r =>
      [need (r.cab == 0 || !inR 1 (r.u8 2) 3) (eCharter 2),
       need (r.u8 2 != 7 || s.resetAllowed r.cab (r.u32 4)) (eCharter 2)],
    value := fun _ r =>
      let a := r.u8 2
      [need (decide (r.u8 0 ≤ 47) || r.u8 0 == 0xFF) (eValue 0), need (decide (r.u8 1 ≤ 3)) (eValue 1),
       need (decide (a ≤ 3) || a == 7) (eValue 2), need (r.u8 3 % 4 != 3) (eValue 3),
       need (r.u64 0x10 == 0 || r.u8 3 % 4 != 2) (eValue 0x10), need (cmpArgOk a (r.u32 4)) (eValue 4),
       need (r.u64 0x10 == 0 || decide (65536 ≤ r.u64 0x10)) (eValue 0x10)],
    reserved := fun r => [r.bitsBelow 3 4, r.zero 0x18 8],
    domains := fun s _ => s.enters [95],
    state := fun s r =>
      [need (r.u8 0 == 0xFF || (s.comp (r.u8 0)).isNone) (eState 0),
       need (decide ((s.chan (r.u8 1)).source ≠ .none)) (eState 1),
       need (bit (r.u8 3) 2 || !reachedIn (r.u8 3 % 4) (s.chanPos (r.u8 1)) (r.pos 8)) (eState 8)],
    quota := fun s r => [need (decide (s.hostHeld r.cab < 16)) eQuota],
    resource := fun s r => [need (r.u8 0 != 0xFF || s.freeHost.isSome) eResource],
    commit := fun s r =>
      let k := if r.u8 0 = 0xFF then s.freeHost.getD 0 else r.u8 0
      let dir := r.u8 3 % 4
      let c : Cmp :=
        { owner := r.cab, chan := r.u8 1, action := r.u8 2, arg := BitVec.ofNat 32 (r.u32 4), dir,
          notify := bit (r.u8 3) 3, target := r.pos 8, period := BitVec.ofNat 64 (r.u64 0x10), below := false,
          use := .host }
      let s := s.arm k c
      { s := if reachedIn dir (s.chanPos c.chan) c.target then s.fire k c true else s,
        result := leBytes 1 k } }

/-- DEV.COMPARE (R96 to R99). -/
def execDevCompare (m : Fin 257) (n : Fin 4) (s : State) : Answer := .next (runCommand devCompare m n s)

def devDisarm : Cmd :=
  { op := 0x0106, legal := fun m _ => mRun m || m == .halted, len := lenIs 8,
    value := fun s r =>
      [need (decide (r.u8 0 ≤ 47) && (match s.comp (r.u8 0) with
        | some c => c.owner == r.cab
        | none => false)) (eValue 0)],
    reserved := fun r => [r.zero 1 7],
    domains := fun s _ => s.enters [95],
    commit := fun s r => { s := s.disarm (r.u8 0) } }

/-- DEV.DISARM (R96). -/
def execDevDisarm (m : Fin 257) (n : Fin 4) (s : State) : Answer := .next (runCommand devDisarm m n s)

/-! Encoders (R82 to R86, R622, R624). -/

/-- Whether the encoder of a channel is counted: the ENC domain runs (R88). -/
def State.encRuns (s : State) (c : Nat) : Bool :=
  let k := s.chan c
  k.source == .enc && !k.held && s.clkOk (91 + k.unit)

/-- The sense of an edge (R622): a change of A or of B from the levels before it. -/
def forwardEdge (a b ofB : Bool) : Bool := if ofB then (!b) == a else (!a) != b

/-- An edge counted on a channel, with the interpolation of R83. -/
def Chan.edge (k : Chan) (fwd : Bool) (t : Nat) : Chan :=
  let same := fwd == k.lastFwd
  let k := { k with base := if fwd then k.base + 65536 else k.base - 65536, edges := k.edges + 1 }
  let k := if same && k.intervalValid then { k with interval := t - k.lastEdge } else { k with intervalValid := same }
  { k with lastEdge := t, lastFwd := fwd }

/-- Whether a change first seen some samples ago has persisted for FILTER samples, its first and the present one among
them (R82). -/
def Chan.persisted (k : Chan) (age : Nat) : Bool := decide (k.filter ≤ age + 1)

/-- Whether the crossing to TB carries an edge of a channel now (R549, R552): 15 ns since the last of its direction. -/
def State.edgeCarried (s : State) (c : Nat) (fwd : Bool) : Bool := s.carries (edgeCrossing c fwd) 960

/-- The channels that follow an encoder. -/
def State.encChans (s : State) (u : Nat) : List Nat :=
  (List.range 4).filter fun c => (s.chan c).source == .enc && (s.chan c).unit == u

/-- The levels of an encoder's inputs. -/
def State.setInputs (s : State) (u : Nat) (a b : Bool) : State :=
  { s with encs := tset 0 s.encs u (BitVec.ofNat 2 (a.toNat + 2 * b.toNat)) }

/-- A channel qualifies a change of A or B: an edge, carried to TB or counted at the crossing (R549, R622). -/
def State.qualify (s : State) (c : Nat) (ofB : Bool) (age : Nat) : State :=
  let k := s.chan c
  let fwd := forwardEdge k.a k.b ofB != k.invert
  let s1 := s.updChan c fun k => { k with a := if ofB then k.a else !k.a, b := if ofB then !k.b else k.b }
  let (s2, carried) := s1.pulse (edgeCrossing c fwd) (91 + k.unit) 95
  if carried then (s2.updChan c fun k => k.edge fwd (s.samples - age)).countTicks c else s2

/-- What a level of an input of its encoder means to a channel: a change that has persisted is an edge; while its ENC domain
is stopped nothing is counted (R82, R88). -/
def State.encSeen (s : State) (c : Nat) (ofB level : Bool) (age : Nat) : State :=
  let k := s.chan c
  if !s.encRuns c then s.updChan c fun k => { k with a := if ofB then k.a else level, b := if ofB then level else k.b }
  else if k.persisted age && (if ofB then k.b else k.a) != level then s.qualify c ofB age
  else s

/-- ENC_EDGE: an input of an encoder has had its level for some samples: each channel that follows the encoder counts an
edge when the change has persisted for its FILTER (R82, R622). -/
def execEncEdge (u : Fin 4) (b : Bool) (i : InputLevel) (s : State) : Answer :=
  .next (
    let e := tget 0 s.encs u
    let s1 := s.setInputs u (if b then e.getLsbD 0 else i.level) (if b then i.level else e.getLsbD 1)
    forEach (s.encChans u) (fun c s => s.encSeen c b i.level i.age) s1)

/-- A channel sees both inputs of its encoder change in one sample (R84). The 16th within 1,024 consecutive edges loses
the source. -/
def State.illegalStep (s : State) (c : Nat) : State :=
  let s1 := s.updChan c fun k => { k with a := !k.a, b := !k.b }
  if s.encRuns c then
    let s := s1.inc 6 c 1 1
    let k := s.chan c
    let ill := (k.illegal ++ [k.edges]).filter fun e => decide (k.edges - e < 1024)
    let s := s.updChan c fun k => { k with illegal := ill }
    let s := s.raiseTo (s.chanCabs c []) (s.evChan 0x0106 c 0 c (w2 (s.ctr 6 c 1).toNat))
    if 16 ≤ ill.length ∧ (s.chan c).present then (s.updChan c fun k => { k with lostIllegal := true }).loseSource c
    else s
  else s1

/-- ENC_ERROR: both inputs of an encoder change in one sample (R84). -/
def execEncError (u : Fin 4) (s : State) : Answer :=
  .next (
    let e := tget 0 s.encs u
    forEach (s.encChans u) (fun c s => s.illegalStep c) (s.setInputs u (!e.getLsbD 0) (!e.getLsbD 1)))

/-- ENC_SIGNAL_LOSS: the pair of A or B, or of Z under INDEX_CHECK, stays below 200 mV for more than 1 us (R85). -/
def execEncSignalLoss (c : Fin 4) (z : Bool) (s : State) : Answer :=
  .next (if s.encRuns c ∧ (s.chan c).present ∧ (¬ z ∨ (s.chan c).indexCheck) then s.loseSource c else s)

/-- TB_SOURCE_BACK: the signals of a lost encoder have been good for 1 us; after a loss under R84, 1,024 edges must have
been counted since the last illegal transition (R624). -/
def execTbSourceBack (c : Fin 4) (s : State) : Answer :=
  .next (
    let k := s.chan c
    let clean := !k.lostIllegal || (match k.illegal.getLast? with
      | some e => decide (1024 ≤ k.edges - e)
      | none => true)
    if s.encRuns c ∧ ¬ k.present ∧ clean then s.sourceBack c else s)

/-- ENC_INDEX: a rising Z edge, checked under INDEX_CHECK against the edges counted since the one before (R86). -/
def execEncIndex (c : Fin 4) (s : State) : Answer :=
  .next (
    let k := s.chan c
    if ¬ s.encRuns c then s
    else
      let n := k.edges - k.edgesAtZ
      let s := s.updChan c fun k => { k with zSeen := true, edgesAtZ := k.edges }
      if k.indexCheck ∧ k.zSeen ∧ n ≠ k.indexPeriod then
        (s.inc 6 c 2 1).raiseTo (s.chanCabs c []) (s.evChan 0x0107 c 0 c (w2 n))
      else s)

/-- SYNC_LOSS: while TB runs, no valid sync has arrived for 100 us on a REMOTE channel (R108); it holds its position from
then on. -/
def execSyncLoss (c : Fin 4) (s : State) : Answer :=
  .next (
    let k := s.chan c
    if k.source = .remote ∧ k.present ∧ s.clkOk 95 ∧ 100000 ≤ s.now - k.syncAt then
      (s.rebase c).loseSource c
    else s)

/-! Holding and resuming (R88). -/

/-- Entry to KEEP: TB stops and every channel holds its position. -/
def State.holdChans (s : State) : State :=
  forEach (List.range 4) (fun c s => if (s.chan c).held then s else s.holdChan c) s

end Sys2Proof.Machine
end

