-- ==== Sys2Proof/Machine/Dma.lean ====
section
/-! DEFINITION. The DMA engine: descriptor rings, the reading, filling and return of descriptors, probes, channels and
rounds, and the BUF family. Chapters 13, 14 and 16. -/

namespace Sys2Proof.Machine

/-! Descriptors (Tables DH-2 to DH-5). -/

/-- Swap group of a descriptor, in bytes. -/
def Desc.group (d : Desc) : Nat := [1, 2, 4, 4, 8].getD (bits d.control.toNat 2 0) 1

/-- The stream byte, counted from the first, that goes to buffer byte k (R488). -/
def Desc.source (d : Desc) (k : Nat) : Nat :=
  let m := bits d.control.toNat 2 0
  if m = 1 then k / 2 * 2 + (1 - k % 2)
  else if m = 2 then k / 4 * 4 + (3 - k % 4)
  else if m = 3 then k / 4 * 4 + (k % 4 + 2) % 4
  else if m = 4 then k / 8 * 8 + (7 - k % 8)
  else k

def Desc.verify (d : Desc) : Bool := d.control.getLsbD 6
def Desc.doc (d : Desc) : Bool := d.control.getLsbD 5
def Desc.item (d : Desc) : Bool := d.control.getLsbD 4
def Desc.irq (d : Desc) : Bool := d.control.getLsbD 3

/-- The descriptor that 32 bytes of host memory spell. -/
def descOf (bs : List Byte) : Desc :=
  { control := BitVec.ofNat 32 (fieldU bs 0 4), length := fieldU bs 4 4, dest := BitVec.ofNat 64 (fieldU bs 0x10 8),
    tag := BitVec.ofNat 32 (fieldU bs 0x1C 4) }

/-- Whether the checks of R482 find a descriptor good: CAUSE 2 DESC or 3 ALIGN otherwise. -/
def descCheck (bs : List Byte) (next : Nat) : Option Nat :=
  let d := descOf bs
  if d.length = 0 ∨ 16777215 < d.length ∨ 128 ≤ d.control.toNat ∨ 4 < bits d.control.toNat 2 0 ∨ fieldU bs 8 8 ≠ 0 ∨
      fieldU bs 0x18 4 ≠ 0 ∨ 2 ^ 64 < d.dest.toNat + d.length then some 2
  else if d.length % d.group ≠ 0 ∨ next % d.group ≠ 0 then some 3
  else none

/-- Host address of a ring's descriptor (R478). -/
def Ring.descAddr (g : Ring) (idx : BitVec 32) : BitVec 64 := g.base + BitVec.ofNat 64 (32 * (idx.toNat % g.size))

def Ring.posted (g : Ring) : Nat := (g.post - g.ret).toNat

/-! The service of a ring (R496, R497). -/

/-- Whether a ring makes no progress: its function cannot master the bus, KEEP, or no domain to serve it (Table DH-6,
R57). -/
def State.ringBlocked (s : State) (g : Ring) : Bool := !s.canWrite g.via
def State.dmaServes (s : State) : Bool := s.mode != .keep && s.mode != .dormant && s.clkOk 96

/-- Whether the engine may serve a ring now: enabled, not blocked, its cabinet not being reset. -/
def State.ringServed (s : State) (c n : Nat) : Bool :=
  let g := s.ring c n
  g.enabled && !g.closing && !s.ringBlocked g && s.dmaServes && (s.cab c).resetting.isNone

/-- Deliverable bytes not yet taken (R483). -/
def State.readyBytes (s : State) (c n : Nat) : Nat := (s.stream c n).written - (s.ring c n).next

/-- A ring is ready: a posted descriptor to read, bytes to take, or a return to make (R496). -/
def State.ringReady (s : State) (c n : Nat) : Bool :=
  let g := s.ring c n
  g.enabled && !g.closing && !s.ringBlocked g && (s.cab c).resetting.isNone &&
  (match g.opened with
    | none => decide (0 < g.posted)
    | some d => d.ending.isSome || !d.probes.isEmpty || decide (0 < s.readyBytes c n) ||
      (decide (g.timeout ≠ 0 ∧ 0 < d.taken) && decide (d.lastByte + g.timeout * 1000 ≤ s.now)))

/-- The rings that exist, by cabinet and stream. -/
def State.ringKeys (s : State) : List (Nat × Nat) := s.rings.map fun (k, _) => (k / 16, k % 16)

def State.channelsOf (s : State) (c : Nat) : Nat :=
  (s.rings.filter fun (k, g) => k / 16 == c && g.chan.isSome).length

/-- The ring that takes the next free channel: first a ring of a cabinet with a reserve and no channel, else the one that
has waited longest (R496). -/
def State.nextWaiter (s : State) : Option (Nat × Nat) :=
  let ws := s.ringKeys.filter fun (c, n) => s.ringReady c n && (s.ring c n).chan.isNone
  let ok := ws.filter fun (c, _) => decide (s.channelsOf c < 4) || !ws.any fun w => w.1 != c
  match ok.find? fun (c, _) => (s.entry c).dmaReserve != 0 && s.channelsOf c == 0 with
  | some w => some w
  | none => ok.foldl (fun best w => match best with
      | none => some w
      | some b => if ((s.ring w.1 w.2).waitSince.getD s.now) < ((s.ring b.1 b.2).waitSince.getD s.now) then some w
        else best) none

/-- Give free channels to waiting rings. -/
def State.grantChannels (fuel : Nat) (s : State) : State :=
  match fuel with
  | 0 => s
  | fuel + 1 =>
    match (List.range 32).find? fun ch => s.rings.all fun (_, g) => g.chan != some ch with
    | none => s
    | some ch =>
      match s.nextWaiter with
      | none => s
      | some (c, n) =>
        State.grantChannels fuel
          (s.updRingOf c n fun g => { g with chan := some ch, lastChan := ch, waitSince := none })

/-- Rings that ceased to be ready give their channel up; a channel that a cabinet holds beyond four goes while another
cabinet waits; rings that became ready wait; free channels are granted (R496). -/
def State.assignChannels (s : State) : State :=
  let s := forEach s.ringKeys (fun cn s =>
    let g := s.ring cn.1 cn.2
    if !s.ringReady cn.1 cn.2 then
      (if g.chan.isSome ∨ g.waitSince.isSome then
        s.updRingOf cn.1 cn.2 fun g => { g with chan := none, waitSince := none } else s)
    else if g.chan.isNone ∧ g.waitSince.isNone then s.updRingOf cn.1 cn.2 fun g => { g with waitSince := some s.now }
    else if g.chan.isSome ∧ 4 < s.channelsOf cn.1 ∧ s.ringKeys.any (fun w => w.1 ≠ cn.1 ∧ s.ringReady w.1 w.2 ∧
        (s.ring w.1 w.2).chan.isNone) then
      s.updRingOf cn.1 cn.2 fun g => { g with chan := none, waitSince := some s.now }
    else s) s
  State.grantChannels 32 s

/-! Rounds (R433). -/

/-- Cabinets with a transfer waiting. -/
def State.dmaCabs (s : State) : List Nat :=
  s.enabledCabs.filter fun c => (List.range 16).any fun n => s.ringReady c n

/-- Slots of a cabinet in a round: its reserve and its share of the common pool. The shares of the cabinets that wait are
rounded so that together they are the pool, and over as many rounds as the sum of the weights each is exactly in proportion
(DESIGN CHOICE, log 58). -/
def State.slotShare (s : State) (c : Nat) : Nat :=
  let reserves := s.enabledCabs.foldl (fun n d => n + (s.entry d).dmaReserve) 0
  let upTo := fun (p : Nat → Bool) => (s.dmaCabs.filter p).foldl (fun n d => n + (s.entry d).dmaWeight) 0
  let w := max 1 (upTo fun _ => true)
  let cut := fun n => ((1024 - reserves) * n + s.rounds % w) / w
  let mine := if s.dmaCabs.contains c then (s.entry c).dmaWeight else 0
  (s.entry c).dmaReserve + (cut (upTo (· < c) + mine) - cut (upTo (· < c)))

/-- Slots left to a cabinet in this round. -/
def State.slotsLeft (s : State) (c : Nat) : Nat := s.slotShare c - tget 0 s.roundUsed c

/-- A round in which no waiting cabinet has slots left ends. A slot that a cabinet took beyond its share, for an event, a
result or a read, is one of its next round: no other cabinet's slot is lent to it (R30; DESIGN CHOICE, log 58). -/
def State.round (s : State) : State :=
  if s.dmaCabs.all fun c => s.slotsLeft c == 0 then
    { s with rounds := s.rounds + 1, roundUsed := s.roundUsed.filterMap fun (c, n) =>
        if s.slotShare c < n then some (c, n - s.slotShare c) else none }
  else s

/-! Gaps (R414). -/

/-- Add a run of gap bytes to a document, joined to the run it continues. -/
def addGap (gs : List (Nat × Nat × Nat × Nat)) (n status off len : Nat) : List (Nat × Nat × Nat × Nat) :=
  match gs with
  | [] => [(n, status, off, len)]
  | (m, t, o, l) :: rest =>
    if m = n ∧ o + l = off then (m, t, o, l + len) :: rest else (m, t, o, l) :: addGap rest n status off len

/-- Bytes off to off + len of a stream fall in a delivery gap: each document's share is noted, and the bytes of
documents' items are counted. -/
def State.noteGap (s : State) (c n status off len : Nat) : State :=
  forEach (s.stream c n).items (fun i s =>
    let a := max off i.start
    let b := min (off + len) (i.start + i.len)
    if a < b ∧ i.acc ≠ 0 then
      (s.updDoc i.acc fun d => { d with gaps := addGap d.gaps n status a (b - a) }).inc 9 (16 * c + n) 2 (b - a)
    else s) s

/-! Returns (R484 to R487). -/

/-- Free the bytes of a stream up to an offset: the items so carried leave, and what waits for room is written. -/
def State.freeTo (s : State) (c n off : Nat) : State :=
  let bytes := off - (s.stream c n).freed
  let s := s.chgStream c n fun x =>
    { x with
      freed := max x.freed off, items := x.items.filter fun i => decide (off < i.start + i.len),
      badBlocks := x.badBlocks.filter fun b => decide (off < b + 64) }
  let s := s.inc 9 (16 * c + n) 1 bytes
  let s := State.flushHeld ((s.stream c n).heldItems.length) c n s
  if n = 0 then State.flushWaiting ((tget [] s.waiting c).length + 1) c s else s

/-- Code of Table DH-4 to the stream's counters: DONE 1, SHORT 2, BAD 3, FLUSHED 4. -/
def State.countReturn (s : State) (c n code : Nat) : State := s.inc 9 (16 * c + n) (2 + code) 1

/-- Write to host memory where the port can be written. -/
def State.portWrite (s : State) (m : Nat) (a : BitVec 64) (data : List Byte) : State :=
  if s.canWrite m then s.hostWrite m a data else s

/-- Requests over USB for a ring's descriptors and probes that nothing waits for any more: their answers change nothing. -/
def State.forgetTags (s : State) (c n : Nat) : State :=
  { s with usbTags := tmap none s.usbTags fun t => t.map fun t =>
      { t with stale := t.stale || (t.kind != 0 && t.cab == c && t.stream == n) } }

/-- Whether another ready ring waits for a channel (R496). -/
def State.othersWait (s : State) (c n : Nat) : Bool :=
  s.ringKeys.any fun w => w != (c, n) && s.ringReady w.1 w.2 && (s.ring w.1 w.2).chan.isNone

/-- Return the open descriptor: SOURCE, STATUS, then BUF_RETURNED where it is raised (R485, R490). -/
def State.giveBack (s : State) (c n code cause returned : Nat) : State :=
  let g := s.ring c n
  let d := g.opened.getD { control := 0, length := 0, dest := 0, tag := 0 }
  let first := d.first
  let addr := g.descAddr g.ret
  let s := s.portWrite g.via (addr + 8) (leBytes 8 first)
  let s := s.portWrite g.via (addr + 0x18) (leBytes 4 (code * 2 ^ 28 + cause * 2 ^ 24 + returned))
  let s := if d.irq ∨ code = 3 then
      s.raise c (s.ev 0x0902 n (code + 16 * cause) (w2 (g.ret.toNat + d.tag.toNat * 2 ^ 32)))
    else s
  let s := (s.countReturn c n code).updRingOf c n fun g =>
    { g with
      opened := none, fetchTried := false, ret := g.ret + 1,
      badCount := if code = 3 then g.badCount + 1 else g.badCount,
      chan := if s.othersWait c n then none else g.chan,
      waitSince := if s.othersWait c n then some s.now else g.waitSince }
  let s := s.forgetTags c n
  let s := if code = 3 ∨ code = 4 then
      s.noteGap c n code (first + returned) (g.next - (first + returned)) else s
  (s.freeTo c n g.next).assignChannels

/-! Probes (R492). -/

/-- Buffer offset at which page i of a descriptor's buffer begins; page 0 begins at 0. -/
def Desc.pageStart (d : Desc) (i : Nat) : Nat := if i = 0 then 0 else 4096 * i - d.dest.toNat % 4096

/-- Issue a probe of a page, through the ring's port. -/
def State.probe (s : State) (c n : Nat) (d : Desc) (i : Nat) : State :=
  let g := s.ring c n
  let a := d.dest + BitVec.ofNat 64 (d.pageStart i)
  let s := s.inc 0x0B (if g.via = 256 then 1 else 0) 2 1
  if g.via = 256 then
    (s.useSlots 256 1).usbAsk
      (fun t => { kind := 2, addr := a, len := 0, mbx := 256, slot := 0, cab := c, stream := n, sent := t }) 0x85 a 0
  else (s.useSlots g.via 1).push (.memRead g.via a 0)

/-- Reads outstanding on PCIe: probes, and parcels being fetched. -/
def State.nonPosted (s : State) : Nat :=
  s.rings.foldl (fun n (_, g) => if g.via = 256 then n else n + (match g.opened with
    | some d => d.probes.length
    | none => 0)) 0 +
  s.mbxs.foldl (fun n (m, b) => if m = 256 then n else n + (b.slots.filter fun (_, x) => match x.parcel with
    | .fetching _ => true
    | _ => false).length) 0

/-- Whether a probe may be issued: the device has at most 64 reads outstanding on PCIe (Table DH-9). -/
def State.mayAsk (s : State) (via : Nat) : Bool := via == 256 || decide (s.nonPosted < 64)

/-- Issue the probes that have fallen due, at most 4 outstanding: each page written to its end, or to the end of what the
descriptor will hold. -/
def State.issueProbes (fuel : Nat) (c n : Nat) (s : State) : State :=
  match fuel with
  | 0 => s
  | fuel + 1 =>
    match (s.ring c n).opened with
    | none => s
    | some d =>
      let due := d.pageStart (d.probed + 1) ≤ d.taken ∨
        ((d.ending.isSome ∨ d.taken = d.length) ∧ d.pageStart d.probed < d.taken)
      if d.verify ∧ due ∧ d.probes.length < 4 ∧ s.mayAsk (s.ring c n).via then
        let s := s.probe c n d d.probed
        State.issueProbes fuel c n (s.updRingOf c n fun g =>
          { g with opened := g.opened.map fun d => { d with probes := d.probes ++ [d.probed], probed := d.probed + 1 } })
      else s

/-- Whether every page written has been probed and confirmed. -/
def Desc.confirmed (d : Desc) : Bool :=
  !d.verify || (d.probes.isEmpty && decide (d.taken ≤ d.pageStart d.probed))

/-- Make the return that a descriptor awaits once its pages are confirmed, unless the ring is blocked (Table DH-6). -/
def State.tryReturn (s : State) (c n : Nat) : State :=
  if s.ringBlocked (s.ring c n) then s else
  let s := State.issueProbes 4 c n s
  match (s.ring c n).opened with
  | none => s
  | some d =>
    match d.ending with
    | none => s
    | some (code, cause, ret) => if d.confirmed then s.giveBack c n code cause ret else s

/-- Settle that the open descriptor is to be returned. -/
def State.endDesc (s : State) (c n code cause ret : Nat) : State :=
  (s.updRingOf c n fun g =>
    { g with opened := g.opened.map fun d => { d with ending := some (code, cause, ret) } }).tryReturn c n

/-! Filling (R483, R486, R489, R493, R507). -/

/-- A body write of the funnel: whole multiples of 8, within a page, at most Max_Payload_Size and 256 bytes (R489). -/
def bodyPiece (addr left : Nat) : Nat :=
  let n := min (4096 - addr % 4096) (left / 8 * 8)
  if n ≤ 128 then n else min n (if Config.payload256 then 256 else 128)

/-- Length of the write that the funnel makes at an address with so many bytes left: naturally aligned pieces of 1, 2 and
4 bytes before a body of whole multiples of 8, and after it once no more bytes are to come for the descriptor; until then
too few bytes for a piece wait, with length 0 (R489). -/
def funnelPiece (addr left : Nat) (last : Bool) : Nat :=
  if addr % 2 = 1 ∧ 1 ≤ left then 1
  else if addr % 4 = 2 ∧ 2 ≤ left then 2
  else if addr % 8 = 4 ∧ 4 ≤ left then 4
  else if addr % 8 = 0 ∧ 8 ≤ left then bodyPiece addr left
  else if !last then 0
  else if 4 ≤ left ∧ addr % 4 = 0 then 4
  else if 2 ≤ left ∧ addr % 2 = 0 then 2
  else min 1 left

/-- Length of a frame on USB: at most 256 bytes, within a page (DESIGN CHOICE, log 32). -/
def framePiece (addr left : Nat) : Nat := min left (min 256 (4096 - addr % 4096))

/-- The lowest block that cannot be read of those not yet passed. -/
def State.badBlock (s : State) (c n : Nat) : Option Nat :=
  ((s.stream c n).badBlocks.filter fun b => decide ((s.ring c n).next < b + 64)).foldl (fun m b => match m with
    | none => some b
    | some a => some (min a b)) none

/-- The end, in stream offsets, of what the open descriptor may take now, and the return that falls due there: LENGTH
reached, the end of a document's last item under DOC, the end of an item under ITEM, or an unreadable block. -/
def State.fillEnd (s : State) (c n : Nat) (d : Desc) : Nat × Option (Nat × Nat) :=
  let g := s.ring c n
  let x := s.stream c n
  let full := d.first + d.length
  let stop := x.items.find? fun i => decide (g.next < i.start + i.len) && (d.item || (d.doc && i.last))
  let (e, why) := match stop with
    | some i =>
      if i.start + i.len < full then (i.start + i.len, some (2, if d.doc && i.last then 1 else 2))
      else (full, some (1, 0))
    | none => (full, some (1, 0))
  let (e, why) := if e ≤ x.written then (e, why) else (x.written, none)
  match s.badBlock c n with
  | some b => if b < e then (max g.next b, some (3, 5)) else (e, why)
  | none => (e, why)

/-- Write pieces of a descriptor's buffer from where it stands to an end, which may be its last, while slots are left. -/
def State.writePieces (fuel : Nat) (c n : Nat) (stop : Nat) (last : Bool) (s : State) : State :=
  match fuel with
  | 0 => s
  | fuel + 1 =>
    match (s.ring c n).opened with
    | none => s
    | some d =>
      let g := s.ring c n
      let left := stop - g.next
      let waits := d.verify && decide (4 ≤ d.probes.length) && decide (d.pageStart (d.probed + 1) ≤ d.taken)
      let addr := d.dest.toNat + d.taken
      let k := if g.via = 256 then framePiece addr left else funnelPiece addr left last
      if k = 0 ∨ s.slotsLeft c = 0 ∨ waits then s
      else
        let data := (List.range k).map fun i => ((s.ringRead c n (d.first + d.source (d.taken + i)) 1).headD 0)
        let s := s.hostWrite g.via (BitVec.ofNat 64 addr) data
        let s := s.updRingOf c n fun g =>
          { g with
            next := g.next + k,
            opened := g.opened.map fun d => { d with taken := d.taken + k, lastByte := s.now } }
        State.writePieces fuel c n stop last (State.issueProbes 1 c n s)

/-- DESCRIPTOR_FILL: the open descriptor takes what it can (R483); a return that falls due is made (R486, R493). -/
def State.descFill (s : State) (c n : Nat) : State :=
  match (s.ring c n).opened with
  | none => s
  | some d =>
    if d.ending.isSome then s.tryReturn c n
    else
      let s := s.round
      let (stop, why) := s.fillEnd c n d
      let s := State.writePieces (stop - (s.ring c n).next + 1) c n stop why.isSome s
      match why, (s.ring c n).opened with
      | some (code, cause), some d =>
        if (s.ring c n).next < stop then s
        else if code = 3 then
          let b := (s.badBlock c n).getD stop
          let s := s.updRingOf c n fun g => { g with next := b + 64 }
          s.endDesc c n 3 5 (min d.taken (b - d.first))
        else s.endDesc c n code cause d.taken
      | _, _ => (State.issueProbes 4 c n s)

def execDescriptorFill (c : Fin 256) (n : Fin 16) (s : State) : Answer :=
  .next (
    let s := s.assignChannels
    if s.ringServed c n ∧ (s.ring c n).chan.isSome then (s.descFill c n).assignChannels else s)

/-- DESCRIPTOR_TIMEOUT: no byte has been added for TIMEOUT us (R486). -/
def execDescriptorTimeout (c : Fin 256) (n : Fin 16) (s : State) : Answer :=
  .next (
    let g := s.ring c n
    match g.opened with
    | none => s
    | some d =>
      if s.ringServed c n ∧ g.timeout ≠ 0 ∧ 0 < d.taken ∧ d.ending.isNone ∧
          d.lastByte + g.timeout * 1000 ≤ s.now then (s.endDesc c n 2 3 d.taken).assignChannels
      else s)

/-! Reading descriptors (R481, R482, R494). -/

/-- The descriptor read for a ring becomes its open descriptor, once checked. -/
def State.openDesc (s : State) (c n : Nat) (bs : List Byte) : State :=
  let g := s.ring c n
  let bs := padTo 32 bs
  let d := { descOf bs with first := g.next, lastByte := s.now }
  let s := s.updRingOf c n fun g => { g with opened := some d, fetchTried := false }
  match descCheck bs g.next with
  | some cause => s.giveBack c n 3 cause 0
  | none => s.assignChannels

/-- Whether a ring has a descriptor to read. -/
def State.wantsDesc (s : State) (c n : Nat) : Bool :=
  let g := s.ring c n
  s.ringServed c n && g.opened.isNone && decide (0 < g.posted) && g.chan.isSome

/-- Whether a read over USB for a ring is outstanding. -/
def State.usbDescAsked (s : State) (c n : Nat) : Bool :=
  s.usbTags.any fun (_, t) => match t with
    | some t => t.kind == 1 && t.cab == c && t.stream == n
    | none => false

/-- A failed descriptor read is made once more; the second failure returns the descriptor BAD, CAUSE FETCH, with TAG 0
(R494). -/
def State.descFailed (s : State) (c n : Nat) : State :=
  let g := s.ring c n
  let s := s.inc 0x0B (if g.via = 256 then 1 else 0) 4 1
  if g.fetchTried then
    (s.updRingOf c n fun g =>
      { g with opened := some { control := 0, length := 0, dest := 0, tag := 0, first := g.next } }).giveBack c n 3 1 0
  else s.updRingOf c n fun g => { g with fetchTried := true }

/-- DESCRIPTOR_FETCH: on PCIe, the read of a descriptor completes; on USB, its FETCH is sent, and FETCH_DATA answers. -/
def execDescriptorFetch (c : Fin 256) (n : Fin 16) (bytes : Option (List Byte)) (s : State) : Answer :=
  .next (
    let s := s.assignChannels
    let g := s.ring c n
    let a := g.descAddr g.ret
    if !s.wantsDesc c n then s
    else if g.via = 256 then
      if s.usbDescAsked c n then s
      else (s.useSlots 256 1).usbAsk
        (fun t => { kind := 1, addr := a, len := 32, mbx := 256, slot := 0, cab := c, stream := n, sent := t }) 0x83 a 32
    else
      let s := s.hostRead g.via a 32
      match bytes with
      | some b => s.openDesc c n b
      | none => s.descFailed c n)

/-- DESCRIPTOR_FETCH_FAIL: a read completes with an error or times out, and so does the one made again (R494). -/
def execDescriptorFetchFail (c : Fin 256) (n : Fin 16) (s : State) : Answer :=
  .next (
    let s := s.assignChannels
    let g := s.ring c n
    if s.wantsDesc c n ∧ g.via ≠ 256 then
      let a := g.descAddr g.ret
      let s := (s.hostRead g.via a 32).descFailed c n
      if g.fetchTried then s else (s.hostRead g.via a 32).descFailed c n
    else s)

/-! Probes answered (R492). -/

/-- What a descriptor becomes when the probe of page i fails: it is to be returned BAD, CAUSE PROBE, unless an unreadable
block lies lower; no further write or probe of it is made, and only the answers of lower pages still count. -/
def Desc.probeFailed (d : Desc) (i : Nat) : Desc :=
  let ret := d.pageStart i / d.group * d.group
  let (cause, ret) := match d.ending with
    | some (3, 5, r) => if r < ret then (5, r) else (4, ret)
    | _ => (4, ret)
  { d with ending := some (3, cause, ret), probes := d.probes.filter (· < i), probed := d.taken / 4096 + 2 }

/-- Whether a probe of the descriptor has failed. -/
def Desc.failed (d : Desc) : Bool := match d.ending with
  | some (3, 4, _) => true
  | _ => false

/-- The probe of a page of the open descriptor completes, or fails: the first failure takes whole swap groups. -/
def State.probeSettled (s : State) (c n i : Nat) (ok : Bool) : State :=
  match (s.ring c n).opened with
  | none => s
  | some d =>
    if ok then s.updRingOf c n fun g => { g with opened := some { d with probes := d.probes.filter (· ≠ i) } }
    else
      let s := s.inc 0x0B (if (s.ring c n).via = 256 then 1 else 0) 3 1
      let more := if d.failed then 0 else ceilDiv d.taken d.group * d.group - d.taken
      s.updRingOf c n fun g => { g with next := g.next + more, opened := some (d.probeFailed i) }

/-- A probe is answered, and the descriptor that awaited it may be returned; in KEEP the return is left until IDLE
(R57). -/
def State.probeDone (s : State) (c n i : Nat) (ok : Bool) : State :=
  let s := s.probeSettled c n i ok
  if s.dmaServes then (s.tryReturn c n).assignChannels else s

/-- The oldest outstanding probe of a ring on PCIe whose answer may come: that of one issued before KEEP, or before its
function lost Bus Master Enable, comes too (R57, Table DH-6). -/
def State.probeServed (s : State) (c n : Nat) : Option Nat :=
  let g := s.ring c n
  if g.enabled && g.via != 256 && s.mode != .dormant && (s.cab c).resetting.isNone then
    g.opened.bind fun d => d.probes.head?
  else none

/-- PROBE_COMPLETE: that probe is answered. -/
def execProbeComplete (c : Fin 256) (n : Fin 16) (ok : Bool) (s : State) : Answer :=
  .next (match s.probeServed c n with
    | some i => s.probeDone c n i ok
    | none => s)

/-- Return a posted descriptor that was not opened FLUSHED, CAUSE RING. Its CONTROL and TAG, which the engine reads for
BUF_RETURNED, lie in host memory: they are free values (DESIGN CHOICE, log 93). -/
def State.flushOne (s : State) (c n : Nat) : State :=
  let g := s.ring c n
  let addr := g.descAddr g.ret
  let irq := s.drawn.getLsbD 3
  let tag := s.draw.drawn.toNat % 2 ^ 32
  let s := (s.draw.draw.portWrite g.via (addr + 8) (leBytes 8 g.next)).portWrite g.via (addr + 0x18)
    (leBytes 4 (4 * 2 ^ 28 + 2 ^ 24))
  let s := if irq then s.raise c (s.ev 0x0902 n (4 + 16 * 1) (w2 (g.ret.toNat + tag * 2 ^ 32))) else s
  (s.countReturn c n 4).updRingOf c n fun g => { g with ret := g.ret + 1 }

/-- The returns of a ring that is disabled: a return that the open descriptor awaits is made; otherwise it returns SHORT, CAUSE
CLOSED, when it holds bytes; every other one FLUSHED (Table DH-6, R486, R493). The indices and the counts stay until the
next enabling (R478). -/
def State.closeNow (s : State) (c n : Nat) : State :=
  let s := match (s.ring c n).opened with
    | some d => match d.ending with
      | some (code, cause, ret) => s.giveBack c n code cause ret
      | none => if 0 < d.taken then s.giveBack c n 2 4 d.taken else s.giveBack c n 4 1 0
    | none => s
  let s := forEach (List.range (s.ring c n).posted) (fun _ s => s.flushOne c n) s
  ((s.updRingOf c n fun g =>
    { g with enabled := false, closing := false, fetchTried := false, chan := none, waitSince := none }).forgetTags c
      n).assignChannels

/-- The disabling of a ring. While its function cannot master the bus no return is made, and it waits (Table DH-6). -/
def State.closeRing (s : State) (c n : Nat) : State :=
  if s.ringBlocked (s.ring c n) then
    (s.updRingOf c n fun g => { g with closing := true, chan := none, waitSince := none }).assignChannels
  else s.closeNow c n

/-- After KEEP, or once a function may master the bus again, the returns that waited are made, and rings are served again (R57,
Table DH-6). -/
def State.serveHeld (s : State) : State :=
  (forEach s.ringKeys (fun cn s =>
    if (s.ring cn.1 cn.2).closing && !s.ringBlocked (s.ring cn.1 cn.2) && s.dmaServes then s.closeNow cn.1 cn.2
    else if s.ringServed cn.1 cn.2 then s.tryReturn cn.1 cn.2 else s) s).assignChannels

/-- Whether the DMA engine's transfers are finished: each channel is idle or waits for descriptors (Table MO-9, step
6). -/
def State.dmaIdle (s : State) : Bool := s.ringKeys.all fun (c, n) => !s.ringReady c n

/-! BUF commands (R479, R480, R497, R498). -/

/-- Whether n is a power of two within bounds. -/
def pow2In (lo n hi : Nat) : Bool := inR lo n hi && (List.range 17).any fun k => n == 2 ^ k

/-- Whether a ring is enabled, and not being disabled. -/
def State.ringOn (s : State) (c n : Nat) : Bool := (s.ring c n).enabled && !(s.ring c n).closing

def bufRing : Cmd :=
  { op := 0x0901, legal := fun m _ => mSet m, len := lenIs 24,
    value := fun _ r =>
      let on := bit (r.u8 1) 0
      [need (decide (r.u8 0 ≤ 15)) (eValue 0), r.bitsBelow 1 1, r.zero 2 2,
       need (if on then pow2In 16 (r.u32 4) 65536 else r.u32 4 == 0) (eValue 4),
       need (if on then r.u64 8 % 32 == 0 else r.u64 8 == 0) (eValue 8),
       need (r.u32 0x10 == 0 || (on && inR 10 (r.u32 0x10) 10000000)) (eValue 0x10), r.zero 0x14 4],
    domains := fun s _ => s.enters [96],
    state := fun s r =>
      let on := bit (r.u8 1) 0
      [need (!on || (s.stream r.cab (r.u8 0)).kind != 0) (eState 0),
       need (if on then !(s.ring r.cab (r.u8 0)).enabled else s.ringOn r.cab (r.u8 0)) (eState 1)],
    commit := fun s r =>
      let n := r.u8 0
      { s :=
          if bit (r.u8 1) 0 then
            s.updRingOf r.cab n fun g =>
              { enabled := true, size := r.u32 4, base := BitVec.ofNat 64 (r.u64 8), timeout := r.u32 0x10, via := r.m,
                next := g.next }
          else s.closeRing r.cab n } }

/-- BUF.RING (R478, R479, R497). -/
def execBufRing (m : Fin 257) (n : Fin 4) (s : State) : Answer := .next (runCommand bufRing m n s)

def bufPost : Cmd :=
  { op := 0x0902, legal := mAnyNotBoot, len := lenIs 8,
    value := fun s r =>
      let g := s.ring r.cab (r.u8 0)
      [need (decide (r.u8 0 ≤ 15)) (eValue 0),
       need (r.u32 4 != 0 && (!g.enabled || decide ((g.post + BitVec.ofNat 32 (r.u32 4) - g.ret).toNat ≤ g.size))) (eValue 4)],
    reserved := fun r => [r.zero 1 3],
    domains := fun s _ => s.enters [96],
    state := fun s r => [need (s.ringOn r.cab (r.u8 0)) (eState 0)],
    commit := fun s r =>
      { s := (s.updRingOf r.cab (r.u8 0) fun g => { g with post := g.post + BitVec.ofNat 32 (r.u32 4) }).assignChannels } }

/-- BUF.POST (R480). -/
def execBufPost (m : Fin 257) (n : Fin 4) (s : State) : Answer := .next (runCommand bufPost m n s)

def bufStatus : Cmd :=
  { op := 0x0903, legal := mAny, len := lenIs 8, long := true,
    value := fun _ r => [need (decide (r.u8 0 ≤ 15)) (eValue 0)],
    reserved := fun r => [r.zero 1 7],
    domains := fun s _ => s.enters [96],
    commit := fun s r =>
      let n := r.u8 0
      let g := s.ring r.cab n
      let fl := (s.ringOn r.cab n).toNat + 2 * g.chan.isSome.toNat + 4 * (s.ringReady r.cab n && g.chan.isNone).toNat +
        8 * (g.enabled && s.ringBlocked g).toNat
      { s, result := leBytes 4 g.post.toNat ++ leBytes 4 g.ret.toNat ++ leBytes 8 g.next ++
          leBytes 8 (s.readyBytes r.cab n) ++ leBytes 1 fl ++ leBytes 1 (g.chan.getD 0xFF) ++
          leBytes 1 (decide (g.via = 256)).toNat ++ leBytes 1 0 ++ leBytes 4 g.badCount } }

/-- BUF.STATUS (R498). -/
def execBufStatus (m : Fin 257) (n : Fin 4) (s : State) : Answer := .next (runCommand bufStatus m n s)

end Sys2Proof.Machine
end

