-- ==== Sys2Proof/Machine/Runner.lean ====
section
/-! DEFINITION. The Runner link: training, admission and departure, election and the tree, hop delivery, transactions,
timebase distribution, merges, and the RUN family. Chapter 17. -/

namespace Sys2Proof.Machine

/-! The identity block (Table MB-2). -/

/-- MAILBOX of a mailbox's identity block: 0 OPEN, 1 CLOSED, 2 SLOW. -/
def State.mailboxState (s : State) (m : Nat) : Nat := if s.closed m then 1 else if s.mode = .keep then 2 else 0

/-- The 256 bytes of the identity block of a mailbox, with a TIMESTAMP. -/
def State.identityAt (s : State) (m time : Nat) : List Byte :=
  leBytes 4 0x4E595747 ++ leBytes 2 0x4832 ++ leBytes 1 0xA1 ++ leBytes 1 1 ++ leBytes 8 Config.deviceUid.toNat ++
    leBytes 1 ((s.cabOfMbx m).getD 0xFF) ++ leBytes 1 s.mode.code ++ leBytes 1 s.bootFailed.toNat ++
    leBytes 1 s.charter.source ++ leBytes 4 s.charter.gen ++ leBytes 4 s.epoch ++ leBytes 4 s.fwVersion ++
    leBytes 1 s.fwSlot ++ leBytes 1 (s.mailboxState m) ++ leBytes 2 s.wakeCause.toNat ++ leBytes 2 s.nodeId ++
    leBytes 2 s.haltCauses.toNat ++ leBytes 4 s.inc32 ++ leBytes 4 0 ++ leBytes 8 time ++ List.replicate 200 0

/-- The identity block as BAR0 serves it: TIMESTAMP is the copy that PCIe link holds (R448, R552). -/
def State.identity (s : State) (m : Nat) : List Byte := s.identityAt m s.stampCopy

/-! Ports (R512, R513, Table RN-2). -/

/-- Write RUN_PORT (Table RN-12). -/
def State.tellPort (s : State) (p : Nat) : State :=
  let x := s.port p
  let id := match x.peer with
    | some q => q.node
    | none => 0xFFFF
  let cause := if x.st = 4 then x.blocked else 0
  s.raiseTo (if x.peer.isSome then s.nodeCabs id else [0])
    (s.ev 0x0A01 p x.st (w2 (x.rate + id * 2 ^ 16 + cause * 2 ^ 32)))

/-- Put a port into a state and tell it. -/
def State.setPort (s : State) (p st : Nat) : State :=
  if (s.port p).st = st then s else (s.updPort p fun x => { x with st, since := s.now }).tellPort p

/-- Whether this node is in KEEP or on its way to KEEP or DORMANT, so that it gives up mastership (R59). -/
def State.yielding (s : State) : Bool :=
  s.mode == .keep || (match s.change with
    | some c => c.target == .keep || c.target == .dormant
    | none => false)

/-- Election priority of this node: 0 in KEEP (R524). -/
def State.ownPriority (s : State) : Nat := if s.yielding then 0 else s.runCfg.priority

/-- IDENT of Table RN-6. -/
def State.identBytes (s : State) (p : Nat) : List Byte :=
  let x := s.port p
  let (u, i) := match x.prev with
    | some (u, i) => (u.toNat, i.toNat)
    | none => (0, 0)
  leBytes 8 Config.deviceUid.toNat ++ leBytes 4 s.inc32 ++ leBytes 2 s.nodeId ++ leBytes 1 s.ownPriority ++
    leBytes 1 (s.runCfg.maxRate.getD p 3) ++ leBytes 1 0 ++ leBytes 1 (decide (s.mode = .keep)).toNat ++ leBytes 2 0 ++
    leBytes 8 u ++ leBytes 4 i

/-- Begin training at step 1: IDENT at code 1. A port in RETRY stays there (R512, R527). -/
def State.startTraining (s : State) (p : Nat) : State :=
  let s := s.updPort p fun x =>
    { x with
      rate := 1, trains := 0, idents := 0, peer := if x.st = 5 then x.peer else none, resume := false, synced := false }
  let s := if (s.port p).st = 5 then s else s.setPort p 1
  s.control p 0x02 (s.identBytes p)

/-- Send the 256 TRAIN packets of step 2 at the port's code. -/
def State.sendTrains (s : State) (p : Nat) : State :=
  forEach (List.range 256) (fun _ s => s.control p 0x01 (leBytes 64 0 |>.mapIdx fun i _ => BitVec.ofNat 8 i)) s

/-- Report every channel's BUFFERS, RECEIVED and FREED (Table RN-4, R519). -/
def State.sendCreditSync (s : State) (p : Nat) : State :=
  s.control p 0x06 ((List.range 4).flatMap fun v =>
    leBytes 2 (ownBuffers v) ++ leBytes 2 (s.vc p v).received ++ leBytes 2 (s.vc p v).freedHere ++ leBytes 2 0)

/-! Adverts, the election and the tree (R524, R525). -/

/-- ROOT_TICK: the root counts milliseconds from the start of its reign; any other node passes on what it received. -/
def State.tickNow (s : State) : Nat :=
  if s.isRoot then (s.now / 1000000 + 2 ^ 32 - s.rootTick % 2 ^ 32) % 2 ^ 32 else s.rootTick

/-- ADVERT of Table RN-7. -/
def State.sendAdvert (s : State) (p : Nat) : State :=
  let t := (s.port p).st
  if t = 1 ∨ t = 2 ∨ t = 3 then
    s.control p 0x0B
      (leBytes 8 (s.rootUid.getD Config.deviceUid).toNat ++ leBytes 1 s.rootPriority ++ leBytes 1 s.runEpoch ++
        leBytes 1 s.rootDistance ++ leBytes 1 (decide (s.parent = some p)).toNat ++ leBytes 4 s.tickNow)
  else s

def State.sendAdverts (s : State) : State := forEach (List.range 4) (fun p s => s.sendAdvert p) s

/-- What this node's adverts carry: root, priority, epoch, distance, parent port and ROOT_TICK, whose own count of a root
is no change. -/
def State.advertised (s : State) : Option (BitVec 64) × Nat × Nat × Nat × Option Nat × Nat :=
  (s.rootUid, s.rootPriority, s.runEpoch, s.rootDistance, s.parent, s.rootTick)

/-- ADVERT goes out at once at any change of its content (R524). -/
def State.announce (s : State) (was : Option (BitVec 64) × Nat × Nat × Nat × Option Nat × Nat) : State :=
  if s.advertised = was then s else s.sendAdverts

/-- Whether a port's advert is fresh: its ROOT_TICK has advanced within 3 ms, or within 60 ms at code 0. -/
def State.advertFresh (s : State) (a : Advert) : Bool :=
  decide (s.now - a.at_ ≤ if a.slow then 60000000 else 3000000)

/-- Whether root A is better than root B: higher priority, or the same and the lower UID. -/
def betterRoot (pa : Nat) (ua : BitVec 64) (pb : Nat) (ub : BitVec 64) : Bool :=
  decide (pb < pa) || (pa == pb && decide (ua.toNat < ub.toNat))

/-- The adverts a node may follow: fresh, on a trained port that is not a child port, of a root other than itself. -/
def State.offers (s : State) : List (Nat × Advert) :=
  (List.range 4).filterMap fun p =>
    let x := s.port p
    match x.advert with
    | some a =>
      if (x.st = 2 ∨ x.st = 3) ∧ s.advertFresh a ∧ ¬ a.parent ∧ a.root ≠ Config.deviceUid ∧ a.distance < 16 then some (p, a)
      else none
    | none => none

/-- The best offer: best root, then least distance, then lowest port. -/
def bestOffer (os : List (Nat × Advert)) : Option (Nat × Advert) :=
  os.foldl (fun best o => match best with
    | none => some o
    | some b =>
      if betterRoot o.2.priority o.2.root b.2.priority b.2.root then some o
      else if o.2.root = b.2.root ∧ o.2.priority = b.2.priority ∧ o.2.distance < b.2.distance then some o else best) none

/-- The entry of this node in MEMBER (R526). -/
def memberEntry (id distance cls inc : Nat) (uid : BitVec 64) : List Byte :=
  leBytes 2 id ++ leBytes 1 distance ++ leBytes 1 cls ++ leBytes 4 inc ++ leBytes 8 uid.toNat

/-- A MEMBER packet of one entry: OP 1 JOIN, 2 LEAVE. -/
def memberPacket (op : Nat) (e : List Byte) : Packet :=
  { type := 0x29, vc := 3, payload := leBytes 1 op ++ leBytes 1 1 ++ leBytes 2 0 ++ e }

def Node.entry (n : Node) (id : Nat) : List Byte := memberEntry id n.distance n.cls n.inc.toNat n.uid

/-- Send MEMBER of a node toward the root; the root broadcasts it. -/
def State.tellMember (s : State) (op : Nat) (e : List Byte) : State :=
  let k := memberPacket op e
  match s.parent with
  | some p => s.enqueue p none { k with src := s.nodeId, epoch := s.runEpoch, hops := 1 }
  | none => s.broadcast k

/-- LEAVE for a node behind a port that departs: toward the root, or, where that port led there, down the tree
(R526, Table RN-5). -/
def State.tellLeave (s : State) (p : Nat) (e : List Byte) : State :=
  let k := { memberPacket 2 e with src := s.nodeId, epoch := s.runEpoch, hops := 1 }
  match s.parent with
  | some q => if q = p then
      forEach (s.treePorts (some p)) (fun q s => s.enqueue q none { k with bcast := true }) s
    else s.enqueue q none k
  | none => forEach (s.treePorts (some p)) (fun q s => s.enqueue q none { k with bcast := true }) s

/-- The node table of this side, sent to a neighbour of another partition in MEMBER JOIN (R530). -/
def State.sendTable (s : State) (p : Nat) : State :=
  let own := if s.parent = some p then [] else [memberEntry s.nodeId s.rootDistance 0 s.inc32 Config.deviceUid]
  let es := own ++ s.nodes.filterMap fun (x : Nat × Option Node) => match x.2 with
    | some n => if n.port = p then none else some (n.entry x.1)
    | none => none
  if (s.port p).st = 2 then
    forEach es (fun e s =>
      s.enqueue p none { memberPacket 1 e with src := s.nodeId, epoch := s.runEpoch, hops := 1 }) s
  else s

/-- JOIN for this node itself. -/
def State.joinSelf (s : State) : State :=
  s.tellMember 1 (memberEntry s.nodeId s.rootDistance 0 s.inc32 Config.deviceUid)

/-- Write RUN_NODE (Table RN-12): 1 ADMITTED, 2 RESUMED, 3 DEPARTED. -/
def State.tellNode (s : State) (aux id inc : Nat) : State :=
  s.raiseTo (s.nodeCabs id) (s.ev 0x0A02 0xFF aux (w2 (id + inc * 2 ^ 32)))

/-- Write RUN_MASTER (Table RN-12): 1 ELECTED, 2 MERGED, 3 FORCED, 4 HANDOVER. -/
def State.tellMaster (s : State) (aux : Nat) : State :=
  s.raiseTo s.enabledCabs (s.ev 0x0A03 0xFF aux (w2 (s.masterNode + s.runEpoch * 2 ^ 16)))

/-- The node ID of a root, as the node table has it; where the table does not yet have it the spec gives none and it is a
free value (DESIGN CHOICE, log 30). -/
def State.idOfUid (s : State) (uid : BitVec 64) : Option Nat :=
  if uid = Config.deviceUid then some s.nodeId
  else s.nodes.findSome? fun (id, n) => match n with
    | some n => if n.uid = uid then some id else none
    | none => none

def State.learnMaster (s : State) (uid : BitVec 64) : State :=
  match s.idOfUid uid with
  | some id => { s with masterNode := id }
  | none => { s with masterNode := s.drawn.toNat % 1024 }.draw

/-- Whether a REMOTE channel follows a master other than the present one. -/
def State.oldAnchor (s : State) (c : Nat) : Bool :=
  let k := s.chan c
  k.source == .remote && k.anchorUid != 0 && (k.anchorEpoch != s.runEpoch || k.anchorUid != s.rootUid.getD 0)

/-- A REMOTE channel re-anchors to the new master: as a LOAD (R80, R109); it takes the next SYNC of the new epoch. -/
def State.reanchor (s : State) (c : Nat) : State :=
  (s.updChan c fun k => { k with anchorUid := 0, anchorEpoch := s.runEpoch }).discontinuity c 0

/-- Force the re-anchor of a channel: a bed with an open document takes no further lines for it, and its record is
flagged TIMEBASE_STEP (R109). -/
def State.forceAnchor (s : State) (c : Nat) : State :=
  let s := forEach ((List.range 4).filter fun b => (s.bed b).chan == c && s.configured b) (fun b s =>
    let s := forEach (s.docsOn b) (fun d s => s.docFlag d.acc 0x10) s
    s.updBed b fun x => { x with courses := x.courses.map fun k => { k with stopped := true } }) s
  s.reanchor c

/-- Whether a document is open on some bed that follows a channel (R530). -/
def State.chanOpen (s : State) (c : Nat) : Bool :=
  (List.range 4).any fun b => (s.bed b).chan == c && s.configured b && s.docOpenOn b

/-- Every trained port becomes ACTIVE when it is the parent port, a child port or still joins another root's partition,
and STANDBY otherwise (R525, R530). -/
def State.portRoles (s : State) : State :=
  forEach (List.range 4) (fun p s =>
    let x := s.port p
    if x.st = 2 ∨ x.st = 3 then
      let tree := s.parent == some p || (match x.advert with
        | some a => a.parent || some a.root != s.rootUid
        | none => false)
      s.setPort p (if tree then 2 else 3)
    else s) s

/-- This node becomes root of its side: its epoch is one more than the highest of its own and of those seen in the last
3 ms (R524). -/
def State.becomeRoot (s : State) : State :=
  let seen := ((List.range 4).flatMap fun p => (s.port p).advert.toList ++ (s.port p).lastRoot.toList).filterMap fun a =>
    if s.now - a.seen ≤ 3000000 then some a.epoch else none
  let e := (seen.foldl max s.runEpoch + 1) % 256
  { s with
    rootFell := false, parent := none, rootUid := some Config.deviceUid, rootPriority := s.ownPriority, rootDistance := 0, runEpoch := e,
    rootTick := s.now / 1000000, masterNode := s.nodeId }

/-- Whether the present root hands mastership over on its way to KEEP: this node is that root, or its root has fallen to
priority 0 (R59, R531). A root configured with priority 0 has not fallen to it. -/
def State.handsOver (s : State) : Bool :=
  (s.isRoot && s.rootUid.isSome && s.yielding) || s.rootFell ||
    (s.rootPriority != 0 && s.offers.any fun o => some o.2.root == s.rootUid && o.2.priority == 0)

/-- What an election means for this node once it has a new root: HANDOVER, with every channel of the old master
re-anchored at once, or ELECTED (R531). -/
def State.tellElected (s : State) (hand : Bool) : State :=
  if hand then
    forEach (List.range 4) (fun c s => if s.oldAnchor c then s.forceAnchor c else s) (s.tellMaster 4)
  else s.tellMaster 1

/-- Whether a new root offered on a port joins another partition to this one: the neighbour was admitted following it, or
no node of this partition is that root (R530). -/
def State.joinsSide (s : State) (p : Nat) (a : Advert) : Bool := (s.port p).joins || (s.idOfUid a.root).isNone

/-- What a merge is about to change here. -/
def State.side (s : State) : Side :=
  { parent := s.parent, rootUid := s.rootUid, priority := s.rootPriority, distance := s.rootDistance, epoch := s.runEpoch,
    tick := s.rootTick, master := s.masterNode, nodes := s.nodes,
    anchors := (List.range 4).map fun c => ((s.chan c).anchorUid, (s.chan c).anchorEpoch) }

/-- Step 2 of a merge by a port: the nodes of the old side are legacy, RUN_MASTER MERGED, and channels not in use re-anchor
(Table RN-10). Each merge keeps its own 2 s. -/
def State.beginMerge (s : State) (p : Nat) (master : Bool) (old : Side) : State :=
  let g : Merge := { epoch := old.epoch, since := s.now, master, port := p, side := some old }
  let s : State :=
    { s with
      merge := some (s.merge.getD g), mergeNext := if s.merge.isSome then s.mergeNext ++ [g] else s.mergeNext,
      nodes := s.nodes.map fun (x : Nat × Option Node) =>
        (x.1, x.2.map fun (n : Node) => { n with legacy := decide (n.port ≠ p) }) }
  let s := s.tellMaster 2
  forEach (List.range 4) (fun c s => if s.oldAnchor c && !s.chanInUse c then s.reanchor c else s) s

/-- This node follows a root through a port. A change of root while the old one is still alive is a merge where it joins
two partitions (R530, Table RN-10), unless the old root hands over (R531); any other is an election. The old root is
alive where this node was it, another port still offers it, or the port that did so with a tick still fresh now offers a
better one. -/
def State.follow (s : State) (p : Nat) (a : Advert) : State :=
  let changed := s.rootUid != some a.root
  let alive := s.isRoot || (s.offers.any fun o => some o.2.root == s.rootUid) || (match (s.port p).lastRoot with
    | some b => some b.root == s.rootUid && s.advertFresh b && betterRoot a.priority a.root b.priority b.root
    | none => false)
  let hand := s.handsOver
  let merges := changed && alive && !hand && s.joinsSide p a
  let moved := s.parent != some p
  let was := s.isRoot
  let old := s.side
  let s : State := { s with
    parent := some p, rootUid := some a.root, rootPriority := a.priority, rootDistance := a.distance + 1,
    runEpoch := a.epoch, rootTick := a.tick,
    rootFell := !changed && (s.rootFell || (s.rootPriority != 0 && a.priority == 0)) }
  let s : State := if merges then s else
    { s with nodes := s.nodes.map fun (x : Nat × Option Node) => (x.1, x.2.map fun (n : Node) =>
      if old.parent = some n.port then { n with port := p } else n) }
  let s := if changed then s.learnMaster a.root else s
  let s := s.portRoles
  let s := if changed ∨ moved then s.joinSelf else s
  if !changed then s else if merges then s.beginMerge p was old else s.tellElected hand

/-- The root and the parent port are chosen anew (R524). While the parent port is in RETRY the node holds its root
(R527). -/
def State.chooseRoot (s : State) : State :=
  let held := match s.parent with
    | some p => (s.port p).st == 5
    | none => false
  let own (s : State) : State :=
    if s.isRoot ∧ s.rootUid.isSome then s.portRoles
    else
      let hand := s.handsOver
      (s.becomeRoot.portRoles).tellElected hand
  if held then s.portRoles
  else
    let s := match bestOffer s.offers with
      | some (p, a) => if betterRoot s.ownPriority Config.deviceUid a.priority a.root then own s else s.follow p a
      | none => own s
    if s.isRoot then { s with rootPriority := s.ownPriority } else s

/-- The election, told in ADVERT at once where it changes anything (R524). -/
def State.elect (s : State) : State := s.chooseRoot.announce s.advertised

/-! Departure (R529, Table RN-5). -/

/-- A request completes with a STATUS of Table RN-8: the data of a read is written before RUN_DONE (R542). One
whose cabinet has been reset ends in silence, a response of it discarded and counted (Table CB-6). -/
def State.complete (s : State) (q : Request) (response : Bool) (status : Nat) (data : List Byte) : State :=
  let s := { s with requests := s.requests.filter fun r => r.id ≠ q.id }
  if q.dropped ∧ !response then s
  else if q.dropped then
    let s := s.inc 8 q.cab 25 1
    s.updCab q.cab fun x => { x with resetting := x.resetting.map fun r => { r with discarded := r.discarded + 1 } }
  else
    let s := if q.isRead ∧ status = 0 then (s.deliver q.mbx [(q.host.toNat, data)]).1 else s
    s.raise q.cab (s.ev 0x0A04 0xFF status (w2 (q.tag + q.dest * 2 ^ 16 + q.len * 2 ^ 32)))

/-- A posted write is reported undelivered (R535, R542). -/
def State.undelivered (s : State) (o : Posted) : State :=
  let s := s.inc 8 o.cab 24 1
  let s := s.updCab o.cab fun x => { x with resetting := x.resetting.map fun r => { r with undelivered := r.undelivered + 1 } }
  s.raise o.cab (s.ev 0x0A05 0xFF 0 (w2 (o.tag + o.dest * 2 ^ 16)))

/-- Requests of this node to departed nodes complete NODE_DEPARTED, then posts to them are reported undelivered
(Table RN-5, items 4 and 5). -/
def State.endTransactions (s : State) (ids : List Nat) : State :=
  let s := forEach ids (fun id s => forEach (s.requests.filter fun q => q.dest = id) (fun q s => s.complete q false 3 []) s) s
  forEach ids (fun id s =>
    let gone := s.posts.filter fun o => o.dest = id
    let s : State := { s with posts := s.posts.filter fun o => o.dest ≠ id, postSent := tset 0 s.postSent id 0,
                              postsIn := tset {} s.postsIn id {} }
    forEach gone (fun o s => s.undelivered o) s) s

/-- Packets that wait elsewhere and came in on a port whose credits are reclaimed hold no buffer of it any more. -/
def State.forgetOrigins (s : State) (p : Nat) : State :=
  forEach (List.range 4) (fun q s => s.updPort q fun x =>
    { x with vc := tmap {} x.vc fun v =>
        { v with waiting := v.waiting.map fun w => (w.1.filter fun o => o.1 ≠ p, w.2) } }) s

/-- What waits for a port is discarded, and its channels are cleared: the buffers that those packets hold on other hops are
freed, and credits of this hop are reclaimed (R18, Table RN-5, items 1 and 2). -/
def State.clearVcs (s : State) (p : Nat) : State :=
  let origins := ((List.range 4).flatMap fun v => (s.vc p v).waiting.map (·.1)).filter fun o => o.any fun x => x.1 ≠ p
  let s := s.updPort p fun x => { x with vc := [] }
  (forEach origins (fun o s => s.freeBuf o) s).forgetOrigins p

/-- What waits for a port that is BLOCKED is discarded; the credits of the hop, still trained, stand. -/
def State.dropWaiting (s : State) (p : Nat) : State :=
  let origins := (List.range 4).flatMap fun v => (s.vc p v).waiting.map (·.1)
  let s := s.updPort p fun x => { x with vc := tmap {} x.vc fun v => { v with waiting := [] } }
  forEach origins (fun o s => s.freeBuf o) s

/-- The nodes that a port leads to. -/
def State.behind (s : State) (p : Nat) : List (Nat × Node) :=
  s.nodes.filterMap fun (x : Nat × Option Node) => match x.2 with
    | some n => if n.port = p then some (x.1, n) else none
    | none => none

/-- Nodes behind a port depart: they leave the node table, LEAVE is sent, what this node asked of them ends, and RUN_NODE
is told (Table RN-5, items 3 to 7). -/
def State.leaveNodes (s : State) (p : Nat) (ids : List (Nat × Node)) : State :=
  let s : State := { s with nodes := ids.foldl (fun t x => tset none t x.1 none) s.nodes }
  let s := forEach ids (fun x s => s.tellLeave p (x.2.entry x.1)) s
  let s := s.endTransactions (ids.map (·.1))
  forEach ids (fun x s => s.tellNode 3 x.1 x.2.inc.toNat) s

/-- Every node that a port leads to departs. -/
def State.departNodes (s : State) (p : Nat) : State := s.leaveNodes p (s.behind p)

/-- A trained port is refused for a cause: BLOCKED, what waits for it discarded, and no node reached through it (R525,
R530). -/
def State.refusePort (s : State) (p cause : Nat) : State :=
  (((s.updPort p fun x => { x with blocked := cause, joins := false }).setPort p 4).dropWaiting p).departNodes p

/-- A port is BLOCKED, DEPTH, where its neighbour offers a better root that only a distance above 16 would reach, so that
this node is not admitted to that partition; with a shorter path to that root it is STANDBY (R525). -/
def State.depthCheck (s : State) (p : Nat) : State :=
  let x := s.port p
  match x.advert with
  | some a =>
    if (x.st = 2 ∨ x.st = 3) ∧ 16 ≤ a.distance ∧ ¬ a.parent ∧ some a.root ≠ s.rootUid ∧
        betterRoot a.priority a.root s.rootPriority (s.rootUid.getD Config.deviceUid) then s.refusePort p 1
    else s
  | none => s

/-- The neighbour of a port departs, with every node that the port leads to (Table RN-5). -/
def State.depart (s : State) (p : Nat) : State :=
  let stale := ((s.vc p 2).waiting.filter fun w => w.2.type = 0x20).length
  let s := s.clearVcs p
  let s := s.updPort p fun x => { x with advert := none, prev := none, resume := false }
  let s := s.inc 0x0A p 7 stale
  let s := s.inc 0x0A p 11 (if (s.port p).st = 1 then 0 else 1)
  s.departNodes p

/-- The nodes last reached through a STANDBY port that goes DOWN: those of this partition are reached over the tree, and
any other has departed (R525, R526, R529; DEDUCED, log 81). -/
def State.leaveStandby (s : State) (p : Nat) : State :=
  let inTree := (s.port p).advert.any fun a => some a.root == s.rootUid
  match s.parent with
  | some q => if inTree then
      { s with nodes := s.nodes.map fun (x : Nat × Option Node) => (x.1, x.2.map fun (n : Node) =>
        if n.port = p then { n with port := q } else n) }
    else s.departNodes p
  | none => s.departNodes p

/-- After a departure through the parent port this node is without it, and elects. -/
def State.afterDepart (s : State) (p : Nat) : State :=
  let s := s.updPort p fun x => { x with peer := none }
  if s.parent = some p then
    (({ s with parent := none, rootUid := none : State }.becomeRoot.portRoles).tellMaster 1).sendAdverts.elect
  else s.elect

/-! Link loss and retry (R513, R527, R529). -/

/-- A port loses its link. -/
def State.linkLost (s : State) (p : Nat) : State :=
  let x := s.port p
  if x.st = 2 then
    let s := s.updPort p fun x => { x with prev := x.peer.map fun q => (q.uid, q.inc) }
    let s := (s.setPort p 5).inc 0x0A p 9 1
    let v0 := (s.vc p 0).waiting.map (·.1)
    let v2 := (s.vc p 2).waiting
    let s := (s.updVc p 0 fun v => { v with waiting := [] }).updVc p 2 fun v =>
      { v with waiting := (v.waiting.take 64).map fun w => (none, w.2) }
    let s := s.inc 0x0A p 7 (v2.length - 64)
    let s := forEach (v0 ++ v2.map (·.1)) (fun o s => s.freeBuf o) s
    s.startTraining p
  else if x.st = 3 ∨ x.st = 4 then
    let s := ((s.setPort p 0).clearVcs p).leaveStandby p
    (s.updPort p fun x => { x with peer := none, advert := none, blocked := 0 }).elect
  else s

/-- RUNNER_LINK_LOSS. -/
def execRunnerLinkLoss (p : Fin 4) (s : State) : Answer := .next (s.linkLost p)

/-- RETRY_EXPIRY: the neighbour departs and the port goes DOWN (R529). -/
def execRetryExpiry (p : Fin 4) (s : State) : Answer :=
  .next (
    let x := s.port p
    if x.st = 5 ∧ x.since + s.runCfg.retry * 1000000 ≤ s.now then ((s.depart p).setPort p 0).afterDepart p else s)

/-- Whether a port may drive: enabled, not in DORMANT, and in KEEP only where it is trained or in RETRY (Table MO-6). -/
def State.portOn (s : State) (p : Nat) : Bool :=
  s.runCfg.enable.getLsbD p && s.mode != .dormant && s.serves && (s.mode != .keep || s.portLinked p)

/-- TRAINING_RETRY: training begins again, 10 ms after it failed (R512), or while it goes on without end; a port in RETRY
tries continuously (R527). -/
def execTrainingRetry (p : Fin 4) (s : State) : Answer :=
  .next (
    let x := s.port p
    if s.portOn p ∧ ((x.st = 0 ∧ x.since + 10000000 ≤ s.now) ∨ x.st = 1 ∨ x.st = 5) then s.startTraining p
    else s)

/-! Packets received (R515 to R517). -/

/-- The types of Table RN-4. -/
def knownTypes : List Nat :=
  [0x01, 0x02, 0x03, 0x04, 0x05, 0x06, 0x07, 0x08, 0x09, 0x0A, 0x0B, 0x10, 0x18, 0x19, 0x1A, 0x20, 0x21, 0x28, 0x29, 0x2A]

/-- A packet of a row's type comes in on a port that drives; one of no type of Table RN-4 is ignored and counted. -/
def State.received (s : State) (p : Nat) (k : Packet) (type : Nat) (f : State → State) : State :=
  if !s.portOn p then s
  else if k.type = type then
    f (s.inc 0x0A p 1 1)
  else if knownTypes.contains k.type then s
  else (s.inc 0x0A p 1 1).inc 0x0A p 6 1

/-- A link-control packet on a trained port. -/
def State.onControl (s : State) (p : Nat) (k : Packet) (type : Nat) (f : State → State) : State :=
  s.received p k type fun s => if s.trained p then f s else s

/-- NAK of a channel: EXPECTED is the number of the packet expected next (R517). -/
def State.sendNak (s : State) (p v : Nat) : State :=
  s.control p 0x04 (leBytes 1 v ++ leBytes 1 0 ++ leBytes 2 ((s.vc p v).received + 1))

/-- A packet of VC1 to VC3 on an ACTIVE port: only the packet expected next is accepted; any other is answered NAK once,
and what follows is discarded until the expected one comes (R517). -/
def State.onVc (s : State) (p : Nat) (k : Packet) (type v : Nat) (f : State → State) : State :=
  s.received p k type fun s =>
    if (s.port p).st ≠ 2 then s
    else
      let x := s.vc p v
      if k.seq = (x.received + 1) % 4096 then
        let s := s.updVc p v fun x => { x with received := (x.received + 1) % 65536, naked := false }
        (f s).sendAck p
      else if x.naked then s
      else
        let s := (s.updVc p v fun x => { x with naked := true }).inc 0x0A p 3 1
        s.sendNak p v

/-! Link control (R517 to R519, R522, R539). -/

/-- The peer that an IDENT names. -/
def peerOf (k : Packet) : Peer :=
  { uid := BitVec.ofNat 64 (fieldU k.payload 0 8), inc := BitVec.ofNat 32 (fieldU k.payload 8 4),
    node := fieldU k.payload 0x0C 2, priority := fieldU k.payload 0x0E 1, maxRate := fieldU k.payload 0x0F 1,
    cls := fieldU k.payload 0x10 1, keep := bit (fieldU k.payload 0x11 1) 0 }

/-- IDENT received: resume or fresh admission (R522), answered with this side's own, then step 2 of training at the highest
code both allow. The partner's answer to that one, which comes before any TRAIN, begins nothing; any further IDENT begins
training again (R512; DEDUCED, log 94). -/
def State.onIdent (s : State) (p : Nat) (k : Packet) : State :=
  let q := peerOf k
  let t := (s.port p).st
  let s := if t = 2 ∨ t = 3 ∨ t = 4 then s.linkLost p else s
  let x := s.port p
  if x.idents = 1 ∧ x.peer = some q ∧ x.trains = 0 then s.updPort p fun x => { x with idents := 2 }
  else
    let resume := x.st = 5 ∧ x.prev = some (q.uid, q.inc) ∧
      fieldU k.payload 0x14 8 = Config.deviceUid.toNat ∧ fieldU k.payload 0x1C 4 = s.inc32
    let s := if x.st = 5 ∧ ¬ resume then ((s.depart p).setPort p 1).afterDepart p else s
    let s := s.startTraining p
    let rate := max 1 (min (s.runCfg.maxRate.getD p 3) (min 3 q.maxRate))
    (s.updPort p fun x =>
      { x with peer := some q, resume := decide resume, idents := 1, rate, vc := if resume then x.vc else [] }).sendTrains p

def execIdent (p : Fin 4) (k : Packet) (s : State) : Answer := .next (s.received p k 0x02 fun s => s.onIdent p k)

/-- Whether a neighbour's node ID is held in the partition under another UID (R523). -/
def State.duplicate (s : State) (q : Peer) : Bool :=
  (q.node == s.nodeId && q.uid != Config.deviceUid) || match s.node q.node with
    | some n => n.uid != q.uid
    | none => false

/-- JOIN for the neighbour of a port that has become a child port (R526). -/
def State.joinChild (s : State) (p : Nat) : State :=
  match (s.port p).peer with
  | some q =>
    (match s.node q.node with
      | some n =>
        if n.port = p ∧ (s.port p).st = 2 then
          let n := { n with distance := s.rootDistance + 1 }
          { s with nodes := tset none s.nodes q.node (some n) }.tellMember 1 (n.entry q.node)
        else s
      | none => s)
  | none => s

/-- Whether the neighbour of a port just trained would lie more than 16 hops from the root: it has no other way to this
side's root, and does not bring a better one (R525; DEDUCED, log 94). -/
def State.beyondDepth (s : State) (p : Nat) : Bool :=
  decide (16 ≤ s.rootDistance) && match (s.port p).advert with
    | some a => some a.root != s.rootUid &&
        !betterRoot a.priority a.root s.rootPriority (s.rootUid.getD Config.deviceUid)
    | none => true

/-- A fresh admission of the neighbour of a port (R523 to R526, R530). RUN_PORT tells the state that the election leaves the
port in (R525). -/
def State.admitPeer (s : State) (p : Nat) (q : Peer) : State :=
  let refused (cause : Nat) : State := ((s.updPort p fun x => { x with blocked := cause }).setPort p 4).foundNode p
  if s.duplicate q then refused 2
  else if s.beyondDepth p then refused 1
  else
    let known := (s.node q.node).isSome
    let n : Node := { uid := q.uid, inc := q.inc, distance := s.rootDistance + 1, port := p, cls := q.cls,
                      priority := q.priority, keep := q.keep, legacy := false, admitted := s.now }
    let s : State := if known then s else { s with nodes := tset none s.nodes q.node (some n) }
    let s := s.foundNode p
    let s := if known then s else s.tellNode 1 q.node q.inc.toNat
    let ad := (s.port p).advert
    let other := ad.any fun a => some a.root != s.rootUid
    let s := s.updPort p fun x =>
      { x with st := 3, since := s.now, joins := ad.all fun a => some a.root != s.rootUid }
    let s := ((s.sendAdvert p).elect).depthCheck p
    let s := if (s.port p).st = 3 then s.tellPort p else s
    let s := if ad.any (·.parent) then s.joinChild p else s
    if other then s.sendTable p else s

/-- Training has passed: CREDIT_SYNC, the hop delay is measured, and the port enters the state that R522 and R525
decide. -/
def State.trainedNow (s : State) (p : Nat) : State :=
  let x := s.port p
  match x.peer with
  | none => s
  | some q =>
    let s := s.sendCreditSync p
    let s := (s.updPort p fun x => { x with t1 := s.now }).control p 0x07 (leBytes 8 s.now)
    if x.resume then
      let s := (s.updPort p fun x => { x with prev := none, resume := false }).setPort p 2
      let s := if x.synced then forEach (List.range 4) (fun v s => s.pumped p v) s else s
      let s := (s.inc 0x0A p 10 1).foundNode p
      (s.tellNode 2 q.node q.inc.toNat).sendAdvert p
    else s.admitPeer p q

/-- TRAIN received: the 256th without a CRC error ends training (R512). -/
def execTrain (p : Fin 4) (k : Packet) (s : State) : Answer :=
  .next (s.received p k 0x01 fun s =>
    let x := s.port p
    if (x.st = 1 ∨ (x.st = 5 ∧ x.resume)) ∧ x.peer.isSome ∧
        k.payload = (leBytes 64 0).mapIdx (fun i _ => BitVec.ofNat 8 i) then
      if x.trains = 255 then (s.updPort p fun x => { x with trains := 256 }).trainedNow p
      else if x.trains < 255 then s.updPort p fun x => { x with trains := x.trains + 1 }
      else s
    else s)

/-- Drop from a retry store what a count of packets received covers (R517, R519). -/
def Vc.covered (x : Vc) (received : Nat) : List (Nat × Packet) :=
  x.retry.filter fun (n, _) => ¬ (0 < (received + 65536 - n % 65536) % 65536 ∧ (received + 65536 - n % 65536) % 65536 < 32768)

/-- CREDIT_SYNC received: the retry store and the credits are reconciled, and the rest of the store replayed (R519). -/
def State.onCreditSync (s : State) (p : Nat) (k : Packet) : State :=
  forEach (List.range 4) (fun v s =>
    let buffers := fieldU k.payload (8 * v) 2
    let rec_ := fieldU k.payload (8 * v + 2) 2
    let freed := fieldU k.payload (8 * v + 4) 2
    let s := s.updVc p v fun x =>
      let retry := x.covered rec_
      { x with buffers, sent := rec_, freed, retry, replay := retry.length }
    s.pumped p v) (s.updPort p fun x => { x with synced := true })

/-- CREDIT_SYNC received, on a trained port or at the end of training (Table RN-2). -/
def execCreditSync (p : Fin 4) (k : Packet) (s : State) : Answer :=
  .next (s.received p k 0x06 fun s =>
    let x := s.port p
    if s.trained p ∨ (x.st = 1 ∧ x.peer.isSome) ∨ (x.st = 5 ∧ x.resume) then s.onCreditSync p k else s)

/-- ACK received: the retry store keeps what it does not cover. -/
def execAck (p : Fin 4) (k : Packet) (s : State) : Answer :=
  .next (s.onControl p k 0x03 fun s =>
    forEach (List.range 3) (fun i s => s.updVc p (i + 1) fun x =>
      let retry := x.covered (fieldU k.payload (2 * i) 2)
      { x with retry, replay := min x.replay retry.length }) s)

/-- NAK received: the packets from EXPECTED on are sent again, without further credit (R517, R518). -/
def execNak (p : Fin 4) (k : Packet) (s : State) : Answer :=
  .next (s.onControl p k 0x04 fun s =>
    let v := fieldU k.payload 0 1
    let e := fieldU k.payload 2 2
    if v = 0 ∨ 3 < v then s
    else
      let x := s.vc p v
      let again := (x.retry.take (x.retry.length - x.replay)).filter fun (n, _) =>
        decide ((n + 1 + 65536 - e) % 65536 < 32768)
      forEach again (fun nk s => (s.portSend p nk.2).inc 0x0A p 4 1) s)

/-- CREDIT received: FREED of every channel; what waits is sent as credit allows. -/
def execCredit (p : Fin 4) (k : Packet) (s : State) : Answer :=
  .next (s.onControl p k 0x05 fun s =>
    forEach (List.range 4) (fun v s => (s.updVc p v fun x => { x with freed := fieldU k.payload (2 * v) 2 }).pumped p v) s)

/-- CRC_ERROR: in step 2 of training the port falls to the next lower code, or fails at code 1, and a packet of step 1 is
lost (R512); otherwise a packet of VC1 to
VC3 is asked for again (R517); 16 within 1 ms lose the link (R513). The spec does not say what becomes of the credit of a
VC0 packet so lost: it stays taken until the next CREDIT_SYNC (DESIGN CHOICE, log 80). -/
def execCrcError (p : Fin 4) (vc : Fin 4) (s : State) : Answer :=
  .next (
    if !s.portOn p then s
    else
      let s := s.inc 0x0A p 2 1
      let x := s.port p
      if x.st = 1 ∨ x.st = 5 then
        if ¬ (x.st = 1 ∧ x.peer.isSome ∨ x.st = 5 ∧ x.resume) then s
        else if 1 < x.rate then (s.updPort p fun x => { x with rate := x.rate - 1, trains := 0 }).sendTrains p
        else if x.st = 1 then (s.setPort p 0).updPort p fun x => { x with peer := none, advert := none, trains := 0 }
        else s.updPort p fun x => { x with resume := false, trains := 0 }
      else if s.trained p then
        let ts := (x.crcTimes ++ [s.now]).filter fun t => decide (s.now - t < 1000000)
        let s := s.updPort p fun x => { x with crcTimes := ts }
        if 16 ≤ ts.length then (s.updPort p fun x => { x with crcTimes := [] }).linkLost p
        else if x.st = 2 ∧ vc ≠ 0 then
          let s := (s.updVc p vc fun x => { x with naked := true }).inc 0x0A p 3 1
          s.sendNak p vc
        else s
      else s)

/-- DELAY_REQ received: answered with T1, T2 and T3. -/
def execDelayReq (p : Fin 4) (k : Packet) (age : Nat) (s : State) : Answer :=
  .next (s.onControl p k 0x07 fun s =>
    s.control p 0x08 (leBytes 8 (fieldU k.payload 0 8) ++ leBytes 8 (s.now - age) ++ leBytes 8 s.now))

/-- DELAY_RESP received: half the round trip less the responder's time, in 2^-8 ns (R539). -/
def execDelayResp (p : Fin 4) (k : Packet) (age : Nat) (s : State) : Answer :=
  .next (s.onControl p k 0x08 fun s =>
    let t (i : Nat) : Int := fieldU k.payload (8 * i) 8
    if t 0 = (s.port p).t1 then
      s.updPort p fun x => { x with delay := (((s.now - age : Nat) - t 0) - (t 2 - t 1)) * 256 / 2 }
    else s)

/-- DELAY_EXCHANGE_DUE (R105); code 0 carries no delay exchange (R514). -/
def execDelayExchangeDue (p : Fin 4) (s : State) : Answer :=
  .next (if s.trained p ∧ 1 ≤ (s.port p).rate then
      (s.updPort p fun x => { x with t1 := s.now }).control p 0x07 (leBytes 8 s.now)
    else s)

/-- A port changes its rate: credits are reconciled after it (R61, R514). -/
def State.setRate (s : State) (p code : Nat) : State :=
  (s.updPort p fun x => { x with rate := code, rateAsked := none }).sendCreditSync p

/-- RATE received: the new code takes effect, followed by CREDIT_SYNC (R514). -/
def execRate (p : Fin 4) (k : Packet) (s : State) : Answer :=
  .next (s.onControl p k 0x09 fun s =>
    let code := fieldU k.payload 0 1
    if code ≤ 3 ∧ code ≠ (s.port p).rate then s.setRate p code else s)

/-- Ask for a change of rate and make it. -/
def State.askRate (s : State) (p code : Nat) : State := (s.control p 0x09 (leBytes 1 code)).setRate p code

/-- ADVERT received: the root and the parent are chosen anew (R524, R525). -/
def execAdvert (p : Fin 4) (k : Packet) (s : State) : Answer :=
  .next (s.received p k 0x0B fun s =>
    let x := s.port p
    if x.st = 1 ∨ x.st = 2 ∨ x.st = 3 then
      let root := BitVec.ofNat 64 (fieldU k.payload 0 8)
      let tick := fieldU k.payload 0x0C 4
      let at_ := match x.advert with
        | some a => if a.root = root ∧ a.tick = tick then a.at_ else s.now
        | none => s.now
      let a : Advert :=
        { root, priority := fieldU k.payload 8 1, epoch := fieldU k.payload 9 1, distance := fieldU k.payload 0x0A 1,
          parent := bit (fieldU k.payload 0x0B 1) 0, tick, at_, slow := x.rate == 0, seen := s.now }
      let content := s.advertised
      let was := x.advert.any (·.parent) && x.st ≠ 1
      let other := some root != s.rootUid
      let s := s.updPort p fun x =>
        { x with
          lastRoot := match x.advert with
            | some b => if b.root = a.root then x.lastRoot else some b
            | none => x.lastRoot,
          advert := some a }
      let s := if s.parent = some p ∧ s.rootUid = some root then { s with rootTick := tick } else s
      let s := (s.chooseRoot.depthCheck p).announce content
      let s := if a.parent ∧ !was then s.joinChild p else s
      let s := if x.advert.isNone && x.st ≠ 1 && other then s.sendTable p else s
      if s.rootUid = some root then s.updPort p fun x => { x with joins := false } else s
    else s)

/-- ADVERT_DUE: the periodic transmission of ADVERT and of link control (R513, R524). -/
def execAdvertDue (p : Fin 4) (s : State) : Answer :=
  .next (if s.portOn p then (s.sendAdvert p).sendAck p else s)

/-- ROOT_STALE: the ROOT_TICK of a port's advert has not advanced in time, so the election runs (R524). -/
def execRootStale (p : Fin 4) (s : State) : Answer :=
  .next (match (s.port p).advert with
    | some a => if s.advertFresh a then s else s.elect
    | none => s)

/-! Routing (R516, R526). -/

/-- RESP of a STATUS, with the data read, to the source of a request (Table RN-8). -/
def State.respond (s : State) (p : Nat) (k : Packet) (status : Nat) (data : List Byte) : State :=
  s.sendPkt (some (p, 1))
    { type := 0x20, vc := 2, dest := k.src, payload := leBytes 2 (fieldU k.payload 0 2) ++ leBytes 1 status ++ leBytes 1 data.length ++ leBytes 4 0 ++ data }

/-- A routed packet: for this node, or passed on; a root that knows no such node answers a request NO_NODE and discards
anything else. -/
def State.routed (s : State) (p : Nat) (k : Packet) (f : State → State) : State :=
  if k.dest = s.nodeId then f s
  else
    match s.routeTo k.dest with
    | some q => s.forward p (some (p, k.vc)) q k
    | none => if k.type = 0x18 ∨ k.type = 0x19 then s.respond p k 5 [] else s.discard (some (p, k.vc)) k

/-! Transactions (R532 to R537). -/

/-- READ received: the identity block within 0x00 to 0xFF, NO_ADDRESS otherwise (R537). -/
def execRead (p : Fin 4) (k : Packet) (s : State) : Answer :=
  .next (s.onVc p k 0x18 1 fun s => s.routed p k fun s =>
    let a := fieldU k.payload 4 4
    let n := fieldU k.payload 2 1
    if a + n ≤ 256 then s.respond p k 0 (((s.identityAt 0 s.now).drop a).take n) else s.respond p k 1 [])

/-- WRITE received: REFUSED (R537). -/
def execWrite (p : Fin 4) (k : Packet) (s : State) : Answer :=
  .next (s.onVc p k 0x19 1 fun s => s.routed p k fun s => s.respond p k 2 [])

/-- Acknowledge the posts of a source (R534). -/
def State.ackPosts (s : State) (src : Nat) : State :=
  let x := tget {} s.postsIn src
  let s := { s with postsIn := tset {} s.postsIn src { x with unacked := 0 } }
  s.sendPkt none { type := 0x21, vc := 2, dest := src, payload := leBytes 4 x.count.toNat ++ leBytes 4 0 }

/-- POST received: counted and discarded; the 64th not yet acknowledged is acknowledged at once (R534, R537). -/
def execPost (p : Fin 4) (k : Packet) (s : State) : Answer :=
  .next (s.onVc p k 0x1A 1 fun s => s.routed p k fun s =>
    let s := { s with postsIn := tupd {} s.postsIn k.src fun x =>
      { count := x.count + 1, unacked := x.unacked + 1, first := if x.unacked = 0 then s.now else x.first } }
    let s := s.freeBuf (some (p, 1))
    if 64 ≤ (tget {} s.postsIn k.src).unacked then s.ackPosts k.src else s)

/-- POST_ACK_DUE (R534). -/
def execPostAckDue (src : Fin 1024) (s : State) : Answer :=
  .next (if 0 < (tget {} s.postsIn src).unacked then s.ackPosts src else s)

/-- RESP received: it completes its request, or is discarded and counted (R532). NO_NODE comes from the root (R526). -/
def execResp (p : Fin 4) (k : Packet) (s : State) : Answer :=
  .next (s.onVc p k 0x20 2 fun s => s.routed p k fun s =>
    let s := s.freeBuf (some (p, 2))
    match s.requests.find? fun q => q.id = fieldU k.payload 0 2 ∧ (q.dest = k.src ∨ fieldU k.payload 2 1 = 5) with
    | some q => s.complete q true (fieldU k.payload 2 1) ((k.payload.drop 8).take (fieldU k.payload 3 1))
    | none => s.inc 0x0A p 7 1)

/-- POST_ACK received: the posts it covers are acknowledged (R534). -/
def execPostAck (p : Fin 4) (k : Packet) (s : State) : Answer :=
  .next (s.onVc p k 0x21 2 fun s => s.routed p k fun s =>
    let s := s.freeBuf (some (p, 2))
    let count := fieldU k.payload 0 4
    let done (o : Posted) : Bool := o.dest == k.src && decide ((count + 2 ^ 32 - o.n % 2 ^ 32) % 2 ^ 32 < 2 ^ 31)
    let acked := s.posts.filter done
    let s := { s with posts := s.posts.filter fun o => !done o }
    forEach acked (fun o s =>
      (s.inc 8 o.cab 23 1).updCab o.cab fun x =>
        { x with resetting := x.resetting.map fun r => { r with acked := r.acked + 1 } }) s)

/-- EVENT received: up to 6 bytes raise RUN_EVENT (R537). -/
def execEvent (p : Fin 4) (k : Packet) (s : State) : Answer :=
  .next (s.onVc p k 0x28 3 fun s => s.routed p k fun s =>
    let s := s.freeBuf (some (p, 3))
    if k.payload.length ≤ 6 then
      s.raiseTo (s.nodeCabs k.src)
        (s.ev 0x0A06 0xFF k.payload.length (w2 (k.src + leNat k.payload * 2 ^ 16)))
    else s.inc 0x0A p 8 1)

/-- REQ_TIMEOUT (R536). -/
def execReqTimeout (id : BitVec 16) (s : State) : Answer :=
  .next (match s.requests.find? fun q => q.id = id.toNat with
    | some q => if q.sent + s.runCfg.timeout * 1000000 ≤ s.now then s.complete q false 4 [] else s
    | none => s)

/-! Membership (R526, R530). -/

/-- A merge by a port is refused: the link is BLOCKED, and this side runs on as it was: the root, the routes, the node table
and the anchors that the merge changed are put back, and the nodes that came by that port depart (R530). The demotion of
Table RN-10 is made at once, before the whole table of the other side has come; what it told stands told (DESIGN CHOICE,
log 95). -/
def State.refuseMerge (s : State) (p : Nat) : State :=
  let all := s.merge.toList ++ s.mergeNext
  match all.find? fun g => g.port = p ∧ g.side.isSome with
  | some { side := some w, .. } =>
    let s := ((s.updPort p fun x => { x with blocked := 3, joins := false }).setPort p 4).dropWaiting p
    let back := (s.behind p).map fun x => (x.1, (tget none w.nodes x.1).filter fun n => n.port ≠ p)
    let gone := (s.behind p).filter fun x => back.all fun y => y.1 ≠ x.1 ∨ y.2.isNone
    let left := all.filter fun g => g.port ≠ p
    let s : State := { s with
      nodes := (back.foldl (fun t x => tset none t x.1 x.2) s.nodes).map fun (x : Nat × Option Node) =>
        (x.1, x.2.map fun (n : Node) => if left = [] then { n with legacy := false } else n),
      parent := w.parent, rootUid := w.rootUid, rootPriority := w.priority, rootDistance := w.distance, runEpoch := w.epoch,
      rootTick := w.tick, masterNode := w.master, merge := left.head?, mergeNext := left.tail }
    let s := forEach (List.range 4) (fun c s => s.updChan c fun k =>
      if k.source = .remote then
        { k with anchorUid := (w.anchors.getD c (0, 0)).1, anchorEpoch := (w.anchors.getD c (0, 0)).2 }
      else k) s
    (s.leaveNodes p gone).portRoles.sendAdverts
  | _ =>
    let s := s.refusePort p 3
    if s.parent = some p then
      (({ s with parent := none, rootUid := none : State }.becomeRoot.portRoles).tellMaster 1).sendAdverts
    else s

/-- An entry of MEMBER JOIN that came in on a port: from a child port, or in the table of a neighbour that joins, it says
that the node lies behind that port (R526). A node ID held under another UID refuses the merge: the link goes BLOCKED and
this side runs on as it was (R530). -/
def State.memberJoin (s : State) (p : Nat) (bcast : Bool) (e : List Byte) : State :=
  let id := fieldU e 0 2
  let uid := BitVec.ofNat 64 (fieldU e 8 8)
  let inc := BitVec.ofNat 32 (fieldU e 4 4)
  if id = s.nodeId ∧ uid = Config.deviceUid then s
  else
    let clash := (id == s.nodeId) || (match s.node id with
      | some n => n.uid != uid && n.port != p
      | none => false)
    if clash then
      if bcast then s
      else s.refuseMerge p
    else
      match s.node id with
      | some n =>
        let port := if (!bcast && s.parent != some p) || (s.port n.port).st == 3 then p else n.port
        let n := { n with uid, inc, distance := fieldU e 2 1, cls := fieldU e 3 1, port }
        { s with nodes := tset none s.nodes id (some n) }
      | none =>
        let v := s.drawn
        let n : Node :=
          { uid, inc, distance := fieldU e 2 1, port := p, cls := fieldU e 3 1, priority := (v.extractLsb' 0 8).toNat,
            keep := v.getLsbD 8, legacy := false, admitted := s.now }
        ({ s with nodes := tset none s.nodes id (some n) }.draw).tellNode 1 id inc.toNat

/-- An entry of MEMBER LEAVE: the node is gone where it lay behind that port, and what this node asked of it ends (R529). -/
def State.memberLeave (s : State) (p : Nat) (e : List Byte) : State :=
  let id := fieldU e 0 2
  match s.node id with
  | some n =>
    if n.port = p ∨ (s.port n.port).st = 3 then
      (({ s with nodes := tset none s.nodes id none }).endTransactions [id]).tellNode 3 id n.inc.toNat
    else s
  | none => s

/-- MEMBER received: learned, and passed on toward the root; the root rebroadcasts it to every node, the one behind the port
of arrival among them, since each learns a LEAVE from it (R529). The table that comes by the parent port at a merge goes
on down this side (R530; DEDUCED, log 99). -/
def execMember (p : Fin 4) (k : Packet) (s : State) : Answer :=
  .next (s.onVc p k 0x29 3 fun s =>
    let op := fieldU k.payload 0 1
    let n := fieldU k.payload 1 1
    let s := forEach (List.range (min n 3)) (fun i s =>
      let e := (k.payload.drop (4 + 16 * i)).take 16
      if op = 1 then s.memberJoin p k.bcast e else if op = 2 then s.memberLeave p e else s) s
    match s.parent with
    | some q =>
      if k.bcast ∨ q = p.val then s.rebroadcast p (some (p, 3)) (s.treePorts (some p)) k
      else s.forward p (some (p, 3)) q k
    | none => s.rebroadcast p (some (p, 3)) (s.treePorts (if k.bcast then some p else none)) k)

/-! Timebase distribution (R104 to R109, R538). -/

/-- Velocity of a channel for SYNC, in 2^-16 tick per us. -/
def State.syncVel (s : State) (c : Nat) : Int := (s.chanVel c * 65536 / 1000000).floor

/-- The SYNC of this node's exported channels, sampled now (Table RN-9). -/
def State.syncPacket (s : State) (epoch : Nat) (legacy : Bool) : Packet :=
  let cs := (List.range 4).filter fun c => (s.chan c).exported
  let mask := cs.foldl (fun n c => n + 2 ^ c) 0
  addCorr { type := 0x10, vc := 0, src := s.nodeId, bcast := true, hops := 1, epoch, payload := leBytes 8 s.now ++ leBytes 4 0 ++ leBytes 1 mask ++ leBytes 1 legacy.toNat ++ leBytes 2 s.syncCount ++ cs.flatMap fun c => leBytes 8 (s.chanPos c).toNat ++ leInt 4 (s.syncVel c) }
    (-(s.now * 256 : Nat))

/-- Send a SYNC down every ACTIVE port. -/
def State.sendSync (s : State) (epoch : Nat) (legacy : Bool) : State :=
  let k := s.syncPacket epoch legacy
  let s := { s with syncCount := (s.syncCount + 1) % 65536 }
  forEach (s.treePorts none) (fun p s => s.enqueue p none k) s

/-- SYNC_DUE: the master's sync (R104). -/
def execSyncDue (s : State) : Answer :=
  .next (if s.isRoot ∧ s.serves ∧ s.mode ≠ .keep ∧ s.rootUid.isSome then s.sendSync s.runEpoch false else s)

/-- LEGACY_SYNC_DUE: the demoted master's sync during a merge (Table RN-10, step 3). -/
def execLegacySyncDue (s : State) : Answer :=
  .next (match (s.merge.toList ++ s.mergeNext).find? (·.master) with
    | some g => if s.mode ≠ .keep ∧ s.now - g.since < 2000000000 then s.sendSync g.epoch true else s
    | none => s)

/-- The offset of this node's timestamp from the master's (R106, R538). -/
def State.trackOffset (s : State) (p : Nat) (k : Packet) (age : Nat) : State :=
  let base : Int := fieldU k.payload 8 4 + (s.port p).delay
  { s with systemOffset := (fieldU k.payload 0 8 : Int) + base / 256 - (s.now - age : Nat) }

/-- What a SYNC tells a REMOTE channel that takes it: its position now, extrapolated from the instant of sampling. The
first since KEEP ends its hold, as a LOAD (R88; DEDUCED, log 96). At the first from a master, and at the first after a loss,
for which R235 names no step (DESIGN CHOICE, log 89), axes geared to the channel take its position as their new anchor. -/
def State.takeSync (s : State) (c p : Nat) (k : Packet) (age at_ : Nat) : State :=
  let base : Int := fieldU k.payload 8 4 + (s.port p).delay
  let ago : Int := base / 256 + age
  let vel := fieldS k.payload (at_ + 8) 4
  let pos := BitVec.ofNat 64 (fieldU k.payload at_ 8) + posOf (vel * ago / 1000)
  let x := s.chan c
  let first := !x.present || x.anchorUid == 0 || x.fresh || x.held
  let other := !x.present && x.anchorUid != 0 && x.anchorUid != s.rootUid.getD 0
  let lost := !x.present
  let s := s.updChan c fun x =>
    { x with
      base := pos, t0 := s.now, vel := vel * 1000000, present := true, syncAt := s.now - age, fresh := false, held := false,
      anchorUid := if first then s.rootUid.getD 0 else x.anchorUid,
      anchorEpoch := if first then k.epoch else x.anchorEpoch }
  let s := if first then (s.updChan c fun x => { x with lastTick := pos.toInt / 65536 }).regear c pos else s.countTicks c
  let s := if x.held then s.discontinuity c 1 else if other then s.discontinuity c 0 else s
  if lost then s.sourceBack c else s

/-- Whether a REMOTE channel takes a SYNC: of the epoch it is anchored to, or, while it has no source or awaits its
anchor, of the partition's own (R530, R531). -/
def State.takes (s : State) (c : Nat) (k : Packet) : Bool :=
  let x := s.chan c
  x.source == .remote &&
    (if x.present && x.anchorUid != 0 then k.epoch == x.anchorEpoch else k.epoch == s.runEpoch)

/-- SYNC received: passed on, and taken by the REMOTE channels that follow its channels (R106, R538). -/
def execSync (p : Fin 4) (k : Packet) (age : Nat) (s : State) : Answer :=
  .next (s.received p k 0x10 fun s =>
    if (s.port p).st ≠ 2 ∨ (s.port p).rate < 2 ∨ s.mode = .keep then s
    else
      let s := s.updVc p 0 fun x => { x with received := (x.received + 1) % 65536 }
      let mask := fieldU k.payload 0x0C 1
      let s := if k.epoch = s.runEpoch then { s with masterNode := k.src }.trackOffset p k age else s
      let s := forEach (List.range 4) (fun c s =>
        let m := (s.chan c).unit
        let i := ((List.range m).filter fun j => bit mask j).length
        if s.takes c k && bit mask m then s.takeSync c p k age (0x10 + 12 * i) else s) s
      s.rebroadcast p (some (p, 0)) (s.treePorts (some p)) (addCorr k ((s.port p).delay - ((s.now - age) * 256 : Nat))))

/-- REANCHOR: a channel still anchored to the old epoch reaches a gap (Table RN-10, step 4). -/
def execReanchor (c : Fin 4) (s : State) : Answer :=
  .next (if s.merge.isSome ∧ s.oldAnchor c ∧ ¬ s.chanOpen c then s.reanchor c else s)

/-- REANCHOR_FORCED: 2 s after a merge the channels that remain anchored to the epoch of the side it demoted are forced and
the legacy syncs stop (Table RN-10, step 5); those of a later merge have its own 2 s. -/
def execReanchorForced (s : State) : Answer :=
  .next (match s.merge with
    | some g =>
      if g.since + 2000000000 ≤ s.now then
        let cs := (List.range 4).filter fun c =>
          s.oldAnchor c && s.mergeNext.all fun h => (s.chan c).anchorEpoch != h.epoch
        let s := forEach cs (fun c s => s.forceAnchor c) s
        let s : State := { s with
          merge := s.mergeNext.head?, mergeNext := s.mergeNext.tail,
          nodes := s.nodes.map fun (x : Nat × Option Node) =>
            (x.1, x.2.map fun (n : Node) => { n with legacy := n.legacy && !s.mergeNext.isEmpty }) }
        if cs.isEmpty then s else s.tellMaster 3
      else s
    | none => s)

/-! System snapshots (R595, R596). -/

/-- SNAP received: passed on, and armed on the channel that follows MASTER_CH, or missed with its cause. -/
def State.receiveSnap (s : State) (k : Packet) : State :=
  let id := fieldU k.payload 0 1
  let mc := fieldU k.payload 1 1
  let fl := fieldU k.payload 2 1
  let target := BitVec.ofNat 64 (fieldU k.payload 8 8)
  let miss (cause : Nat) : State :=
    (s.inc 0x0E 0 12 1).raise 0 (s.ev 0x0B02 0xFF id (w2 (k.src + cause * 65536)))
  let ch := if s.isRoot then (if mc < 4 ∧ (s.chan mc).source ≠ .none then some mc else none)
    else (List.range 4).find? fun c => (s.chan c).source = .remote ∧ (s.chan c).unit = mc
  match ch with
  | none => miss 1
  | some c =>
    match s.snapSlot, s.freeCurators.head? with
    | some slot, some j =>
      if k.epoch ≠ s.runEpoch then miss 3
      else if !s.mode.p3 then miss 5
      else if reachedIn (fl % 4) (s.chanPos c) target && !bit fl 2 then miss 6
      else s.armSnap slot j 0 c (fl % 4) target { origin := k.src, id }
    | _, _ => miss 2

def execSnap (p : Fin 4) (k : Packet) (s : State) : Answer :=
  .next (s.onVc p k 0x2A 3 fun s => (s.rebroadcast p (some (p, 3)) (s.treePorts (some p)) k).receiveSnap k)

/-! RUN commands (R540 to R542). -/

/-- Apply PORT_ENABLE: a port no longer in use goes DOWN and its neighbour departs; one newly in use seeks a partner. -/
def State.applyEnable (s : State) (mask : BitVec 4) : State :=
  let s := forEach ((List.range 4).filter fun p => s.runCfg.enable.getLsbD p && !mask.getLsbD p) (fun p s =>
    if (s.port p).st = 0 then s else ((s.depart p).setPort p 0).afterDepart p) s
  { s with runCfg := { s.runCfg with enable := mask } }

/-- Store the fields of RUN.CONFIG; the NVS starts no word while VIN12 lies outside its limits (R567). -/
def State.saveRunCfg (s : State) (c : RunCfg) : State :=
  if (s.supply 0).outside then s
  else { (s.beginRecord (.settings s.runNext)).freeRecord 21424 with runNext := c }

def runConfig : Cmd :=
  { op := 0x0A01, owner := some (dSubject 2), legal := fun m _ => m == .idle, len := lenIs 16,
    value := fun _ r =>
      [need (decide (r.u16 0 ≤ 1023)) (eValue 0)] ++
      ((List.range 4).map fun i => need (inR 1 (r.u8 (4 + i)) 3) { eValue (4 + i) with index := i }) ++
      [need (inR 1 (r.u32 8) 10000) (eValue 8), need (inR 2 (r.u32 0x0C) 60000 && decide (r.u32 8 < r.u32 0x0C)) (eValue 0x0C)],
    reserved := fun r => [r.bitsBelow 3 4],
    domains := fun s _ => s.enters [97],
    commit := fun s r =>
      let enable := BitVec.ofNat 4 (r.u8 3)
      let maxRate := (List.range 4).map fun i => r.u8 (4 + i)
      let s := s.saveRunCfg
        { node := some (r.u16 0), priority := r.u8 2, enable, maxRate, retry := r.u32 8, timeout := r.u32 0x0C }
      let s := s.applyEnable enable
      { s := { s with runCfg := { s.runCfg with maxRate, retry := r.u32 8, timeout := r.u32 0x0C } } } }

/-- RUN.CONFIG (R540). -/
def execRunConfig (m : Fin 257) (n : Fin 4) (s : State) : Answer := .next (runCommand runConfig m n s)

/-- What RUN.NODES writes for a cabinet (R541). -/
def State.nodeBytes (s : State) (c : Nat) : List Byte :=
  let ok (id : Nat) : Bool := c == 0 || s.nodeAllowed c id
  let selfE : Node :=
    { uid := Config.deviceUid, inc := BitVec.ofNat 32 s.inc32, distance := s.rootDistance, port := 0xFF, cls := 0,
      priority := s.ownPriority, keep := decide (s.mode = .keep), legacy := (List.range 4).any fun k => s.oldAnchor k,
      admitted := 0 }
  let all := ((tset none s.nodes s.nodeId (some selfE)).filterMap fun (id, n) => n.map fun n => (id, n)).filter
    fun e => ok e.1
  let peer (p : Nat) : Nat := match (s.port p).peer with
    | some q => q.node
    | none => 0xFFFF
  leBytes 2 s.nodeId ++ leBytes 2 s.masterNode ++ leBytes 1 s.runEpoch ++
    leBytes 1 (s.isRoot.toNat + 2 * s.merge.isSome.toNat) ++ leBytes 2 all.length ++
    ((List.range 4).flatMap fun p => leBytes 1 (s.port p).st) ++
    ((List.range 4).flatMap fun p => leBytes 1 (s.port p).rate) ++
    ((List.range 4).flatMap fun p => leBytes 2 (peer p)) ++ leBytes 8 0 ++
    all.flatMap fun (id, n) =>
      leBytes 2 id ++ leBytes 1 n.distance ++ leBytes 1 n.port ++ leBytes 1 n.cls ++
        leBytes 1 ((decide (id = s.masterNode)).toNat + 2 * n.keep.toNat + 4 * n.legacy.toNat) ++
        leBytes 1 n.priority ++ leBytes 1 0 ++ leBytes 8 n.uid.toNat ++ leBytes 4 n.inc.toNat ++ leBytes 8 n.admitted ++
        leBytes 4 0

def runNodes : Cmd :=
  { op := 0x0A02, writes := true, legal := mAny, len := lenIs 16,
    value := fun _ r => [need (decide (32 ≤ r.u32 8)) (eValue 8)],
    reserved := fun r => [r.zero 0x0C 4],
    commit := fun s r =>
      let bs := s.nodeBytes r.cab
      { s, result := leBytes 4 bs.length, writes := [(r.u64 0, bs.take (r.u32 8))] } }

/-- RUN.NODES (R541). -/
def execRunNodes (m : Fin 257) (n : Fin 4) (s : State) : Answer := .next (runCommand runNodes m n s)

/-- The checks that the three transaction commands share (R542): the field range, then the reserved bytes, then the
node itself as DEST. -/
def runCharter (s : State) (r : Req) : Option Err :=
  need (s.nodeAllowed r.cab (r.u16 0)) (eCharter 0)
def runValue (s : State) (r : Req) : List (Option Err) :=
  [need (inR 1 (r.u8 4) 56) (eValue 4), r.zero 5 3, r.zero 0x0C 4, need (r.u16 0 != s.nodeId) (eValue 0)]
def runMember (s : State) (r : Req) : Option Err := need (s.node (r.u16 0)).isSome { code := 0x0C, detail := dField 0 }

/-- Send a READ or WRITE and keep it until it completes. -/
def State.request (s : State) (r : Req) (isRead : Bool) : State :=
  let id := ((List.range 65536).find? fun i => s.requests.all fun q => q.id ≠ (s.nextReq + i) % 65536).getD 0
  let id := (s.nextReq + id) % 65536
  let q : Request :=
    { id, dest := r.u16 0, cab := r.cab, mbx := r.m, tag := r.u16 2, isRead, len := r.u8 4,
      host := if isRead then BitVec.ofNat 64 (r.u64 0x10) else 0, sent := s.now }
  let s := { s with
    nextReq := (id + 1) % 65536,
    requests := s.requests ++ [q] }
  let body := leBytes 2 id ++ leBytes 1 (r.u8 4) ++ leBytes 1 0 ++ leBytes 4 (r.u32 8) ++
    (if isRead then [] else (r.p.drop 0x10).take (r.u8 4))
  s.sendPkt none { type := if isRead then 0x18 else 0x19, vc := 1, dest := r.u16 0, payload := body }

/-- Reads and writes incomplete, of a cabinet or of the device. -/
def State.openRequests (s : State) (c : Option Nat) : Nat :=
  (s.requests.filter fun q => c == none || c == some q.cab).length

def runReadWrite (op : Nat) (isRead : Bool) : Cmd :=
  { op, legal := mAnyNotBoot,
    len := if isRead then lenIs 24 else lenBy 16 271 fun r => 16 + r.u8 4,
    charter := fun s r => [runCharter s r], value := runValue,
    state := fun s r => [runMember s r],
    quota := fun s r => [need (decide (s.openRequests (some r.cab) < 16)) eQuota],
    resource := fun s _ => [need (decide (s.openRequests none < 64)) eResource],
    commit := fun s r => { s := s.request r isRead } }

/-- RUN.READ (R542). -/
def execRunRead (m : Fin 257) (n : Fin 4) (s : State) : Answer := .next (runCommand (runReadWrite 0x0A03 true) m n s)

/-- RUN.WRITE (R542). -/
def execRunWrite (m : Fin 257) (n : Fin 4) (s : State) : Answer := .next (runCommand (runReadWrite 0x0A04 false) m n s)

/-- Send a POST, counted toward its target (R534, R542). -/
def State.sendPost (s : State) (r : Req) : State :=
  let d := r.u16 0
  let n := tget 0 s.postSent d + 1
  let s := { s with
    postSent := tset 0 s.postSent d n, posts := s.posts ++ [({ dest := d, cab := r.cab, tag := r.u16 2, n } : Posted)] }
  let body := leBytes 2 0 ++ leBytes 1 (r.u8 4) ++ leBytes 1 0 ++ leBytes 4 (r.u32 8) ++ (r.p.drop 0x10).take (r.u8 4)
  (s.inc 8 r.cab 22 1).sendPkt none { type := 0x1A, vc := 1, dest := d, payload := body }

def runPost : Cmd :=
  { op := 0x0A05, legal := mAnyNotBoot, len := lenBy 16 271 fun r => 16 + r.u8 4,
    charter := fun s r => [runCharter s r], value := runValue,
    state := fun s r => [runMember s r],
    quota := fun s r => [need (decide ((s.posts.filter fun o => o.cab == r.cab).length < 256)) eQuota],
    commit := fun s r => { s := s.sendPost r } }

/-- RUN.POST (R542). -/
def execRunPost (m : Fin 257) (n : Fin 4) (s : State) : Answer := .next (runCommand runPost m n s)

end Sys2Proof.Machine
end

