-- ==== Sys2Proof/Machine/Herbarium.lean ====
section
/-! DEFINITION. Humel images and charters as the Founding ROM and HB.WRITE judge them, and the HB family. Chapters 14
and 19. -/

namespace Sys2Proof.Machine

/-! Humel images (R419, Table CB-1). -/

/-- The common header, the length and the CRC of a signed image of a kind (R419). -/
def humelOk (img : List Byte) (kind : Nat) : Bool :=
  let total := fieldU img 8 4
  fieldU img 0 4 == 0x4C4D5548 && fieldU img 4 2 == 1 && fieldU img 6 1 == kind && fieldU img 7 1 == 0 &&
    decide (0x26 ≤ total) && img.length == total + 64 && fieldU img 0x10 2 == 64 && fieldU img 0x12 14 == 0 &&
    crc32 (patch (img.take total) 0x0C [0, 0, 0, 0]) == BitVec.ofNat 32 (fieldU img 0x0C 4)

/-- The signature of a signed image under a public key (R419). -/
def signedBy (key img : List Byte) : Bool :=
  let total := fieldU img 8 4
  ecdsaVerify key (img.take total) (img.drop total)

/-! Charters (R420, R421). -/

/-- The 32 bytes of a charter entry (Table CB-3). -/
def CharterEntry.bytes (e : CharterEntry) : List Byte :=
  if !e.enable then List.replicate 32 0
  else
    leBytes 1 (1 + 2 * e.cuttings.toNat) ++ leBytes 1 e.function ++ leBytes 1 e.beds.toNat ++ leBytes 1 e.axes.toNat ++
      leBytes 2 e.gpio.toNat ++ leBytes 2 e.maxDocs ++ leBytes 2 e.nodeLo ++ leBytes 2 e.nodeHi ++
      leBytes 2 e.dmaReserve ++ leBytes 1 e.dmaWeight ++ leBytes 1 e.tineWeight ++ leBytes 4 e.dramBase ++
      leBytes 4 e.dramSize ++ leBytes 8 0

/-- The bytes of the entry of a cabinet in a charter image. -/
def entryOf (img : List Byte) (c : Nat) : List Byte := (img.drop (0x40 + 32 * c)).take 32

/-- An entry from its bytes; a disabled one is the default. -/
def entryIn (b : List Byte) : CharterEntry :=
  let u (off n : Nat) := fieldU b off n
  if !bit (u 0 1) 0 then {}
  else
    { enable := true, cuttings := bit (u 0 1) 1, function := u 1 1, beds := BitVec.ofNat 4 (u 2 1),
      axes := BitVec.ofNat 8 (u 3 1), gpio := BitVec.ofNat 16 (u 4 2), maxDocs := u 6 2, nodeLo := u 8 2,
      nodeHi := u 0x0A 2, dmaReserve := u 0x0C 2, dmaWeight := u 0x0E 1, tineWeight := u 0x0F 1,
      dramBase := u 0x10 4, dramSize := u 0x14 4 }

/-- Whether every field of an enabled entry lies within its range, and every byte of a disabled one is 0. -/
def entryOk (c : Nat) (b : List Byte) : Bool :=
  let u (off n : Nat) := fieldU b off n
  if !bit (u 0 1) 0 then b.all (· == 0)
  else
    decide (u 0 1 < 4) && (if c = 0 then u 1 1 == 0 else u 1 1 != 0) && decide (u 2 1 < 16) && inR 1 (u 6 2) 1024 &&
      (if u 8 2 = 0xFFFF then u 0x0A 2 == 0xFFFF else decide (u 8 2 ≤ 1023) && inR (u 8 2) (u 0x0A 2) 1023) &&
      decide (u 0x0C 2 ≤ 1024) && decide (1 ≤ u 0x0E 1) && decide (1 ≤ u 0x0F 1) && decide (u 0x10 4 ≤ 7679) &&
      inR 1 (u 0x14 4) (7680 - u 0x10 4) && u 0x18 8 == 0

/-- The charter that an image carries. -/
def charterIn (img : List Byte) (source : Nat) : Charter :=
  { source, gen := fieldU img 0x20 4, usbCabinet := fieldU img 0x2C 1, quantum := fieldU img 0x2D 1,
    entries := (List.range 256).filterMap fun c =>
      let e := entryIn (entryOf img c)
      if e.enable then some (c, e) else none }

/-- Whether no two enabled entries name one FUNCTION, nor their windows overlap. -/
def entriesApart : List CharterEntry → Bool
  | [] => true
  | e :: t => entriesApart t && t.all fun f =>
      (e.function == 0xFF || e.function != f.function) &&
        (decide (e.dramBase + e.dramSize ≤ f.dramBase) || decide (f.dramBase + f.dramSize ≤ e.dramBase))

/-- The entry of cabinet 0 that R421 asks for. -/
def ownerEntryOk (e : CharterEntry) : Bool :=
  e.enable && e.function == 0 && e.beds == 0xF && e.axes == 0xFF && e.gpio == 0xFFFF && e.nodeLo == 0 &&
    e.nodeHi == 1023

/-- The charter copies R421 accepts. -/
def State.charterOk (s : State) (img : List Byte) : Bool :=
  let ch := charterIn img 0
  humelOk img 2 && fieldU img 8 4 == 8256 &&
    (match s.ownerKey with
      | some key => signedBy key img
      | none => false) &&
    fieldU img 0x24 8 == Config.deviceUid.toNat && decide (1 ≤ ch.gen) && decide (s.charterFloor ≤ ch.gen) &&
    decide (1 ≤ ch.quantum) && fieldU img 0x2E 18 == 0 &&
    (List.range 256).all (fun c => entryOk c (entryOf img c)) && ownerEntryOk (tget {} ch.entries 0) &&
    entriesApart (ch.entries.map (·.2)) &&
    decide (ch.entries.foldl (fun n e => n + e.2.dmaReserve) 0 ≤ 1024) &&
    (ch.usbCabinet == 0xFF || (tget {} ch.entries ch.usbCabinet).enable)

/-! Firmware slots (R425). -/

/-- Whether a firmware image verifies: header, CRC, signature and the rollback floor. -/
def State.firmwareOk (s : State) (img : List Byte) : Bool :=
  humelOk img 1 && signedBy Config.obaroKey img && decide (s.rollbackFloor ≤ fieldU img 0x24 2)

def State.fwOf (s : State) (k : Nat) : FwSlot := tget {} s.fw k

/-- Whether the image stored in a firmware slot verifies; a page of it with a failing word does not commit (R573). -/
def State.slotVerifies (s : State) (k : Nat) : Bool :=
  let x := s.fwOf k
  let first := (hbRegion (2 + k)).1
  x.verifies && decide (s.rollbackFloor ≤ x.rollback) &&
    !s.nvsBad.any fun p => decide (first ≤ p ∧ p < first + ceilDiv x.len 504)

/-! HB.READ (R574). -/

def hbRead : Cmd :=
  { op := 0x0C01, writes := true, owner := some (dSubject 2), bootFail := true, legal := fun m _ => m == .service || m == .update,
    len := lenIs 16,
    value := fun _ r =>
      [need (decide (256 ≤ r.u32 0 ∧ r.u32 0 + max 1 (r.u16 4) ≤ 32768)) (eValue 0),
       need (inR 1 (r.u16 4) 128) (eValue 4)],
    reserved := fun r => [r.zero 6 2],
    domains := fun s _ => s.enters [97],
    commit := fun s r =>
      let n := r.u16 4
      let t := s.nvsAsIs
      let map := ((List.range n).filter fun i => t.pageCommits (r.u32 0 + i)).foldl (fun m i => m + 2 ^ i) 0
      { s := s.draw, result := leBytes 16 map,
        writes := [(r.u64 8, (List.range n).flatMap fun i => t.pageBytes (r.u32 0 + i))] } }

/-- HB.READ (R574): a page in the writing reads as it stands (R569). -/
def execHbRead (m : Fin 257) (n : Fin 4) (s : State) : Answer := .next (runCommand hbRead m n s)

/-! HB.WRITE (R575 to R577). -/

/-- The first page and the image bytes of the region that REGION names. -/
def imageFirst (region : Nat) : Nat := (hbRegion (region + 1)).1
def imageRoom (region : Nat) : Nat := 504 * (hbRegion (region + 1)).2

/-- The first n image bytes of a region as its pages stand. -/
def State.imageBytes (s : State) (region n : Nat) : List Byte :=
  ((List.range (ceilDiv n 504)).flatMap fun i => (s.pageBytes (imageFirst region + i)).take 504).take n

/-- The image that a FINAL piece completes. -/
def State.wholeImage (s : State) (r : Req) : List Byte := s.imageBytes (r.u8 0) (r.u32 4) ++ r.p.drop 16

/-- Whether a whole image passes R419, and R421 or the rollback floor. -/
def State.imageGood (s : State) (region : Nat) (img : List Byte) : Bool :=
  if region ≤ 2 then s.firmwareOk img else s.charterOk img

/-- Whether REGION holds what the running firmware or the sealed charter came from. -/
def State.regionInUse (s : State) (region : Nat) : Bool :=
  !s.bootFailed && (region == s.fwSlot + 1 || (s.charter.source != 0 && region == s.charter.source + 2))

/-- Write the commit word of a page over the data words that it holds. -/
def State.commitPage (s : State) (page gen : Nat) : State :=
  s.setNvs page 63 (commitWord ((s.pageBytes page).take 504) gen)

/-- Write the data words of a page, leaving its commit word. -/
def State.writeData (s : State) (page : Nat) (bytes : List Byte) : State :=
  let data := padTo 504 bytes
  forEach (List.range 63) (fun w s => s.setNvs page w (BitVec.ofNat 64 (fieldU data (8 * w) 8))) s

/-- Write a piece: the generation is one above the highest found in the region when the image began (DEDUCED, log 34); the first
page is committed last, by the FINAL piece. -/
def State.writePiece (s : State) (region off : Nat) (data : List Byte) (final : Bool) : State × Nat :=
  let first := imageFirst region
  let s := s.beginRecord (if region ≤ 2 then .image (region - 1) (s.fwOf (region - 1)) else .other)
  let s := if off = 0 then s.setNvs first 63 0 else s
  let gen := if off ≤ 504 then s.highGen first (hbRegion (region + 1)).2 + 1 else s.pageGen (first + 1)
  let s := if off = 0 then s.writeData first (data.take 504) else s
  let rest := if off = 0 then data.drop 504 else data
  let s := s.writePages (first + (if off = 0 then 1 else off / 504)) rest gen
  (if final then s.commitPage first gen else s, gen)

/-- What a piece leaves beside the pages: a firmware slot is invalid from OFFSET 0 until a FINAL piece, and HB_IMAGE
tells a FINAL one. -/
def State.afterPiece (s : State) (r : Req) (img : List Byte) (gen : Nat) : State :=
  let region := r.u8 0
  let final := bit (r.u8 1) 0
  let s := { s with hbNext := tset 0 s.hbNext region (r.u32 4 + (r.p.length - 16)) }
  let s := if region ≤ 2 then
      { s with fw := tupd {} s.fw (region - 1) fun x =>
          if final then
            { x with verifies := true, len := img.length, version := fieldU img 0x20 4, rollback := fieldU img 0x24 2 }
          else if r.u32 4 = 0 then { x with verifies := false } else x }
    else s
  if final then s.raise 0 (s.ev 0x0C01 0xFF region (w2 (gen + img.length * 2 ^ 32))) else s

def hbWrite (commits : Bool) : Cmd :=
  { op := 0x0C02, owner := some (dSubject 2), bootFail := true, legal := fun m _ => m == .update,
    len := fun _ l => inR 17 l 65536,
    value := fun s r =>
      let data := r.p.length - 16
      let final := bit (r.u8 1) 0
      [need (inR 1 (r.u8 0) 4) (eValue 0),
       need ((r.u32 4 == 0 || r.u32 4 == tget 0 s.hbNext (r.u8 0)) && r.u32 4 % 504 == 0) (eValue 4),
       need (final || data % 504 == 0) (eValue 0x10),
       need (decide (r.u32 4 + data ≤ imageRoom (r.u8 0))) (eValue 4),
       need (!final || s.imageGood (r.u8 0) (s.wholeImage r)) { code := 0x0B, detail := dSubject 3 }],
    reserved := fun r => [r.bitsBelow 1 1, r.zero 2 2, r.zero 8 8],
    domains := fun s _ => s.enters [97],
    state := fun s r => [need (!s.regionInUse (r.u8 0)) (eState 0)],
    fault := fun s _ => [need (commits && !(s.supply 0).outside) { code := 0x0A, detail := dDomain 97 }],
    commit := fun s r =>
      let img := s.wholeImage r
      let (t, gen) := s.writePiece (r.u8 0) (r.u32 4) (r.p.drop 16) (bit (r.u8 1) 0)
      { s := t.afterPiece r img gen } }

/-- HB.WRITE (R575 to R577). -/
def execHbWrite (m : Fin 257) (n : Fin 4) (commits : Bool) (s : State) : Answer :=
  .next (runCommand (hbWrite commits) m n s)

/-! HB.SLOT (R578). -/

/-- Mark a firmware slot; one slot alone is PREFERRED. -/
def State.markSlot (s : State) (k mark : Nat) : State :=
  let s := { s with fw := tupd {} s.fw k fun x => { x with mark } }
  if mark = 2 then
    { s with fw := tupd {} s.fw (1 - k) fun x => if x.mark = 2 then { x with mark := 0 } else x }
  else s

/-- Write both copies of the boot-control record, whose layout the spec does not give (DESIGN CHOICE, log 23), over the
marks that were; the marks count once the first copy is whole (R578). -/
def State.writeBootControl (s : State) (was : Tab FwSlot) : State :=
  if (s.supply 0).outside then { s with fw := was }
  else (((s.beginRecord (.slots was)).freeRecord 256).beginRecord .other).freeRecord 256

def hbSlot : Cmd :=
  { op := 0x0C03, owner := some (dSubject 2), bootFail := true, legal := fun m _ => m == .update, len := lenIs 8,
    value := fun _ r => [need (decide (r.u8 0 ≤ 1)) (eValue 0), need (inR 1 (r.u8 1) 2) (eValue 1)],
    reserved := fun r => [r.zero 2 6],
    domains := fun s _ => s.enters [97],
    state := fun s r => [need (s.slotVerifies (r.u8 0)) (eState 0)],
    commit := fun s r => { s := (s.markSlot (r.u8 0) (r.u8 1)).writeBootControl s.fw } }

/-- HB.SLOT (R578). -/
def execHbSlot (m : Fin 257) (n : Fin 4) (s : State) : Answer := .next (runCommand hbSlot m n s)

end Sys2Proof.Machine
end

