-- ==== Sys2Proof/Machine/Boot.lean ====
section
/-! DEFINITION. Ledger checkpoints, the Founding ROM, the boot sequence, the device resets from outside, and the step of
a block to which no command has come. Chapters 01, 14, 19 and 21. -/

namespace Sys2Proof.Machine

/-! Checkpoints (R26, R571). -/

/-- Slot of the checkpoint ring that a number takes: its first page. -/
def checkpointPage (no : Nat) : Nat := 21488 + 32 * (no % 256)

/-- Write a checkpoint, with the breaches recorded since the last, and those still open (R23): 32 pages under its number,
the last one marking (layout free, log 23). The NVS starts no word while VIN12 is outside its limits (R567). -/
def State.writeCheckpoint (s : State) (closing : Bool) : State :=
  if !s.fwUp || s.mode == .dormant || (s.supply 0).outside then s
  else
    let cp := s.checkpointOf closing
    let s := s.beginRecord (.checkpoint s.checkpoints s.checkpointNo s.breaches)
    let s := forEach (List.range 32) (fun i s => s.freePage (checkpointPage cp.number + i) cp.number) s
    { s with
      checkpointNo := cp.number, checkpoints := (cp :: s.checkpoints).take 256,
      breaches := s.breaches.filter fun b => b.ended.isNone }

/-- LEDGER_CHECKPOINT: a second of REF has passed (R26). -/
def execLedgerCheckpoint (s : State) : Answer := .next (s.writeCheckpoint false)

/-- Whether the slot of a checkpoint is valid: every page commits under its number. -/
def State.checkpointValid (s : State) (cp : Checkpoint) : Bool :=
  (List.range 32).all fun i =>
    let p := checkpointPage cp.number + i
    s.pageCommits p && s.pageGen p == cp.number % 2 ^ 32

/-- The checkpoint in force at BOOT. -/
def State.checkpointInForce (s : State) : Option Checkpoint := s.checkpoints.find? fun cp => s.checkpointValid cp

/-! The Founding ROM (R421 to R426). -/

/-- The slot with a mark. -/
def State.slotMarked (s : State) (mark : Nat) : Option Nat := (List.range 2).find? fun k => (s.fwOf k).mark = mark

/-- Set a slot's mark and write the boot-control record. -/
def State.setMark (s : State) (k mark : Nat) : State :=
  ({ s with fw := tupd {} s.fw k fun x => { x with mark } }).writeBootControl s.fw

/-- The slot chosen first, and whether it is chosen as a TRIAL (R425); with no mark at all, slot A (DESIGN CHOICE, log 35). -/
def State.firstSlot (s : State) : State × Nat × Bool :=
  let (s, k) := match s.slotMarked 3 with
    | some u => (s.setMark u 0, 1 - u)
    | none => (s, (s.slotMarked 1).getD ((s.slotMarked 2).getD 0))
  if (s.fwOf k).mark = 1 then (s.setMark k 3, k, true) else (s, k, false)

/-- The firmware slot that starts: the one chosen, or the other when it does not verify. -/
def State.chooseSlot (s : State) : State × Option (Nat × Bool) :=
  let (s, k, trial) := s.firstSlot
  (s, if s.slotVerifies k then some (k, trial) else if s.slotVerifies (1 - k) then some (1 - k, false) else none)

/-- A charter copy, A 1 or B 2, that is accepted (R421). -/
def State.charterCopy (s : State) (copy : Nat) : Option Charter :=
  let region := copy + 2
  let first := imageFirst region
  let img := s.imageBytes region 8320
  if (List.range 17).all (fun i => s.pageCommits (first + i) && s.pageGen (first + i) == s.pageGen first) &&
      s.charterOk img then some (charterIn img copy)
  else none

/-- The charter in use (R422). -/
def State.chooseCharter (s : State) : Charter :=
  match s.charterCopy 1, s.charterCopy 2 with
  | some a, some b => if a.gen < b.gen then b else a
  | some a, none => a
  | none, some b => b
  | none, none => Charter.factory

/-- Stored copies of reference sets and graft tables with a failing page are not used (R573). -/
def State.dropBadCopies (s : State) : State :=
  if s.nvsBad.isEmpty then s
  else
    forEach (List.range 4) (fun b s => s.updBed b fun x =>
      let bad (copy : Nat) : Bool :=
        let h := refPage b copy
        s.nvsBad.any fun p => decide (h ≤ p ∧ p ≤ h + fieldU (s.pageBytes h) 330 2)
      let a := 21408 + 2 * b
      let pages := if s.pageGen a ≤ s.pageGen (a + 1) then [a, a + 1] else [a + 1, a]
      let pages := pages.drop (2 - x.graftStored.length)
      { x with
        refCopies := x.refCopies.filter fun (k, _) => !bad k,
        graftStored := (x.graftStored.zip pages).filterMap fun (g, p) => if s.nvsBad.contains p then none else some g })
      s

/-- The new ledger epoch (R25), the summary of the old one (R27, R28) and the accession sequence (R394). A breach that the
device reset was ends with it. -/
def State.beginEpoch (s : State) : State :=
  let old := s.checkpointInForce.filter fun cp => cp.epoch = s.epoch
  let clean := match old with
    | some cp => cp.closing
    | none => s.epoch == 0
  let s := s.breachEnd 2 (s.chanPos 0)
  { s with
    oldEpoch := if s.epoch = 0 then none
      else some
        { number := s.epoch, unclean := !clean, totals := (old.map (·.totals)).getD [], unresolved := if clean then [] else (old.map (·.openRecords)).getD [] },
    accSeq := if clean then s.accSeq else ((s.checkpointInForce.map (·.nextSeq)).getD 0) + 65536,
    epoch := (s.epoch + 1) % 2 ^ 32 }

/-- Steps 1 to 6 of Table CB-4. -/
def State.romBoot (s : State) : State :=
  if s.mode ≠ .boot ∨ s.fwUp ∨ s.bootFailed ∨ (s.supply 0).outside ∨ (s.supply 9).outside then s
  else
    let (s, k) := s.chooseSlot
    match k with
    | none => { s with bootFailed := true }
    | some (k, trial) =>
      let ch := s.chooseCharter
      let s := s.dropBadCopies
      let s := { s with
        charter := ch, charterFloor := max s.charterFloor ch.gen, fwSlot := k, fwTrial := trial,
        fwVersion := (s.fwOf k).version }
      let s := s.beginEpoch
      ({ s with fwUp := true }.becomeRoot).tellMaster 1

/-! BOOT to IDLE. -/

/-- Row of Table HB-2 in which a page lies. -/
def rowOfPage (p : Nat) : Nat :=
  ((List.range 11).find? fun r => decide ((hbRegion r).1 ≤ p ∧ p < (hbRegion r).1 + (hbRegion r).2)).getD 10

/-- Whether a record is torn: its marking page commits and another of its pages does not, under its generation. -/
def State.torn (s : State) (first count mark : Nat) : Bool :=
  s.pageCommits mark && (List.range count).any fun i =>
    !(s.pageCommits (first + i) && s.pageGen (first + i) == s.pageGen mark)

/-- The records of more than one page: region row, first page, pages and marking page. -/
def State.longRecords (s : State) : List (Nat × Nat × Nat × Nat) :=
  (List.range 4).map (fun i =>
    let first := imageFirst (i + 1)
    let len := fieldU (s.pageBytes first) 8 4 + 64
    (i + 2, first, min (ceilDiv len 504) (hbRegion (i + 2)).2, first)) ++
  (List.range 8).map (fun i =>
    let h := refPage (i / 2) (i % 2 + 1)
    (6, h, 1 + min 586 (fieldU (s.pageBytes h) 330 2), h)) ++
  (List.range 256).map fun i => (9, checkpointPage i, 32, checkpointPage i + 31)

/-- HB_TORN and HB_ERROR once IDLE is reached (R573). -/
def State.reportHerbarium (s : State) : State :=
  let s := forEach (s.longRecords.filter fun r => s.torn r.2.1 r.2.2.1 r.2.2.2)
    (fun r s => (s.inc 0x0E 0 9 1).raise 0 (s.ev 0x0C02 0xFF r.1 (w2 r.2.1))) s
  forEach (s.nvsBad.filter fun p => decide (rowOfPage p < 10))
    (fun p s => (s.inc 0x0E 0 10 1).raise 0 (s.ev 0x0C03 0xFF (rowOfPage p) (w2 p))) s

/-- A firmware started from a TRIAL slot that reaches IDLE becomes PREFERRED, and the floor rises (R425). -/
def State.keepTrial (s : State) : State :=
  if s.fwTrial then
    let s := (s.markSlot s.fwSlot 2).writeBootControl s.fw
    { s with fwTrial := false, rollbackFloor := max s.rollbackFloor (s.fwOf s.fwSlot).rollback }
  else s

/-- WATCHDOG_RESET of the reset that a watchdog made (R582). -/
def State.tellWatchdog (s : State) : State :=
  match s.wdPending with
  | some (core, epoch) => { s with wdPending := none }.raise 0 (s.ev 0x0B04 core 0 (w2 epoch))
  | none => s

/-- BOOT_COMPLETE: discovery is complete and the device enters IDLE (R424, R32). -/
def execBootComplete (found : List Found) (s : State) : Answer :=
  .next (
    if s.mode = .boot ∧ s.fwUp then
      (((s.discover found).keepTrial.enterMode .idle 1).tellWatchdog).reportHerbarium
    else s)

/-! Resets (R25, R27, R63, R607 to R609). -/

/-- A device reset; an exit from DORMANT also increments the incarnation (R521). -/
def State.resetNow (s : State) : State :=
  { s.deviceReset with incarnation := if s.mode = .dormant then s.incarnation + 1 else s.incarnation }

/-- The device reset that a wake makes in DORMANT: WAKE_CAUSE holds what fired before it began (R48, R50). -/
def State.wakeBoot (s : State) : State := { s.resetNow with wakeCause := s.wakeLatch }

def devReset : Cmd :=
  { op := 0x0102, owner := some (dSubject 2), bootFail := true, legal := mAnyNotBoot, len := lenIs 8,
    reserved := fun r => [r.zero 0 8],
    commit := fun s _ => { s },
    after := fun s => (if s.bootFailed then s else s.writeCheckpoint true).deviceReset }

/-- DEV.RESET (R27, R426). -/
def execDevReset (m : Fin 257) (n : Fin 4) (s : State) : Answer := .next (runCommand devReset m n s)

/-- Range of Table IN-2, in mV. -/
def supplyRange (u : Nat) : Nat × Nat :=
  if u = 0 then (10800, 13200) else if u = 9 then (3000, 3600) else if u ≤ 4 then (8000, 40000) else (5000, 24000)

def supplyIn (u mv : Nat) : Bool := inR (supplyRange u).1 mv (supplyRange u).2

def State.setSupply (s : State) (u mv : Nat) : State :=
  { s with supplies := tset {} s.supplies u { mv, outside := !supplyIn u mv } }

/-- POWER_UP: VAO, VIN12 and RESET_N have been good for 1 ms (R607); pages with failing words read so from now on. -/
def execPowerUp (badPages : List Nat) (s : State) : Answer :=
  .next (
    let s := s.nvsStop
    let vin := 10800 + s.drawn.toNat % 2401
    let vao := 3000 + s.draw.drawn.toNat % 601
    let t := { s.draw.draw.deviceReset with incarnation := s.incarnation + 1, nvsBad := badPages }
    ((t.setSupply 0 vin).setSupply 9 vao).breachEnd 0 0)

/-- RESET_N_ASSERT: low for 1 us or more is a device reset, less than 100 ns is ignored; between, the spec does not say
(DESIGN CHOICE, log 36). -/
def execResetNAssert (width : Nat) (s : State) : Answer :=
  .next (
    if 1000 ≤ width then s.nvsStop.resetNow
    else if width < 100 then s
    else if s.drawn.getLsbD 0 then s.draw.nvsStop.resetNow else s.draw)

/-- VIN12_COLLAPSE: below 9.5 V for 10 us outside DORMANT (R608); the supplies have left their limits (R23). -/
def execVin12Collapse (s : State) : Answer :=
  .next (
    if s.mode = .dormant then s
    else
      let mv := s.drawn.toNat % 9500
      let s := s.draw.nvsStop
      ((if s.fwUp then s.breach 0 (s.chanPos 0) else s).deviceReset).setSupply 0 mv)

/-- A wake that is latched in DORMANT acts once VIN12 is within its limits (R49, R64). -/
def State.wakeDormant (s : State) : State :=
  if s.mode == .dormant && s.wakeLatch != 0 && !(s.supply 0).outside then s.wakeBoot else s

/-- VIN12_RETURN: VIN12 comes within its limits in DORMANT; a latched wake then starts BOOT (R64). -/
def execVin12Return (mv : Nat) (s : State) : Answer :=
  .next (if s.mode = .dormant ∧ supplyIn 0 mv then (s.setSupply 0 mv).wakeDormant else s)

/-! The step on an empty queue: an evaluation of the timebase (DESIGN CHOICE, log 8). -/

/-- REF moves on by one TB cycle, 5 ns, and what follows from the time alone is noted. -/
def State.tick (s : State) : State :=
  if s.mode = .dormant then s
  else
    let s := ({ s with now := s.now + 5 }.stampCross).romBoot
    let s := s.strobeCentres.strobeEnds
    let s := forEach (List.range 4) (fun b s => s.kickRead b) s
    let s := s.noteLeft.noteTrack
    forEach (List.range 4) (fun c s => s.countTicks c) s

end Sys2Proof.Machine
end

