-- ==== Sys2Proof/Machine/Cabinets.lean ====
section
/-! DEFINITION. Cabinet reset, diversion, the reset summary, the owner key, the certificate and the attestation.
Chapter 14. -/

namespace Sys2Proof.Machine

/-! The start of a cabinet reset (R440, R441). -/

/-- Step 1: the commands of the cabinet that are posted are discarded unanswered, but for an accepted one whose access hangs
(Table CB-6, R554), and its event ring is disabled: what
waits for the ring is counted in its overflow counts. -/
def State.resetMailboxes (s : State) (c : Nat) : State :=
  let mine := s.rung.filter fun k => s.cabOfMbx (k / 4) = some c && s.hung.all fun h => h.key != k
  let s := { s with
    rung := s.rung.filter fun k => ¬ mine.contains k,
    usbTags := tmap none s.usbTags fun (t : Option UsbTag) => t.map fun (t : UsbTag) =>
      { t with stale := t.stale || (if t.kind = 0 then s.cabOfMbx 256 == some c else t.cab == c) } }
  let s := forEach mine (fun k s => s.updSlot (k / 4) (k % 4) fun x => { x with posted := false, parcel := .absent }) s
  let r := (s.cab c).ring
  let s := s.inc 8 c 17 mine.length
  let s := forEach r.waiting (fun _ s => s.overflow c 9) s
  let s := forEach r.held (fun h s => match h with
    | .ev e => s.overflow c (e.code / 256)
    | .wm _ => s) s
  let s := s.updRing c fun r => { r with ctrl := r.ctrl &&& ~~~1#32, waiting := [], held := [], raised := 0 }
  s.updCab c fun x => { x with resetting := x.resetting.map fun (z : Resetting) => { z with aborted := mine.length } }

/-- CAL.RUN, a strip read and GAUGE.LEAD of the cabinet are abandoned (R203, Table CB-6): a FAIL is told to cabinet 0
alone, and a set still in the writing is no valid copy. -/
def State.abandonReads (s : State) (c : Nat) : State :=
  let s := forEach (List.range 4) (fun b s =>
    match (s.bed b).read with
    | some r =>
      if r.cab ≠ c then s
      else if r.phase = 4 then s.updBed b fun x => { x with read := none }
      else
        (s.failRead b true).updBed b fun x =>
          { x with
            refCopies := if r.phase = 5 then x.refCopies.filter fun k => s.refWhole b k.1 else x.refCopies,
            read := x.read.map fun r => { r with phase := 3, abandoned := true, cab := 0 } }
    | none => s) s
  { s with gauges := tmap {} s.gauges fun x => match x.leadRun with
      | some l => if l.cab = c then { x with leadRun := none } else x
      | none => x }

/-- Step 2: jobs close CANCELLED, in the order of the queue. -/
def State.cancelJobs (s : State) (c : Nat) : State :=
  let js := s.jobs.filter fun j => j.cab = c
  let s := forEach js (fun j s => s.closeJob j 2 0) s
  s.updCab c fun x => { x with resetting := x.resetting.map fun z => { z with jobs := js.length } }

/-- Arm the diversion of an orphaned document: a pulse on the PIN of its transport at E + DIST (R442). -/
def State.armDivert (s : State) (d : Doc) : State :=
  let v := tget {} s.diverts d.entryGpio
  match d.job with
  | none => s
  | some j =>
    if v.pin = 0xFF ∨ j.flatbed ∨ !d.inTransport then s
    else
      match d.divertComp.or s.freeCurators.head? with
      | none => s
      | some k =>
        (s.arm k
          { owner := 0, chan := d.chan, action := 3, arg := BitVec.ofNat 32 (v.width * 65536 + 2 ^ v.pin), dir := 0,
            notify := false, target := d.start + ticks v.dist, period := 0, below := false, use := .divert d.acc })
        |>.updDoc d.acc fun d => { d with divertArmed := true }

/-- Step 3: every open document of the cabinet is orphaned: its lines from here on are dropped DISCARD, it writes no
further item, and its diversion is armed (R415). -/
def State.orphanDocs (s : State) (c : Nat) : State :=
  let ds := s.docs.filter fun d => d.open_ && d.cab == c
  let s := forEach ds (fun d s =>
    let s := s.updDoc d.acc fun d => { d with orphaned := true, runs := [] }
    (forEach (List.range 4) (fun b s => 
      let s := match (s.bed b).overrun with
        | some o => if o.acc = d.acc then s.cutOverrun b else s
        | none => s
      s.updCourse b d.acc fun k => { k with discard := true }) s).armDivert d) s
  let kept := (tget [] s.waiting c).filterMap fun w => if w.isNote then none else some w.acc
  let s := { s with docs := s.docs.map fun (d : Doc) => if d.cab = c then { d with runs := [] } else d }
  s.updCab c fun x =>
    { x with resetting := x.resetting.map fun z => { z with orphans := ds.map (·.acc) ++ kept } }

/-- Whether a plot holds the lines or a placement of a cabinet. -/
def State.plotHolds (s : State) (p c : Nat) : Bool :=
  let x := s.plot p
  x.lastCab == some c || (match x.loaded with
    | some l => l.1 == c
    | none => false)

/-- Whether a line of a bed's queue is a cabinet's. -/
def State.lineIs (s : State) (b num c : Nat) : Bool := (s.bed b).queue.any fun l => l.num == num && l.cab == c

/-- Step 4: the Rake's part (R345) and the comparators that the cabinet armed (R103). A result still at a gate has lost its line
and counts as stale when it reaches the collector. -/
def State.resetRake (s : State) (c : Nat) : State :=
  let plots := (List.range 16).filter fun p => s.plotHolds p c
  let s : State := { s with tines := tmap {} s.tines fun x =>
    { x with
      run := x.run.filter fun r => !s.lineIs r.bed r.num c } }
  let s := forEach (List.range 4) (fun b s =>
    s.updBed b fun x =>
      { x with
        queue := x.queue.filter fun l => l.cab ≠ c,
        delay := x.delay.filter fun r => ¬ (r.acc = 0 ∧ r.cab = c) }) s
  let s := forEach plots (fun p s =>
    (s.scrubPlot p []).updPlot p fun x => { x with scrubDue := false, loaded := none, lastCab := none }) s
  let s := { s with cuttings := s.cuttings.filter fun (_, k) => match k with
    | some k => k.cab ≠ c
    | none => false }
  let s := forEach (List.range 4) (fun b s => s.voidPlace c b 3) s
  forEach (s.comps.filterMap fun (k, x) => match x with
    | some x => if k < 48 ∧ x.owner = c then some k else none
    | none => none) (fun k s => s.disarm k) s

/-- A descriptor entry of the summary (R444). -/
def descEntry (tag returned chan stream index : Nat) : List Byte :=
  leBytes 4 tag ++ leBytes 4 returned ++ leBytes 1 chan ++ leBytes 1 stream ++ leBytes 2 0 ++ leBytes 4 index

/-- The entries of a ring: the open descriptor, then those not read, whose TAG is not known (DEDUCED, log 37). -/
def State.ringEntries (s : State) (c n : Nat) : List (List Byte) :=
  let g := s.ring c n
  let tagOf : Nat := match g.opened with
    | some d => d.tag.toNat
    | none => 0
  let sent : Nat := match g.opened with
    | some d => d.taken
    | none => 0
  if !g.enabled then []
  else (List.range g.posted).map fun i =>
    let idx := (g.ret + BitVec.ofNat 32 i).toNat
    if i = 0 ∧ g.opened.isSome then descEntry tagOf sent g.lastChan n idx else descEntry 0 0 0xFF n idx

/-- Step 5: every posted descriptor is returned FLUSHED into the summary; undelivered bytes are a gap; streams are NONE. -/
def State.resetStreams (s : State) (c : Nat) : State :=
  let es := (List.range 16).flatMap fun n => s.ringEntries c n
  let s := forEach (List.range 16) (fun n s =>
    let g := s.ring c n
    let s := forEach (List.range (if g.enabled then g.posted else 0)) (fun _ s => s.countReturn c n 4) s
    let off := match g.opened with
      | some d => d.first
      | none => g.next
    let s := s.noteGap c n 4 off ((s.stream c n).written - off)
    { s with rings := tset {} s.rings (16 * c + n) {}, streams := tset {} s.streams (16 * c + n) {} }) s
  s.updCab c fun x => { x with resetting := x.resetting.map fun z =>
    { z with flushed := es.length, entries := es.take 4096 } }

/-- A cabinet reset starts, with a cause 1 OWNER, 2 FLR, 3 USB; one in progress is joined (R446). -/
def State.startReset (s : State) (c cause : Nat) (erase : Bool) : State :=
  if (s.cab c).resetting.isSome then s
  else
    let s := s.updCab c fun x =>
      { x with
        resets := x.resets + 1, summary := none, scrubbing := true, eraseRecord := x.eraseRecord || erase,
        eraseStream := x.eraseStream || erase,
        resetting := some { cause, start := s.now, eraseKeys := erase, aborted := 0, jobs := 0, flushed := 0, entries := [],
                            orphans := [], discarded := 0, acked := 0, undelivered := 0 } }
    let s := ((s.inc 8 c 21 1).resetMailboxes c).abandonReads c
    let s := (((s.cancelJobs c).orphanDocs c).resetRake c).resetStreams c
    let s := { s with requests := s.requests.map fun (q : Request) => if q.cab = c then { q with dropped := true } else q }
    ((s.tryErase c).reBacklog).assignChannels

/-! Its end (R440, R444). -/

/-- The reset summary (R444, Table CB-7). -/
def State.summaryOfReset (s : State) (c : Nat) (z : Resetting) : List Byte :=
  let size := 64 + 16 * z.entries.length + 8 * z.orphans.length
  let fl := (decide (4096 < z.flushed)).toNat + 2 * (z.eraseKeys && !(s.cab c).eraseRecord && !(s.cab c).eraseStream).toNat
  leBytes 4 size ++ leBytes 1 z.cause ++ leBytes 1 fl ++ leBytes 1 c ++ leBytes 1 0 ++ leBytes 4 s.epoch ++
    leBytes 4 (s.cab c).resets ++ leBytes 8 z.start ++ leBytes 8 s.now ++ leBytes 4 z.flushed ++
    leBytes 2 z.entries.length ++ leBytes 2 z.orphans.length ++ leBytes 4 z.jobs ++ leBytes 4 z.aborted ++
    leBytes 4 z.discarded ++ leBytes 4 z.acked ++ leBytes 4 z.undelivered ++ leBytes 4 0 ++ z.entries.flatten ++
    z.orphans.flatMap fun a => leBytes 8 a

/-- The mailboxes bound to a cabinet. -/
def State.mbxsOf (s : State) (c : Nat) : List Nat := (List.range 257).filter fun m => s.cabOfMbx m == some c

/-- Every slot of a mailbox is FREE, every response slot and DOORBELL read 0 (R458), but for one whose accepted command still
hangs (Table CB-6). -/
def State.reopen (s : State) (m : Nat) : State :=
  s.updMbx m fun b => { b with
    stray := false,
    slots := b.slots.filterMap fun (n, x) =>
      let y : Slot := if s.hung.any fun h => h.key == 4 * m + n then x
        else { x with posted := false, done := false, parcel := .absent, response := List.replicate 32 0 }
      if y = {} then none else some (n, y) }

/-- CABINET_RESET: the summary is complete and the mailbox reopens (Table CB-5, step 6). -/
def execCabinetReset (c : Fin 256) (s : State) : Answer :=
  .next (
    match (s.cab c).resetting with
    | none => s
    | some z =>
      let bs := s.summaryOfReset c z
      let s := forEach (s.mbxsOf c) (fun m s => s.reopen m) s
      let s := s.updCab c fun x => { x with resetting := none, summary := some bs }
      s.raiseTo (if c.val = 0 then [0] else [0, c.val]) (s.ev 0x0D01 c z.cause (w2 0)))

/-- WINDOW_SCRUB_END: the whole window of the cabinet reads zero (R443). -/
def execWindowScrubEnd (c : Fin 256) (s : State) : Answer :=
  .next (
    if (s.cab c).scrubbing then
      let w := s.windowBase c
      let s := { s with dram := s.dram.filter fun (a, _) => ¬ (w ≤ a ∧ a < w + s.windowSize c) }
      s.updCab c fun x => { x with scrubbing := false }
    else s)

/-! Commands. -/

def cabEnrol : Cmd :=
  { op := 0x0D01, owner := some (dSubject 2), legal := fun m _ => m == .idle, len := lenIs 128,
    value := fun s r =>
      let key := r.p.take 64
      let sig := (r.p.drop 64).take 64
      [need (s.ownerKey.isSome || sig.all (· == 0)) (eValue 0x40),
       need (onCurve key) { code := 0x0B, detail := dField 0 },
       need (match s.ownerKey with
         | some k => ecdsaVerify k key sig
         | none => true) { code := 0x0B, detail := dField 0x40 }],
    domains := fun s _ => s.enters [98],
    commit := fun s r => { s := { s with ownerKey := some (r.p.take 64) } } }

/-- CAB.ENROL (R427). -/
def execCabEnrol (m : Fin 257) (n : Fin 4) (s : State) : Answer := .next (runCommand cabEnrol m n s)

def cabReset : Cmd :=
  { op := 0x0D02, owner := some (dSubject 2), legal := mAnyNotBoot, len := lenIs 8,
    value := fun _ r => [need (r.u8 0 != 0 && decide (r.u8 1 < 2) && fieldU r.p 2 6 == 0) (eValue 0)],
    state := fun s r => [need (s.enabled (r.u8 0)) (eState 0)],
    busy := fun s r => [need (s.cab (r.u8 0)).resetting.isNone (eBusy 0)],
    commit := fun s r => { s := s.startReset (r.u8 0) 1 (bit (r.u8 1) 0) } }

/-- CAB.RESET (R439). -/
def execCabReset (m : Fin 257) (n : Fin 4) (s : State) : Answer := .next (runCommand cabReset m n s)

def cabDivert : Cmd :=
  { op := 0x0D03, owner := some (dSubject 2), legal := fun m _ => mSet m, len := lenIs 8,
    value := fun _ r =>
      [need (decide (r.u8 0 ≤ 15)) (eValue 0), need (decide (r.u8 1 ≤ 15) || r.u8 1 == 0xFF) (eValue 1),
       need (r.u16 2 != 0) (eValue 2), need (inR 1 (r.u32 4) 2147483647) (eValue 4)],
    commit := fun s r =>
      { s := { s with diverts := tset {} s.diverts (r.u8 0) { pin := r.u8 1, width := r.u16 2, dist := r.u32 4 } } } }

/-- CAB.DIVERT (R442). -/
def execCabDivert (m : Fin 257) (n : Fin 4) (s : State) : Answer := .next (runCommand cabDivert m n s)

def devCert : Cmd :=
  { op := 0x0107, writes := true, legal := mAny, len := lenIs 16,
    value := fun _ r => [need (decide (Config.deviceCert.length ≤ r.u32 8)) (eValue 8)],
    reserved := fun r => [r.zero 0x0C 4],
    domains := fun s _ => s.enters [98],
    commit := fun s r =>
      { s, result := leBytes 4 Config.deviceCert.length, writes := [(r.u64 0, Config.deviceCert)] } }

/-- DEV.CERT (R428). -/
def execDevCert (m : Fin 257) (n : Fin 4) (s : State) : Answer := .next (runCommand devCert m n s)

/-- SHA-256 of the owner key; with none enrolled the spec states no value (DESIGN CHOICE, log 38). -/
def State.ownerDigest (s : State) : State × List Byte :=
  match s.ownerKey with
  | some k => (s, sha256 k)
  | none => (s.draw.draw.draw.draw, leBytes 8 s.drawn.toNat ++ leBytes 8 s.draw.drawn.toNat ++
      leBytes 8 s.draw.draw.drawn.toNat ++ leBytes 8 s.draw.draw.draw.drawn.toNat)

/-- The first 96 bytes of an attestation (R429). -/
def State.attestBody (s : State) (r : Req) (digest : List Byte) : List Byte :=
  leBytes 4 s.epoch ++ leBytes 4 s.charter.gen ++ leBytes 4 s.fwVersion ++ leBytes 1 s.fwSlot ++
    leBytes 1 s.charter.source ++ leBytes 1 r.cab ++ leBytes 1 0 ++ leBytes 8 Config.deviceUid.toNat ++
    leBytes 8 (r.u64 0) ++ digest ++ (s.entry r.cab).bytes

def devAttest : Cmd :=
  { op := 0x0108, writes := true, legal := mAny, len := lenIs 24,
    value := fun _ r => [need (decide (160 ≤ r.u32 0x10)) (eValue 0x10)],
    reserved := fun r => [r.zero 0x14 4],
    domains := fun s _ => s.enters [98],
    commit := fun s r =>
      let (s, digest) := s.ownerDigest
      let body := s.attestBody r digest
      { s := s.draw, writes := [(r.u64 8, body ++ deviceSign s.free body)] } }

/-- DEV.ATTEST (R429). -/
def execDevAttest (m : Fin 257) (n : Fin 4) (s : State) : Answer := .next (runCommand devAttest m n s)

def devResetsum : Cmd :=
  { op := 0x0109, writes := true, legal := mAny, len := lenIs 24,
    charter := fun _ r => [need (r.cab == 0 || r.u8 0 == r.cab) (eCharter 0)],
    value := fun _ r => [need (decide (64 ≤ r.u32 0x10)) (eValue 0x10)],
    reserved := fun r => [r.zero 1 7, r.zero 0x14 4],
    state := fun s r => [need (s.cab (r.u8 0)).summary.isSome (eState 0)],
    commit := fun s r =>
      let bs := (s.cab (r.u8 0)).summary.getD []
      { s, result := leBytes 4 bs.length, writes := [(r.u64 8, bs.take (r.u32 0x10))] } }

/-- DEV.RESETSUM (R445). -/
def execDevResetsum (m : Fin 257) (n : Fin 4) (s : State) : Answer := .next (runCommand devResetsum m n s)

end Sys2Proof.Machine
end

