-- ==== Sys2Proof/Machine/Modes.lean ====
section
/-! DEFINITION. DEV.MODE, the carrying out of a mode change, DRAIN, the settling of a halt, and wake sources.
Chapter 02. -/

namespace Sys2Proof.Machine

/-! DEV.MODE (R37 to R46). -/

/-- Changes that the host may ask for (Table MO-2). -/
def hostChange (m t : Mode) : Bool :=
  match m with
  | .idle => t == .keep || t == .dormant || t == .service || t == .update || t == .calibrate || t == .armed
  | .keep => t == .idle || t == .dormant
  | .service => t == .idle
  | .update => t == .idle
  | .calibrate => t == .armed || t == .idle || t == .halted
  | .armed => t == .capture || t == .calibrate || t == .idle || t == .halted
  | .capture => t == .drain || t == .halted
  | .paused => t == .drain || t == .halted
  | .drain => t == .halted
  | .halted => t == .armed || t == .idle || t == .halted
  | .dormant => false
  | .boot => false

/-- The TARGET of a request; one out of range never passes the value check. -/
def Req.target (r : Req) : Mode := (modeOf (r.u8 0)).getD .boot

/-- A CAL.RUN is in progress. -/
def State.calRuns (s : State) : Bool :=
  s.beds.any fun (_, x) => match x.read with
    | some r => r.isRun && r.phase != 4
    | none => false

/-- The Conditions of Table MO-2 that answer E_BUSY, detail TARGET. -/
def State.modeBusy (s : State) (t : Mode) : Bool :=
  match s.mode with
  | .calibrate => (t == .armed || t == .idle) && s.calRuns
  | .service => s.diag.isSome || decide (0 < s.unwritten)
  | .update => s.diag.isSome || decide (0 < s.unwritten)
  | .halted => t != .halted && !s.haltSettled
  | _ => false

/-- The first motor or LED supply in use that is outside its limits (R43). -/
def State.supplyShort (s : State) : Option Nat :=
  ((List.range 8).map (· + 1)).find? fun u => s.supplyUsed u && (s.supply u).outside

/-- This node gives up mastership on its way to KEEP or DORMANT (R59). -/
def State.yieldMaster (s : State) : State :=
  ({ s with rootPriority := if s.isRoot then 0 else s.rootPriority }.sendAdverts).elect

/-- What follows the acceptance of a DEV.MODE at once: an owner stop acts (R66, R626); a node that will sleep yields. -/
def State.modeAccepted (s : State) : State :=
  match s.change with
  | some { target := .halted, off, .. } => { s.enterHalted 6 off with change := none }
  | some { target := .keep, .. } => s.yieldMaster
  | some { target := .dormant, .. } => s.yieldMaster
  | _ => s

/-- DEV.MODE's checks. The DETAIL of the E_BUSY of R45 is SUBJECT MODE (DESIGN CHOICE, log 77). -/
def devMode : Cmd :=
  { op := 0x0101, owner := some (dSubject 2), legal := mAnyNotBoot, len := lenIs 16, isMode := true,
    value := fun _ r =>
      let t := r.u8 0
      let wake := r.u16 2
      let sleeps := t == 0 || t == 1
      [need (decide (t ≤ 11) && t != 2 && t != 9) (eValue 0),
       need (r.u8 1 == 0 || (r.u8 1 == 1 && t == 11)) (eValue 1),
       need ((wake == 0 || sleeps) && !(t == 0 && (wake == 0 || bit wake 7))) (eValue 2),
       need (bit wake 6 == (r.u32 4 != 0)) (eValue 4)],
    reserved := fun r => [need (decide (r.u16 2 < 256)) (eValue 2), r.zero 8 8],
    state := fun s r =>
      [need (hostChange s.mode r.target) (eState 0),
       if s.mode == .halted && r.target == .armed then
         (match s.firstCause with
           | some c => some { code := 0x04, detail := dCause c }
           | none => none)
       else none],
    resource := fun s r =>
      [if r.target.p3 && r.target != .halted then
         (match s.supplyShort with
           | some u => some { code := 0x07, detail := dSupply u }
           | none => none)
       else none],
    busy := fun s r =>
      [need (!s.modeBusy r.target) (eBusy 0), need s.change.isNone { code := 0x09, detail := dSubject 1 }],
    commit := fun s r =>
      let q : Change := { target := r.target, off := r.u8 1 == 1 }
      let s := { s with change := some q }
      { s := if r.u8 0 ≤ 1 then
          { s with wakeMask := BitVec.ofNat 16 (r.u16 2), wakeTimer := r.u32 4, wakeLatch := 0 } else s },
    after := State.modeAccepted }

/-- DEV.MODE (R39, R41 to R46, R49, R626). -/
def execDevMode (m : Fin 257) (n : Fin 4) (s : State) : Answer := .next (runCommand devMode m n s)

/-! Entry to a P3 mode, and the return to IDLE. -/

/-- Stop causes that stand as a level when a P3 mode is entered: an open cover, the junction limit, a supply or a clock. -/
def State.levelCauses (s : State) : State :=
  let s := if (List.range 4).any fun b => s.bedCover b then s.protect 0 true else s
  let s := if s.limitUp then s.protect 4 true else s
  if !s.suppliesGood || s.clocks.any fun (_, c) => c.failed || c.held then s.protect 5 true else s

/-- A P2 mode becomes a P3 mode: the capture path's clocks start. -/
def State.enterP3 (s : State) (m : Mode) (cause : Nat) : State := (s.enterMode m cause).startP3.levelCauses

/-- Reads before the clocks stop: one whose last cycle is kept completes, any other ends FAIL (R203). -/
def State.endReads (s : State) : State :=
  forEach (List.range 4) (fun b s =>
    match (s.bed b).read with
    | none => s
    | some r =>
      if r.phase = 1 then
        (if (s.bed b).refSet.copy = 0 || (s.bed b).stale || !s.quickPass b r then s.calibrate b r else s.endRead b r true)
      else if r.phase = 2 then s.calibrate b r
      else if r.phase = 4 then s.updBed b fun x => { x with read := none }
      else if r.phase = 5 then s.refStored b r
      else s.endRead b { r with abandoned := true } false) s

/-- The causes of a halt are kept until the device leaves HALTED (R69). -/
def State.clearHalt (s : State) : State :=
  { s with haltCauses := 0, haltSource := 0, haltSettled := false, haltOff := false }

/-- Entry to DRAIN: a checkpoint; a read that holds the feed is abandoned unless its last cycle is kept, and a feed held
after the third FAIL is held no longer (Table MO-9, R195, R203). -/
def State.enterDrain (s : State) (cause : Nat) : State :=
  let s := (s.enterMode .drain cause).writeCheckpoint false
  forEach (List.range 4) (fun b s =>
    match (s.bed b).read with
    | some r =>
      if r.phase = 4 then s.updBed b fun x => { x with read := none }
      else if r.phase = 0 ∧ !r.isRun ∧ (s.bed b).method ≠ 2 then s.failRead b true else s
    | none => s) s

/-! KEEP and DORMANT (R57 to R64, R610). -/

/-- Latched wakes act on the entry to KEEP: one transition to IDLE (R49, R50). -/
def State.wakeKeep (s : State) : State :=
  if s.mode = .keep ∧ s.change.isNone ∧ s.wakeLatch ≠ 0 then
    let q : Change := { target := .idle, cause := 2 }
    { s with wakeCause := s.wakeLatch, wakeLatch := 0, wakeMask := 0, change := some q }
  else s

/-- Trained ports. -/
def State.trainedPorts (s : State) : List Nat := (List.range 4).filter fun p => s.trained p

/-- The timebase packets that wait on a port: a node in KEEP forwards none (R60). -/
def State.dropSyncs (s : State) (p : Nat) : State :=
  let gone := (s.vc p 0).waiting.map (·.1)
  forEach gone (fun o s => s.freeBuf o) (s.updVc p 0 fun x => { x with waiting := [] })

/-- Entry to KEEP: pins return to inputs, channels hold, the USB port suspends, every trained port goes to code 0 and
keeps the code it had for the exit. -/
def State.enterKeep (s : State) : State :=
  let s := { (s.enterMode .keep 0).holdChans with pins := [], usbSuspended := true }
  let s := forEach (List.range 4) (fun p s => s.dropSyncs p) s
  let s := forEach s.trainedPorts (fun p s =>
    let old := (s.port p).rate
    if old = 0 then s else (s.askRate p 0).updPort p fun x => { x with rateAsked := some old }) s
  s.wakeKeep

/-- The host resumes the USB port: what waits to be sent goes out, and the events held for a cabinet are written in order;
a WATERMARK event in its
turn, and one that finds its ring full is counted (R58, R472, R477). -/
def State.flushUsb (s : State) : State :=
  let s := { s with usbSuspended := false, usbWait := [], outbox := s.outbox ++ s.usbWait }
  forEach s.enabledCabs (fun c s =>
    let r := (s.cab c).ring
    let turns := (r.held.filter fun h => match h with
      | .wm _ => true
      | .ev _ => false).length
    let s := State.drainWm (r.waiting.length - turns) c (s.updRing c fun r => { r with held := [] })
    forEach r.held (fun h s => match h with
      | .ev e => s.raise c e
      | .wm _ => State.drainWm 1 c s) s) s

/-- KEEP to IDLE: the rates return. The USB port stays suspended until the host resumes it. -/
def State.leaveKeep (s : State) (cause : Nat) : State :=
  let s := s.enterMode .idle cause
  let s := forEach s.trainedPorts (fun p s => match (s.port p).rateAsked with
    | some r => s.askRate p r
    | none => s) s
  let s := { s with rootPriority := if s.isRoot then s.ownPriority else s.rootPriority }
  s.elect.serveHeld

/-- Entry to DORMANT (Table MO-7): Runner ports stop driving, a closing checkpoint is written, whole by the time the entry
completes (R62), and the host ports go down. A latched wake acts at once when VIN12 is within its limits (R49, R64). -/
def State.enterDormant (s : State) : State :=
  let s := s.writeCheckpoint true
  let s := { s with pins := [], nvsWrites := [] }.enterMode .dormant 0
  let s := forEach (List.range 4) (fun p s => s.setPort p 0) s
  { s with pcieUp := false, usbUp := false, fwUp := false }.wakeDormant

/-! MODE_CHANGE_COMPLETE (R44). -/

/-- Complete an accepted change. -/
def State.completeChange (s : State) (q : Change) : State :=
  let m := s.mode
  let t := q.target
  match t with
  | .keep => s.enterKeep
  | .dormant => s.enterDormant
  | .drain => s.enterDrain q.cause
  | .idle =>
    if m.p3 then
      let s := if m = .halted then s.clearHalt else s
      ((s.endReads.leaveP3).enterMode .idle q.cause).coilTellAll
    else if m = .keep then s.leaveKeep q.cause
    else
      let s := if m = .update then { s with hbNext := [] } else s
      s.enterMode .idle q.cause
  | .calibrate => if m.p3 then s.enterMode t q.cause else s.enterP3 t q.cause
  | .armed =>
    if m.p3 then (if m = .halted then s.clearHalt else s).enterMode t q.cause else s.enterP3 t q.cause
  | .capture => s.enterMode t q.cause
  | .service => s.enterMode t q.cause
  | .update => s.enterMode t q.cause
  | .paused => s
  | .boot => s
  | .halted => s

/-- MODE_CHANGE_COMPLETE. -/
def execModeChangeComplete (s : State) : Answer :=
  .next (match s.change with
    | none => s
    | some q => s.completeChange q)

/-! DRAIN and HALTED complete (R65, R68). -/

/-- Whether every result has left the tines: queues, gates and store buffers are empty. -/
def State.rakeIdle (s : State) : Bool :=
  (List.range 4).all (fun b => (s.bed b).queue.isEmpty) &&
    s.tines.all fun (_, x) => (x.gate.isEmpty || x.closed) && x.stores.isEmpty

/-- Steps 4 to 6 of Table MO-9: the lines taken have left the Rake, the collector has written every result to its stream,
and the DMA transfers are finished (R65, R68). -/
def State.workDone (s : State) : Bool :=
  s.rakeIdle && (s.streams.all fun (_, x) => x.heldItems.isEmpty) && s.dmaIdle

/-- Whether an axis of role TRANSPORT moves (Table MP-1). -/
def State.transportMoves (s : State) : Bool := (List.range 8).any fun a => (s.axis a).role == 1 && s.axisMoves a

/-- DRAIN_COMPLETE: the steps of Table MO-9 are done, and the device enters ARMED. -/
def execDrainComplete (s : State) : Answer :=
  .next (
    if s.mode = .drain ∧ s.change.isNone ∧ (s.docs.all fun d => !d.open_) ∧ s.workDone ∧ !s.transportMoves then
      s.enterMode .armed 1
    else s)

/-- The runs of the records closed at the halt end, once the Rake is idle. -/
def State.endHaltRuns (s : State) : State :=
  if s.rakeIdle then
    forEach (s.docs.filter fun d => !d.open_ && !d.runs.isEmpty) (fun d s => s.endRuns d.acc) s
  else s

/-- HALT_SETTLED: the lines captured before the halt have completed, to step 6 of Table MO-9. -/
def execHaltSettled (s : State) : Answer :=
  .next (
    let s := if s.mode = .halted ∧ !s.haltSettled then s.endHaltRuns else s
    if s.mode = .halted ∧ !s.haltSettled ∧ s.workDone then
      let s := forEach (List.range 4) (fun b s => s.takeRef b) s
      { s with haltSettled := true }.raiseTo s.enabledCabs (s.ev 0x0102 0xFF 0 (w2 s.haltCauses.toNat))
    else s)

/-! Wake sources (R48 to R51). -/

/-- A source fires: it latches when it is armed, and takes effect in KEEP and DORMANT (R49 to R51, R64). -/
def State.wakeFires (s : State) (bit : Nat) : State :=
  let sleeping := s.mode == .keep || s.mode == .dormant || (match s.change with
    | some q => q.target == .keep || q.target == .dormant
    | none => false)
  if !sleeping || !s.wakeMask.getLsbD bit then s
  else
    let s := { s with wakeLatch := s.wakeLatch ||| (1#16 <<< bit) }
    if s.mode == .dormant then s.wakeDormant else s.wakeKeep

/-- WAKE_SOURCE: a source of Table MO-4 fires; the timer has its own row. -/
def execWakeSource (bit : Fin 8) (s : State) : Answer := .next (if bit.val = 6 then s else s.wakeFires bit)

/-- WAKE_TIMER: the always-on timer expires. -/
def execWakeTimer (s : State) : Answer := .next (s.wakeFires 6)

/-- WAKE: a wake packet fires the source of its port, in KEEP and on the way there (Tables MO-4 and MO-8). -/
def execWake (p : Fin 4) (k : Packet) (s : State) : Answer :=
  .next (s.received p k 0x0A fun s => s.wakeFires (1 + p))

end Sys2Proof.Machine
end

