-- ==== Sys2Proof/Machine/Hosts.lean ====
section
/-! DEFINITION. BAR0 and its registers, the PCIe and USB ports, parcels and interrupts. Chapters 15 and 16. -/

namespace Sys2Proof.Machine

/-- What configuration space says a PCIe function is (Table DH-9); no row of the table reads it (DESIGN CHOICE, log 93). -/
structure PcieId where
  vendor : BitVec 16
  device : BitVec 16
  classCode : BitVec 24
deriving DecidableEq, Repr

/-- Function 0 is the physical function, 1 to 255 are its virtual functions (Table DH-9). -/
def pcieId (f : Nat) : PcieId :=
  { vendor := Config.pcieVendor, device := if f = 0 then 0x4832 else 0x4833, classCode := 0xFF0000 }

/-! Registers written (R447, Table MB-1). -/

/-- The control block that a mailbox shows: that of its cabinet's event ring, or its own where no cabinet owns it
(R447). -/
def State.ringAt (s : State) (m : Nat) : EvRing :=
  match s.cabOfMbx m with
  | some c => (s.cab c).ring
  | none => (s.mbx m).ring

/-- Change the control block of a mailbox; what follows, for the event ring of a cabinet. -/
def State.onRing (s : State) (m : Nat) (f : EvRing → EvRing) (after : Nat → State → State) : State :=
  match s.cabOfMbx m with
  | some c => after c (s.updRing c f)
  | none => s.updMbx m fun b => { b with ring := f b.ring }

/-- Waiting WATERMARK events that now find room are written (R477). -/
def State.drained (s : State) (c : Nat) : State := State.drainWm (s.cab c).ring.waiting.length c s

/-- BASE and SIZE are not taken while ENABLE is set (R469). -/
def EvRing.configured (f : EvRing → EvRing) (r : EvRing) : EvRing := if r.enable then { r with badConfig := true } else f r

/-- Whether BASE and SIZE keep Table MB-11. -/
def EvRing.configOk (r : EvRing) : Bool :=
  r.base.toNat % 32 == 0 && inR 16 r.size.toNat 65536 && (List.range 17).any fun k => r.size.toNat == 2 ^ k

/-- A write of CTRL (R469). -/
def EvRing.setCtrl (v : BitVec 32) (r : EvRing) : EvRing :=
  let w := v &&& 0xFFFF3F03#32
  if !w.getLsbD 0 || r.enable then { r with ctrl := w }
  else if r.configOk then { r with ctrl := w, readIdx := r.writeIdx }
  else { r with ctrl := w &&& ~~~1#32, badConfig := true }

/-- Whether READ_IDX may take a value (R471). -/
def EvRing.readOk (r : EvRing) (v : BitVec 32) : Bool := decide ((r.writeIdx - v).toNat ≤ r.size.toNat)

/-- A write of READ_IDX (R471). -/
def EvRing.setRead (v : BitVec 32) (r : EvRing) : EvRing :=
  if r.readOk v then { r with readIdx := v } else { r with badIndex := true }

/-- A write of STATUS: each 1 clears its bit. -/
def EvRing.clearStatus (v : BitVec 32) (r : EvRing) : EvRing :=
  { r with
    badIndex := r.badIndex && !v.getLsbD 0, badConfig := r.badConfig && !v.getLsbD 1,
    writeFault := r.writeFault && !v.getLsbD 2 }

/-- A write of WM_MARK[n]: one that changes it clears RAISED (R469, R477). -/
def EvRing.setMark (n v : Nat) (r : EvRing) : EvRing :=
  if 10000 < v then { r with badConfig := true }
  else if v = tget 0 r.wmMark n then r
  else { r with wmMark := tset 0 r.wmMark n v, raised := r.raised &&& ~~~(1#16 <<< n) }

/-- A write of WM_MARK[n]: a change re-arms the watermark (R476). -/
def State.setMarkWm (s : State) (m n v : Nat) : State :=
  let old := tget 0 (s.ringAt m).wmMark n
  s.onRing m (EvRing.setMark n v) fun c s => if 10000 < v ∨ v = old then s else s.armWm c n

/-- A write of WM_ACK: each stream that is RAISED and acknowledged re-arms (R476). -/
def State.ackWm (s : State) (m : Nat) (v : BitVec 32) : State :=
  forEach ((List.range 16).filter fun n => v.getLsbD n && (s.ringAt m).raised.getLsbD n)
    (fun n s => s.onRing m (fun r => { r with raised := r.raised &&& ~~~(1#16 <<< n) }) fun c s => s.armWm c n) s

/-- Send the pending message of a vector that is no longer masked (R452). -/
def State.sendPending (s : State) (m v : Nat) : State :=
  let b := s.mbx m
  if b.msixOn && !b.msixMasked && b.unmasked.getLsbD v && b.pba.getLsbD v then
    (s.updMbx m fun b => { b with pba := b.pba &&& ~~~(1#64 <<< v) }).push (.msix m v)
  else s

/-- A write of a dword of the MSI-X table: address, data, or the mask of vector control. -/
def State.msixWrite (s : State) (m i : Nat) (v : BitVec 32) : State :=
  if i % 4 = 3 then
    (s.updMbx m fun b => { b with
      unmasked := if v.getLsbD 0 then b.unmasked &&& ~~~(1#64 <<< (i / 4)) else b.unmasked ||| (1#64 <<< (i / 4)) })
      |>.sendPending m (i / 4)
  else s.updMbx m fun b => { b with msix := tset 0 b.msix i v }

/-- A write of 4 bytes at an aligned offset of BAR0. -/
def State.barDword (s : State) (m off : Nat) (v : BitVec 32) : State :=
  if 0x100 ≤ off ∧ off < 0x200 then
    let n := (off - 0x100) / 64
    let x := s.slot m n
    if x.posted || x.done || s.closed m then s
    else s.updSlot m n fun x => { x with host := patch x.host ((off - 0x100) % 64) (leBytes 4 v.toNat) }
  else if off = 0x200 then s.doorbell m v
  else if off = 0x204 then s.updMbx m fun b => { b with respCtrl := v &&& 0x13F#32 }
  else if off = 0x400 then
    s.onRing m (EvRing.configured fun r => { r with base := r.base.extractLsb' 32 32 ++ v, via := some m }) fun _ s => s
  else if off = 0x404 then
    s.onRing m (EvRing.configured fun r => { r with base := v ++ r.base.extractLsb' 0 32, via := some m }) fun _ s => s
  else if off = 0x408 then s.onRing m (EvRing.configured fun r => { r with size := v }) fun _ s => s
  else if off = 0x40C then
    let starts := v.getLsbD 0 && !(s.ringAt m).enable && (s.ringAt m).configOk
    s.onRing m (EvRing.setCtrl v) fun c s => if starts then s.drained c else s
  else if off = 0x414 then
    let ok := (s.ringAt m).readOk v
    s.onRing m (EvRing.setRead v) fun c s => if ok then s.drained c else s
  else if off = 0x418 then s.onRing m (EvRing.clearStatus v) fun _ s => s
  else if 0x460 ≤ off ∧ off < 0x480 then
    (s.setMarkWm m ((off - 0x460) / 2) (v.toNat % 65536)).setMarkWm m ((off - 0x460) / 2 + 1) (v.toNat / 65536)
  else if off = 0x480 then s.ackWm m v
  else if 0x2000 ≤ off ∧ off < 0x2400 then (if m = 256 then s else s.msixWrite m ((off - 0x2000) / 4) v)
  else s

/-- A write of BAR0: an aligned access of 4 or 8 bytes, in ascending order; any other is ignored (R447). -/
def State.barWrite (s : State) (m off : Nat) (wide : Bool) (data : BitVec 64) : State :=
  if !s.reachable m || off % (if wide then 8 else 4) != 0 then s
  else
    let s := s.barDword m off (data.extractLsb' 0 32)
    if wide then s.barDword m (off + 4) (data.extractLsb' 32 32) else s

/-- A write at an offset within a block of BAR0. -/
def State.barWriteIn (s : State) (lo hi m off : Nat) (wide : Bool) (data : BitVec 64) : State :=
  if lo ≤ off ∧ off < hi then s.barWrite m off wide data else s

/-- RING_SLOT: a 1 written to RING[n] (R450). -/
def execRingSlot (m : Fin 257) (n : Fin 4) (s : State) : Answer :=
  .next (s.barWrite m 0x200 false (1#64 <<< (n : Nat)))

/-- FREE_SLOT: a 1 written to DONE[n] (R452). -/
def execFreeSlot (m : Fin 257) (n : Fin 4) (s : State) : Answer :=
  .next (s.barWrite m 0x200 false (1#64 <<< (16 + (n : Nat))))

/-- STRAY_CLEAR (R450). -/
def execStrayClear (m : Fin 257) (s : State) : Answer := .next (s.barWrite m 0x200 false 0x80000000#64)

/-- COMMAND_SLOT_WRITE (R450). -/
def execCommandSlotWrite (m : Fin 257) (off : BitVec 16) (wide : Bool) (data : BitVec 64) (s : State) : Answer :=
  .next (s.barWriteIn 0x100 0x200 m off.toNat wide data)

/-- EVENT_RING_CONFIG_WRITE (R469). -/
def execEventRingConfigWrite (m : Fin 257) (off : BitVec 16) (wide : Bool) (data : BitVec 64) (s : State) : Answer :=
  .next (s.barWriteIn 0x400 0x40C m off.toNat wide data)

/-- EVENT_RING_CTRL_WRITE (R469). -/
def execEventRingCtrlWrite (m : Fin 257) (data : BitVec 32) (s : State) : Answer :=
  .next (s.barWrite m 0x40C false (data.setWidth 64))

/-- READ_IDX_WRITE (R471). -/
def execReadIdxWrite (m : Fin 257) (data : BitVec 32) (s : State) : Answer :=
  .next (s.barWrite m 0x414 false (data.setWidth 64))

/-- EVENT_STATUS_CLEAR (R468). -/
def execEventStatusClear (m : Fin 257) (data : BitVec 32) (s : State) : Answer :=
  .next (s.barWrite m 0x418 false (data.setWidth 64))

/-- WM_MARK_WRITE (R469, R477). -/
def execWmMarkWrite (m : Fin 257) (off : BitVec 16) (wide : Bool) (data : BitVec 64) (s : State) : Answer :=
  .next (s.barWriteIn 0x460 0x480 m off.toNat wide data)

/-- WM_ACK (R476). -/
def execWmAck (m : Fin 257) (data : BitVec 32) (s : State) : Answer :=
  .next (s.barWrite m 0x480 false (data.setWidth 64))

/-- REGISTER_WRITE (R447). -/
def execRegisterWrite (m : Fin 257) (off : BitVec 16) (wide : Bool) (data : BitVec 64) (s : State) : Answer :=
  .next (s.barWrite m off.toNat wide data)

/-- HOLDOFF_EXPIRY: a signal that HOLDOFF put off is made if the entries are still unread (R471). -/
def execHoldoffExpiry (c : Fin 256) (s : State) : Answer :=
  .next (if (s.cab c).ring.owed && s.holdoffOver c then s.ringSignal c else s)

/-- MSIX_UNMASK: a vector is unmasked, or the function, enabled with that where it is not yet (DEDUCED, log 51); pending messages are
sent (R452). -/
def execMsixUnmask (f : Fin 256) (vector : Option (Fin 64)) (s : State) : Answer :=
  .next (match vector with
    | some v => s.msixWrite f (4 * v + 3) 0
    | none =>
      let s := s.updMbx f fun b => { b with msixOn := true, msixMasked := false }
      forEach (List.range 64) (fun v s => s.sendPending f v) s)

/-! Registers read (R447, R448). -/

/-- The 256 bytes of the event-ring control block (Table MB-11). -/
def EvRing.bytes (r : EvRing) : List Byte :=
  let waits := (r.waiting.map (·.1)).foldl (fun n i => n + 2 ^ i) 0
  padTo 256 (leBytes 8 r.base.toNat ++ leBytes 4 r.size.toNat ++ leBytes 4 r.ctrl.toNat ++ leBytes 4 r.writeIdx.toNat ++
    leBytes 4 r.readIdx.toNat ++ leBytes 4 (r.badIndex.toNat + 2 * r.badConfig.toNat + 4 * r.writeFault.toNat) ++
    leBytes 4 0 ++ ((List.range 16).flatMap fun n => leBytes 4 (tget 0 r.overflow n).toNat) ++
    ((List.range 16).flatMap fun n => leBytes 2 (tget 0 r.wmMark n)) ++ leBytes 4 0 ++
    leBytes 2 r.raised.toNat ++ leBytes 2 waits)

/-- The 4 bytes of BAR0 at an aligned offset. -/
def State.barRead4 (s : State) (m off : Nat) : List Byte :=
  let cut (bs : List Byte) (o : Nat) := padTo 4 ((bs.drop o).take 4)
  if off < 0x100 then cut (s.identity m) off
  else if off < 0x200 then cut (s.slot m ((off - 0x100) / 64)).host ((off - 0x100) % 64)
  else if off = 0x200 then leBytes 4 (s.doorbellWord m)
  else if off = 0x204 then leBytes 4 (s.mbx m).respCtrl.toNat
  else if 0x300 ≤ off ∧ off < 0x380 then cut (s.slot m ((off - 0x300) / 32)).response ((off - 0x300) % 32)
  else if 0x400 ≤ off ∧ off < 0x500 then
    cut (s.ringAt m).bytes (off - 0x400)
  else if m = 256 then leBytes 4 0
  else if 0x2000 ≤ off ∧ off < 0x2400 then
    let i := (off - 0x2000) / 4
    if i % 4 = 3 then leBytes 4 (!(s.mbx m).unmasked.getLsbD (i / 4)).toNat
    else leBytes 4 (tget 0 (s.mbx m).msix i).toNat
  else if off = 0x3000 ∨ off = 0x3004 then cut (leBytes 8 (s.mbx m).pba.toNat) (off - 0x3000)
  else leBytes 4 0

/-- A read of BAR0 by an access of 4 or 8 bytes; one that is not aligned returns 0. -/
def State.barRead (s : State) (m off : Nat) (wide : Bool) : List Byte :=
  if wide then
    (if off % 8 = 0 then s.barRead4 m off ++ s.barRead4 m (off + 4) else leBytes 8 0)
  else if off % 4 = 0 then s.barRead4 m off
  else leBytes 4 0

/-! USB frames (R505 to R507). -/

/-- The accesses of a frame: 8 bytes each, and a trailing one of 4 where it is needed: offset and width. -/
def frameAccesses (off len : Nat) : List (Nat × Bool) :=
  ((List.range (len / 8)).map fun i => (off + 8 * i, true)) ++ (if len % 8 = 0 then [] else [(off + len / 8 * 8, false)])

/-- Count and discard a frame that breaks Tables DH-10 and DH-11. -/
def State.badFrame (s : State) : State := s.inc 0x0B 1 1 1

/-- A frame of a row's type comes in on bulk OUT; one of no type of Table DH-11 is counted and discarded. -/
def State.frameIn (s : State) (f : UsbFrame) (type : Nat) (ok : Bool) (act : State → State) : State :=
  if !s.reachable 256 then s
  else if f.type = type then (if ok && decide (f.length = f.payload.length) then act s else s.badFrame)
  else if inR 1 f.type 4 then s
  else s.badFrame

/-- Whether ADDRESS of a register frame is an offset of BAR0 and FLAGS are 0. -/
def regFrameOk (f : UsbFrame) : Bool := decide (f.addr.toNat < 65536) && f.addr.toNat % 4 == 0 && f.flags == 0

/-- REG_WRITE (R506). -/
def execRegWrite (f : UsbFrame) (s : State) : Answer :=
  .next (s.frameIn f 1 (regFrameOk f && inR 4 f.length 64 && f.length % 4 == 0 && f.tag == 0) fun s =>
    forEach (frameAccesses f.addr.toNat f.length) (fun a s =>
      s.barWrite 256 a.1 a.2 (BitVec.ofNat 64 (fieldU f.payload (a.1 - f.addr.toNat) (if a.2 then 8 else 4)))) s)

/-- REG_READ, answered by one REG_DATA (R506). -/
def execRegRead (f : UsbFrame) (s : State) : Answer :=
  let n := leNat f.payload
  .next (s.frameIn f 2 (regFrameOk f && f.length == 4 && inR 4 n 256 && n % 4 == 0) fun s =>
    let bs := (frameAccesses f.addr.toNat n).flatMap fun a => s.barRead 256 a.1 a.2
    (s.useSlots 256 1).push (.frame 0x81 0 f.tag.toNat f.addr n bs))

/-- The request that a reply answers: that of its TAG and ADDRESS. -/
def State.askedBy (s : State) (f : UsbFrame) (probe : Bool) : Option UsbTag :=
  (tget none s.usbTags f.tag.toNat).filter fun t => t.addr == f.addr && (t.kind == 2) == probe

def State.dropTag (s : State) (tag : Nat) : State := { s with usbTags := tset none s.usbTags tag none }

/-- A part of a parcel has come, or its fetch has failed (R459, R507). -/
def State.parcelPart (s : State) (m n : Nat) (bytes : Option (List Byte)) : State :=
  let x := s.slot m n
  match x.parcel, bytes with
  | .fetching sofar, some bs =>
    let got := sofar ++ bs
    if m = 256 ∧ got.length < lenOf x.copy then
      (s.updSlot m n fun x => { x with parcel := .fetching got }).askParcel n (fieldU x.copy 16 8) (lenOf x.copy)
        got.length
    else (s.updSlot m n fun x => { x with parcel := .got (padTo (lenOf x.copy) got) }).settled
  | .fetching _, none =>
    ((s.updSlot m n fun x => { x with parcel := .failed }).inc 0x0B (if m = 256 then 1 else 0) 4 1).settled
  | _, _ => s

/-- The page of the open descriptor whose outstanding probe is that of an address. -/
def State.probeAt (s : State) (c n : Nat) (addr : BitVec 64) : Option Nat :=
  (s.ring c n).opened.bind fun d => d.probes.find? fun i => d.dest + BitVec.ofNat 64 (d.pageStart i) == addr

/-- What the answer of a request does, if something still waits for it; none is a failure. -/
def State.usbAnswer (s : State) (t : UsbTag) (bytes : Option (List Byte)) : State :=
  if t.stale then s
  else if t.kind = 0 then s.parcelPart 256 t.slot bytes
  else if t.kind = 1 then
    let s := s.assignChannels
    if !s.wantsDesc t.cab t.stream then s
    else match bytes with
      | some bs => s.openDesc t.cab t.stream bs
      | none => s.descFailed t.cab t.stream
  else match s.probeAt t.cab t.stream t.addr with
    | some i => s.probeDone t.cab t.stream i bytes.isSome
    | none => s

/-- FETCH_DATA (R507). -/
def execFetchData (f : UsbFrame) (s : State) : Answer :=
  let q := s.askedBy f false
  let error := f.flags.getLsbD 0
  let good := decide (f.flags.toNat < 2) && (match q with
    | some t => f.length == (if error then 0 else t.len)
    | none => false)
  .next (s.frameIn f 3 good fun s => match q with
    | some t => (s.dropTag f.tag.toNat).usbAnswer t (if error then none else some f.payload)
    | none => s)

/-- PROBE_REPLY (R507). -/
def execProbeReply (f : UsbFrame) (s : State) : Answer :=
  let q := s.askedBy f true
  let error := f.flags.getLsbD 0
  .next (s.frameIn f 4 (decide (f.flags.toNat < 2) && f.length == 0 && q.isSome) fun s => match q with
    | some t => (s.dropTag f.tag.toNat).usbAnswer t (if error then none else some [])
    | none => s)

/-- USB_FETCH_TIMEOUT: no reply has come within 100 ms (R507). -/
def execUsbFetchTimeout (tag : BitVec 16) (s : State) : Answer :=
  .next (match tget none s.usbTags tag.toNat with
    | some t => if t.sent + 100000000 ≤ s.now then (s.dropTag tag.toNat).usbAnswer t none else s
    | none => s)

/-- PARCEL_FETCH: the read of a parcel on PCIe completes, with its bytes or an error (R459). -/
def execParcelFetch (m : Fin 257) (n : Fin 4) (bytes : Option (List Byte)) (s : State) : Answer :=
  .next (if m.val = 256 ∨ !(s.slot m n).posted ∨ !s.canWrite m then s else s.parcelPart m n bytes)

/-! Port events (R438, R502, R503, R510, R562). -/

/-- Reset the cabinets of a list, with a cause. -/
def State.resetCabs (s : State) (cs : List Nat) (cause : Nat) : State := forEach cs (fun c s => s.startReset c cause false) s

/-- Functions down until they are configured again (R502). -/
def State.portDown (s : State) (fns : List Nat) : State :=
  forEach fns (fun f s => s.updMbx f fun b => { b with down := true, busMaster := false, msixOn := false }) s

/-- Cabinets bound to a virtual function, and to any function. -/
def State.vfCabs (s : State) : List Nat := s.enabledCabs.filter fun c => c ≠ 0 ∧ (s.fnOfCab c).isSome
def State.pcieCabs (s : State) : List Nat := s.enabledCabs.filter fun c => (s.fnOfCab c).isSome

/-- The PCIe link is lost: every PCIe-bound cabinet is reset (R502). -/
def State.linkGone (s : State) : State :=
  let s := s.resetCabs s.pcieCabs 2
  { (s.portDown (List.range 256)).inc 0x0B 0 0 1 with pcieUp := false }

/-- LINK_LOSS (R502). -/
def execLinkLoss (k : LinkLossKind) (s : State) : Answer :=
  .next (
    let s := { s with perst := s.perst || decide (k = .perst) }
    if s.mode = .dormant then s else s.linkGone)

/-- VF_ENABLE_CLEAR (R502). -/
def execVfEnableClear (s : State) : Answer :=
  .next ({ (s.resetCabs s.vfCabs 2).portDown ((List.range 255).map (· + 1)) with vfEnabled := false })

/-- VF_ENABLE: a virtual function becomes enabled and is discovered (R503). -/
def execVfEnable (f : Fin 256) (s : State) : Answer :=
  .next (if f.val = 0 then s else { s with vfEnabled := true }.found 5 f 1 0)

/-- FUNCTION_LEVEL_RESET (R417, R438). -/
def execFunctionLevelReset (f : Fin 256) (s : State) : Answer :=
  .next (match s.cabOfMbx f with
    | some c => s.startReset c 2 false
    | none => s)

/-- USB_RESET (R510). -/
def execUsbReset (s : State) : Answer :=
  .next (
    let s := { s with usbUp := false, usbTags := [], usbSuspended := false, usbWait := [] }
    match s.cabOfMbx 256 with
    | some c => s.startReset c 3 false
    | none => s)

/-- PORT_CHANGED (Table DH-8). -/
def execPortChanged (usb up : Bool) (speed lanes : BitVec 8) (s : State) : Answer :=
  .next (
    if s.mode = .dormant then s
    else
      let s := if usb then { s with usbUp := up, usbNotes := if up then 0 else s.usbNotes } else { s with pcieUp := up }
      let cs := s.enabledCabs.filter fun c => c == 0 || (if usb then s.usbBound c else (s.fnOfCab c).isSome)
      s.raiseTo cs (s.ev 0x0903 usb.toNat up.toNat (w2 (speed.toNat + lanes.toNat * 256))))

/-- PERST_DEASSERT: the reference clock is examined and the PHY clock chosen (R562). -/
def execPerstDeassert (clock : Bool) (s : State) : Answer :=
  .next (
    let s := { s with perst := false }
    if s.mode = .dormant then s else { s with extRefclk := clock })

/-- BUS_MASTER_ENABLE_CHANGE: a function's rings block or resume (R497); one that may master the bus has been configured
again (R502). -/
def execBusMasterEnableChange (f : Fin 256) (enable d0 : Bool) (s : State) : Answer :=
  .next (
    let s := s.updMbx f fun b => { b with busMaster := enable, d0, down := b.down && !(enable && d0) }
    s.serveHeld)

/-- USB_RESUME: what waits on the port is sent, and the events held for a cabinet reached only through it are written, in
order (R58). -/
def execUsbResume (s : State) : Answer := .next s.flushUsb

end Sys2Proof.Machine
end

