-- ==== Sys2Proof/Machine/Faults.lean ====
section
/-! DEFINITION. Covers, supplies, the junction, clocks, the Curator watchdog and DRAM errors. Chapters 04, 18, 20 and
21. -/

namespace Sys2Proof.Machine

/-! Covers (R128 to R130, R169). -/

/-- Cabinet 0 and every cabinet allowed a bed whose COVER_MASK names an input. -/
def State.coverCabs (s : State) (i : Nat) : List Nat :=
  s.enabledCabs.filter fun c => c == 0 || (List.range 4).any fun b => (s.coverMask b).getLsbD i && s.bedAllowed c b

/-- COVER_CHANGED: an input holds a new level for 2 us. -/
def execCoverChanged (b : Fin 4) (opened : Bool) (s : State) : Answer :=
  .next (
    if s.mode = .dormant ∨ s.coverOpen.getLsbD b = opened then s
    else
      let m : BitVec 4 := 1#4 <<< (b : Nat)
      let s := { s with coverOpen := if opened then s.coverOpen ||| m else s.coverOpen &&& ~~~m }
      let s := s.raiseTo (s.coverCabs b) (s.ev 0x0302 b opened.toNat (w2 0))
      if opened && (List.range 4).any fun k => (s.coverMask k).getLsbD b then s.protect 0 true else s)

/-! Supplies (R581, R605). -/

/-- SUPPLY_FAULT of a supply in use goes to every enabled cabinet. -/
def State.tellSupply (s : State) (u aux mv : Nat) : State :=
  if s.supplyUsed u && s.mode != .dormant then s.raiseTo s.enabledCabs (s.ev 0x0B06 u aux (w2 mv)) else s

/-- Axes fed by a supply. -/
def fedAxes (u : Nat) : List Nat := (List.range 8).filter fun a => supplyOfAxis a == u

/-- SUPPLY_FAULT: a supply stays outside its limits for 10 us. -/
def execSupplyFault (u : Fin 10) (mv : Nat) (s : State) : Answer :=
  .next (
    if supplyIn u mv ∨ (s.supply u).outside then s
    else
      let on := (fedAxes u).map fun a => (a, s.bridgesOn a)
      let s := ((if u.val = 0 then s.nvsStop else s).setSupply u mv).tellSupply u 1 mv
      let s := forEach on (fun x s => s.motorSupply x.1 x.2) s
      if s.supplyUsed u && s.mode != .dormant then (s.breach 0 (s.chanPos 0)).protect 5 true else s)

/-- SUPPLY_RETURN: it is within its limits again; VIN12's return in DORMANT starts BOOT for a wake latched (R64). -/
def execSupplyReturn (u : Fin 10) (mv : Nat) (s : State) : Answer :=
  .next (
    if supplyIn u mv ∧ (s.supply u).outside then
      let s := (s.setSupply u mv).tellSupply u 0 mv
      let s := if s.suppliesGood then s.breachEnd 0 (s.chanPos 0) else s
      let s := forEach (fedAxes u) (fun a s => s.coilTell a) s
      if u.val = 0 then s.wakeDormant else s
    else s)

/-! The junction (R580). -/

/-- The sensor that reads highest. -/
def State.hottest (s : State) : Nat :=
  ((List.range 4).find? fun i => tget 0 s.junction i = s.junctionMax).getD 0

/-- An event of the junction. -/
def State.tellJunction (s : State) (cs : List Nat) (code aux : Nat) : State :=
  s.raiseTo cs (s.ev code s.hottest aux (BitVec.ofInt 64 s.junctionMax))

/-- JUNCTION_READ: the sensors every 1 ms; 105, 112 and 100 degC are 1680, 1792 and 1600. -/
def execJunctionRead (j0 j1 j2 j3 : Int) (s : State) : Answer :=
  .next (
    if s.mode = .dormant then s
    else
      let js : Tab Int := [(0, j0), (1, j1), (2, j2), (3, j3)]
      let s := { s with junction := js.filter fun x => x.2 ≠ 0 }
      let j := s.junctionMax
      let s := if 1680 ≤ j ∧ s.warnArmed then
          ({ s with warnArmed := false }.inc 0x0E 0 8 1).tellJunction [0] 0x0B03 0
        else s
      let s := if j < 1600 then { s with warnArmed := true } else s
      if 1792 < j ∧ !s.limitUp then
        ({ s with limitUp := true }.tellJunction s.enabledCabs 0x0B08 1).protect 4 true
      else if j < 1600 ∧ s.limitUp then { s with limitUp := false }.tellJunction s.enabledCabs 0x0B08 0
      else s)

/-! Clocks (R556, R557, R563). -/

/-- CLOCK_FAIL goes to every enabled cabinet. -/
def State.tellClock (s : State) (d aux : Nat) : State := s.raiseTo s.enabledCabs (s.ev 0x0B07 d aux (w2 0))

def State.setClock (s : State) (d : Nat) (k : Clock) : State := { s with clocks := tset {} s.clocks d k }

/-- For how long the Curator still reads CLKOK as set, in ns: the level crossing from SUP to CUR takes 3 to 44 ns, and 40 to
100 ns in KEEP, where CUR runs at 50 MHz (Tables CK-1 and CK-2); where it lies between, the spec leaves free (DEDUCED,
log 76). -/
def State.okLatency (s : State) (v : BitVec 64) : Nat := s.crossMin 3 + v.toNat % (s.crossMax 99 3 - s.crossMin 3 + 1)

/-- The outputs of a domain whose clock fails go to their safe levels: an axis whose bridges were on is frozen with them off, and
the excitation of a gauge channel ends (R546). -/
def State.safeOutputs (s : State) (d : Nat) (on : Bool) : State :=
  if 74 ≤ d ∧ d ≤ 81 ∧ on then s.freeze (d - 74) true true
  else if 82 ≤ d ∧ d ≤ 89 then
    (s.updGauge (d - 82) fun x => if x.excite.isEmpty then x else ({ x with checking := false } : Gauge).silent s.now).tellGauge (d - 82)
  else s

/-- CLOCK_FAIL: a clock that the Curator has not stopped is absent for 1 us; AO itself is not a generated clock. -/
def execClockFail (d : Fin 102) (s : State) : Answer :=
  .next (
    if d.val = 0 ∨ s.clkStopped d ∨ (s.clock d).failed then s
    else
      let seen := s.now + s.okLatency s.drawn
      let on := s.bridgesOn (d - 74)
      let s := ((s.draw.setClock d { s.clock d with failed := true, seen }).tellClock d 1).inc 0x0C d 1 1
      let s := s.safeOutputs d on
      let s := s.protect 5 true
      if d.val = 22 ∧ s.extRefclk then s.linkGone else s)

/-- The access hung in a domain ends in error: its command is answered E_FAULT, DETAIL DOMAIN, and has changed no state
(R557). -/
def State.hungFails (s : State) (d : Nat) : State :=
  match s.hung with
  | some h =>
    if h.domain = d then
      let s := { s with hung := none }
      let e : Err := { code := 0x0A, detail := dDomain d }
      (s.answerErr (h.key / 4) (h.key % 4) (s.cabOfMbx (h.key / 4)) e).settled
    else s
  | none => s

/-- The clock has returned to the domain in which an access hangs: its command takes its turn (R554). -/
def State.hungEnds (s : State) (d : Nat) : State :=
  match s.hung with
  | some h => if h.domain = d then { s with hung := none }.settled else s
  | none => s

/-- CLOCK_RESET_HOLD: it has stayed absent for 10 ms, and the accesses hung there end. -/
def execClockResetHold (d : Fin 102) (s : State) : Answer :=
  .next (
    if (s.clock d).failed ∧ !(s.clock d).held then
      ((s.setClock d { s.clock d with held := true }).tellClock d 2).hungFails d
    else s)

/-- A gauge channel whose excitation ended with its clock, or whose samples stopped with theirs, begins as at entry to P3
(R304, R546). -/
def State.gaugesAgain (s : State) (d : Nat) : State :=
  forEach ((List.range 8).filter fun g => (d == 90 || d == 82 + g) && s.gaugeRuns g) (fun g s =>
    let s := if d = 90 then s else s.updGauge g fun x => x.exciteAt (64 * s.now) x.cfg.freq
    s.gaugeRestart g) s

/-- CLOCK_RECOVER: it has been present and locked for 1 ms. -/
def execClockRecover (d : Fin 102) (s : State) : Answer :=
  .next (if (s.clock d).failed then ((s.setClock d {}).tellClock d 0).gaugesAgain d |>.hungEnds d else s)

/-! The Curator watchdog (R582). -/

/-- CURATOR_WATCHDOG: in KEEP only the running core is watched, taken as core 0 (DEDUCED, log 41). -/
def execCuratorWatchdog (core : Fin 4) (s : State) : Answer :=
  .next (
    if s.mode = .dormant ∨ (s.mode = .keep ∧ core.val ≠ 0) then s
    else
      let s := if (s.supply 0).outside then s else (s.beginRecord .other).freePage 29680 (s.highGen 29680 1 + 1)
      { s with wdPending := some (core, s.epoch) }.deviceReset)

/-! DRAM errors (R583, R493). -/

/-- The stream whose undelivered bytes a block holds, and the offset at which the block begins. -/
def State.blockStream (s : State) (addr : Nat) : Option (Nat × Nat) :=
  s.streams.findSome? fun (k, x) =>
    let w := s.windowBase (k / 16) + x.base
    if x.capacity = 0 ∨ addr < w ∨ w + x.capacity ≤ addr then none
    else
      let f := x.freed / 64 * 64
      let off := f + (addr - w + x.capacity - f % x.capacity) % x.capacity
      if off < x.written then some (k, off) else none

/-- A line leaves a bed's queue because its block cannot be read: its reservations are released, and it counts as dropped
GRAFT_SOURCE where it counted as captured (DESIGN CHOICE, log 40). -/
def State.loseLine (s : State) (b num : Nat) : State :=
  match (s.bed b).queue.find? fun l => l.num = num with
  | none => s
  | some l =>
    let s := s.updBed b fun x => { x with queue := x.queue.filter fun l => l.num ≠ num }
    let left := (l.place.kernels.zip l.reserved).zipIdx.filter fun kr => !l.written.contains kr.2
    let s := forEach left (fun kr s => s.release l.cab kr.1.1.stream kr.1.2) s
    if l.acc = 0 then s
    else
      ((s.inc 1 b 1 (2 ^ 48 - 1)).inc 1 b 6 1).updDoc l.acc fun d => d.updBed b fun x =>
        { x with captured := x.captured - 1, dropped := x.dropped + 1 }

/-- Mark a raw line of a delay memory, by its number, as one that cannot be read. -/
def spoil (delay : List RawLine) (raw : Nat) : List RawLine :=
  match delay.find? (fun r => r.num == raw && r.fitted) with
  | some r => delay.map fun q => if q = r then { q with bad := true } else q
  | none => delay

/-- What an uncorrectable error does where it lies, with AUX of DRAM_ERROR: 0 outside what Table IN-10 names. -/
def State.dramHit (s : State) (addr : Nat) (hit : DramHit) : State × Nat :=
  if addr < 15 * 2 ^ 30 then
    match s.blockStream addr with
    | some (k, off) =>
      (s.updStream (k / 16) (k % 16) fun x =>
        { x with badBlocks := if x.badBlocks.contains off then x.badBlocks else x.badBlocks ++ [off] }, 1)
    | none => (s, 0)
  else
    match hit with
    | .other => (s, 0)
    | .delay b raw =>
      (s.updBed b fun x => { x with delay := spoil x.delay raw }, 2)
    | .queue b num => (s.loseLine b num, 2)
    | .kernel id =>
      (match tget none s.cuttings id with
        | some k => { s with cuttings := tset none s.cuttings id (some { k with bad := true }) }
        | none => s, 3)

/-- DRAM_ERROR: which of the two controllers serves a block the spec does not say (DESIGN CHOICE, log 40). -/
def execDramError (addr : BitVec 34) (correctable : Bool) (hit : DramHit) (s : State) : Answer :=
  .next (
    let ctl := s.drawn.toNat % 2
    let s := s.draw
    if !s.clkOk (20 + ctl) then s
    else
      let block := addr.toNat / 64 * 64
      if correctable then s.inc 0x0D ctl 0 1
      else
        let (s, aux) := (s.inc 0x0D ctl 1 1).dramHit block hit
        s.raise 0 (s.ev 0x0B05 ctl aux (w2 block)))

end Sys2Proof.Machine
end

