-- ==== Sys2Proof/Machine/Dispatch.lean ====
section
/-! DEFINITION. The dispatch: one arm per row of spec/opcode_table.json. -/

namespace Sys2Proof.Machine

/-- The effect of a command or event on everything but the queue. -/
def exec (i : Instr) (s : State) : Host.Outcome State Fault Refusal :=
  match i with
  | .devMode m n => Sys2Proof.Machine.execDevMode m n s
  | .devReset m n => Sys2Proof.Machine.execDevReset m n s
  | .devTbset m n => Sys2Proof.Machine.execDevTbset m n s
  | .devTbread m n => Sys2Proof.Machine.execDevTbread m n s
  | .devCompare m n => Sys2Proof.Machine.execDevCompare m n s
  | .devDisarm m n => Sys2Proof.Machine.execDevDisarm m n s
  | .devCert m n => Sys2Proof.Machine.execDevCert m n s
  | .devAttest m n => Sys2Proof.Machine.execDevAttest m n s
  | .devResetsum m n => Sys2Proof.Machine.execDevResetsum m n s
  | .jobOpen m n => Sys2Proof.Machine.execJobOpen m n s
  | .jobCancel m n => Sys2Proof.Machine.execJobCancel m n s
  | .jobStream m n => Sys2Proof.Machine.execJobStream m n s
  | .jobPace m n => Sys2Proof.Machine.execJobPace m n s
  | .jobKey m n => Sys2Proof.Machine.execJobKey m n s
  | .jobLedger m n => Sys2Proof.Machine.execJobLedger m n s
  | .bedConfig m n => Sys2Proof.Machine.execBedConfig m n s
  | .bedAfe m n => Sys2Proof.Machine.execBedAfe m n s
  | .bedPitch m n => Sys2Proof.Machine.execBedPitch m n s
  | .bedGraft m n => Sys2Proof.Machine.execBedGraft m n s
  | .illBed m n => Sys2Proof.Machine.execIllBed m n s
  | .illChannel m n => Sys2Proof.Machine.execIllChannel m n s
  | .illLevel m n => Sys2Proof.Machine.execIllLevel m n s
  | .illStatus m n => Sys2Proof.Machine.execIllStatus m n s
  | .illClear m n => Sys2Proof.Machine.execIllClear m n s
  | .calConfig m n => Sys2Proof.Machine.execCalConfig m n s
  | .calRun m n => Sys2Proof.Machine.execCalRun m n s
  | .calStatus m n => Sys2Proof.Machine.execCalStatus m n s
  | .moveConfig m n => Sys2Proof.Machine.execMoveConfig m n s
  | .moveQueue m n => Sys2Proof.Machine.execMoveQueue m n s
  | .moveOverride m n => Sys2Proof.Machine.execMoveOverride m n s
  | .moveGear m n => Sys2Proof.Machine.execMoveGear m n s
  | .moveStop m n => Sys2Proof.Machine.execMoveStop m n s
  | .moveSetpos m n => Sys2Proof.Machine.execMoveSetpos m n s
  | .moveStatus m n => Sys2Proof.Machine.execMoveStatus m n s
  | .moveTable m n => Sys2Proof.Machine.execMoveTable m n s
  | .moveCoil m n => Sys2Proof.Machine.execMoveCoil m n s
  | .moveClear m n => Sys2Proof.Machine.execMoveClear m n s
  | .moveDrive m n => Sys2Proof.Machine.execMoveDrive m n s
  | .movePace m n => Sys2Proof.Machine.execMovePace m n s
  | .gaugeConfig m n => Sys2Proof.Machine.execGaugeConfig m n s
  | .gaugeLinear m n => Sys2Proof.Machine.execGaugeLinear m n s
  | .gaugeLead m n => Sys2Proof.Machine.execGaugeLead m n s
  | .gaugeDoc m n => Sys2Proof.Machine.execGaugeDoc m n s
  | .gaugeAout m n => Sys2Proof.Machine.execGaugeAout m n s
  | .gaugeStatus m n => Sys2Proof.Machine.execGaugeStatus m n s
  | .cutLoad m n => Sys2Proof.Machine.execCutLoad m n s
  | .cutUnload m n => Sys2Proof.Machine.execCutUnload m n s
  | .cutPlace m n => Sys2Proof.Machine.execCutPlace m n s
  | .cutAssign m n => Sys2Proof.Machine.execCutAssign m n s
  | .bufRing m n => Sys2Proof.Machine.execBufRing m n s
  | .bufPost m n => Sys2Proof.Machine.execBufPost m n s
  | .bufStatus m n => Sys2Proof.Machine.execBufStatus m n s
  | .runConfig m n => Sys2Proof.Machine.execRunConfig m n s
  | .runNodes m n => Sys2Proof.Machine.execRunNodes m n s
  | .runRead m n => Sys2Proof.Machine.execRunRead m n s
  | .runWrite m n => Sys2Proof.Machine.execRunWrite m n s
  | .runPost m n => Sys2Proof.Machine.execRunPost m n s
  | .invSnap m n => Sys2Proof.Machine.execInvSnap m n s
  | .invRead m n => Sys2Proof.Machine.execInvRead m n s
  | .invPartners m n => Sys2Proof.Machine.execInvPartners m n s
  | .hbRead m n => Sys2Proof.Machine.execHbRead m n s
  | .hbWrite m n commits => Sys2Proof.Machine.execHbWrite m n commits s
  | .hbSlot m n => Sys2Proof.Machine.execHbSlot m n s
  | .cabEnrol m n => Sys2Proof.Machine.execCabEnrol m n s
  | .cabReset m n => Sys2Proof.Machine.execCabReset m n s
  | .cabDivert m n => Sys2Proof.Machine.execCabDivert m n s
  | .diagDiscover m n found => Sys2Proof.Machine.execDiagDiscover m n found s
  | .diagRun m n => Sys2Proof.Machine.execDiagRun m n s
  | .ringSlot m n => Sys2Proof.Machine.execRingSlot m n s
  | .freeSlot m n => Sys2Proof.Machine.execFreeSlot m n s
  | .strayClear m => Sys2Proof.Machine.execStrayClear m s
  | .commandSlotWrite m off wide data => Sys2Proof.Machine.execCommandSlotWrite m off wide data s
  | .eventRingConfigWrite m off wide data => Sys2Proof.Machine.execEventRingConfigWrite m off wide data s
  | .eventRingCtrlWrite m data => Sys2Proof.Machine.execEventRingCtrlWrite m data s
  | .readIdxWrite m data => Sys2Proof.Machine.execReadIdxWrite m data s
  | .eventStatusClear m data => Sys2Proof.Machine.execEventStatusClear m data s
  | .wmMarkWrite m off wide data => Sys2Proof.Machine.execWmMarkWrite m off wide data s
  | .wmAck m data => Sys2Proof.Machine.execWmAck m data s
  | .registerWrite m off wide data => Sys2Proof.Machine.execRegisterWrite m off wide data s
  | .regWrite f => Sys2Proof.Machine.execRegWrite f s
  | .regRead f => Sys2Proof.Machine.execRegRead f s
  | .fetchData f => Sys2Proof.Machine.execFetchData f s
  | .probeReply f => Sys2Proof.Machine.execProbeReply f s
  | .usbFetchTimeout tag => Sys2Proof.Machine.execUsbFetchTimeout tag s
  | .usbReset => Sys2Proof.Machine.execUsbReset s
  | .linkLoss k => Sys2Proof.Machine.execLinkLoss k s
  | .vfEnableClear => Sys2Proof.Machine.execVfEnableClear s
  | .vfEnable f => Sys2Proof.Machine.execVfEnable f s
  | .functionLevelReset f => Sys2Proof.Machine.execFunctionLevelReset f s
  | .portChanged usb up speed lanes => Sys2Proof.Machine.execPortChanged usb up speed lanes s
  | .perstDeassert clock => Sys2Proof.Machine.execPerstDeassert clock s
  | .powerUp badPages => Sys2Proof.Machine.execPowerUp badPages s
  | .resetNAssert width => Sys2Proof.Machine.execResetNAssert width s
  | .vin12Collapse => Sys2Proof.Machine.execVin12Collapse s
  | .vin12Return mv => Sys2Proof.Machine.execVin12Return mv s
  | .supplyFault u mv => Sys2Proof.Machine.execSupplyFault u mv s
  | .supplyReturn u mv => Sys2Proof.Machine.execSupplyReturn u mv s
  | .junctionRead j0 j1 j2 j3 => Sys2Proof.Machine.execJunctionRead j0 j1 j2 j3 s
  | .clockFail d => Sys2Proof.Machine.execClockFail d s
  | .clockResetHold d => Sys2Proof.Machine.execClockResetHold d s
  | .clockRecover d => Sys2Proof.Machine.execClockRecover d s
  | .curatorWatchdog core => Sys2Proof.Machine.execCuratorWatchdog core s
  | .dramError addr correctable hit => Sys2Proof.Machine.execDramError addr correctable hit s
  | .wakeSource bit => Sys2Proof.Machine.execWakeSource bit s
  | .wakeTimer => Sys2Proof.Machine.execWakeTimer s
  | .modeChangeComplete => Sys2Proof.Machine.execModeChangeComplete s
  | .bootComplete found => Sys2Proof.Machine.execBootComplete found s
  | .drainComplete => Sys2Proof.Machine.execDrainComplete s
  | .haltSettled => Sys2Proof.Machine.execHaltSettled s
  | .ledgerCheckpoint => Sys2Proof.Machine.execLedgerCheckpoint s
  | .coverChanged b opened => Sys2Proof.Machine.execCoverChanged b opened s
  | .encEdge u b v => Sys2Proof.Machine.execEncEdge u b v s
  | .encError u => Sys2Proof.Machine.execEncError u s
  | .encSignalLoss c z => Sys2Proof.Machine.execEncSignalLoss c z s
  | .tbSourceBack c => Sys2Proof.Machine.execTbSourceBack c s
  | .encIndex c => Sys2Proof.Machine.execEncIndex c s
  | .syncLoss c => Sys2Proof.Machine.execSyncLoss c s
  | .compareFired k => Sys2Proof.Machine.execCompareFired k s
  | .gpioPulseEnd p => Sys2Proof.Machine.execGpioPulseEnd p s
  | .gaugeReset g => Sys2Proof.Machine.execGaugeReset g s
  | .lineTrigger b => Sys2Proof.Machine.execLineTrigger b s
  | .slotStart b vin reg ball => Sys2Proof.Machine.execSlotStart b vin reg ball s
  | .sinkOvertemp b c temp => Sys2Proof.Machine.execSinkOvertemp b c temp s
  | .tempRead b mohm => Sys2Proof.Machine.execTempRead b mohm s
  | .lineRelease b => Sys2Proof.Machine.execLineRelease b s
  | .kernelEntry t => Sys2Proof.Machine.execKernelEntry t s
  | .resultAccepted t => Sys2Proof.Machine.execResultAccepted t s
  | .storePerformed t => Sys2Proof.Machine.execStorePerformed t s
  | .kernelWatchdog t => Sys2Proof.Machine.execKernelWatchdog t s
  | .tineDead t error => Sys2Proof.Machine.execTineDead t error s
  | .tineRevived t => Sys2Proof.Machine.execTineRevived t s
  | .selfTestDone t pass => Sys2Proof.Machine.execSelfTestDone t pass s
  | .plotScrub p => Sys2Proof.Machine.execPlotScrub p s
  | .add t d a b => Sys2Proof.Machine.execAdd t d a b s
  | .sub t d a b => Sys2Proof.Machine.execSub t d a b s
  | .and t d a b => Sys2Proof.Machine.execAnd t d a b s
  | .or t d a b => Sys2Proof.Machine.execOr t d a b s
  | .xor t d a b => Sys2Proof.Machine.execXor t d a b s
  | .shl t d a b => Sys2Proof.Machine.execShl t d a b s
  | .shr t d a b => Sys2Proof.Machine.execShr t d a b s
  | .sra t d a b => Sys2Proof.Machine.execSra t d a b s
  | .mul t d a b => Sys2Proof.Machine.execMul t d a b s
  | .mulhu t d a b => Sys2Proof.Machine.execMulhu t d a b s
  | .slt t d a b => Sys2Proof.Machine.execSlt t d a b s
  | .sltu t d a b => Sys2Proof.Machine.execSltu t d a b s
  | .min t d a b => Sys2Proof.Machine.execMin t d a b s
  | .max t d a b => Sys2Proof.Machine.execMax t d a b s
  | .addi t d a imm => Sys2Proof.Machine.execAddi t d a imm s
  | .andi t d a imm => Sys2Proof.Machine.execAndi t d a imm s
  | .ori t d a imm => Sys2Proof.Machine.execOri t d a imm s
  | .xori t d a imm => Sys2Proof.Machine.execXori t d a imm s
  | .shli t d a imm => Sys2Proof.Machine.execShli t d a imm s
  | .shri t d a imm => Sys2Proof.Machine.execShri t d a imm s
  | .srai t d a imm => Sys2Proof.Machine.execSrai t d a imm s
  | .slti t d a imm => Sys2Proof.Machine.execSlti t d a imm s
  | .sltiu t d a imm => Sys2Proof.Machine.execSltiu t d a imm s
  | .lui t r off => Sys2Proof.Machine.execLui t r off s
  | .vadd t d a b p => Sys2Proof.Machine.execVadd t d a b p s
  | .vsub t d a b p => Sys2Proof.Machine.execVsub t d a b p s
  | .vaddus t d a b p => Sys2Proof.Machine.execVaddus t d a b p s
  | .vsubus t d a b p => Sys2Proof.Machine.execVsubus t d a b p s
  | .vaddss t d a b p => Sys2Proof.Machine.execVaddss t d a b p s
  | .vsubss t d a b p => Sys2Proof.Machine.execVsubss t d a b p s
  | .vmullo t d a b p => Sys2Proof.Machine.execVmullo t d a b p s
  | .vmulhu t d a b p => Sys2Proof.Machine.execVmulhu t d a b p s
  | .vmulhs t d a b p => Sys2Proof.Machine.execVmulhs t d a b p s
  | .vminu t d a b p => Sys2Proof.Machine.execVminu t d a b p s
  | .vmaxu t d a b p => Sys2Proof.Machine.execVmaxu t d a b p s
  | .vmins t d a b p => Sys2Proof.Machine.execVmins t d a b p s
  | .vmaxs t d a b p => Sys2Proof.Machine.execVmaxs t d a b p s
  | .vabsdu t d a b p => Sys2Proof.Machine.execVabsdu t d a b p s
  | .vavgu t d a b p => Sys2Proof.Machine.execVavgu t d a b p s
  | .vand t d a b p => Sys2Proof.Machine.execVand t d a b p s
  | .vor t d a b p => Sys2Proof.Machine.execVor t d a b p s
  | .vxor t d a b p => Sys2Proof.Machine.execVxor t d a b p s
  | .vshl t d a b p => Sys2Proof.Machine.execVshl t d a b p s
  | .vshr t d a b p => Sys2Proof.Machine.execVshr t d a b p s
  | .vsra t d a b p => Sys2Proof.Machine.execVsra t d a b p s
  | .vshli t d a imm => Sys2Proof.Machine.execVshli t d a imm s
  | .vshri t d a imm => Sys2Proof.Machine.execVshri t d a imm s
  | .vsrai t d a imm => Sys2Proof.Machine.execVsrai t d a imm s
  | .vsplati t d imm => Sys2Proof.Machine.execVsplati t d imm s
  | .vcmpeq t d a b p => Sys2Proof.Machine.execVcmpeq t d a b p s
  | .vcmpne t d a b p => Sys2Proof.Machine.execVcmpne t d a b p s
  | .vcmpltu t d a b p => Sys2Proof.Machine.execVcmpltu t d a b p s
  | .vcmpleu t d a b p => Sys2Proof.Machine.execVcmpleu t d a b p s
  | .vcmplts t d a b p => Sys2Proof.Machine.execVcmplts t d a b p s
  | .vcmples t d a b p => Sys2Proof.Machine.execVcmples t d a b p s
  | .vsel t d a b p => Sys2Proof.Machine.execVsel t d a b p s
  | .vsplat t d a p => Sys2Proof.Machine.execVsplat t d a p s
  | .vext t d a lane => Sys2Proof.Machine.execVext t d a lane s
  | .vins t d a lane => Sys2Proof.Machine.execVins t d a lane s
  | .vhsum t d a => Sys2Proof.Machine.execVhsum t d a s
  | .pand t d a b => Sys2Proof.Machine.execPand t d a b s
  | .por t d a b => Sys2Proof.Machine.execPor t d a b s
  | .pnot t d a => Sys2Proof.Machine.execPnot t d a s
  | .ptos t d a => Sys2Proof.Machine.execPtos t d a s
  | .stop t d a => Sys2Proof.Machine.execStop t d a s
  | .azero t d p => Sys2Proof.Machine.execAzero t d p s
  | .vmacu t d a b p => Sys2Proof.Machine.execVmacu t d a b p s
  | .vmacs t d a b p => Sys2Proof.Machine.execVmacs t d a b p s
  | .aaddv t d a p => Sys2Proof.Machine.execAaddv t d a p s
  | .aget t d a b p => Sys2Proof.Machine.execAget t d a b p s
  | .agets t d a b p => Sys2Proof.Machine.execAgets t d a b p s
  | .ldw t data base space post off => Sys2Proof.Machine.execLdw t data base space post off s
  | .ldh t data base space post off => Sys2Proof.Machine.execLdh t data base space post off s
  | .ldv t data base space post off => Sys2Proof.Machine.execLdv t data base space post off s
  | .stw t data base space post off => Sys2Proof.Machine.execStw t data base space post off s
  | .sth t data base space post off => Sys2Proof.Machine.execSth t data base space post off s
  | .stv t data base space post off => Sys2Proof.Machine.execStv t data base space post off s
  | .jal t r off => Sys2Proof.Machine.execJal t r off s
  | .beqz t r off => Sys2Proof.Machine.execBeqz t r off s
  | .bnez t r off => Sys2Proof.Machine.execBnez t r off s
  | .bltz t r off => Sys2Proof.Machine.execBltz t r off s
  | .bgez t r off => Sys2Proof.Machine.execBgez t r off s
  | .dbnz t r off => Sys2Proof.Machine.execDbnz t r off s
  | .bpany t r off => Sys2Proof.Machine.execBpany t r off s
  | .bpnone t r off => Sys2Proof.Machine.execBpnone t r off s
  | .nop t => Sys2Proof.Machine.execNop t s
  | .fenceS t => Sys2Proof.Machine.execFenceS t s
  | .fenceL t => Sys2Proof.Machine.execFenceL t s
  | .trap t => Sys2Proof.Machine.execTrap t s
  | .close t a => Sys2Proof.Machine.execClose t a s
  | .jr t a => Sys2Proof.Machine.execJr t a s
  | .cyc t d => Sys2Proof.Machine.execCyc t d s
  | .pfset t flag => Sys2Proof.Machine.execPfset t flag s
  | .pfclr t flag => Sys2Proof.Machine.execPfclr t flag s
  | .pfwait t flag => Sys2Proof.Machine.execPfwait t flag s
  | .pftest t d flag => Sys2Proof.Machine.execPftest t d flag s
  | .undefinedEncoding t => Sys2Proof.Machine.execUndefinedEncoding t s
  | .servoUpdate a curA curB vm fwA fwB => Sys2Proof.Machine.execServoUpdate a curA curB vm fwA fwB s
  | .standstillDelay a => Sys2Proof.Machine.execStandstillDelay a s
  | .confirmation a => Sys2Proof.Machine.execConfirmation a s
  | .overcurrent a switches => Sys2Proof.Machine.execOvercurrent a switches s
  | .bridgeOvertemp a temp => Sys2Proof.Machine.execBridgeOvertemp a temp s
  | .pacingEvaluation => Sys2Proof.Machine.execPacingEvaluation s
  | .pauseRested g => Sys2Proof.Machine.execPauseRested g s
  | .backupEnd g => Sys2Proof.Machine.execBackupEnd g s
  | .excursionEnd g => Sys2Proof.Machine.execExcursionEnd g s
  | .prerollTrigger b => Sys2Proof.Machine.execPrerollTrigger b s
  | .pauseResumed b => Sys2Proof.Machine.execPauseResumed b s
  | .gaugeSample c p => Sys2Proof.Machine.execGaugeSample c p s
  | .gaugeCheckDue c => Sys2Proof.Machine.execGaugeCheckDue c s
  | .gaugeCheckEnd c p => Sys2Proof.Machine.execGaugeCheckEnd c p s
  | .gaugeLeadDone c => Sys2Proof.Machine.execGaugeLeadDone c s
  | .leadingEdge p => Sys2Proof.Machine.execLeadingEdge p s
  | .trailingEdge p => Sys2Proof.Machine.execTrailingEdge p s
  | .exitSensorChange p high => Sys2Proof.Machine.execExitSensorChange p high s
  | .jam => Sys2Proof.Machine.execJam s
  | .recordClose => Sys2Proof.Machine.execRecordClose s
  | .feedDecision b => Sys2Proof.Machine.execFeedDecision b s
  | .deliveryNote => Sys2Proof.Machine.execDeliveryNote s
  | .stripReadComplete b => Sys2Proof.Machine.execStripReadComplete b s
  | .calResult b => Sys2Proof.Machine.execCalResult b s
  | .calRunTimeout b => Sys2Proof.Machine.execCalRunTimeout b s
  | .cabinetReset c => Sys2Proof.Machine.execCabinetReset c s
  | .windowScrubEnd c => Sys2Proof.Machine.execWindowScrubEnd c s
  | .parcelFetch m n bytes => Sys2Proof.Machine.execParcelFetch m n bytes s
  | .descriptorFetch c n bytes => Sys2Proof.Machine.execDescriptorFetch c n bytes s
  | .descriptorFetchFail c n => Sys2Proof.Machine.execDescriptorFetchFail c n s
  | .descriptorFill c n => Sys2Proof.Machine.execDescriptorFill c n s
  | .descriptorTimeout c n => Sys2Proof.Machine.execDescriptorTimeout c n s
  | .probeComplete c n ok => Sys2Proof.Machine.execProbeComplete c n ok s
  | .runnerLinkLoss p => Sys2Proof.Machine.execRunnerLinkLoss p s
  | .retryExpiry p => Sys2Proof.Machine.execRetryExpiry p s
  | .trainingRetry p => Sys2Proof.Machine.execTrainingRetry p s
  | .ident p k => Sys2Proof.Machine.execIdent p k s
  | .train p k => Sys2Proof.Machine.execTrain p k s
  | .creditSync p k => Sys2Proof.Machine.execCreditSync p k s
  | .ack p k => Sys2Proof.Machine.execAck p k s
  | .nak p k => Sys2Proof.Machine.execNak p k s
  | .credit p k => Sys2Proof.Machine.execCredit p k s
  | .delayReq p k age => Sys2Proof.Machine.execDelayReq p k age s
  | .delayResp p k age => Sys2Proof.Machine.execDelayResp p k age s
  | .delayExchangeDue p => Sys2Proof.Machine.execDelayExchangeDue p s
  | .rate p k => Sys2Proof.Machine.execRate p k s
  | .wake p k => Sys2Proof.Machine.execWake p k s
  | .advert p k => Sys2Proof.Machine.execAdvert p k s
  | .advertDue p => Sys2Proof.Machine.execAdvertDue p s
  | .rootStale p => Sys2Proof.Machine.execRootStale p s
  | .sync p k age => Sys2Proof.Machine.execSync p k age s
  | .syncDue => Sys2Proof.Machine.execSyncDue s
  | .read p k => Sys2Proof.Machine.execRead p k s
  | .write p k => Sys2Proof.Machine.execWrite p k s
  | .post p k => Sys2Proof.Machine.execPost p k s
  | .postAckDue src => Sys2Proof.Machine.execPostAckDue src s
  | .resp p k => Sys2Proof.Machine.execResp p k s
  | .postAck p k => Sys2Proof.Machine.execPostAck p k s
  | .event p k => Sys2Proof.Machine.execEvent p k s
  | .member p k => Sys2Proof.Machine.execMember p k s
  | .snap p k => Sys2Proof.Machine.execSnap p k s
  | .reqTimeout id => Sys2Proof.Machine.execReqTimeout id s
  | .legacySyncDue => Sys2Proof.Machine.execLegacySyncDue s
  | .reanchor c => Sys2Proof.Machine.execReanchor c s
  | .reanchorForced => Sys2Proof.Machine.execReanchorForced s
  | .holdoffExpiry c => Sys2Proof.Machine.execHoldoffExpiry c s
  | .diagDone data => Sys2Proof.Machine.execDiagDone data s
  | .msixUnmask f vector => Sys2Proof.Machine.execMsixUnmask f vector s
  | .busMasterEnableChange f enable d0 => Sys2Proof.Machine.execBusMasterEnableChange f enable d0 s
  | .usbResume => Sys2Proof.Machine.execUsbResume s
  | .crcError p vc => Sys2Proof.Machine.execCrcError p vc s
  | .blankInputChange n high => Sys2Proof.Machine.execBlankInputChange n high s

end Sys2Proof.Machine
end

