-- ==== Sys2Proof/Machine/TineCode.lean ====
section
/-! DEFINITION. The words of the tine instructions (Tables TI-1 and TI-5 to TI-12, R364, R365): the word that each row
stands for, and the row that each word stands for. -/

namespace Sys2Proof.Machine

/-- The word of a tine instruction; none for the rows that are not one. -/
def tineWord : Instr → Option (BitVec 32)
  | .add _ d a b => some (encA 0x01 d a b 0 0)
  | .sub _ d a b => some (encA 0x01 d a b 0 1)
  | .and _ d a b => some (encA 0x01 d a b 0 2)
  | .or _ d a b => some (encA 0x01 d a b 0 3)
  | .xor _ d a b => some (encA 0x01 d a b 0 4)
  | .shl _ d a b => some (encA 0x01 d a b 0 5)
  | .shr _ d a b => some (encA 0x01 d a b 0 6)
  | .sra _ d a b => some (encA 0x01 d a b 0 7)
  | .mul _ d a b => some (encA 0x01 d a b 0 8)
  | .mulhu _ d a b => some (encA 0x01 d a b 0 9)
  | .slt _ d a b => some (encA 0x01 d a b 0 10)
  | .sltu _ d a b => some (encA 0x01 d a b 0 11)
  | .min _ d a b => some (encA 0x01 d a b 0 12)
  | .max _ d a b => some (encA 0x01 d a b 0 13)
  | .addi _ d a imm => some (encB 0x02 d a 0 imm)
  | .andi _ d a imm => some (encB 0x02 d a 1 imm)
  | .ori _ d a imm => some (encB 0x02 d a 2 imm)
  | .xori _ d a imm => some (encB 0x02 d a 3 imm)
  | .slti _ d a imm => some (encB 0x02 d a 7 imm)
  | .sltiu _ d a imm => some (encB 0x02 d a 8 imm)
  | .shli _ d a imm => some (encB 0x02 d a 4 (BitVec.ofNat 12 imm))
  | .shri _ d a imm => some (encB 0x02 d a 5 (BitVec.ofNat 12 imm))
  | .srai _ d a imm => some (encB 0x02 d a 6 (BitVec.ofNat 12 imm))
  | .lui _ r off => some (encD 0x03 r off)
  | .vadd _ d a b p => some (encA 0x04 d a b p 0)
  | .vsub _ d a b p => some (encA 0x04 d a b p 1)
  | .vaddus _ d a b p => some (encA 0x04 d a b p 2)
  | .vsubus _ d a b p => some (encA 0x04 d a b p 3)
  | .vaddss _ d a b p => some (encA 0x04 d a b p 4)
  | .vsubss _ d a b p => some (encA 0x04 d a b p 5)
  | .vmullo _ d a b p => some (encA 0x04 d a b p 6)
  | .vmulhu _ d a b p => some (encA 0x04 d a b p 7)
  | .vmulhs _ d a b p => some (encA 0x04 d a b p 8)
  | .vminu _ d a b p => some (encA 0x04 d a b p 9)
  | .vmaxu _ d a b p => some (encA 0x04 d a b p 10)
  | .vmins _ d a b p => some (encA 0x04 d a b p 11)
  | .vmaxs _ d a b p => some (encA 0x04 d a b p 12)
  | .vabsdu _ d a b p => some (encA 0x04 d a b p 13)
  | .vavgu _ d a b p => some (encA 0x04 d a b p 14)
  | .vand _ d a b p => some (encA 0x04 d a b p 15)
  | .vor _ d a b p => some (encA 0x04 d a b p 16)
  | .vxor _ d a b p => some (encA 0x04 d a b p 17)
  | .vshl _ d a b p => some (encA 0x04 d a b p 18)
  | .vshr _ d a b p => some (encA 0x04 d a b p 19)
  | .vsra _ d a b p => some (encA 0x04 d a b p 20)
  | .vcmpeq _ d a b p => some (encA 0x05 d a b p 0)
  | .vcmpne _ d a b p => some (encA 0x05 d a b p 1)
  | .vcmpltu _ d a b p => some (encA 0x05 d a b p 2)
  | .vcmpleu _ d a b p => some (encA 0x05 d a b p 3)
  | .vcmplts _ d a b p => some (encA 0x05 d a b p 4)
  | .vcmples _ d a b p => some (encA 0x05 d a b p 5)
  | .vsel _ d a b p => some (encA 0x06 d a b p 0x00)
  | .vsplat _ d a p => some (encA 0x06 d a 0 p 0x01)
  | .vext _ d a l => some (encA 0x06 d a l 0 0x02)
  | .vins _ d a l => some (encA 0x06 d a l 0 0x03)
  | .vhsum _ d a => some (encA 0x06 d a 0 0 0x04)
  | .pand _ d a b => some (encA 0x06 d a b 0 0x08)
  | .por _ d a b => some (encA 0x06 d a b 0 0x09)
  | .pnot _ d a => some (encA 0x06 d a 0 0 0x0A)
  | .ptos _ d a => some (encA 0x06 d a 0 0 0x0B)
  | .stop _ d a => some (encA 0x06 d a 0 0 0x0C)
  | .azero _ d p => some (encA 0x07 d 0 0 p 0x00)
  | .vmacu _ d a b p => some (encA 0x07 d a b p 0x01)
  | .vmacs _ d a b p => some (encA 0x07 d a b p 0x02)
  | .aaddv _ d a p => some (encA 0x07 d a 0 p 0x03)
  | .aget _ d a b p => some (encA 0x07 d a b p 0x04)
  | .agets _ d a b p => some (encA 0x07 d a b p 0x05)
  | .vshli _ d a imm => some (encB 0x08 d a 0 (BitVec.ofNat 12 imm))
  | .vshri _ d a imm => some (encB 0x08 d a 1 (BitVec.ofNat 12 imm))
  | .vsrai _ d a imm => some (encB 0x08 d a 2 (BitVec.ofNat 12 imm))
  | .vsplati _ d imm => some (encB 0x08 d 0 3 imm)
  | .ldw _ data base space post off => some (encC 0x10 data base space post.toNat off)
  | .ldh _ data base space post off => some (encC 0x11 data base space post.toNat off)
  | .ldv _ data base space post off => some (encC 0x12 data base space post.toNat off)
  | .stw _ data base space post off => some (encC 0x14 data base space post.toNat off)
  | .sth _ data base space post off => some (encC 0x15 data base space post.toNat off)
  | .stv _ data base space post off => some (encC 0x16 data base space post.toNat off)
  | .jal _ r off => some (encD 0x18 r off)
  | .beqz _ r off => some (encD 0x19 r off)
  | .bnez _ r off => some (encD 0x1A r off)
  | .bltz _ r off => some (encD 0x1B r off)
  | .bgez _ r off => some (encD 0x1C r off)
  | .dbnz _ r off => some (encD 0x1D r off)
  | .bpany _ r off => some (encD 0x1E r off)
  | .bpnone _ r off => some (encD 0x1F r off)
  | .nop _ => some (encA 0x3E 0 0 0 0 0x00)
  | .fenceS _ => some (encA 0x3E 0 0 0 0 0x01)
  | .fenceL _ => some (encA 0x3E 0 0 0 0 0x02)
  | .trap _ => some (encA 0x3E 0 0 0 0 0x03)
  | .close _ a => some (encA 0x3E 0 a 0 0 0x04)
  | .jr _ a => some (encA 0x3E 0 a 0 0 0x05)
  | .cyc _ d => some (encA 0x3E d 0 0 0 0x06)
  | .pfset _ flag => some (encA 0x3E 0 0 flag 0 0x08)
  | .pfclr _ flag => some (encA 0x3E 0 0 flag 0 0x09)
  | .pfwait _ flag => some (encA 0x3E 0 0 flag 0 0x0A)
  | .pftest _ d flag => some (encA 0x3E d 0 flag 0 0x0B)
  | _ => none

/-- The tine whose instruction a row is. -/
def tineOf : Instr → Nat
  | .add t _ _ _ => t
  | .sub t _ _ _ => t
  | .and t _ _ _ => t
  | .or t _ _ _ => t
  | .xor t _ _ _ => t
  | .shl t _ _ _ => t
  | .shr t _ _ _ => t
  | .sra t _ _ _ => t
  | .mul t _ _ _ => t
  | .mulhu t _ _ _ => t
  | .slt t _ _ _ => t
  | .sltu t _ _ _ => t
  | .min t _ _ _ => t
  | .max t _ _ _ => t
  | .addi t _ _ _ => t
  | .andi t _ _ _ => t
  | .ori t _ _ _ => t
  | .xori t _ _ _ => t
  | .slti t _ _ _ => t
  | .sltiu t _ _ _ => t
  | .shli t _ _ _ => t
  | .shri t _ _ _ => t
  | .srai t _ _ _ => t
  | .lui t _ _ => t
  | .vadd t _ _ _ _ => t
  | .vsub t _ _ _ _ => t
  | .vaddus t _ _ _ _ => t
  | .vsubus t _ _ _ _ => t
  | .vaddss t _ _ _ _ => t
  | .vsubss t _ _ _ _ => t
  | .vmullo t _ _ _ _ => t
  | .vmulhu t _ _ _ _ => t
  | .vmulhs t _ _ _ _ => t
  | .vminu t _ _ _ _ => t
  | .vmaxu t _ _ _ _ => t
  | .vmins t _ _ _ _ => t
  | .vmaxs t _ _ _ _ => t
  | .vabsdu t _ _ _ _ => t
  | .vavgu t _ _ _ _ => t
  | .vand t _ _ _ _ => t
  | .vor t _ _ _ _ => t
  | .vxor t _ _ _ _ => t
  | .vshl t _ _ _ _ => t
  | .vshr t _ _ _ _ => t
  | .vsra t _ _ _ _ => t
  | .vcmpeq t _ _ _ _ => t
  | .vcmpne t _ _ _ _ => t
  | .vcmpltu t _ _ _ _ => t
  | .vcmpleu t _ _ _ _ => t
  | .vcmplts t _ _ _ _ => t
  | .vcmples t _ _ _ _ => t
  | .vsel t _ _ _ _ => t
  | .vsplat t _ _ _ => t
  | .vext t _ _ _ => t
  | .vins t _ _ _ => t
  | .vhsum t _ _ => t
  | .pand t _ _ _ => t
  | .por t _ _ _ => t
  | .pnot t _ _ => t
  | .ptos t _ _ => t
  | .stop t _ _ => t
  | .azero t _ _ => t
  | .vmacu t _ _ _ _ => t
  | .vmacs t _ _ _ _ => t
  | .aaddv t _ _ _ => t
  | .aget t _ _ _ _ => t
  | .agets t _ _ _ _ => t
  | .vshli t _ _ _ => t
  | .vshri t _ _ _ => t
  | .vsrai t _ _ _ => t
  | .vsplati t _ _ => t
  | .ldw t _ _ _ _ _ => t
  | .ldh t _ _ _ _ _ => t
  | .ldv t _ _ _ _ _ => t
  | .stw t _ _ _ _ _ => t
  | .sth t _ _ _ _ _ => t
  | .stv t _ _ _ _ _ => t
  | .jal t _ _ => t
  | .beqz t _ _ => t
  | .bnez t _ _ => t
  | .bltz t _ _ => t
  | .bgez t _ _ => t
  | .dbnz t _ _ => t
  | .bpany t _ _ => t
  | .bpnone t _ _ => t
  | .nop t => t
  | .fenceS t => t
  | .fenceL t => t
  | .trap t => t
  | .close t _ => t
  | .jr t _ => t
  | .cyc t _ => t
  | .pfset t _ => t
  | .pfclr t _ => t
  | .pfwait t _ => t
  | .pftest t _ _ => t
  | _ => 0

/-- A number as a register of a file of n. -/
def reg? (n v : Nat) : Option (Fin n) := if h : v < n then some ⟨v, h⟩ else none

/-- The instruction when the fields it does not use are 0 (R365). -/
def only (ok : Bool) (i : Option Instr) : Option Instr := if ok then i else none

/-- The row that a word stands for on a tine (R365): none where the word matches no row. -/
def decodeTine (t : Fin 272) (word : BitVec 32) : Option Instr :=
  let w := word.toNat
  let d := bits w 25 21
  let a := bits w 20 16
  let b := bits w 15 11
  let p := bits w 10 8
  let fn := bits w 7 0
  let fnB := bits w 15 12
  let imm := BitVec.ofNat 12 (bits w 11 0)
  let space := bits w 15 14
  let mode := bits w 13 12
  let off := BitVec.ofNat 20 (bits w 19 0)
  match bits w 31 26 with
  | 0x01 => only (p == 0) do
    let d ← reg? 16 d; let a ← reg? 16 a; let b ← reg? 16 b
    match fn with
    | 0 => some (.add t d a b)
    | 1 => some (.sub t d a b)
    | 2 => some (.and t d a b)
    | 3 => some (.or t d a b)
    | 4 => some (.xor t d a b)
    | 5 => some (.shl t d a b)
    | 6 => some (.shr t d a b)
    | 7 => some (.sra t d a b)
    | 8 => some (.mul t d a b)
    | 9 => some (.mulhu t d a b)
    | 10 => some (.slt t d a b)
    | 11 => some (.sltu t d a b)
    | 12 => some (.min t d a b)
    | 13 => some (.max t d a b)
    | _ => none
  | 0x02 => do
    let d ← reg? 16 d; let a ← reg? 16 a
    match fnB with
    | 0 => some (.addi t d a imm)
    | 1 => some (.andi t d a imm)
    | 2 => some (.ori t d a imm)
    | 3 => some (.xori t d a imm)
    | 4 => (reg? 32 imm.toNat).map fun k => .shli t d a k
    | 5 => (reg? 32 imm.toNat).map fun k => .shri t d a k
    | 6 => (reg? 32 imm.toNat).map fun k => .srai t d a k
    | 7 => some (.slti t d a imm)
    | 8 => some (.sltiu t d a imm)
    | _ => none
  | 0x03 => only (!bit w 20) ((reg? 16 d).map fun r => .lui t r off)
  | 0x04 => do
    let d ← reg? 32 d; let a ← reg? 32 a; let b ← reg? 32 b; let p ← reg? 8 p
    match fn with
    | 0 => some (.vadd t d a b p)
    | 1 => some (.vsub t d a b p)
    | 2 => some (.vaddus t d a b p)
    | 3 => some (.vsubus t d a b p)
    | 4 => some (.vaddss t d a b p)
    | 5 => some (.vsubss t d a b p)
    | 6 => some (.vmullo t d a b p)
    | 7 => some (.vmulhu t d a b p)
    | 8 => some (.vmulhs t d a b p)
    | 9 => some (.vminu t d a b p)
    | 10 => some (.vmaxu t d a b p)
    | 11 => some (.vmins t d a b p)
    | 12 => some (.vmaxs t d a b p)
    | 13 => some (.vabsdu t d a b p)
    | 14 => some (.vavgu t d a b p)
    | 15 => some (.vand t d a b p)
    | 16 => some (.vor t d a b p)
    | 17 => some (.vxor t d a b p)
    | 18 => some (.vshl t d a b p)
    | 19 => some (.vshr t d a b p)
    | 20 => some (.vsra t d a b p)
    | _ => none
  | 0x05 => only (d != 0) do
    let d ← reg? 8 d; let a ← reg? 32 a; let b ← reg? 32 b; let p ← reg? 8 p
    match fn with
    | 0 => some (.vcmpeq t d a b p)
    | 1 => some (.vcmpne t d a b p)
    | 2 => some (.vcmpltu t d a b p)
    | 3 => some (.vcmpleu t d a b p)
    | 4 => some (.vcmplts t d a b p)
    | 5 => some (.vcmples t d a b p)
    | _ => none
  | 0x06 =>
    match fn with
    | 0x00 => do
      let d ← reg? 32 d; let a ← reg? 32 a; let b ← reg? 32 b; let p ← reg? 8 p
      some (.vsel t d a b p)
    | 0x01 => only (b == 0) do
      let d ← reg? 32 d; let a ← reg? 16 a; let p ← reg? 8 p
      some (.vsplat t d a p)
    | 0x02 => only (p == 0) do
      let d ← reg? 16 d; let a ← reg? 32 a; let l ← reg? 4 b
      some (.vext t d a l)
    | 0x03 => only (p == 0) do
      let d ← reg? 32 d; let a ← reg? 16 a; let l ← reg? 4 b
      some (.vins t d a l)
    | 0x04 => only (b == 0 && p == 0) do
      let d ← reg? 16 d; let a ← reg? 32 a
      some (.vhsum t d a)
    | 0x08 => only (d != 0 && p == 0) do
      let d ← reg? 8 d; let a ← reg? 8 a; let b ← reg? 8 b
      some (.pand t d a b)
    | 0x09 => only (d != 0 && p == 0) do
      let d ← reg? 8 d; let a ← reg? 8 a; let b ← reg? 8 b
      some (.por t d a b)
    | 0x0A => only (d != 0 && b == 0 && p == 0) do
      let d ← reg? 8 d; let a ← reg? 8 a
      some (.pnot t d a)
    | 0x0B => only (b == 0 && p == 0) do
      let d ← reg? 16 d; let a ← reg? 8 a
      some (.ptos t d a)
    | 0x0C => only (d != 0 && b == 0 && p == 0) do
      let d ← reg? 8 d; let a ← reg? 16 a
      some (.stop t d a)
    | _ => none
  | 0x07 => do
    let p ← reg? 8 p
    match fn with
    | 0x00 => only (a == 0 && b == 0) ((reg? 4 d).map fun d => .azero t d p)
    | 0x01 => do
      let d ← reg? 4 d; let a ← reg? 32 a; let b ← reg? 32 b
      some (.vmacu t d a b p)
    | 0x02 => do
      let d ← reg? 4 d; let a ← reg? 32 a; let b ← reg? 32 b
      some (.vmacs t d a b p)
    | 0x03 => only (b == 0) do
      let d ← reg? 4 d; let a ← reg? 32 a
      some (.aaddv t d a p)
    | 0x04 => do
      let d ← reg? 32 d; let a ← reg? 4 a; let b ← reg? 32 b
      some (.aget t d a b p)
    | 0x05 => do
      let d ← reg? 32 d; let a ← reg? 4 a; let b ← reg? 32 b
      some (.agets t d a b p)
    | _ => none
  | 0x08 => do
    let d ← reg? 32 d
    match fnB with
    | 0 => do
      let a ← reg? 32 a; let k ← reg? 16 imm.toNat
      some (.vshli t d a k)
    | 1 => do
      let a ← reg? 32 a; let k ← reg? 16 imm.toNat
      some (.vshri t d a k)
    | 2 => do
      let a ← reg? 32 a; let k ← reg? 16 imm.toNat
      some (.vsrai t d a k)
    | 3 => only (a == 0) (some (.vsplati t d imm))
    | _ => none
  | 0x10 => only (decide (mode ≤ 1) && !(mode == 1 && d == a)) do
    let data ← reg? 16 d; let base ← reg? 16 a; let space ← reg? 4 space
    some (.ldw t data base space (mode == 1) imm)
  | 0x11 => only (decide (mode ≤ 1) && !(mode == 1 && d == a)) do
    let data ← reg? 16 d; let base ← reg? 16 a; let space ← reg? 4 space
    some (.ldh t data base space (mode == 1) imm)
  | 0x12 => only (decide (mode ≤ 1)) do
    let data ← reg? 32 d; let base ← reg? 16 a; let space ← reg? 4 space
    some (.ldv t data base space (mode == 1) imm)
  | 0x14 => only (decide (mode ≤ 1)) do
    let data ← reg? 16 d; let base ← reg? 16 a; let space ← reg? 4 space
    some (.stw t data base space (mode == 1) imm)
  | 0x15 => only (decide (mode ≤ 1)) do
    let data ← reg? 16 d; let base ← reg? 16 a; let space ← reg? 4 space
    some (.sth t data base space (mode == 1) imm)
  | 0x16 => only (decide (mode ≤ 1)) do
    let data ← reg? 32 d; let base ← reg? 16 a; let space ← reg? 4 space
    some (.stv t data base space (mode == 1) imm)
  | 0x18 => only (!bit w 20) ((reg? 16 d).map fun r => .jal t r off)
  | 0x19 => only (!bit w 20) ((reg? 16 d).map fun r => .beqz t r off)
  | 0x1A => only (!bit w 20) ((reg? 16 d).map fun r => .bnez t r off)
  | 0x1B => only (!bit w 20) ((reg? 16 d).map fun r => .bltz t r off)
  | 0x1C => only (!bit w 20) ((reg? 16 d).map fun r => .bgez t r off)
  | 0x1D => only (d != 0 && !bit w 20) ((reg? 16 d).map fun r => .dbnz t r off)
  | 0x1E => only (!bit w 20) ((reg? 8 d).map fun r => .bpany t r off)
  | 0x1F => only (!bit w 20) ((reg? 8 d).map fun r => .bpnone t r off)
  | 0x3E => only (p == 0)
    (match fn with
    | 0x00 => only (d == 0 && a == 0 && b == 0) (some (.nop t))
    | 0x01 => only (d == 0 && a == 0 && b == 0) (some (.fenceS t))
    | 0x02 => only (d == 0 && a == 0 && b == 0) (some (.fenceL t))
    | 0x03 => only (d == 0 && a == 0 && b == 0) (some (.trap t))
    | 0x04 => only (d == 0 && b == 0) ((reg? 16 a).map fun a => .close t a)
    | 0x05 => only (d == 0 && b == 0) ((reg? 16 a).map fun a => .jr t a)
    | 0x06 => only (a == 0 && b == 0) ((reg? 16 d).map fun d => .cyc t d)
    | 0x08 => only (d == 0 && a == 0) ((reg? 32 b).map fun f => .pfset t f)
    | 0x09 => only (d == 0 && a == 0) ((reg? 32 b).map fun f => .pfclr t f)
    | 0x0A => only (d == 0 && a == 0) ((reg? 32 b).map fun f => .pfwait t f)
    | 0x0B => only (a == 0) do
      let d ← reg? 16 d; let f ← reg? 32 b
      some (.pftest t d f)
    | _ => none)
  | _ => none

end Sys2Proof.Machine
end

