-- ==== Sys2Proof/Safety.lean ====
section
/-! DEFINITION. What statements speak of: a command that passes its checks or fails one, what telling the hosts may
change, what answering commands may change, and the invariants. -/

namespace Sys2Proof.Machine

/-! Frames. -/

/-- The counters that telling a host moves: a cabinet's entries written and lost (class 8, 26 and 27) and the slots of
a port (class 0x0B, 5). -/
def reportCtr (cls idx : Nat) : Prop := (cls = 8 ∧ (idx = 26 ∨ idx = 27)) ∨ (cls = 0x0B ∧ idx = 5)

/-- The command counters of a cabinet: class 8, 0 to 20. -/
def commandCtr (cls idx : Nat) : Prop := cls = 8 ∧ idx ≤ 20

/-- A cabinet without its event ring. -/
def Cab.unrung (x : Cab) : Cab := { x with ring := {} }

/-- A mailbox without its pending interrupts. -/
def Mbx.unpended (b : Mbx) : Mbx := { b with pba := 0 }

/-- A mailbox without its pending interrupts and its slots. -/
def Mbx.unslotted (b : Mbx) : Mbx := { b with pba := 0, slots := [] }

/-- The state without the fields that telling the hosts may change. -/
def State.untold (s : State) : State :=
  { s with outbox := [], usbWait := [], usbNotes := 0, cabs := [], mbxs := [], counters := [], roundUsed := [] }

/-- The state without the fields that answering commands may change. -/
def State.unserved (s : State) : State :=
  { s with
    outbox := [], usbWait := [], usbNotes := 0, cabs := [], mbxs := [], counters := [], roundUsed := [], rung := [],
    turn := 0 }

/-- `t` is `s` but for what telling the hosts may change: the outbox, what waits for the USB port, the count of
notifications, the cabinets' event rings, the pending interrupts, the slots used in the round, and the counters of
`reportCtr` (R452, R470, R471, R495). -/
structure Told (s t : State) : Prop where
  rest : t.untold = s.untold
  cab : ∀ c, (t.cab c).unrung = (s.cab c).unrung
  mbx : ∀ m, (t.mbx m).unpended = (s.mbx m).unpended
  ctr : ∀ cls unit i, ¬ reportCtr cls i → t.ctr cls unit i = s.ctr cls unit i

/-- `t` is `s` but for what answering commands may change: all that telling may change, the slots, the commands rung,
the turn, and the command counters of the cabinets (R452, R455, R461). -/
structure Served (s t : State) : Prop where
  rest : t.unserved = s.unserved
  cab : ∀ c, (t.cab c).unrung = (s.cab c).unrung
  mbx : ∀ m, (t.mbx m).unslotted = (s.mbx m).unslotted
  ctr : ∀ cls unit i, ¬ reportCtr cls i → ¬ commandCtr cls i → t.ctr cls unit i = s.ctr cls unit i

/-! Commands of the Sahgar set. -/

/-- The command of mailbox m, slot n is the one to be checked next, it passes every check of R460, and its commit enters
no domain in which it would hang (R554, R555). -/
def Accepts (cmd : Cmd) (m : Fin 257) (n : Fin 4) (s : State) (c : Nat) : Prop :=
  s.isNext cmd m n = true ∧ s.cabOfMbx m = some c ∧ checkCmd cmd (s.slot m n) (s.reqOf m n c) s = none ∧
  cmd.hangsIn s (s.reqOf m n c) = none

/-- It is the one to be checked next, and e is the first check that fails. -/
def Rejects (cmd : Cmd) (m : Fin 257) (n : Fin 4) (s : State) (c : Nat) (e : Err) : Prop :=
  s.isNext cmd m n = true ∧ s.cabOfMbx m = some c ∧ checkCmd cmd (s.slot m n) (s.reqOf m n c) s = some e

/-- The slot of a completed command: DONE, not POSTED, and the OK response with a result (R452, R453). FLAGS bit 0 says
that the result lies in host memory, bit 1 that a write to host memory could not be made. -/
def Answered (cmd : Cmd) (r : Req) (t : State) (res : List Byte) : Prop :=
  (t.slot r.m r.n).posted = false ∧ (t.slot r.m r.n).done = true ∧
  ∃ lost : Bool, (t.slot r.m r.n).response =
    responseBytes r.tag cmd.op 0 ((if 16 < res.length then 1 else 0) + if lost then 2 else 0) 0 0 res

/-- A command of the Sahgar set completes, when it is accepted, with `P` of its request, the state before, the state
after and the result. -/
def Completes (cmd : Cmd) (i : Fin 257 → Fin 4 → Instr) (P : Req → State → State → List Byte → Prop) : Prop :=
  ∀ (m : Fin 257) (n : Fin 4) (s : State) (c : Nat), Accepts cmd m n s c →
    ∃ t res, exec (i m n) s = .next t ∧ Answered cmd (s.reqOf m n c) t res ∧ P (s.reqOf m n c) s t res

/-- The commands of Table MB-10 that carry no operand from outside, DEV.MODE and DEV.RESET apart, each with its
checks and commit. -/
def sahgarRows : List ((Fin 257 → Fin 4 → Instr) × Cmd) :=
  [(Instr.devTbset, devTbset), (Instr.devTbread, devTbread), (Instr.devCompare, devCompare), (Instr.devDisarm, devDisarm),
   (Instr.devCert, devCert), (Instr.devAttest, devAttest), (Instr.devResetsum, devResetsum), (Instr.jobOpen, jobOpen),
   (Instr.jobCancel, jobCancel), (Instr.jobStream, jobStream), (Instr.jobPace, jobPace), (Instr.jobKey, jobKey),
   (Instr.jobLedger, jobLedger), (Instr.bedConfig, bedConfig), (Instr.bedAfe, bedAfe), (Instr.bedPitch, bedPitch),
   (Instr.bedGraft, bedGraft), (Instr.illBed, illBed), (Instr.illChannel, illChannel), (Instr.illLevel, illLevel),
   (Instr.illStatus, illStatus), (Instr.illClear, illClear), (Instr.calConfig, calConfig), (Instr.calRun, calRun),
   (Instr.calStatus, calStatus), (Instr.moveConfig, moveConfig), (Instr.moveQueue, moveQueue), (Instr.moveOverride, moveOverride),
   (Instr.moveGear, moveGear), (Instr.moveStop, moveStop), (Instr.moveSetpos, moveSetpos), (Instr.moveStatus, moveStatus),
   (Instr.moveTable, moveTable), (Instr.moveCoil, moveCoil), (Instr.moveClear, moveClear), (Instr.moveDrive, moveDrive),
   (Instr.movePace, movePace), (Instr.gaugeConfig, gaugeConfig), (Instr.gaugeLinear, gaugeLinear), (Instr.gaugeLead, gaugeLead),
   (Instr.gaugeDoc, gaugeDoc), (Instr.gaugeAout, gaugeAout), (Instr.gaugeStatus, gaugeStatusCmd), (Instr.cutLoad, cutLoad),
   (Instr.cutUnload, cutUnload), (Instr.cutPlace, cutPlace), (Instr.cutAssign, cutAssign), (Instr.bufRing, bufRing),
   (Instr.bufPost, bufPost), (Instr.bufStatus, bufStatus), (Instr.runConfig, runConfig), (Instr.runNodes, runNodes),
   (Instr.runRead, (runReadWrite 0x0A03 true)), (Instr.runWrite, (runReadWrite 0x0A04 false)), (Instr.runPost, runPost), (Instr.invSnap, invSnap),
   (Instr.invRead, invRead), (Instr.invPartners, invPartners), (Instr.hbRead, hbRead), (Instr.hbSlot, hbSlot),
   (Instr.cabEnrol, cabEnrol), (Instr.cabReset, cabReset), (Instr.cabDivert, cabDivert), (Instr.diagRun, diagRun)]

/-- The 68 commands of Table MB-10, given the operands that two of them carry from outside. -/
def allRows (commits : Bool) (found : List Found) : List ((Fin 257 → Fin 4 → Instr) × Cmd) :=
  sahgarRows ++ [(.devMode, devMode), (.devReset, devReset), (fun m n => .hbWrite m n commits, hbWrite commits),
    (fun m n => .diagDiscover m n found, diagDiscover found)]

/-- A watermark has been armed at a mark w (R476, R477): RAISED at once and disarmed where the fill stands at the mark, armed
otherwise, in either case only while the mark is not 0; its count of crossings is kept. -/
def ArmedAt (s t : State) (c n w : Nat) : Prop :=
  (t.cab c).ring.raised.getLsbD n = decide (w ≠ 0 ∧ w ≤ (s.stream c n).fill) ∧
  (t.stream c n).wmArmed = decide (w ≠ 0 ∧ (s.stream c n).fill < w) ∧
  (t.stream c n).crossings = (s.stream c n).crossings

/-! Device reset. -/

/-- The state without what a device reset leaves: what the Herbarium and the KEY domain hold, the physical inputs, and
the model's own fields. -/
def State.volatile (s : State) : State :=
  { s with
    pending := [], free := 0, outbox := [], epoch := 0, incarnation := 0, oldEpoch := none, fw := [], ownerKey := none,
    charterFloor := 0, rollbackFloor := 0, wdPending := none, breaches := [], checkpointNo := 0, checkpoints := [], nvs := [], nvsWrites := [],
    nvsBad := [], accSeq := 0, supplies := [], coverOpen := 0, gpioIn := 0, blank := 0, perst := false, junction := [],
    cabs := [], beds := [], runCfg := {}, runNext := {}, rootPriority := 0, chans := [], encs := [] }

/-- `t` is what a device reset makes of `s` (R25, R27): BOOT begins, everything but what outlives the reset has its reset
value, and what the Herbarium and the KEY domain hold of epoch, firmware, floors, owner and accession sequence is kept. -/
structure ResetFrom (s t : State) : Prop where
  mode : t.mode = .boot
  fresh : t.volatile = State.reset.volatile
  epoch : t.epoch = s.epoch
  oldEpoch : t.oldEpoch = s.oldEpoch
  fw : t.fw = s.fw
  ownerKey : t.ownerKey = s.ownerKey
  floors : t.charterFloor = s.charterFloor ∧ t.rollbackFloor = s.rollbackFloor
  accSeq : t.accSeq = s.accSeq
  breaches : t.breaches = s.resetBreaches
  inputs : t.coverOpen = s.coverOpen ∧ t.gpioIn = s.gpioIn ∧ t.blank = s.blank ∧ t.perst = s.perst ∧ t.encs = s.encs
  node : t.runNext = s.runNext ∧ t.runCfg = s.runNext
  rings : ∀ c, (t.cab c).ring = {} ∧ (t.cab c).resetting = none
  beds : ∀ b, (t.bed b).segMask = 0 ∧ (t.bed b).refSet = {} ∧ (t.bed b).queue = []
  chans : ∀ c, (t.chan c).source = .none ∧ (t.chan c).base = 0

/-! Lines. -/

/-- R585: LINES_TRIGGERED of every bed is LINES_CAPTURED and the six DROP counters together. -/
def LinesBalance (s : State) : Prop :=
  ∀ b, s.ctr 1 b 0 = s.ctr 1 b 1 + s.ctr 1 b 2 + s.ctr 1 b 3 + s.ctr 1 b 4 + s.ctr 1 b 5 + s.ctr 1 b 6 + s.ctr 1 b 7

/-! Tines. -/

/-- Tine t runs `r`, the word at its pc is `word`, a defined one, its plot's clock runs, and it issues in cycle c, before the watchdog
(R365, R371, R380). -/
structure Issues (s : State) (t : Nat) (word : BitVec 32) (srcs dsts : List Nat) (chain : Bool) (r : Running)
    (c : Nat) : Prop where
  run : (s.tine t).run = some r
  fetched : (s.tine t).fetch r = some word
  defined : wordDefined word = true
  clock : s.clkOk (4 + t / 17) = true
  cycle : c = (s.tine t).issueCycle srcs dsts chain
  early : c < 4 * r.cycles

/-- The next instruction lies in the kernel's window. -/
def FallsInside (s : State) (t : Nat) (r : Running) : Prop := ((s.tine t).pc + 4).toNat < r.imSize

/-- A tine as an instruction that issues in cycle c finds it: the loads put off that are due by then are performed (R371,
R629). -/
def State.duly (s : State) (t c : Nat) : Tine := (s.dueLoads t c).tine t

/-- A tine once every load put off has been performed (R341). -/
def State.fenced (s : State) (t c : Nat) : Tine := ((s.dueLoads t c).allLoads t).tine t

/-- A tine that has gone on to the next word after an instruction issued in cycle c. -/
def Tine.passed (x : Tine) (c lat : Nat) (dsts : List Nat) (chain : Bool) : Tine :=
  { x.wrote c lat dsts chain with pc := x.pc + 4 }

/-- Nothing but tine t differs. -/
def OnlyTine (t : Nat) (s u : State) : Prop :=
  ({ u with tines := [] } : State) = { s with tines := [] } ∧ ∀ k, k ≠ t → u.tine k = s.tine k

/-- What a load of `size` bytes leaves when it completes (R374): its register holds them, or, from PS, it is still to be
performed, no later than R629 says. `rd` is the register it writes, `reg` its number, `vec` whether it is a vector. -/
def LoadLeaves (s u : State) (t : Nat) (r : Running) (c : Nat) (base : Fin 16) (space : Fin 4) (post : Bool)
    (off : BitVec 12) (size rd : Nat) (vec : Bool) (reg : Nat) : Prop :=
  let x := s.duly t c
  let a := physAddr r space (x.addrOf base post off).toNat
  let done := fun y : Tine => { (y.wrote c 3 [rd] false).bump base post off c with pc := x.pc + 4 }
  if space ≠ 1 then
    OnlyTine t s u ∧
      u.tine t = done (x.loaded vec reg ((s.dueLoads t c).loadBytes t x.stores.length space a size))
  else
    OnlyTine t s.draw u ∧
      (u.tine t = done { x with late := x.late ++
          [{ vec := vec, reg := reg, size := size, addr := a, ready := c + 3, older := x.stores.length }] } ∨
       ∃ z : State, z = (s.dueLoads t c).performLoads t (x.lateAt a size) ∧
         u.tine t = done ((z.tine t).loaded vec reg (z.loadBytes t x.stores.length 1 a size)))

/-- Nothing but tine t and plot p differs. -/
def OnlyTinePlot (t p : Nat) (s u : State) : Prop :=
  ({ u with tines := [], plots := [] } : State) = { s with tines := [], plots := [] } ∧
  (∀ k, k ≠ t → u.tine k = s.tine k) ∧ ∀ k, k ≠ p → u.plot k = s.plot k

/-- Table TI-5: row, FN, latency, and d from a and b. -/
def scalarRows : List ((Fin 272 → Fin 16 → Fin 16 → Fin 16 → Instr) × Nat × Nat ×
    (BitVec 32 → BitVec 32 → BitVec 32)) :=
  [(.add, 0x00, 1, fun a b => BitVec.ofNat 32 (a.toNat + b.toNat)),
   (.sub, 0x01, 1, fun a b => BitVec.ofInt 32 ((a.toNat : Int) - b.toNat)),
   (.and, 0x02, 1, fun a b => a &&& b),
   (.or, 0x03, 1, fun a b => a ||| b),
   (.xor, 0x04, 1, fun a b => a ^^^ b),
   (.shl, 0x05, 1, fun a b => BitVec.ofNat 32 (a.toNat * 2 ^ (b.toNat % 32))),
   (.shr, 0x06, 1, fun a b => BitVec.ofNat 32 (a.toNat / 2 ^ (b.toNat % 32))),
   (.sra, 0x07, 1, fun a b => BitVec.ofInt 32 (a.toInt / 2 ^ (b.toNat % 32))),
   (.mul, 0x08, 2, fun a b => BitVec.ofNat 32 (a.toNat * b.toNat)),
   (.mulhu, 0x09, 2, fun a b => (a.setWidth 64 * b.setWidth 64).extractLsb' 32 32),
   (.slt, 0x0A, 1, fun a b => if a.toInt < b.toInt then 1 else 0),
   (.sltu, 0x0B, 1, fun a b => if a.toNat < b.toNat then 1 else 0),
   (.min, 0x0C, 1, fun a b => BitVec.ofInt 32 (min a.toInt b.toInt)),
   (.max, 0x0D, 1, fun a b => BitVec.ofInt 32 (max a.toInt b.toInt))]

/-- Table TI-6 but for its shifts: row, FN, and d from a and IMM. -/
def immediateRows : List ((Fin 272 → Fin 16 → Fin 16 → BitVec 12 → Instr) × Nat ×
    (BitVec 32 → BitVec 12 → BitVec 32)) :=
  [(.addi, 0x0, fun a i => BitVec.ofInt 32 (a.toInt + i.toInt)),
   (.andi, 0x1, fun a i => BitVec.ofNat 32 (a.toNat &&& i.toNat)),
   (.ori, 0x2, fun a i => BitVec.ofNat 32 (a.toNat ||| i.toNat)),
   (.xori, 0x3, fun a i => BitVec.ofNat 32 (a.toNat ^^^ i.toNat)),
   (.slti, 0x7, fun a i => if a.toInt < i.toInt then 1 else 0),
   (.sltiu, 0x8, fun a i => if a.toNat < (i.toInt % 2 ^ 32).toNat then 1 else 0)]

/-- The shifts of Table TI-6: row, FN, and d from a and IMM[4:0]. -/
def shiftRows : List ((Fin 272 → Fin 16 → Fin 16 → Fin 32 → Instr) × Nat × (BitVec 32 → Nat → BitVec 32)) :=
  [(.shli, 0x4, fun a k => BitVec.ofNat 32 (a.toNat * 2 ^ k)),
   (.shri, 0x5, fun a k => BitVec.ofNat 32 (a.toNat / 2 ^ k)),
   (.srai, 0x6, fun a k => BitVec.ofInt 32 (a.toInt / 2 ^ k))]

/-- Table TI-7, OP 0x04: row, latency, and a lane of d from the lanes of a and b; FN is the place in the list. -/
def laneRows : List ((Fin 272 → Fin 32 → Fin 32 → Fin 32 → Fin 8 → Instr) × Nat ×
    (BitVec 16 → BitVec 16 → BitVec 16)) :=
  [(.vadd, 1, fun a b => BitVec.ofNat 16 (a.toNat + b.toNat)),
   (.vsub, 1, fun a b => BitVec.ofInt 16 ((a.toNat : Int) - b.toNat)),
   (.vaddus, 1, fun a b => BitVec.ofNat 16 (min (a.toNat + b.toNat) 65535)),
   (.vsubus, 1, fun a b => BitVec.ofInt 16 (max ((a.toNat : Int) - b.toNat) 0)),
   (.vaddss, 1, fun a b => BitVec.ofInt 16 (max (-32768) (min 32767 (a.toInt + b.toInt)))),
   (.vsubss, 1, fun a b => BitVec.ofInt 16 (max (-32768) (min 32767 (a.toInt - b.toInt)))),
   (.vmullo, 2, fun a b => BitVec.ofNat 16 (a.toNat * b.toNat)),
   (.vmulhu, 2, fun a b => (a.setWidth 32 * b.setWidth 32).extractLsb' 16 16),
   (.vmulhs, 2, fun a b => (a.signExtend 32 * b.signExtend 32).extractLsb' 16 16),
   (.vminu, 1, fun a b => BitVec.ofNat 16 (min a.toNat b.toNat)),
   (.vmaxu, 1, fun a b => BitVec.ofNat 16 (max a.toNat b.toNat)),
   (.vmins, 1, fun a b => BitVec.ofInt 16 (min a.toInt b.toInt)),
   (.vmaxs, 1, fun a b => BitVec.ofInt 16 (max a.toInt b.toInt)),
   (.vabsdu, 1, fun a b => BitVec.ofNat 16 ((a.toNat : Int) - b.toNat).natAbs),
   (.vavgu, 1, fun a b => (a.setWidth 17 + b.setWidth 17 + 1).extractLsb' 1 16),
   (.vand, 1, fun a b => a &&& b),
   (.vor, 1, fun a b => a ||| b),
   (.vxor, 1, fun a b => a ^^^ b),
   (.vshl, 1, fun a b => BitVec.ofNat 16 (a.toNat * 2 ^ (b.toNat % 16))),
   (.vshr, 1, fun a b => BitVec.ofNat 16 (a.toNat / 2 ^ (b.toNat % 16))),
   (.vsra, 1, fun a b => BitVec.ofInt 16 (a.toInt / 2 ^ (b.toNat % 16)))]

/-- Table TI-8, OP 0x05: row and the comparison; FN is the place in the list. -/
def compareRows : List ((Fin 272 → Fin 8 → Fin 32 → Fin 32 → Fin 8 → Instr) × (BitVec 16 → BitVec 16 → Prop)) :=
  [(.vcmpeq, fun a b => a = b), (.vcmpne, fun a b => a ≠ b),
   (.vcmpltu, fun a b => a.toNat < b.toNat), (.vcmpleu, fun a b => a.toNat ≤ b.toNat),
   (.vcmplts, fun a b => a.toInt < b.toInt), (.vcmples, fun a b => a.toInt ≤ b.toInt)]

/-- Table TI-11 but for the predicate branches: row, OP, whether it reads and writes s_REG, when it is taken, and what
it writes from the pc and s_REG. -/
def branchRows : List ((Fin 272 → Fin 16 → BitVec 20 → Instr) × Nat × Bool × Bool × (BitVec 32 → Bool) ×
    (BitVec 32 → BitVec 32 → BitVec 32)) :=
  [(.jal, 0x18, false, true, fun _ => true, fun pc _ => pc + 4),
   (.beqz, 0x19, true, false, fun v => decide (v.toNat = 0), fun _ v => v),
   (.bnez, 0x1A, true, false, fun v => decide (v.toNat ≠ 0), fun _ v => v),
   (.bltz, 0x1B, true, false, fun v => decide (v.toInt < 0), fun _ v => v),
   (.bgez, 0x1C, true, false, fun v => decide (0 ≤ v.toInt), fun _ v => v),
   (.dbnz, 0x1D, true, true, fun v => decide (v.toNat ≠ 1), fun _ v => v - 1)]

/-- A branch has been issued in cycle c: taken it costs 3 cycles, not taken 1 (Table TI-3). -/
def Tine.branched (x : Tine) (c : Nat) (taken : Bool) (target : BitVec 32) (dsts : List Nat) : Tine :=
  { x.wrote c 1 dsts false with
    pc := if taken then target else x.pc + 4
    cyc := c + (if taken then 3 else 1) }

/-- The Fault Result of a kernel run (R352). -/
def faultResult (s : State) (r : Running) : Res :=
  { bed := r.bed, band := r.band, num := r.num, kernel := r.kernel,
    epoch := tget 0 s.bandEpochs (256 * r.bed + r.band), bytes := none }

/-- A tine has trapped on kernel run r: its stores are performed, the Fault Result stands last at its output gate, and
it runs nothing (R352). -/
def Trapped (s u : State) (t : Nat) (r : Running) : Prop :=
  (u.tine t).run = none ∧ (u.tine t).stores = [] ∧ (u.tine t).gate = (s.tine t).gate ++ [faultResult s r]

end Sys2Proof.Machine
end

