-- ==== Sys2Proof/Certificates/Slice0/Obligations.lean ====
section
/-! DEFINITION. The statements for the provers. -/

open Sys2Proof Sys2Proof.Machine

/-! Tines (12). -/

/-- Table TI-5 (R373): a scalar instruction on a running tine completes, writes s_D alone, and leaves every other
register, memory, tine and part of the device as it was.
Table TI-6 (R373): the immediate instructions, the shifts by an immediate, and LUI. -/
def Obligations.TineScalars : Prop :=
  (∀ row ∈ scalarRows, ∀ (t : Fin 272) (d a b : Fin 16) (s : State) (r : Running) (c : Nat),
     Issues s t (encA 0x01 d a b 0 row.2.1) [rS a, rS b] [rS d] false r c → FallsInside s t r →
     ∃ u, exec (row.1 t d a b) s = .next u ∧ OnlyTine t s u ∧
       u.tine t = ((s.duly t c).setS d (row.2.2.2 ((s.duly t c).sreg a) ((s.duly t c).sreg b))).passed c row.2.2.1 [rS d] false) ∧
  ((∀ row ∈ immediateRows, ∀ (t : Fin 272) (d a : Fin 16) (imm : BitVec 12) (s : State) (r : Running) (c : Nat),
     Issues s t (encB 0x02 d a row.2.1 imm) [rS a] [rS d] false r c → FallsInside s t r →
     ∃ u, exec (row.1 t d a imm) s = .next u ∧ OnlyTine t s u ∧
       u.tine t = ((s.duly t c).setS d (row.2.2 ((s.duly t c).sreg a) imm)).passed c 1 [rS d] false) ∧
   (∀ row ∈ shiftRows, ∀ (t : Fin 272) (d a : Fin 16) (k : Fin 32) (s : State) (r : Running) (c : Nat),
     Issues s t (encB 0x02 d a row.2.1 (BitVec.ofNat 12 k)) [rS a] [rS d] false r c → FallsInside s t r →
     ∃ u, exec (row.1 t d a k) s = .next u ∧ OnlyTine t s u ∧
       u.tine t = ((s.duly t c).setS d (row.2.2 ((s.duly t c).sreg a) k)).passed c 1 [rS d] false) ∧
   (∀ (t : Fin 272) (d : Fin 16) (off : BitVec 20) (s : State) (r : Running) (c : Nat),
     Issues s t (encD 0x03 d off) [] [rS d] false r c → FallsInside s t r →
     ∃ u, exec (.lui t d off) s = .next u ∧ OnlyTine t s u ∧
       u.tine t = ((s.duly t c).setS d (BitVec.ofNat 32 (off.toNat * 4096))).passed c 1 [rS d] false))

/-- Table TI-7 and R367: a lane instruction writes the lanes of v_D that p_P governs, and no others.
Table TI-7, OP 0x08: the shifts by an immediate and VSPLATI write every lane. -/
def Obligations.TineLanes : Prop :=
  (∀ (fn : Nat) (h : fn < laneRows.length) (t : Fin 272) (d a b : Fin 32) (p : Fin 8) (s : State) (r : Running) (c : Nat),
     Issues s t (encA 0x04 d a b p fn) [rV a, rV b, rP p] [rV d] false r c → FallsInside s t r →
     ∃ u v, exec ((laneRows[fn]).1 t d a b p) s = .next u ∧ OnlyTine t s u ∧
       u.tine t = ((s.duly t c).setV d v).passed c (laneRows[fn]).2.1 [rV d] false ∧
       ∀ i, i < 4 → lane v i =
         if ((s.duly t c).preg p).getLsbD i then (laneRows[fn]).2.2 (lane ((s.duly t c).vreg a) i) (lane ((s.duly t c).vreg b) i)
         else lane ((s.duly t c).vreg d) i) ∧
  ((∀ (t : Fin 272) (d a : Fin 32) (k : Fin 16) (s : State) (r : Running) (c : Nat), FallsInside s t r →
     (Issues s t (encB 0x08 d a 0 (BitVec.ofNat 12 k)) [rV a] [rV d] false r c →
       ∃ u v, exec (.vshli t d a k) s = .next u ∧ OnlyTine t s u ∧ u.tine t = ((s.duly t c).setV d v).passed c 1 [rV d] false ∧
         ∀ i, i < 4 → lane v i = BitVec.ofNat 16 ((lane ((s.duly t c).vreg a) i).toNat * 2 ^ k.val)) ∧
     (Issues s t (encB 0x08 d a 1 (BitVec.ofNat 12 k)) [rV a] [rV d] false r c →
       ∃ u v, exec (.vshri t d a k) s = .next u ∧ OnlyTine t s u ∧ u.tine t = ((s.duly t c).setV d v).passed c 1 [rV d] false ∧
         ∀ i, i < 4 → lane v i = BitVec.ofNat 16 ((lane ((s.duly t c).vreg a) i).toNat / 2 ^ k.val)) ∧
     (Issues s t (encB 0x08 d a 2 (BitVec.ofNat 12 k)) [rV a] [rV d] false r c →
       ∃ u v, exec (.vsrai t d a k) s = .next u ∧ OnlyTine t s u ∧ u.tine t = ((s.duly t c).setV d v).passed c 1 [rV d] false ∧
         ∀ i, i < 4 → lane v i = BitVec.ofInt 16 ((lane ((s.duly t c).vreg a) i).toInt / 2 ^ k.val))) ∧
   (∀ (t : Fin 272) (d : Fin 32) (imm : BitVec 12) (s : State) (r : Running) (c : Nat),
     Issues s t (encB 0x08 d 0 3 imm) [] [rV d] false r c → FallsInside s t r →
     ∃ u v, exec (.vsplati t d imm) s = .next u ∧ OnlyTine t s u ∧ u.tine t = ((s.duly t c).setV d v).passed c 1 [rV d] false ∧
       ∀ i, i < 4 → lane v i = BitVec.ofInt 16 imm.toInt))

/-- Table TI-8, OP 0x05: bit i of p_D is set where p_P has it set and the comparison of lanes i holds.
Table TI-8, OP 0x06: selection, splats, extraction, insertion, the sum of lanes, and the predicate instructions. -/
def Obligations.TineComparesAndMoves : Prop :=
  (∀ (fn : Nat) (h : fn < compareRows.length) (t : Fin 272) (d : Fin 8) (a b : Fin 32) (p : Fin 8) (s : State)
     (r : Running) (c : Nat),
     Issues s t (encA 0x05 d a b p fn) [rV a, rV b, rP p] [rP d] false r c → FallsInside s t r →
     ∃ u v, exec ((compareRows[fn]).1 t d a b p) s = .next u ∧ OnlyTine t s u ∧
       u.tine t = ((s.duly t c).setP d v).passed c 1 [rP d] false ∧
       ∀ i, i < 4 → (v.getLsbD i = true ↔ ((s.duly t c).preg p).getLsbD i = true ∧
         (compareRows[fn]).2 (lane ((s.duly t c).vreg a) i) (lane ((s.duly t c).vreg b) i))) ∧
  (∀ (t : Fin 272) (s : State) (r : Running) (c : Nat), FallsInside s t r →
   (∀ (d a b : Fin 32) (p : Fin 8), Issues s t (encA 0x06 d a b p 0x00) [rV a, rV b, rP p] [rV d] false r c →
     ∃ u v, exec (.vsel t d a b p) s = .next u ∧ OnlyTine t s u ∧ u.tine t = ((s.duly t c).setV d v).passed c 1 [rV d] false ∧
       ∀ i, i < 4 → lane v i =
         lane (if ((s.duly t c).preg p).getLsbD i then (s.duly t c).vreg a else (s.duly t c).vreg b) i) ∧
   (∀ (d : Fin 32) (a : Fin 16) (p : Fin 8), Issues s t (encA 0x06 d a 0 p 0x01) [rS a, rP p] [rV d] false r c →
     ∃ u v, exec (.vsplat t d a p) s = .next u ∧ OnlyTine t s u ∧ u.tine t = ((s.duly t c).setV d v).passed c 1 [rV d] false ∧
       ∀ i, i < 4 → lane v i =
         if ((s.duly t c).preg p).getLsbD i then BitVec.ofNat 16 ((s.duly t c).sreg a).toNat else lane ((s.duly t c).vreg d) i) ∧
   (∀ (d : Fin 16) (a : Fin 32) (l : Fin 4), Issues s t (encA 0x06 d a l 0 0x02) [rV a] [rS d] false r c →
     ∃ u, exec (.vext t d a l) s = .next u ∧ OnlyTine t s u ∧
       u.tine t = ((s.duly t c).setS d (BitVec.ofNat 32 (lane ((s.duly t c).vreg a) l).toNat)).passed c 1 [rS d] false) ∧
   (∀ (d : Fin 32) (a : Fin 16) (l : Fin 4), Issues s t (encA 0x06 d a l 0 0x03) [rS a] [rV d] false r c →
     ∃ u v, exec (.vins t d a l) s = .next u ∧ OnlyTine t s u ∧ u.tine t = ((s.duly t c).setV d v).passed c 1 [rV d] false ∧
       ∀ i, i < 4 → lane v i =
         if i = l then BitVec.ofNat 16 ((s.duly t c).sreg a).toNat else lane ((s.duly t c).vreg d) i) ∧
   (∀ (d : Fin 16) (a : Fin 32), Issues s t (encA 0x06 d a 0 0 0x04) [rV a] [rS d] false r c →
     ∃ u, exec (.vhsum t d a) s = .next u ∧ OnlyTine t s u ∧
       u.tine t = ((s.duly t c).setS d (BitVec.ofNat 32 ((lane ((s.duly t c).vreg a) 0).toNat + (lane ((s.duly t c).vreg a) 1).toNat +
         (lane ((s.duly t c).vreg a) 2).toNat + (lane ((s.duly t c).vreg a) 3).toNat))).passed c 2 [rS d] false) ∧
   (∀ (d a b : Fin 8), Issues s t (encA 0x06 d a b 0 0x08) [rP a, rP b] [rP d] false r c →
     ∃ u, exec (.pand t d a b) s = .next u ∧ OnlyTine t s u ∧
       u.tine t = ((s.duly t c).setP d ((s.duly t c).preg a &&& (s.duly t c).preg b)).passed c 1 [rP d] false) ∧
   (∀ (d a b : Fin 8), Issues s t (encA 0x06 d a b 0 0x09) [rP a, rP b] [rP d] false r c →
     ∃ u, exec (.por t d a b) s = .next u ∧ OnlyTine t s u ∧
       u.tine t = ((s.duly t c).setP d ((s.duly t c).preg a ||| (s.duly t c).preg b)).passed c 1 [rP d] false) ∧
   (∀ (d a : Fin 8), Issues s t (encA 0x06 d a 0 0 0x0A) [rP a] [rP d] false r c →
     ∃ u, exec (.pnot t d a) s = .next u ∧ OnlyTine t s u ∧
       u.tine t = ((s.duly t c).setP d (0xF - (s.duly t c).preg a)).passed c 1 [rP d] false) ∧
   (∀ (d : Fin 16) (a : Fin 8), Issues s t (encA 0x06 d a 0 0 0x0B) [rP a] [rS d] false r c →
     ∃ u, exec (.ptos t d a) s = .next u ∧ OnlyTine t s u ∧
       u.tine t = ((s.duly t c).setS d (BitVec.ofNat 32 ((s.duly t c).preg a).toNat)).passed c 1 [rS d] false) ∧
   (∀ (d : Fin 8) (a : Fin 16), Issues s t (encA 0x06 d a 0 0 0x0C) [rS a] [rP d] false r c →
     ∃ u, exec (.stop t d a) s = .next u ∧ OnlyTine t s u ∧
       u.tine t = ((s.duly t c).setP d (BitVec.ofNat 4 ((s.duly t c).sreg a).toNat)).passed c 1 [rP d] false))

/-- Table TI-9: the accumulator instructions. `y` is the tine with its lanes written: those that p_P governs hold the
result, every other lane of every accumulator, and all else, is kept. -/
def Obligations.TineAccumulators : Prop :=
  ∀ (t : Fin 272) (p : Fin 8) (s : State) (r : Running) (c : Nat), FallsInside s t r →
  (∀ (d : Fin 4), Issues s t (encA 0x07 d 0 0 p 0x00) [rP p] [rA d] false r c →
    ∃ (u : State) (y : Tine), exec (.azero t d p) s = .next u ∧ OnlyTine t s u ∧ u.tine t = y.passed c 1 [rA d] false ∧
      ({ y with a := [] } : Tine) = { s.duly t c with a := [] } ∧ ∀ q i, i < 4 → y.alane q i =
        if q = d ∧ ((s.duly t c).preg p).getLsbD i then 0 else (s.duly t c).alane q i) ∧
  (∀ (d : Fin 4) (a b : Fin 32), Issues s t (encA 0x07 d a b p 0x01) [rV a, rV b, rP p] [rA d] true r c →
    ∃ (u : State) (y : Tine), exec (.vmacu t d a b p) s = .next u ∧ OnlyTine t s u ∧ u.tine t = y.passed c 2 [rA d] true ∧
      ({ y with a := [] } : Tine) = { s.duly t c with a := [] } ∧ ∀ q i, i < 4 → y.alane q i =
        if q = d ∧ ((s.duly t c).preg p).getLsbD i then
          BitVec.ofNat 40 (((s.duly t c).alane d i).toNat +
            (lane ((s.duly t c).vreg a) i).toNat * (lane ((s.duly t c).vreg b) i).toNat)
        else (s.duly t c).alane q i) ∧
  (∀ (d : Fin 4) (a b : Fin 32), Issues s t (encA 0x07 d a b p 0x02) [rV a, rV b, rP p] [rA d] true r c →
    ∃ (u : State) (y : Tine), exec (.vmacs t d a b p) s = .next u ∧ OnlyTine t s u ∧ u.tine t = y.passed c 2 [rA d] true ∧
      ({ y with a := [] } : Tine) = { s.duly t c with a := [] } ∧ ∀ q i, i < 4 → y.alane q i =
        if q = d ∧ ((s.duly t c).preg p).getLsbD i then
          BitVec.ofInt 40 (((s.duly t c).alane d i).toInt +
            (lane ((s.duly t c).vreg a) i).toInt * (lane ((s.duly t c).vreg b) i).toInt)
        else (s.duly t c).alane q i) ∧
  (∀ (d : Fin 4) (a : Fin 32), Issues s t (encA 0x07 d a 0 p 0x03) [rV a, rP p] [rA d] true r c →
    ∃ (u : State) (y : Tine), exec (.aaddv t d a p) s = .next u ∧ OnlyTine t s u ∧ u.tine t = y.passed c 2 [rA d] true ∧
      ({ y with a := [] } : Tine) = { s.duly t c with a := [] } ∧ ∀ q i, i < 4 → y.alane q i =
        if q = d ∧ ((s.duly t c).preg p).getLsbD i then
          BitVec.ofNat 40 (((s.duly t c).alane d i).toNat + (lane ((s.duly t c).vreg a) i).toNat)
        else (s.duly t c).alane q i) ∧
  (∀ (d : Fin 32) (a : Fin 4) (b : Fin 32), Issues s t (encA 0x07 d a b p 0x04) [rA a, rP p] [rV d] false r c →
    ∃ u v, exec (.aget t d a b p) s = .next u ∧ OnlyTine t s u ∧ u.tine t = ((s.duly t c).setV d v).passed c 2 [rV d] false ∧
      ∀ i, i < 4 → lane v i = if ((s.duly t c).preg p).getLsbD i then
        BitVec.ofInt 16 (max 0 (min 65535 ((((s.duly t c).alane a i).toInt + (2 ^ b.val / 2 : Nat)) / 2 ^ b.val)))
        else lane ((s.duly t c).vreg d) i) ∧
  (∀ (d : Fin 32) (a : Fin 4) (b : Fin 32), Issues s t (encA 0x07 d a b p 0x05) [rA a, rP p] [rV d] false r c →
    ∃ u v, exec (.agets t d a b p) s = .next u ∧ OnlyTine t s u ∧ u.tine t = ((s.duly t c).setV d v).passed c 2 [rV d] false ∧
      ∀ i, i < 4 → lane v i = if ((s.duly t c).preg p).getLsbD i then
        BitVec.ofInt 16 (max (-32768) (min 32767 ((((s.duly t c).alane a i).toInt + (2 ^ b.val / 2 : Nat)) / 2 ^ b.val)))
        else lane ((s.duly t c).vreg d) i)

/-- Table TI-10, loads (R374, R375, R629): inside the window and aligned, a load completes. From LM, LI and LO it takes the
bytes that the youngest buffered store or the memory gives at its issue (R339), from PS those of its issue or of a later cycle
that R629 allows, loads of one address in program order (R340); its base moves when MODE is 1. -/
def Obligations.TineLoads : Prop :=
  ∀ (t : Fin 272) (base : Fin 16) (space : Fin 4) (post : Bool) (off : BitVec 12) (s : State) (r : Running) (c : Nat),
    FallsInside s t r →
  let addr := ((s.duly t c).addrOf base post off).toNat
  let srcs := [rS base]
  let also := if post then [rS base] else []
  (∀ data : Fin 16, Issues s t (encC 0x10 data base space post.toNat off) srcs ([rS data] ++ also) false r c →
    memTrap r space false addr 4 = none →
    ∃ u, exec (.ldw t data base space post off) s = .next u ∧ LoadLeaves s u t r c base space post off 4 (rS data) false data) ∧
  (∀ data : Fin 16, Issues s t (encC 0x11 data base space post.toNat off) srcs ([rS data] ++ also) false r c →
    memTrap r space false addr 2 = none →
    ∃ u, exec (.ldh t data base space post off) s = .next u ∧ LoadLeaves s u t r c base space post off 2 (rS data) false data) ∧
  (∀ data : Fin 32, Issues s t (encC 0x12 data base space post.toNat off) srcs ([rV data] ++ also) false r c →
    memTrap r space false addr 8 = none →
    ∃ u, exec (.ldv t data base space post off) s = .next u ∧ LoadLeaves s u t r c base space post off 8 (rV data) true data)

/-- Table TI-10, stores (R338, R374, R375): a store enters the buffer, youngest, with the bytes of its register; no
memory changes until it is performed. -/
def Obligations.TineStores : Prop :=
  ∀ (t : Fin 272) (base : Fin 16) (space : Fin 4) (post : Bool) (off : BitVec 12) (s : State) (r : Running) (c : Nat),
    FallsInside s t r → (s.tine t).stores.length < 8 →
  let addr := ((s.duly t c).addrOf base post off).toNat
  let also := if post then [rS base] else []
  let full := if (s.tine t).stores.length = 7 then [rStores] else []
  let done := fun (bytes : List Byte) =>
    { ((s.duly t c).wrote c 1 [] false).bump base post off c with
      stores := (s.duly t c).stores ++ [{ space := space, addr := physAddr r space addr, bytes := bytes, cycle := c }]
      pc := (s.duly t c).pc + 4 }
  (∀ data : Fin 16, Issues s t (encC 0x14 data base space post.toNat off) ([rS base, rS data] ++ full) also false r c →
    memTrap r space true addr 4 = none →
    ∃ u, exec (.stw t data base space post off) s = .next u ∧ OnlyTine t s u ∧
      u.tine t = done (leBytes 4 ((s.duly t c).sreg data).toNat)) ∧
  (∀ data : Fin 16, Issues s t (encC 0x15 data base space post.toNat off) ([rS base, rS data] ++ full) also false r c →
    memTrap r space true addr 2 = none →
    ∃ u, exec (.sth t data base space post off) s = .next u ∧ OnlyTine t s u ∧
      u.tine t = done (leBytes 2 ((s.duly t c).sreg data).toNat)) ∧
  (∀ data : Fin 32, Issues s t (encC 0x16 data base space post.toNat off) ([rS base, rV data] ++ full) also false r c →
    memTrap r space true addr 8 = none →
    ∃ u, exec (.stv t data base space post off) s = .next u ∧ OnlyTine t s u ∧
      u.tine t = done (leBytes 8 ((s.duly t c).vreg data).toNat))

/-- Table TI-11 (R376): the branches and JR, their targets inside the kernel's window. -/
def Obligations.TineBranches : Prop :=
  (∀ row ∈ branchRows, ∀ (t : Fin 272) (d : Fin 16) (off : BitVec 20) (s : State) (r : Running) (c : Nat),
    let v := (s.duly t c).sreg d
    let taken := row.2.2.2.2.1 v
    let dsts := if row.2.2.2.1 then [rS d] else []
    let target := BitVec.ofInt 32 ((s.duly t c).pc.toNat + 4 * off.toInt)
    Issues s t (encD row.2.1 d off) (if row.2.2.1 then [rS d] else []) dsts false r c →
    (if taken then target else (s.duly t c).pc + 4).toNat < r.imSize →
    ∃ u, exec (row.1 t d off) s = .next u ∧ OnlyTine t s u ∧
      u.tine t = (if row.2.2.2.1 then (s.duly t c).setS d (row.2.2.2.2.2 (s.duly t c).pc v) else s.duly t c).branched
        c taken target dsts) ∧
  (∀ (t : Fin 272) (q : Fin 8) (off : BitVec 20) (s : State) (r : Running) (c : Nat),
    let target := BitVec.ofInt 32 ((s.duly t c).pc.toNat + 4 * off.toInt)
    let any := ((s.duly t c).preg q).toNat != 0
    (Issues s t (encD 0x1E q off) [rP q] [] false r c → (if any then target else (s.duly t c).pc + 4).toNat < r.imSize →
      ∃ u, exec (.bpany t q off) s = .next u ∧ OnlyTine t s u ∧ u.tine t = (s.duly t c).branched c any target []) ∧
    (Issues s t (encD 0x1F q off) [rP q] [] false r c → (if !any then target else (s.duly t c).pc + 4).toNat < r.imSize →
      ∃ u, exec (.bpnone t q off) s = .next u ∧ OnlyTine t s u ∧ u.tine t = (s.duly t c).branched c (!any) target [])) ∧
  (∀ (t : Fin 272) (a : Fin 16) (s : State) (r : Running) (c : Nat),
    Issues s t (encA 0x3E 0 a 0 0 0x05) [rS a] [] false r c →
    ((s.duly t c).sreg a).toNat % 4 = 0 → ((s.duly t c).sreg a).toNat < r.imSize →
    ∃ u, exec (.jr t a) s = .next u ∧ OnlyTine t s u ∧ u.tine t = (s.duly t c).branched c true ((s.duly t c).sreg a) [])

/-- Table TI-12 (R341, R370, R378): NOP, the fences, CYC and the plot flags, the store buffer empty where they wait for
it. -/
def Obligations.TineSystem : Prop :=
  ∀ (t : Fin 272) (s : State) (r : Running) (c : Nat), FallsInside s t r →
  (Issues s t (encA 0x3E 0 0 0 0 0x00) [] [] false r c →
    ∃ u, exec (.nop t) s = .next u ∧ OnlyTine t s u ∧ u.tine t = (s.duly t c).passed c 1 [] false) ∧
  (Issues s t (encA 0x3E 0 0 0 0 0x01) [rStores] [] false r c → (s.tine t).stores = [] →
    ∃ u, exec (.fenceS t) s = .next u ∧ OnlyTine t s u ∧ u.tine t = (s.duly t c).passed c 1 [] false) ∧
  (Issues s t (encA 0x3E 0 0 0 0 0x02) [] [] false r c →
    ∃ u, exec (.fenceL t) s = .next u ∧ OnlyTine t s u ∧ u.tine t = (s.fenced t c).passed c 1 [] false) ∧
  (∀ d : Fin 16, Issues s t (encA 0x3E d 0 0 0 0x06) [] [rS d] false r c →
    ∃ u, exec (.cyc t d) s = .next u ∧ OnlyTine t s u ∧
      u.tine t = ((s.duly t c).setS d (BitVec.ofNat 32 c)).passed c 1 [rS d] false) ∧
  (∀ f : Fin 32, (s.tine t).stores = [] →
    (Issues s t (encA 0x3E 0 0 f 0 0x08) [rStores] [] false r c →
      ∃ u v, exec (.pfset t f) s = .next u ∧ OnlyTinePlot t (t / 17) s u ∧ u.tine t = (s.fenced t c).passed c 1 [] false ∧
        u.plot (t / 17) = { s.plot (t / 17) with
          flags := v,
          flagSet := if (s.plot (t / 17)).flags.getLsbD f then (s.plot (t / 17)).flagSet
            else tset (0, 0) (s.plot (t / 17)).flagSet f (t.val, (s.tine t).start + c) } ∧
        ∀ i, v.getLsbD i = ((s.plot (t / 17)).flags.getLsbD i || decide (i = f.val))) ∧
    (Issues s t (encA 0x3E 0 0 f 0 0x09) [rStores] [] false r c →
      ∃ u v, exec (.pfclr t f) s = .next u ∧ OnlyTinePlot t (t / 17) s u ∧ u.tine t = (s.fenced t c).passed c 1 [] false ∧
        u.plot (t / 17) = { s.plot (t / 17) with flags := v } ∧
        ∀ i, v.getLsbD i = ((s.plot (t / 17)).flags.getLsbD i && decide (i ≠ f.val))) ∧
    (let w := s.seeFlag t f
     Issues w t (encA 0x3E 0 0 f 0 0x0A) [rStores, rFlag] [] false r c → (s.plot (t / 17)).flags.getLsbD f = true →
      ∃ u, exec (.pfwait t f) s = .next u ∧ OnlyTine t s.draw u ∧ u.tine t = (w.fenced t c).passed c 1 [] false) ∧
    ((s.plot (t / 17)).flags.getLsbD f = false → exec (.pfwait t f) s = .next s) ∧
    (∀ d : Fin 16, Issues s t (encA 0x3E d 0 f 0 0x0B) [rStores] [rS d] false r c →
      ∃ u, exec (.pftest t d f) s = .next u ∧ OnlyTine t s u ∧
        u.tine t = ((s.fenced t c).setS d (if (s.plot (t / 17)).flags.getLsbD f then 1 else 0)).passed c 1 [rS d] false))

/-- CLOSE (R336, R377): with the store buffer empty and a length within OUT_MAX it passes the result of its band, line and
kernel, with those bytes of LO, and ends the kernel's run on the line; a longer one traps WINDOW.
TRAP and an undefined encoding (R352, R365, R379): they trap TRAP and OPCODE. What a trap leaves: the kernel's run is ended, no
store is buffered, a Fault Result stands last at the gate, and the trap is counted.
R375, R376, R380: a load or a store outside what R375 allows traps with its cause, a branch or JR whose next word lies outside
the window traps, a JR to no multiple of 4 traps ALIGN, and a scalar instruction that would issue at 4 x C traps WATCHDOG. -/
def Obligations.TineEnds : Prop :=
  (∀ (t : Fin 272) (s : State) (cause : Nat) (pc : BitVec 32) (r : Running), (s.tine t).run = some r →
     Trapped s (s.trapKernel t cause pc) t r ∧
     (s.trapKernel t cause pc).ctr 7 (t / 17) 3 = s.ctr 7 (t / 17) 3 + 1 ∧
     (s.trapKernel t cause pc).ctr 7 (t / 17) 4 = s.ctr 7 (t / 17) 4 + (if cause = 4 then 1 else 0)) ∧
  (∀ (t : Fin 272) (s : State) (r : Running) (c : Nat),
   (∀ (a : Fin 16), Issues s t (encA 0x3E 0 a 0 0 0x04) [rS a, rStores] [] false r c → (s.tine t).stores = [] →
     (((s.fenced t c).sreg a).toNat ≤ r.outMax →
       ∃ u res, exec (.close t a) s = .next u ∧ OnlyTine t s u ∧
         u.tine t = { s.fenced t c with run := none, cyc := c + 1, gate := (s.fenced t c).gate ++ [res] } ∧
         res.bed = r.bed ∧ res.band = r.band ∧ res.num = r.num ∧ res.kernel = r.kernel ∧
         ∃ bs, res.bytes = some bs ∧ bs.length = ((s.fenced t c).sreg a).toNat ∧
           ∀ i, i < bs.length → bs[i]? = some (tget 0 (s.fenced t c).lo (r.loBase + i))) ∧
     (r.outMax < ((s.fenced t c).sreg a).toNat →
       exec (.close t a) s = .next (((s.dueLoads t c).allLoads t).trapKernel t 1 (s.tine t).pc))) ∧
   (Issues s t (encA 0x3E 0 0 0 0 0x03) [] [] false r c →
     exec (.trap t) s = .next ((s.dueLoads t c).trapKernel t 5 (s.tine t).pc)) ∧
   (∀ w, (s.tine t).run = some r → (s.tine t).fetch r = some w → s.clkOk (4 + t / 17) = true → decodeTine t w = none →
     exec (.undefinedEncoding t) s = .next (s.trapKernel t 2 (s.tine t).pc))) ∧
  (∀ (t : Fin 272) (base : Fin 16) (space : Fin 4) (post : Bool) (off : BitVec 12) (s : State) (r : Running)
     (c cause : Nat),
   let addr := ((s.duly t c).addrOf base post off).toNat
   let also := if post then [rS base] else []
   let full := if (s.tine t).stores.length = 7 then [rStores] else []
   let u := (s.dueLoads t c).trapKernel t cause (s.tine t).pc
   (∀ row ∈ [(Instr.ldw, 0x10, 4), (Instr.ldh, 0x11, 2)], ∀ data : Fin 16,
     Issues s t (encC row.2.1 data base space post.toNat off) [rS base] ([rS data] ++ also) false r c →
     memTrap r space false addr row.2.2 = some cause → exec (row.1 t data base space post off) s = .next u) ∧
   (∀ data : Fin 32, Issues s t (encC 0x12 data base space post.toNat off) [rS base] ([rV data] ++ also) false r c →
     memTrap r space false addr 8 = some cause → exec (.ldv t data base space post off) s = .next u) ∧
   ((s.tine t).stores.length < 8 →
     (∀ row ∈ [(Instr.stw, 0x14, 4), (Instr.sth, 0x15, 2)], ∀ data : Fin 16,
       Issues s t (encC row.2.1 data base space post.toNat off) ([rS base, rS data] ++ full) also false r c →
       memTrap r space true addr row.2.2 = some cause → exec (row.1 t data base space post off) s = .next u) ∧
     (∀ data : Fin 32, Issues s t (encC 0x16 data base space post.toNat off) ([rS base, rV data] ++ full) also false r c →
       memTrap r space true addr 8 = some cause → exec (.stv t data base space post off) s = .next u))) ∧
  (∀ (t : Fin 272) (s : State) (r : Running) (c : Nat),
   (∀ row ∈ branchRows, ∀ (d : Fin 16) (off : BitVec 20),
     Issues s t (encD row.2.1 d off) (if row.2.2.1 then [rS d] else []) (if row.2.2.2.1 then [rS d] else []) false r c →
     r.imSize ≤ (if row.2.2.2.2.1 ((s.duly t c).sreg d) then BitVec.ofInt 32 ((s.tine t).pc.toNat + 4 * off.toInt)
       else (s.tine t).pc + 4).toNat →
     ∃ u, exec (row.1 t d off) s = .next u ∧ Trapped s u t r ∧ u.ctr 7 (t / 17) 3 = s.ctr 7 (t / 17) 3 + 1) ∧
   (∀ (a : Fin 16), Issues s t (encA 0x3E 0 a 0 0 0x05) [rS a] [] false r c →
     (((s.duly t c).sreg a).toNat % 4 ≠ 0 →
       exec (.jr t a) s = .next ((s.dueLoads t c).trapKernel t 3 (s.tine t).pc)) ∧
     (((s.duly t c).sreg a).toNat % 4 = 0 → r.imSize ≤ ((s.duly t c).sreg a).toNat →
       ∃ u, exec (.jr t a) s = .next u ∧ Trapped s u t r ∧ u.ctr 7 (t / 17) 3 = s.ctr 7 (t / 17) 3 + 1)) ∧
   (∀ row ∈ scalarRows, ∀ (d a b : Fin 16), (s.tine t).run = some r →
     (s.tine t).fetch r = some (encA 0x01 d a b 0 row.2.1) → s.clkOk (4 + t / 17) = true →
     4 * r.cycles ≤ (s.tine t).issueCycle [rS a, rS b] [rS d] false →
     exec (row.1 t d a b) s = .next ((s.updTine t fun x => { x with cyc := 4 * r.cycles }).trapKernel t 4 (s.tine t).pc)))

/-- R363: a tine's instruction does nothing unless the tine runs a kernel whose word at the pc is that instruction's. -/
def Obligations.TineFetches : Prop :=
  ∀ (i : Instr) (w : BitVec 32) (s : State), tineWord i = some w →
    (∀ r, (s.tine (tineOf i)).run = some r → (s.tine (tineOf i)).fetch r ≠ some w) → exec i s = .next s

/-- R364, R365: every word is that of at most one instruction, every defined word is that of one, and reading an
instruction's word gives that instruction with each of its operands. -/
def Obligations.TineWords : Prop :=
  (∀ (i : Instr) (t : Fin 272) (w : BitVec 32), tineWord i = some w → tineOf i = t → wordDefined w = true →
    decodeTine t w = some i) ∧
  (∀ (t : Fin 272) (w : BitVec 32) (i : Instr), decodeTine t w = some i →
    tineWord i = some w ∧ tineOf i = t ∧ wordDefined w = true) ∧
  ∀ (t : Fin 272) (w : BitVec 32), wordDefined w = (decodeTine t w).isSome

/-- R366: s0 reads 0 and p0 reads all ones whatever is written to them; every other register reads back what was
written. -/
def Obligations.TineHardwired : Prop :=
  ∀ (x : Tine) (i j : Nat), x.sreg 0 = 0 ∧ x.preg 0 = 0xF ∧
    (∀ v, (x.setS 0 v) = x ∧ (0 < i → (x.setS i v).sreg j = if j = i then v else x.sreg j)) ∧
    (∀ v, (x.setP 0 v) = x ∧ (0 < i → (x.setP i v).preg j = if j = i then v else x.preg j))

/-! The Rake and its cuttings (11, 12). -/

/-- CUT.LOAD (R346): the image enters the kernel store under the lowest free KERNEL_ID, which is the result; every other
cutting is kept, and nothing else changes but what answering changes.
CUT.UNLOAD, CUT.PLACE and CUT.ASSIGN (R329, R347, R348): the cutting goes; the cabinet's placement on the bed is the
one of the parameters, or none for a COUNT of 0, and no plot holds an earlier one of it there; each plot serves the bed assigned to it, and a bed whose plots change
holds no placement. -/
def Obligations.CutCommands : Prop :=
  (Completes cutLoad .cutLoad fun r s t res =>
     Served { s with cuttings := t.cuttings } t ∧ ∃ id, 0x100 ≤ id ∧ id ≤ 0x13F ∧ res = leBytes 2 id ∧
       tget none s.cuttings id = none ∧ (∀ k, 0x100 ≤ k → k < id → tget none s.cuttings k ≠ none) ∧
       tget none t.cuttings id = some (cuttingOf r) ∧ ∀ k, k ≠ id → tget none t.cuttings k = tget none s.cuttings k) ∧
  (Completes cutUnload .cutUnload (fun r s t _ =>
     Served { s with cuttings := t.cuttings } t ∧ tget none t.cuttings (r.u16 0) = none ∧
       ∀ k, k ≠ r.u16 0 → tget none t.cuttings k = tget none s.cuttings k) ∧
   Completes cutPlace .cutPlace (fun r s t _ =>
     Served { s with places := t.places, cabs := t.cabs, plots := t.plots } t ∧
       (∀ p, t.plot p = { s.plot p with
         loaded := (s.plot p).loaded.filter fun l => decide (l.1 ≠ r.cab ∨ l.2.1 ≠ r.u8 0) }) ∧
       t.place r.cab (r.u8 0) = (if r.u8 1 = 0 then none else some (placeOf r)) ∧
       ∀ k, k ≠ 4 * r.cab + r.u8 0 → tget none t.places k = tget none s.places k) ∧
   Completes cutAssign .cutAssign (fun r s t _ =>
     Served { s with plots := t.plots, places := t.places } t ∧ (∀ p, p < 16 → t.plotBed p = r.u8 p) ∧
       (∀ b, b < 4 → (∀ p, p < 16 → (s.plotBed p = b ↔ r.u8 p = b)) → ∀ k, t.place k b = s.place k b) ∧
       ∀ b, b < 4 → (∃ p, p < 16 ∧ (s.plotBed p = b) ≠ (r.u8 p = b)) → ∀ k, t.place k b = none))

/-- KERNEL_ENTRY (R368): a cutting's kernel that the tine takes for its next line starts with s1 and s2 its ARG, every
other register 0, the pc at its entry and the count of cycles 0. -/
def Obligations.KernelEntryRegisters : Prop :=
  ∀ (t : Fin 272) (s : State) (l : GLine) (band j : Nat) (k : Kern) (x : Cutting),
    s.nextWork t = some (l, band, j) → s.mayEnter t l = true → l.place.kernels[j]? = some k →
    s.faultedBefore l j = false → inR 1 k.id 6 = false → tget none s.cuttings k.id = some x → x.bad = false →
    ∃ u r, exec (.kernelEntry t) s = .next u ∧ (u.tine t).run = some r ∧
      r.bed = l.bed ∧ r.band = band ∧ r.num = l.num ∧ r.kernel = j ∧ r.acc = l.acc ∧
      (u.tine t).pc = BitVec.ofNat 32 (4 * x.entry) ∧ (u.tine t).cyc = 0 ∧
      (u.tine t).sreg 1 = k.arg.setWidth 32 ∧ (u.tine t).sreg 2 = (k.arg >>> 32).setWidth 32 ∧
      (∀ i, i ≠ 1 → i ≠ 2 → (u.tine t).sreg i = 0) ∧ (∀ i, (u.tine t).vreg i = 0) ∧
      (∀ i, 0 < i → (u.tine t).preg i = 0) ∧ ∀ i q, (u.tine t).alane i q = 0

/-- RESULT_ACCEPTED (R357): the oldest result leaves the gate; a stale one is discarded and counted as such, and any
other is counted as accepted. -/
def Obligations.ResultsCounted : Prop :=
  ∀ (t : Fin 272) (s : State) (x : Res) (rest : List Res), (s.tine t).gate = x :: rest →
    ∃ u, exec (.resultAccepted t) s = .next u ∧ (u.tine t).gate = rest ∧
      (s.accepts t x = true → u.ctr 7 (t / 17) 1 = s.ctr 7 (t / 17) 1 + 1 ∧ u.ctr 7 (t / 17) 2 = s.ctr 7 (t / 17) 2) ∧
      (s.accepts t x = false → u.ctr 7 (t / 17) 2 = s.ctr 7 (t / 17) 2 + 1 ∧ u.ctr 7 (t / 17) 1 = s.ctr 7 (t / 17) 1 ∧
        u.beds = s.beds ∧ u.streams = s.streams ∧ u.docs = s.docs)

/-- STORE_PERFORMED (R337, R338): the oldest buffered store leaves the buffer; its bytes are in the memory of its space,
and every other byte of that memory is as it was. -/
def Obligations.StoresPerformedInOrder : Prop :=
  ∀ (t : Fin 272) (s : State) (st : Store) (rest : List Store), (s.tine t).stores = st :: rest → st.space ≠ 2 →
    st.space < 4 → s.clkOk (4 + t / 17) = true →
    ∃ u, exec (.storePerformed t) s = .next u ∧ OnlyTinePlot t (t / 17) s u ∧ (u.tine t).stores = rest ∧
      (∀ a, st.addr ≤ a → a < st.addr + st.bytes.length →
        u.tineByte t st.space a = st.bytes.getD (a - st.addr) 0) ∧
      (∀ a, (a < st.addr ∨ st.addr + st.bytes.length ≤ a) → u.tineByte t st.space a = s.tineByte t st.space a) ∧
      ∀ space a, space < 4 → space ≠ st.space → u.tineByte t space a = s.tineByte t space a

/-- KERNEL_WATCHDOG (R353): a kernel whose count has reached 4 x C ends with a Fault Result, and the trap is counted. -/
def Obligations.WatchdogEndsKernel : Prop :=
  ∀ (t : Fin 272) (s : State) (r : Running), (s.tine t).run = some r → s.clkOk (4 + t / 17) = true →
    (s.tine t).undefined r = false →
    s.blocked t r = true ∨ 4 * r.cycles ≤ (s.tine t).cyc →
    ∃ u, exec (.kernelWatchdog t) s = .next u ∧ Trapped s u t r ∧ (u.tine t).cyc = 4 * r.cycles ∧
      u.ctr 7 (t / 17) 3 = s.ctr 7 (t / 17) 3 + 1 ∧ u.ctr 7 (t / 17) 4 = s.ctr 7 (t / 17) 4 + 1

/-- TINE_DEAD (R355, R356): a tine declared dead runs nothing, its gate is closed, its buffered stores and loads are
gone; the epoch of each band it served increments, and no other's does; the declaration is counted, and at the third the
tine is retired (R359).
TINE_REVIVED (R359): a declared tine whose heartbeat returns is quarantined and scrubbed, every register and memory 0, its
gate as the declaration left it; nothing else differs.
SELF_TEST_DONE (R359): a tine that fails is retired; one that passes is live again, its gate open, and the spare of a plot that
is not degraded. -/
def Obligations.TineFailures : Prop :=
  ∀ (t : Fin 272) (s : State),
  (∀ error, (s.tine t).declared = false → (s.tine t).retired = false → s.clkOk (4 + t / 17) = true →
    ∃ u, exec (.tineDead t error) s = .next u ∧ (u.tine t).declared = true ∧ (u.tine t).closed = true ∧
      (u.tine t).run = none ∧ (u.tine t).stores = [] ∧ (u.tine t).late = [] ∧
      u.ctr 7 (t / 17) 5 = s.ctr 7 (t / 17) 5 + 1 ∧ (u.tine t).declarations = (s.tine t).declarations + 1 ∧
      ((u.tine t).retired = true ↔ 2 ≤ (s.tine t).declarations) ∧
      ∀ b k, b < 4 → k < 256 → u.bandEpoch b k =
        if b = s.plotBed (t / 17) ∧ k ∈ s.bandsOfTine b t then (s.bandEpoch b k + 1) % 256 else s.bandEpoch b k) ∧
  ((s.tine t).declared = true → (s.tine t).retired = false → (s.tine t).quarantined = false →
    ∃ u, exec (.tineRevived t) s = .next u ∧ OnlyTine t s u ∧ (u.tine t).quarantined = true ∧
      (u.tine t).declared = true ∧ (u.tine t).retired = false ∧ (u.tine t).closed = (s.tine t).closed ∧
      (u.tine t).run = none ∧ (u.tine t).stores = [] ∧ (u.tine t).late = [] ∧ (u.tine t).lm = [] ∧ (u.tine t).lo = [] ∧
      (u.tine t).im = [] ∧ (∀ i, (u.tine t).sreg i = 0) ∧ (∀ i, (u.tine t).vreg i = 0) ∧
      (∀ i, 0 < i → (u.tine t).preg i = 0) ∧ ∀ i q, (u.tine t).alane i q = 0) ∧
  ((s.tine t).quarantined = true →
    (∃ u, exec (.selfTestDone t false) s = .next u ∧ (u.tine t).retired = true ∧ (u.tine t).quarantined = false ∧
      u.plots = s.plots) ∧
    ((s.plot (t / 17)).degraded = false →
      ∃ u, exec (.selfTestDone t true) s = .next u ∧ (u.tine t).up = !(s.tine t).retired ∧ (u.tine t).closed = false ∧
        (u.tine t).declared = false ∧ (u.plot (t / 17)).spare = some (t % 17)))

/-- PLOT_SCRUB (R343, R344): an idle plot that must be scrubbed for its bed's next line has the registers, memories,
buffers, PS and flags of a cleared plot afterwards, its IM holding that line's kernels. -/
def Obligations.PlotScrubClears : Prop :=
  ∀ (p : Fin 16) (s : State) (l : GLine), s.clkOk (4 + p) = true →
    (∀ i, i < 17 → (s.tine (17 * p + i)).run = none ∧ (s.tine (17 * p + i)).gate = []) →
    s.nextLine p = some l → s.needsScrub p l = true →
    ∃ u, exec (.plotScrub p) s = .next u ∧ (u.plot p).ps = [] ∧ (u.plot p).flags = 0 ∧
      (u.plot p).loaded = some (l.cab, l.bed, l.place) ∧ (u.plot p).lastCab = some l.cab ∧
      (∀ i, i < 17 → let x := u.tine (17 * p + i)
        x.im = s.placeCode l.place ∧ x.lm = [] ∧ x.lo = [] ∧ x.s = [] ∧ x.v = [] ∧ x.a = [] ∧ x.p = [] ∧ x.stores = []) ∧
      u.ctr 7 p 6 = s.ctr 7 p 6 + 1 ∧ ∀ q, q ≠ p.val → u.plot q = s.plot q

/-! Modes, boot and reset (01, 02, 14, 19, 21). -/

/-- DEV.MODE (R39, R44, R49, R66): an accepted change is begun and the mode kept until it completes; an owner stop takes
the device to HALTED at once; a change to KEEP or DORMANT sets the wake mask and timer and clears what was latched. -/
def Obligations.DevModeBegins : Prop :=
  Completes devMode .devMode fun r s t _ =>
    (r.target ≠ .halted → t.mode = s.mode ∧ t.change = some { target := r.target, cause := 0, off := false }) ∧
    (r.target = .halted → t.mode = .halted ∧ t.change = none ∧ t.haltCauses.getLsbD 6 = true) ∧
    (r.u8 0 ≤ 1 → t.wakeMask = BitVec.ofNat 16 (r.u16 2) ∧ t.wakeTimer = r.u32 4 ∧ t.wakeLatch = 0)

/-- MODE_CHANGE_COMPLETE (Table MO-2, R44): the device is in the mode asked for and no change is pending. Entry to a P3
mode from a P2 mode is stated where no stop cause stands, entry to KEEP and DORMANT where nothing is latched. -/
def Obligations.ModeChangeCompletes : Prop :=
  ∀ (s : State) (q : Change), s.change = some q →
    (q.target = .idle ∨ q.target = .service ∨ q.target = .update ∨ q.target = .capture ∨ q.target = .drain ∨
      ((q.target = .armed ∨ q.target = .calibrate) ∧
        (s.mode.p3 = true ∨ (s.coverOpen = 0 ∧ (∀ b, b < 4 → (s.bed b).darkHigh = false) ∧ s.limitUp = false ∧
          (∀ u, u < 10 → (s.supply u).outside = false) ∧ s.clocks = []))) ∨
      ((q.target = .keep ∨ q.target = .dormant) ∧ s.wakeLatch = 0)) →
    ∃ t, exec .modeChangeComplete s = .next t ∧ t.mode = q.target ∧ t.change = none ∧
      t.charter = s.charter ∧ t.epoch = s.epoch

/-- DRAIN_COMPLETE and HALT_SETTLED (R65, R68): a drain whose documents are closed, whose results have left the Rake,
whose streams hold nothing back, whose transfers are finished and whose transports rest becomes ARMED; a halt whose work is
finished to the same point is settled. -/
def Obligations.DrainAndHaltEnd : Prop :=
  (∀ s : State, s.mode = .drain → s.change = none → (∀ d ∈ s.docs, d.open_ = false) → s.rakeIdle = true →
    (∀ x ∈ s.streams, x.2.heldItems = []) → s.dmaIdle = true → s.transportMoves = false →
    ∃ t, exec .drainComplete s = .next t ∧ t.mode = .armed ∧ Told { s with mode := .armed, change := none } t) ∧
  (∀ s : State, s.mode = .halted → s.haltSettled = false → s.rakeIdle = true →
    (∀ x ∈ s.streams, x.2.heldItems = []) → s.dmaIdle = true → (∀ d ∈ s.docs, d.open_ = false → d.runs = []) →
    ∃ t, exec .haltSettled s = .next t ∧ t.haltSettled = true ∧ t.mode = .halted ∧ t.haltCauses = s.haltCauses)

/-- WAKE_SOURCE and WAKE_TIMER (R48, R49, R50): in KEEP an armed source asks for one change to IDLE with cause WAKE,
WAKE_CAUSE holds what fired, and the sources are disarmed; a source that is not armed does nothing.
VIN12_RETURN (R64): in DORMANT, VIN12 within its limits; with a wake latched BOOT begins, and WAKE_CAUSE holds it. -/
def Obligations.Wakes : Prop :=
  (∀ (s : State) (b : Fin 8), s.mode = .keep →
     let row := if b.val = 6 then Instr.wakeTimer else Instr.wakeSource b
     (s.change = none → s.wakeMask.getLsbD b = true →
       exec row s = .next { s with
         wakeCause := s.wakeLatch ||| (1#16 <<< b.val), wakeLatch := 0, wakeMask := 0,
         change := some { target := .idle, cause := 2 } }) ∧
     (s.wakeMask.getLsbD b = false → exec row s = .next s)) ∧
  (∀ (s : State) (mv : Nat), s.mode = .dormant → 10800 ≤ mv → mv ≤ 13200 →
     ∃ t, exec (.vin12Return mv) s = .next t ∧ (t.supply 0) = { mv := mv, outside := false } ∧
       (s.wakeLatch = 0 → ({ t with supplies := s.supplies } : State) = s) ∧
       (s.wakeLatch ≠ 0 → t.mode = .boot ∧ t.wakeCause = s.wakeLatch ∧ t.incarnation = s.incarnation + 1))

/-- LEDGER_CHECKPOINT (R23, R26): outside DORMANT, the firmware up and VIN12 within its limits, a checkpoint of the epoch is
written under the next number, newest of at most 256, with the totals, a position (that of PC0: the model's choice, log 79),
the timestamp, the documents open, the next accession sequence and the breaches recorded; those still open stay. -/
def Obligations.CheckpointWritten : Prop :=
  ∀ s : State, s.fwUp = true → s.mode ≠ .dormant → (s.supply 0).outside = false →
    ∃ t cp, exec .ledgerCheckpoint s = .next t ∧ t.checkpoints = (cp :: s.checkpoints).take 256 ∧
      t.checkpointNo = s.checkpointNo + 1 ∧ cp.number = s.checkpointNo + 1 ∧ cp.epoch = s.epoch ∧ cp.closing = false ∧
      cp.totals = s.counters ∧ cp.position = s.chanPos 0 ∧ cp.timestamp = s.now ∧ cp.breaches = s.breaches ∧
      cp.nextSeq = s.accSeq ∧ cp.openRecords = (s.docs.filter Doc.open_).map (·.acc) ∧
      (∀ x, x ∈ t.breaches ↔ x ∈ s.breaches ∧ x.ended = none) ∧
      t.mode = s.mode ∧ t.docs = s.docs ∧ t.streams = s.streams ∧ t.counters = s.counters

/-- BOOT_COMPLETE (R32, R424, R425): the device enters IDLE; a firmware that was on trial is kept and raises the
rollback floor to its own. -/
def Obligations.BootCompletes : Prop :=
  ∀ (s : State) (found : List Found), s.mode = .boot → s.fwUp = true →
    ∃ t, exec (.bootComplete found) s = .next t ∧ t.mode = .idle ∧ t.change = none ∧ t.fwTrial = false ∧
      t.wdPending = none ∧ t.charter = s.charter ∧
      t.rollbackFloor = (if s.fwTrial then max s.rollbackFloor (s.fwOf s.fwSlot).rollback else s.rollbackFloor)

/-- DEV.RESET, RESET_N_ASSERT, VIN12_COLLAPSE, POWER_UP and CURATOR_WATCHDOG (R25, R27, R567, R582, R607 to R609): each is
a device reset, DEV.RESET after a closing checkpoint, VIN12_COLLAPSE with a breach of the supplies, which POWER_UP ends; where power or RESET_N
makes it, a write to the Herbarium that is under way is cut short. RESET_N held low for less than 100 ns does nothing. -/
def Obligations.DeviceResets : Prop :=
  (∀ (m : Fin 257) (n : Fin 4) (s : State) (c : Nat), Accepts devReset m n s c →
    ∃ t, exec (.devReset m n) s = .next t ∧ ResetFrom (if s.bootFailed then s else s.writeCheckpoint true) t) ∧
  (∀ (w : Nat) (s : State), (w < 100 → exec (.resetNAssert w) s = .next s) ∧
    (1000 ≤ w → ∃ t, exec (.resetNAssert w) s = .next t ∧ ResetFrom s.nvsStop t ∧ t.supplies = s.supplies ∧
      t.incarnation = if s.mode = .dormant then s.incarnation + 1 else s.incarnation)) ∧
  (∀ s : State, s.mode ≠ .dormant →
    let u := s.draw.nvsStop
    ∃ t, exec .vin12Collapse s = .next t ∧ ResetFrom (if s.fwUp then u.breach 0 (u.chanPos 0) else u) t ∧ (t.supply 0).outside = true ∧ t.incarnation = s.incarnation) ∧
  (∀ (s : State) (bad : List Nat),
    ∃ t, exec (.powerUp bad) s = .next t ∧ ResetFrom s.nvsStop { t with breaches := s.nvsStop.resetBreaches } ∧
      (∀ x ∈ t.breaches, x.condition = 0 → x.ended ≠ none) ∧ (t.supply 0).outside = false ∧ (t.supply 9).outside = false ∧
      t.nvsBad = bad ∧ t.incarnation = s.incarnation + 1) ∧
  (∀ (s : State) (core : Fin 4), s.mode ≠ .dormant → s.mode ≠ .keep →
    ∃ t, exec (.curatorWatchdog core) s = .next t ∧ ResetFrom s t ∧ t.wdPending = some (core.val, s.epoch))

/-- What reset leaves (R25, R27, R35, R68, R447, R452): BOOT, the timebase at 0, no document, job, cutting, placement or
node, counters 0 so that the lines of every bed are accounted for, positions 0, slots empty, every axis UNUSED, every bed
unconfigured, the Factory Charter's one cabinet. -/
def Obligations.ResetLeaves : Prop :=
  let s := State.reset
  s.mode = .boot ∧ s.now = 0 ∧ s.pending = [] ∧ s.docs = [] ∧ s.jobs = [] ∧ s.haltCauses = 0 ∧
  (∀ cls unit i, s.ctr cls unit i = 0) ∧ LinesBalance s ∧ (∀ c, (s.chan c).base = 0 ∧ (s.chan c).source = .none) ∧
  (∀ m n, (s.slot m n).posted = false ∧ (s.slot m n).done = false ∧ (s.slot m n).response = List.replicate 32 0) ∧
  (∀ a, (s.axis a).st = .unused ∧ (s.axis a).role = 0) ∧ (∀ b, (s.bed b).segMask = 0 ∧ (s.bed b).pitch = 0x100000000) ∧
  (∀ k, s.comp k = none) ∧ (∀ c b, s.place c b = none) ∧ (∀ t i, (s.tine t).sreg i = 0) ∧
  (∀ c, s.enabled c = decide (c = 0)) ∧ (∀ p, (s.pin p).output = false)

/-- The step (the queue of the block): the command at the front is carried out on the state without it; with none
waiting, one cycle of TB, 5 ns, passes outside DORMANT (the model's own: log 8). -/
def Obligations.StepTakesFront : Prop :=
  (∀ (c : Instr) (s : State), step { s with pending := c :: s.pending } = exec c s) ∧
  (∀ s : State, s.pending = [] → ∃ t, step s = .next t ∧ (s.mode = .dormant → t = s) ∧
    (s.mode ≠ .dormant → t.now = s.now + 5))

/-! Covers, supplies, temperature, clocks and memory errors (04, 18, 20). -/

/-- COVER_CHANGED (R130): the input shows its new level and the others theirs; an opening that some bed's COVER_MASK
names halts a P3 mode with cause COVER, and any other change does nothing but tell.
SUPPLY_FAULT and SUPPLY_RETURN (R23, R581): the reading and its state are kept; the fault of a supply in use halts a
P3 mode with cause SUPPLY and opens a ledger breach.
JUNCTION_READ (R580): the sensors in 1/16 degC. At 105 degC or more an armed warning is given and counted once; over
112 degC the limit stands and halts a P3 mode with cause THERMAL; below 100 degC both are armed again. -/
def Obligations.CoversSuppliesAndJunction : Prop :=
  (∀ (s : State) (b : Fin 4) (opened : Bool), s.mode ≠ .dormant → s.coverOpen.getLsbD b ≠ opened →
     ∃ t, exec (.coverChanged b opened) s = .next t ∧
       (∀ k, k < 4 → t.coverOpen.getLsbD k = if k = b.val then opened else s.coverOpen.getLsbD k) ∧
       let guards := ∃ k, k < 4 ∧ (s.coverMask k).getLsbD b = true
       ((opened = false ∨ ¬ guards) → Told { s with coverOpen := t.coverOpen } t) ∧
       (opened = true → guards → s.mode.p3 = true → t.mode = .halted ∧ t.haltCauses.getLsbD 0 = true)) ∧
  ((∀ (s : State) (u : Fin 10) (mv : Nat),
    (supplyIn u mv = false → (s.supply u).outside = false →
      ∃ t, exec (.supplyFault u mv) s = .next t ∧ t.supply u = { mv := mv, outside := true } ∧
        (∀ k, k ≠ u.val → t.supply k = s.supply k) ∧
        (s.supplyUsed u = true → s.mode.p3 = true →
          t.mode = .halted ∧ t.haltCauses.getLsbD 5 = true ∧ ∃ x ∈ t.breaches, x.condition = 0 ∧ x.ended = none)) ∧
    (supplyIn u mv = true → (s.supply u).outside = true →
      ∃ t, exec (.supplyReturn u mv) s = .next t ∧ t.supply u = { mv := mv, outside := false } ∧
        (s.mode ≠ .dormant ∨ s.wakeLatch = 0 ∨ u.val ≠ 0 → t.mode = s.mode) ∧
        (s.mode = .dormant → s.wakeLatch ≠ 0 → u.val = 0 → t.mode = .boot ∧ t.wakeCause = s.wakeLatch) ∧
        ∀ k, k ≠ u.val → t.supply k = s.supply k)) ∧
   (∀ (s : State) (j0 j1 j2 j3 : Int), s.mode ≠ .dormant →
      let j := max (max j0 j1) (max j2 j3)
      ∃ t, exec (.junctionRead j0 j1 j2 j3) s = .next t ∧
        tget 0 t.junction 0 = j0 ∧ tget 0 t.junction 1 = j1 ∧ tget 0 t.junction 2 = j2 ∧ tget 0 t.junction 3 = j3 ∧
        t.warnArmed = (if 105 * 16 ≤ j then false else if j < 100 * 16 then true else s.warnArmed) ∧
        t.limitUp = (if 112 * 16 < j then true else if j < 100 * 16 then false else s.limitUp) ∧
        t.ctr 0x0E 0 8 = s.ctr 0x0E 0 8 + (if 105 * 16 ≤ j ∧ s.warnArmed = true then 1 else 0) ∧
        (112 * 16 < j → s.limitUp = false → s.mode.p3 = true → t.mode = .halted ∧ t.haltCauses.getLsbD 4 = true) ∧
        (j ≤ 112 * 16 → t.mode = s.mode)))

/-- CLOCK_FAIL, CLOCK_RESET_HOLD and CLOCK_RECOVER (R555 to R557): a domain whose clock fails has no CLKOK, is then held
in reset, and works again when its clock is back; the failure halts a P3 mode with cause SUPPLY. A command whose commit
enters a domain without a clock hangs (R554): it takes its turn again when the clock is back, and the reset hold answers
it E_FAULT with the domain.
DRAM_ERROR (R583): a corrected error is counted at one of the two controllers and changes nothing more; an
uncorrectable one is counted, and makes unreadable the raw line, or the cutting, that it lies in. Which controller serves
a block the spec does not say: it is a free value (log 40). -/
def Obligations.ClockAndMemoryFailures : Prop :=
  (∀ (s : State) (d : Fin 102),
   (d.val ≠ 0 → s.clkStopped d = false → (s.clock d).failed = false →
     ∃ t, exec (.clockFail d) s = .next t ∧ (t.clock d).failed = true ∧ t.clkOk d = false ∧
       t.ctr 0x0C d 1 = s.ctr 0x0C d 1 + 1 ∧
       (s.mode.p3 = true → t.mode = .halted ∧ t.haltCauses.getLsbD 5 = true)) ∧
   ((s.clock d).failed = true → (s.clock d).held = false →
     (s.hung = none → ∃ t, exec (.clockResetHold d) s = .next t ∧ Told { s with clocks := t.clocks } t ∧
       t.clock d = { s.clock d with held := true } ∧ ∀ k, k ≠ d.val → t.clock k = s.clock k) ∧
     ∀ (m : Fin 257) (n : Fin 4), s.hung = some { key := 4 * m.val + n.val, domain := d.val } →
       ∃ t, exec (.clockResetHold d) s = .next t ∧ Served { s with clocks := t.clocks, hung := none } t ∧
         (t.slot m n).posted = false ∧ (t.slot m n).done = true ∧
         (t.slot m n).response = responseBytes (fieldU (s.slot m n).copy 2 2) (opOf (s.slot m n).copy) 0x0A 0
           (dDomain d) 0 []) ∧
   ((s.clock d).failed = true →
     ∃ t, exec (.clockRecover d) s = .next t ∧ t.hung = (if s.hung.any fun h => h.domain = d.val then none else s.hung) ∧
       (s.hung = none → Told { s with clocks := t.clocks, gauges := t.gauges } t) ∧
       (d.val < 82 ∨ 90 < d.val → t.gauges = s.gauges) ∧ t.clock d = {} ∧
       t.clkOk d = !s.clkStopped d ∧ ∀ k, k ≠ d.val → t.clock k = s.clock k)) ∧
  (∀ row ∈ sahgarRows, ∀ (m : Fin 257) (n : Fin 4) (s : State) (c d : Nat), s.isNext row.2 m n = true →
   s.cabOfMbx m = some c → checkCmd row.2 (s.slot m n) (s.reqOf m n c) s = none →
   row.2.hangsIn s (s.reqOf m n c) = some d →
   exec (row.1 m n) s = .next { s with hung := some { key := 4 * m.val + n.val, domain := d } }) ∧
  (∀ (s : State) (addr : BitVec 34), s.clkOk 20 = true → s.clkOk 21 = true →
   (∀ hit, ∃ t ctl, exec (.dramError addr true hit) s = .next t ∧ ctl < 2 ∧
     t.ctr 0x0D ctl 0 = s.ctr 0x0D ctl 0 + 1 ∧
     ({ t with counters := s.counters, free := s.free } : State) = s ∧
     ∀ cls u i, (cls, u, i) ≠ (0x0D, ctl, 0) → t.ctr cls u i = s.ctr cls u i) ∧
   (∀ id x, 15 * 2 ^ 30 ≤ addr.toNat → tget none s.cuttings id = some x →
     ∃ t ctl, exec (.dramError addr false (.kernel id)) s = .next t ∧ ctl < 2 ∧
       t.ctr 0x0D ctl 1 = s.ctr 0x0D ctl 1 + 1 ∧ tget none t.cuttings id = some { x with bad := true } ∧
       Told { s with free := t.free, cuttings := t.cuttings, counters := t.counters } t) ∧
   (∀ (b : Fin 4) (raw : Nat) (x : RawLine), 15 * 2 ^ 30 ≤ addr.toNat →
     (s.bed b).delay.find? (fun r => r.num == raw && r.fitted) = some x →
     ∃ t, exec (.dramError addr false (.delay b raw)) s = .next t ∧
       (t.bed b).delay = (s.bed b).delay.map fun q => if q = x then { q with bad := true } else q))

/-! The timebase (03). -/

/-- DEV.TBSET (R77 to R80): the channel has its source and settings, and goes on from LOAD or from the position it had;
an ENC channel that stays on its input keeps its count of ticks and the fraction since its last edge (log 69).
A REMOTE channel starts without its source.
DEV.TBREAD, DEV.COMPARE and DEV.DISARM (R96 to R98, R467): position and timestamp as they are; a comparator whose
target is not reached is armed, at the number asked for or the lowest free one; a disarmed one is free. -/
def Obligations.TimebaseCommands : Prop :=
  (Completes devTbset .devTbset fun r s t _ =>
     let k := t.chan (r.u8 0)
     k.source = srcOf (r.u8 1) ∧ k.unit = r.u8 2 ∧ k.invert = bit (r.u8 3) 0 ∧ k.indexCheck = bit (r.u8 3) 2 ∧
       k.filter = r.u8 4 ∧ k.exported = decide (r.u8 5 = 1) ∧ k.indexPeriod = r.u32 0x10 ∧ k.freeRate = r.u32 0x14 ∧
       (r.u8 1 = 3 → k.present = false) ∧
       (r.u8 1 ≠ 3 → (r.u8 1 = 2 → (s.axis (r.u8 2)).role ≠ 0) →
         k.base = (if bit (r.u8 3) 1 then r.pos 8
           else if r.u8 1 = 1 ∧ (s.chan (r.u8 0)).source = .enc ∧ (s.chan (r.u8 0)).unit = r.u8 2 ∧
             (s.chan (r.u8 0)).invert = bit (r.u8 3) 0 then (s.chan (r.u8 0)).base
           else s.chanPos (r.u8 0)) ∧
         ∀ c, c ≠ r.u8 0 → t.chan c = s.chan c)) ∧
  (Completes devTbread .devTbread (fun r s t res =>
     Served s t ∧ res.take 16 = leBytes 8 (s.chanPos (r.u8 0)).toNat ++ leBytes 8 s.now ∧
       res.length = 32 ∧ fieldU res 24 1 = (s.chan (r.u8 0)).source.code) ∧
   Completes devCompare .devCompare (fun r s t res =>
     reachedIn (r.u8 3 % 4) (s.chanPos (r.u8 1)) (r.pos 8) = false →
       ∃ k x, res = leBytes 1 k ∧ k < 48 ∧ s.comp k = none ∧
         (if r.u8 0 = 0xFF then ∀ j, j < k → s.comp j ≠ none else k = r.u8 0) ∧
         t.comp k = some x ∧ x.owner = r.cab ∧ x.chan = r.u8 1 ∧ x.action = r.u8 2 ∧ x.arg.toNat = r.u32 4 ∧
         x.dir = r.u8 3 % 4 ∧ x.target = r.pos 8 ∧ x.period.toNat = r.u64 0x10 ∧ x.use = .host ∧
         (∀ j, j ≠ k → t.comp j = s.comp j) ∧ Served { s with comps := t.comps } t) ∧
   Completes devDisarm .devDisarm (fun r s t _ =>
     t.comp (r.u8 0) = none ∧ ∀ j, j ≠ r.u8 0 → t.comp j = s.comp j))

/-- COMPARE_FIRED (R96, R99, R100, Table TB-5): a comparator that is due and first is counted; a one-shot disarms and a
periodic one is armed a period further in its direction; SET, CLEAR and PULSE act on the pins of the mask and on no
others.
GPIO_PULSE_END (R102): a pulse whose end has come drives its pin low, unless a SET or a CLEAR has come since it began,
and nothing else changes; pulses still running are kept. -/
def Obligations.ComparatorsFire : Prop :=
  (∀ (s : State) (k : Fin 64) (x : Cmp), s.comp k = some x → s.firstDue k = true → x.use = .host →
     x.action ≤ 3 → x.chan < 4 →
     ∃ t, exec (.compareFired k) s = .next t ∧
       t.ctr 6 x.chan 5 = s.ctr 6 x.chan 5 + 1 ∧
       t.comp k = (if x.period = 0 then none
         else some { x with target := if x.dir = 1 then x.target - x.period else x.target + x.period }) ∧
       (∀ j, j ≠ k.val → t.comp j = s.comp j) ∧
       Told { s with comps := t.comps, pins := t.pins, counters := t.counters } t ∧
       ∀ p, p < 16 → t.pin p =
         if x.action = 0 ∨ x.arg.getLsbD p = false then s.pin p
         else if x.action = 1 then { output := true, level := true, pulses := [] }
         else if x.action = 2 then { output := true, level := false, pulses := [] }
         else { output := true, level := true,
                pulses := (s.pin p).pulses ++ [s.now + x.arg.toNat / 65536 * 1000] }) ∧
  (∀ (s : State) (p : Fin 16),
   ((∃ e ∈ (s.pin p).pulses, e ≤ s.now) → ∃ t, exec (.gpioPulseEnd p) s = .next t ∧
     ({ t with pins := s.pins } : State) = s ∧ (t.pin p).level = false ∧ (t.pin p).output = (s.pin p).output ∧
     (∀ e, e ∈ (t.pin p).pulses ↔ e ∈ (s.pin p).pulses ∧ s.now < e) ∧ ∀ q, q ≠ p.val → t.pin q = s.pin q) ∧
   ((∀ e ∈ (s.pin p).pulses, s.now < e) → exec (.gpioPulseEnd p) s = .next s))

/-- ENC_EDGE (R82, R83, R549, R622): an input of an encoder has a new level. On each channel that follows the encoder and whose
ENC domain runs, a change that has persisted for FILTER samples, and that the crossing to TB carries, is one tick forward when A
comes to differ from B or B comes to equal A, one tick back otherwise, the reverse under INVERT. The same input changing back
is an edge of the other sense, and the count is as it was. An edge that the crossing does not carry is counted there and moves
nothing; a change that has not persisted is none; a channel that does not run takes the level and counts nothing. Channels that
do not follow the encoder stay, and all else but the counters.
ENC_ERROR, ENC_SIGNAL_LOSS, TB_SOURCE_BACK, ENC_INDEX and SYNC_LOSS (R84 to R87, R108, R624). -/
def Obligations.EncoderEvents : Prop :=
  (∀ (s : State) (u : Fin 4) (ofB level : Bool) (age : Nat), ∃ t, exec (.encEdge u ofB ⟨level, age⟩) s = .next t ∧
     ({ t with chans := s.chans, counters := s.counters, encs := s.encs, crossings := s.crossings } : State) = s ∧
     ∀ c : Fin 4,
       let k := s.chan c
       let was := if ofB then k.b else k.a
       let forward := (if ofB then k.a == level else level != k.b) != k.invert
       (k.source ≠ .enc ∨ k.unit ≠ u → t.chan c = k) ∧
       (k.source = .enc → k.unit = u →
         (s.encRuns c = false → t.chan c = { k with a := if ofB then k.a else level, b := if ofB then level else k.b }) ∧
         (s.encRuns c = true → was = level ∨ age + 1 < k.filter → t.chan c = k) ∧
         (s.encRuns c = true → was ≠ level → k.filter ≤ age + 1 →
           (t.chan c).a = (if ofB then k.a else level) ∧ (t.chan c).b = (if ofB then level else k.b) ∧
           (s.edgeCarried c forward = false → (t.chan c).base = k.base ∧ (t.chan c).edges = k.edges ∧
             (tget {} t.crossings (edgeCrossing c forward)).ovr = true ∧
             ((∀ d : Fin 4, d ≠ c → (s.chan d).source ≠ .enc ∨ (s.chan d).unit ≠ u) →
               t.ctr 0x0C 95 0 = s.ctr 0x0C 95 0 + 1)) ∧
           (s.edgeCarried c forward = true →
             (t.chan c).base = (if forward then k.base + 0x10000 else k.base - 0x10000) ∧
             (t.chan c).edges = k.edges + 1 ∧
             ∀ later : Nat, k.filter ≤ later + 1 → s.edgeCarried c (!forward) = true →
               ∃ v, exec (.encEdge u ofB ⟨!level, later⟩) t = .next v ∧ (v.chan c).base = k.base ∧
                 (v.chan c).edges = k.edges + 2 ∧ (v.chan c).a = k.a ∧ (v.chan c).b = k.b)))) ∧
  (∀ (s : State) (u : Fin 4), s.mode.p3 = true ∨ s.change = none → ∃ t, exec (.encError u) s = .next t ∧
     (∀ c : Fin 4, (s.chan c).source = .enc → (s.chan c).unit = u →
       (t.chan c).a = !(s.chan c).a ∧ (t.chan c).b = !(s.chan c).b ∧ (t.chan c).edges = (s.chan c).edges ∧
       (s.encRuns c = true → t.ctr 6 c 1 = s.ctr 6 c 1 + 1 ∧
         (((s.chan c).illegal.filter fun e => decide ((s.chan c).edges - e < 1024)).length < 15 →
           (t.chan c).present = (s.chan c).present) ∧
         (15 ≤ ((s.chan c).illegal.filter fun e => decide ((s.chan c).edges - e < 1024)).length →
           (t.chan c).present = false)) ∧
       (s.encRuns c = false → t.ctr 6 c 1 = s.ctr 6 c 1)) ∧
     ((∀ c : Fin 4, (s.chan c).source = .enc → (s.chan c).unit = u →
         ((s.chan c).illegal.filter fun e => decide ((s.chan c).edges - e < 1024)).length < 15) → t.mode = s.mode)) ∧
  (∀ (s : State) (c : Fin 4),
   (∀ z, s.encRuns c = true → (s.chan c).present = true → (z = false ∨ (s.chan c).indexCheck = true) →
     ∃ t, exec (.encSignalLoss c z) s = .next t ∧ (t.chan c).present = false ∧ t.ctr 6 c 3 = s.ctr 6 c 3 + 1 ∧
       (s.chanInUse c = true → s.mode.p3 = true → t.mode = .halted ∧ t.haltCauses.getLsbD 1 = true) ∧
       (s.chanInUse c = false → t.mode = s.mode)) ∧
   (s.encRuns c = true → (s.chan c).present = false → (s.chan c).lostIllegal = false →
     ∃ t, exec (.tbSourceBack c) s = .next t ∧ (t.chan c).present = true ∧ t.haltSource.getLsbD c = false ∧
       t.mode = s.mode ∧ (t.chan c).base = (s.chan c).base) ∧
   (s.encRuns c = true →
     ∃ t, exec (.encIndex c) s = .next t ∧ (t.chan c).zSeen = true ∧ (t.chan c).edgesAtZ = (s.chan c).edges ∧
       (t.chan c).base = (s.chan c).base ∧ t.mode = s.mode ∧
       t.ctr 6 c 2 = s.ctr 6 c 2 + (if (s.chan c).indexCheck = true ∧ (s.chan c).zSeen = true ∧
         (s.chan c).edges - (s.chan c).edgesAtZ ≠ (s.chan c).indexPeriod then 1 else 0)) ∧
   ((s.chan c).source = .remote → (s.chan c).present = true → s.clkOk 95 = true → 100000 ≤ s.now - (s.chan c).syncAt →
     ∃ t, exec (.syncLoss c) s = .next t ∧ (t.chan c).present = false ∧ t.ctr 6 c 3 = s.ctr 6 c 3 + 1 ∧
       (s.chanInUse c = false → t.chanPos c = s.chanPos c ∧ t.mode = s.mode)))

/-! Mailboxes, event rings and the host ports (15, 16). -/

/-- Every command that is accepted (R452, R454 to R456): exec answers a next state in which its slot is DONE with CODE
OK and its result, COMMANDS of its cabinet has counted it, it is no longer queued, and but for what answering changes the
state is that of its commit. -/
def Obligations.AcceptedCommandsAnswer : Prop :=
  ∀ row ∈ sahgarRows, ∀ (m : Fin 257) (n : Fin 4) (s : State) (c : Nat), Accepts row.2 m n s c → c < 256 →
    let counted := { s with turn := c }.inc 8 c 0 1
    let done := row.2.commit counted (s.reqOf m n c)
    counted.ctr 8 c 0 = s.ctr 8 c 0 + 1 ∧
    ∃ t, exec (row.1 m n) s = .next t ∧ Answered row.2 (s.reqOf m n c) t done.result ∧ Served done.s t ∧
      t.ctr 8 c 0 = done.s.ctr 8 c 0 ∧ 4 * m.val + n.val ∉ t.rung

/-- Every command that fails a check (R460, R461): its slot is DONE with the code and detail of the first check that
fails, COMMANDS_FAILED and its breakdown have counted it, and nothing else of the device has changed.
A command whose turn has not come does nothing yet (R455; the model's own: log 16). -/
def Obligations.RefusedCommandsChangeNothing : Prop :=
  (∀ (commits : Bool) (found : List Found), ∀ row ∈ allRows commits found,
   ∀ (m : Fin 257) (n : Fin 4) (s : State) (c : Nat) (e : Err), Rejects row.2 m n s c e → c < 256 →
     e.code < 20 ∧ ∃ t, exec (row.1 m n) s = .next t ∧ Served s t ∧ (t.slot m n).posted = false ∧ (t.slot m n).done = true ∧
       (t.slot m n).response =
         responseBytes (s.reqOf m n c).tag (opOf (s.slot m n).copy) e.code 0 e.detail e.index [] ∧
       t.ctr 8 c 0 = s.ctr 8 c 0 ∧
       (s.rung = [4 * m.val + n.val] → t.ctr 8 c 1 = s.ctr 8 c 1 + 1 ∧ t.ctr 8 c (1 + e.code) = s.ctr 8 c (1 + e.code) + 1)) ∧
  (∀ (commits : Bool) (found : List Found), ∀ row ∈ allRows commits found,
   ∀ (m : Fin 257) (n : Fin 4) (s : State), s.isNext row.2 m n = false →
     exec (row.1 m n) s = .next s)

/-- RING_SLOT, FREE_SLOT, STRAY_CLEAR and COMMAND_SLOT_WRITE (R450 to R452, R455): a ring of a FREE slot takes the copy
and queues the command; a ring of any other slot sets STRAY; a write of DONE frees the slot and zeroes its response; a
write reaches a FREE slot and no other. -/
def Obligations.SlotAccesses : Prop :=
  ∀ (m : Fin 257) (s : State), s.reachable m = true → s.closed m = false →
  (∀ n : Fin 4, (s.slot m n).posted = false → (s.slot m n).done = false → s.cabOfMbx m ≠ none →
    opOf (s.slot m n).host ∈ opcodes →
    ∃ t, exec (.ringSlot m n) s = .next t ∧ (t.slot m n).posted = true ∧ (t.slot m n).done = false ∧
      (t.slot m n).copy = (s.slot m n).host ∧ 4 * m.val + n.val ∈ t.rung ∧ Served { s with usbTags := t.usbTags } t) ∧
  (∀ n : Fin 4, ((s.slot m n).posted = true ∨ (s.slot m n).done = true) →
    ∃ t, exec (.ringSlot m n) s = .next t ∧ (t.mbx m).stray = true) ∧
  (∀ n : Fin 4, (s.slot m n).done = true → 4 * m.val + n.val ∉ s.rung →
    ∃ t, exec (.freeSlot m n) s = .next t ∧ (t.slot m n).done = false ∧
      (t.slot m n).response = List.replicate 32 0 ∧ Served s t) ∧
  (∃ t, exec (.strayClear m) s = .next t ∧ (t.mbx m).stray = false) ∧
  (∀ (n : Fin 4) (o : Fin 16) (data : BitVec 64),
    let off := BitVec.ofNat 16 (0x100 + 64 * n.val + 4 * o.val)
    ((s.slot m n).posted = false → (s.slot m n).done = false →
      ∃ t, exec (.commandSlotWrite m off false data) s = .next t ∧
        (t.slot m n).host = patch (s.slot m n).host (4 * o.val) (leBytes 4 (data.toNat % 2 ^ 32)) ∧
        (t.slot m n).copy = (s.slot m n).copy ∧ (∀ k, k ≠ n.val → t.slot m k = s.slot m k) ∧
        ({ t with mbxs := s.mbxs } : State) = s) ∧
    ((s.slot m n).posted = true ∨ (s.slot m n).done = true →
      exec (.commandSlotWrite m off false data) s = .next s))

/-- EVENT_RING_CONFIG_WRITE and EVENT_RING_CTRL_WRITE (R469): BASE and SIZE are taken while ENABLE is 0 and otherwise set
BAD_CONFIG; ENABLE is taken on a configuration that keeps Table MB-11, and READ_IDX then equals WRITE_IDX.
READ_IDX_WRITE, EVENT_STATUS_CLEAR and HOLDOFF_EXPIRY (R468, R471): an index within the unread entries is taken, and
any other sets BAD_INDEX; each status bit written 1 is cleared; a signal put off is made at the end of HOLDOFF. -/
def Obligations.EventRingRegisters : Prop :=
  (∀ (m : Fin 257) (s : State) (c : Nat) (v : BitVec 32), s.reachable m = true → s.cabOfMbx m = some c →
     let r := (s.cab c).ring
   (r.enable = true → ∀ off ∈ [0x400#16, 0x404#16, 0x408#16],
     ∃ t, exec (.eventRingConfigWrite m off false (v.setWidth 64)) s = .next t ∧
       (t.cab c).ring = { r with badConfig := true } ∧ Told s t) ∧
   (r.enable = true → ∃ t, exec (.eventRingCtrlWrite m v) s = .next t ∧ Told s t ∧
     (t.cab c).ring = { r with ctrl := v &&& 0xFFFF3F03#32 }) ∧
   (r.enable = false →
     (∃ t, exec (.eventRingConfigWrite m 0x400 false (v.setWidth 64)) s = .next t ∧ Told s t ∧
       (t.cab c).ring.base.toNat = r.base.toNat / 2 ^ 32 * 2 ^ 32 + v.toNat) ∧
     (∃ t, exec (.eventRingConfigWrite m 0x404 false (v.setWidth 64)) s = .next t ∧ Told s t ∧
       (t.cab c).ring.base.toNat = v.toNat * 2 ^ 32 + r.base.toNat % 2 ^ 32) ∧
     (∃ t, exec (.eventRingConfigWrite m 0x408 false (v.setWidth 64)) s = .next t ∧ Told s t ∧
       (t.cab c).ring = { r with size := v }) ∧
     (v.getLsbD 0 = true → r.configOk = true → r.waiting = [] →
       ∃ t, exec (.eventRingCtrlWrite m v) s = .next t ∧ Told s t ∧
         (t.cab c).ring = { r with ctrl := v &&& 0xFFFF3F03#32, readIdx := r.writeIdx }) ∧
     (v.getLsbD 0 = true → r.configOk = false →
       ∃ t, exec (.eventRingCtrlWrite m v) s = .next t ∧ Told s t ∧
         (t.cab c).ring.enable = false ∧ (t.cab c).ring.badConfig = true)) ∧
   (v.getLsbD 0 = false →
     ∃ t, exec (.eventRingCtrlWrite m v) s = .next t ∧ Told s t ∧ (t.cab c).ring = { r with ctrl := v &&& 0xFFFF3F03#32 })) ∧
  (∀ (m : Fin 257) (s : State) (c : Nat) (v : BitVec 32), s.reachable m = true → s.cabOfMbx m = some c →
     let r := (s.cab c).ring
   ((r.writeIdx - v).toNat ≤ r.size.toNat → r.waiting = [] →
     ∃ t, exec (.readIdxWrite m v) s = .next t ∧ Told s t ∧ (t.cab c).ring = { r with readIdx := v }) ∧
   (r.size.toNat < (r.writeIdx - v).toNat →
     ∃ t, exec (.readIdxWrite m v) s = .next t ∧ Told s t ∧ (t.cab c).ring = { r with badIndex := true }) ∧
   (∃ t, exec (.eventStatusClear m v) s = .next t ∧ Told s t ∧
     (t.cab c).ring.badIndex = (r.badIndex && !v.getLsbD 0) ∧ (t.cab c).ring.badConfig = (r.badConfig && !v.getLsbD 1) ∧
     (t.cab c).ring.writeFault = (r.writeFault && !v.getLsbD 2)) ∧
   (∀ k : Fin 256, (s.cab k).ring.owed = true → s.holdoffOver k = true →
     ∃ t, exec (.holdoffExpiry k) s = .next t ∧ Told s t ∧ (t.cab k).ring.owed = false ∧
       ((s.cab k).ring.irq = true → (s.cab k).ring.readIdx ≠ (s.cab k).ring.writeIdx →
         (t.cab k).ring.lastSignal = some s.now)))

/-- WM_MARK_WRITE and WM_ACK (R476, R477): a mark of at most 10,000 is kept and every other mark stays; where it changes,
the stream is armed as `ArmedAt` says, RAISED at once when its fill already stands at the mark, and where it does not, the
stream's watermark stays as it was; a mark above 10,000 is not taken. An acknowledge of a RAISED stream arms it in the same way; one of
a stream that is not RAISED changes nothing. -/
def Obligations.WatermarksArmed : Prop :=
  ∀ (m : Fin 257) (s : State) (c : Nat), s.reachable m = true → s.cabOfMbx m = some c →
  (∀ (k : Fin 8) (v : BitVec 32),
    ∃ t, exec (.wmMarkWrite m (BitVec.ofNat 16 (0x460 + 4 * k.val)) false (v.setWidth 64)) s = .next t ∧
      Told { s with streams := t.streams } t ∧
      (∀ i, i ≠ 2 * k.val → i ≠ 2 * k.val + 1 → tget 0 (t.cab c).ring.wmMark i = tget 0 (s.cab c).ring.wmMark i) ∧
      ∀ h, h < 2 →
        let n := 2 * k.val + h
        let w := if h = 0 then v.toNat % 65536 else v.toNat / 65536
        (10000 < w → tget 0 (t.cab c).ring.wmMark n = tget 0 (s.cab c).ring.wmMark n ∧ (t.cab c).ring.badConfig = true) ∧
        (w ≤ 10000 → tget 0 (t.cab c).ring.wmMark n = w) ∧
        (w ≤ 10000 → w ≠ tget 0 (s.cab c).ring.wmMark n → ArmedAt s t c n w) ∧
        (10000 < w ∨ w = tget 0 (s.cab c).ring.wmMark n →
          (t.cab c).ring.raised.getLsbD n = (s.cab c).ring.raised.getLsbD n ∧ t.stream c n = s.stream c n)) ∧
  (∀ (n : Fin 16),
    ((s.cab c).ring.raised.getLsbD n = true →
      ∃ t, exec (.wmAck m (1#32 <<< n.val)) s = .next t ∧ ArmedAt s t c n (tget 0 (s.cab c).ring.wmMark n) ∧
        Told { s with streams := t.streams } t ∧ (t.cab c).ring.wmMark = (s.cab c).ring.wmMark) ∧
    ((s.cab c).ring.raised.getLsbD n = false → exec (.wmAck m (1#32 <<< n.val)) s = .next s))

/-- REGISTER_WRITE, REG_WRITE and REG_READ (R447, R506): an access that is not aligned changes nothing; RESP_CTRL takes
its defined bits; a REG_WRITE of 4 bytes does what that access does; a REG_READ sends the registers' bytes in one
REG_DATA, in a DMA slot (R495), and changes nothing more; a frame outside Table DH-11 is counted. -/
def Obligations.RegisterAccesses : Prop :=
  (∀ (m : Fin 257) (off : BitVec 16) (wide : Bool) (data : BitVec 64) (s : State),
    (off.toNat % (if wide then 8 else 4) ≠ 0 → exec (.registerWrite m off wide data) s = .next s) ∧
    (s.reachable m = false → exec (.registerWrite m off wide data) s = .next s)) ∧
  (∀ (m : Fin 257) (data : BitVec 32) (s : State), s.reachable m = true →
    ∃ t, exec (.registerWrite m 0x204 false (data.setWidth 64)) s = .next t ∧
      t.mbx m = { s.mbx m with respCtrl := data &&& 0x13F#32 } ∧ (∀ k, k ≠ m.val → t.mbx k = s.mbx k) ∧
      ({ t with mbxs := s.mbxs } : State) = s) ∧
  (∀ (off : BitVec 16) (bytes : List Byte) (s : State), off.toNat % 4 = 0 → bytes.length = 4 → s.reachable 256 = true →
    exec (.regWrite { length := 4, type := 1, flags := 0, tag := 0, addr := off.setWidth 64, payload := bytes }) s =
      exec (.registerWrite 256 off false (BitVec.ofNat 64 (leNat bytes))) s) ∧
  (∀ (off : BitVec 16) (tag : BitVec 16) (s : State), off.toNat % 4 = 0 → s.reachable 256 = true →
    ∃ t, exec (.regRead { length := 4, type := 2, flags := 0, tag := tag, addr := off.setWidth 64, payload := [4, 0, 0, 0] })
      s = .next t ∧ t.outbox = s.outbox ++ [.frame 0x81 0 tag.toNat (off.setWidth 64) 4 (s.barRead4 256 off.toNat)] ∧
      t.ctr 0x0B 1 5 = s.ctr 0x0B 1 5 + 1 ∧ Told s t) ∧
  (∀ (f : UsbFrame) (s : State), s.reachable 256 = true → f.type ≠ 1 → f.type ≠ 2 → f.type ≠ 3 → f.type ≠ 4 →
    ∃ t, exec (.regWrite f) s = .next t ∧ t.ctr 0x0B 1 1 = s.ctr 0x0B 1 1 + 1 ∧
      ({ t with counters := s.counters } : State) = s)

/-- FETCH_DATA, PROBE_REPLY and USB_FETCH_TIMEOUT (R507): a reply of the length asked for that matches a request by TAG and
ADDRESS, one that carries ERROR, or 100 ms without a reply retires the request, and its answer, or its failure, takes effect:
on a parcel, on the descriptor that was wanted, or on the probe; a reply that nothing waits for any more does nothing. A reply that matches no request is counted and changes nothing.
PARCEL_FETCH (R459), and what an answer does to a parcel: the last of its bytes make it whole, fewer leave it being fetched, and
a failure makes it fail and is counted. -/
def Obligations.FetchesAnswered : Prop :=
  ∀ (s : State),
  (∀ (tag : BitVec 16) (q : UsbTag) (error : Bool) (bytes : List Byte), tget none s.usbTags tag.toNat = some q →
    let u := s.dropTag tag.toNat
    tget none u.usbTags tag.toNat = none ∧
    (s.reachable 256 = true → q.kind ≠ 2 → bytes.length = (if error then 0 else q.len) →
      exec (.fetchData { length := bytes.length, type := 3, flags := if error then 1 else 0, tag := tag, addr := q.addr,
                         payload := bytes }) s = .next (u.usbAnswer q (if error then none else some bytes))) ∧
    (s.reachable 256 = true → q.kind = 2 →
      exec (.probeReply { length := 0, type := 4, flags := if error then 1 else 0, tag := tag, addr := q.addr,
                          payload := [] }) s = .next (u.usbAnswer q (if error then none else some []))) ∧
    (q.sent + 100000000 ≤ s.now → exec (.usbFetchTimeout tag) s = .next (u.usbAnswer q none)) ∧
    (s.now < q.sent + 100000000 → exec (.usbFetchTimeout tag) s = .next s)) ∧
  (∀ (f : UsbFrame), s.reachable 256 = true →
    (f.type = 3 → s.askedBy f false = none →
      ∃ t, exec (.fetchData f) s = .next t ∧ t.ctr 0x0B 1 1 = s.ctr 0x0B 1 1 + 1 ∧
        ({ t with counters := s.counters } : State) = s) ∧
    (f.type = 4 → s.askedBy f true = none →
      ∃ t, exec (.probeReply f) s = .next t ∧ t.ctr 0x0B 1 1 = s.ctr 0x0B 1 1 + 1 ∧
        ({ t with counters := s.counters } : State) = s)) ∧
  (∀ (q : UsbTag) (sofar bytes : List Byte), q.kind = 0 → q.stale = false → (s.slot 256 q.slot).parcel = .fetching sofar →
    opOf (s.slot 256 q.slot).copy ∈ opcodes →
    (((s.usbAnswer q (some bytes)).slot 256 q.slot).parcel =
      if (sofar ++ bytes).length < lenOf (s.slot 256 q.slot).copy then .fetching (sofar ++ bytes)
      else .got (padTo (lenOf (s.slot 256 q.slot).copy) (sofar ++ bytes))) ∧
    ((s.usbAnswer q none).slot 256 q.slot).parcel = .failed ∧
    (s.usbAnswer q none).ctr 0x0B 1 4 = s.ctr 0x0B 1 4 + 1) ∧
  (∀ (q : UsbTag) (bytes : Option (List Byte)), q.stale = true → s.usbAnswer q bytes = s) ∧
  (∀ (q : UsbTag) (bytes : Option (List Byte)), q.kind = 1 → q.stale = false → s.assignChannels.wantsDesc q.cab q.stream = true →
    s.usbAnswer q bytes = match bytes with
      | some bs => s.assignChannels.openDesc q.cab q.stream bs
      | none => s.assignChannels.descFailed q.cab q.stream) ∧
  (∀ (q : UsbTag) (d : Desc) (i : Nat) (rest : List Nat), q.kind = 2 → q.stale = false → (s.ring q.cab q.stream).opened = some d →
    d.probes = i :: rest → d.ending = none → q.addr = d.dest + BitVec.ofNat 64 (d.pageStart i) →
    (∀ j ∈ rest, d.dest + BitVec.ofNat 64 (d.pageStart j) ≠ q.addr) → d.taken < d.pageStart (d.probed + 1) →
    d.taken ≠ d.length →
    ((s.usbAnswer q (some [])).ring q.cab q.stream).opened = some { d with probes := rest }) ∧
  (∀ (m : Fin 256) (n : Fin 4) (bytes : Option (List Byte)) , (s.slot m n).posted = true → s.canWrite m = true →
    (s.slot m n).parcel = .fetching [] → opOf (s.slot m n).copy ∈ opcodes →
    ∃ t, exec (.parcelFetch m.castSucc n bytes) s = .next t ∧
      (t.slot m n).parcel = (match bytes with
        | some bs => .got (padTo (lenOf (s.slot m n).copy) bs)
        | none => .failed) ∧
      t.ctr 0x0B 0 4 = s.ctr 0x0B 0 4 + (if bytes = none then 1 else 0))

/-- LINK_LOSS, VF_ENABLE_CLEAR, FUNCTION_LEVEL_RESET and USB_RESET (R438, R502, R510): the cabinets they reach are being
reset, and their ports are down.
VF_ENABLE, PORT_CHANGED, PERST_DEASSERT, BUS_MASTER_ENABLE_CHANGE, USB_RESUME and MSIX_UNMASK (R58, R452, R497, R503,
R562). -/
def Obligations.HostPorts : Prop :=
  (∀ (s : State),
   (∀ k, s.mode ≠ .dormant → ∃ t, exec (.linkLoss k) s = .next t ∧ t.pcieUp = false ∧
     (∀ f, f < 256 → (t.mbx f).down = true ∧ (t.mbx f).busMaster = false) ∧
     (∀ c ∈ s.pcieCabs, (t.cab c).resetting ≠ none) ∧ (k = .perst → t.perst = true)) ∧
   (∃ t, exec .vfEnableClear s = .next t ∧ t.vfEnabled = false ∧ (∀ f, 0 < f → f < 256 → (t.mbx f).down = true) ∧
     ∀ c ∈ s.vfCabs, (t.cab c).resetting ≠ none) ∧
   (∀ (f : Fin 256) (c : Nat), s.cabOfMbx f = some c → (s.cab c).resetting = none →
     ∃ t z, exec (.functionLevelReset f) s = .next t ∧ (t.cab c).resetting = some z ∧ z.cause = 2 ∧
       (t.cab c).resets = (s.cab c).resets + 1 ∧ (t.cab c).scrubbing = true) ∧
   (∀ c, s.cabOfMbx 256 = some c → (s.cab c).resetting = none →
     ∃ t z, exec .usbReset s = .next t ∧ t.usbUp = false ∧ (t.cab c).resetting = some z ∧ z.cause = 3)) ∧
  (∀ (s : State),
   (∀ f : Fin 256, f.val ≠ 0 → ∃ t, exec (.vfEnable f) s = .next t ∧ t.vfEnabled = true ∧ t.mode = s.mode ∧ t.docs = s.docs) ∧
   (∀ usb up speed lanes, s.mode ≠ .dormant → ∃ t, exec (.portChanged usb up speed lanes) s = .next t ∧
     t.pcieUp = (if usb then s.pcieUp else up) ∧ t.usbUp = (if usb then up else s.usbUp) ∧
     Told { s with pcieUp := t.pcieUp, usbUp := t.usbUp } t) ∧
   (∀ clock, s.mode ≠ .dormant → exec (.perstDeassert clock) s = .next { s with perst := false, extRefclk := clock }) ∧
   (∀ (f : Fin 256) (enable d0 : Bool), ∃ t, exec (.busMasterEnableChange f enable d0) s = .next t ∧
     (t.mbx f).busMaster = enable ∧ (t.mbx f).d0 = d0 ∧ (t.mbx f).down = ((s.mbx f).down && !(enable && d0)) ∧
     ∀ g, g ≠ f.val → t.canWrite g = s.canWrite g) ∧
   (∃ t, exec .usbResume s = .next t ∧ t.usbSuspended = false ∧ ∀ c ∈ s.enabledCabs, (t.cab c).ring.held = []) ∧
   (∀ (f : Fin 256) (v : Fin 64), (s.mbx f).msixOn = true → (s.mbx f).msixMasked = false → (s.mbx f).pba.getLsbD v = true →
     ∃ t, exec (.msixUnmask f (some v)) s = .next t ∧ t.outbox = s.outbox ++ [.msix f v] ∧
       (t.mbx f).unmasked.getLsbD v = true ∧ (t.mbx f).pba.getLsbD v = false ∧
       (∀ i, i ≠ v.val → (t.mbx f).pba.getLsbD i = (s.mbx f).pba.getLsbD i) ∧
       ({ t with outbox := s.outbox, mbxs := s.mbxs } : State) = s) ∧
   (∀ f : Fin 256, ∃ t, exec (.msixUnmask f none) s = .next t ∧ (t.mbx f).msixOn = true ∧ (t.mbx f).msixMasked = false ∧
     (t.mbx f).unmasked = (s.mbx f).unmasked ∧
     (∀ i, i < 64 → (t.mbx f).pba.getLsbD i = ((s.mbx f).pba.getLsbD i && !(s.mbx f).unmasked.getLsbD i)) ∧
     (∀ v : Fin 64, (s.mbx f).unmasked.getLsbD v = true → (s.mbx f).pba.getLsbD v = true → Out.msix f v ∈ t.outbox) ∧
     ({ t with outbox := s.outbox, mbxs := s.mbxs } : State) = s))

/-! The command families (Table MB-10). -/

/-- The JOB family (R385, R388, R403, R404, R430, R270): a job opened stands last in the queue with the fields of its
command; a cancelled one closes, or, current, waits for its documents; the queue's other jobs stay, but for whether their cabinets
are noted backlogged for them; a stream begins anew, empty, its marks kept, while nothing waits for it; its marks; the key
that was wrapped; the ledger's totals. -/
def Obligations.JobCommands : Prop :=
  let bare : Job → Job := fun k => { k with backlog := false }
  Completes jobOpen .jobOpen (fun r s t _ => Served { s with jobs := t.jobs, cabs := t.cabs } t ∧
    ∃ j : Job, t.jobs.map bare = (s.jobs ++ [j]).map bare ∧ j.cab = r.cab ∧ j.id = r.u16 0 ∧ j.bedMask = BitVec.ofNat 4 (r.u8 2) ∧
      j.flatbed = bit (r.u8 3) 0 ∧ j.exitCheck = bit (r.u8 3) 1 ∧ j.free = bit (r.u8 3) 2 ∧ j.chan = r.u8 4 ∧
      j.entryGpio = r.u8 5 ∧ j.exitGpio = r.u8 6 ∧ j.gaugeStream = r.u8 7 ∧ j.docs = r.u32 8 ∧ j.freeRate = r.u32 0x0C ∧
      (∀ b, b < 4 → j.dist.getD b 0 = r.u32 (0x10 + 4 * b)) ∧ j.maxLen = r.u32 0x20 ∧ j.exitDist = r.u32 0x24 ∧
      j.fed = 0 ∧ j.done = 0 ∧ j.current = false ∧ j.cancelled = false) ∧
  Completes jobCancel .jobCancel (fun r s t _ => t.docs = s.docs ∧ t.streams = s.streams ∧ t.mode = s.mode ∧
    (s.jobDocs r.cab (r.u16 0) = [] ∨ (∀ k ∈ s.jobs, k.cab = r.cab → k.id = r.u16 0 → k.current = false) →
      t.jobs.map bare = (s.jobs.filter fun k => ¬ (k.cab = r.cab ∧ k.id = r.u16 0)).map bare) ∧
    (s.jobDocs r.cab (r.u16 0) ≠ [] → (∀ k ∈ s.jobs, k.cab = r.cab → k.id = r.u16 0 → k.current = true) →
      t.jobs.map bare = s.jobs.map fun k =>
      bare (if k.cab = r.cab ∧ k.id = r.u16 0 then { k with cancelled := true } else k))) ∧
  Completes jobStream .jobStream (fun r s t _ => tget [] s.waiting r.cab = [] →
    let n := r.u8 0
    let old := s.stream r.cab n
    t.stream r.cab n = {
      kind := r.u8 1, encrypt := bit (r.u8 2) 0, base := r.u64 8, capacity := r.u64 0x10, rateMark := old.rateMark,
      holdMark := old.holdMark, pauseMark := old.pauseMark, releaseMark := old.releaseMark,
      wmArmed := decide (r.u8 1 ≠ 0 ∧ s.wmMark r.cab n ≠ 0) } ∧
    (t.ring r.cab n).next = 0 ∧ ∀ k, k ≠ 16 * r.cab + n → tget {} t.streams k = tget {} s.streams k) ∧
  Completes jobPace .jobPace (fun r s t _ => Served { s with streams := t.streams } t ∧
    t.stream r.cab (r.u8 0) = { s.stream r.cab (r.u8 0) with
      rateMark := r.u16 4, holdMark := r.u16 6, pauseMark := r.u16 8, releaseMark := r.u16 0x0A } ∧
    ∀ k, k ≠ 16 * r.cab + r.u8 0 → tget {} t.streams k = tget {} s.streams k) ∧
  Completes jobKey .jobKey (fun r s t _ => Served { s with cabs := t.cabs } t ∧
    (t.cab r.cab).recordKey = (if r.u8 0 = 1 then unwrapKey r else (s.cab r.cab).recordKey) ∧
    (t.cab r.cab).streamKey = (if r.u8 0 = 1 then (s.cab r.cab).streamKey else unwrapKey r) ∧
    ∀ c, c ≠ r.cab → (t.cab c).unrung = (s.cab c).unrung) ∧
  Completes jobLedger .jobLedger (fun r s t res => Served s t ∧ res.length = 56 ∧
    res.take 40 = leBytes 4 s.epoch ++ leBytes 4 0 ++ leBytes 8 (s.cab r.cab).opened ++ leBytes 8 (s.cab r.cab).closed ++
      leBytes 8 (s.cab r.cab).noted ++ leBytes 8 (r.u64 0) ∧
    res.drop 40 = sealOf (s.cab r.cab).recordKey (res.take 40))

/-- The BED family (R93, R115, R117, R134, R136, R143): a bed's configuration, in force at once in ARMED and CALIBRATE, and
kept for the next entry to a P3 mode in IDLE, where nothing else changes (log 85); a front end's gain and offset,
at once where the bed's clocks stand and otherwise when a slot takes them; the pitch, at once or at a position; the
graft table, at once while no job is current, and stored when it is asked for, but not while VIN12 lies outside its limits
(log 88). -/
def Obligations.BedCommands : Prop :=
  Completes bedConfig .bedConfig (fun r s t _ =>
    (s.mode = .idle → Served { s with beds := t.beds } t ∧ (∀ b, b ≠ r.u8 0 → t.bed b = s.bed b) ∧
      t.bed (r.u8 0) = { s.bed (r.u8 0) with cfgNext := some r.bedCfg }) ∧
    (s.mode ≠ .idle →
    let x := t.bed (r.u8 0)
    x.cfgNext = none ∧ x.segMask = BitVec.ofNat 8 (r.u8 1) ∧ x.seqLen = r.u8 2 ∧ t.coverMask (r.u8 0) = BitVec.ofNat 4 (r.u8 3) ∧
      x.slotCycles = r.u16 4 ∧ x.spWidth = r.u8 6 ∧ x.lead = r.u8 7 ∧ x.tapMap = bit (r.u8 8) 0 ∧
      x.clkInvert = bit (r.u8 8) 1 ∧ x.darkCount = r.u8 9 ∧ x.darkLimit = r.u16 0x0A ∧
      (∀ i, i < 4 → x.phase.getD i 0 = r.u8 (0x0C + i)) ∧
      ∀ e, e < 8 → x.seq.getD e 0 = BitVec.ofNat 8 (r.u8 (0x10 + e)))) ∧
  Completes bedAfe .bedAfe (fun r s t _ => ∀ tap, tap < 4 → bit (r.u8 2) tap = true →
    let a : Afe := { gain := r.u16 (4 + 2 * tap), offset := r.s16 (0x0C + 2 * tap) }
    (s.bedClock (r.u8 0) = true → tget none (t.bed (r.u8 0)).afeNext (4 * r.u8 1 + tap) = some a ∧
      (t.bed (r.u8 0)).afe = (s.bed (r.u8 0)).afe) ∧
    (s.bedClock (r.u8 0) = false → (t.bed (r.u8 0)).afeOf (r.u8 1) tap = a)) ∧
  Completes bedPitch .bedPitch (fun r s t _ => Served { s with beds := t.beds, comps := t.comps } t ∧
    (bit (r.u8 2) 0 = false → (t.bed (r.u8 0)) = { s.bed (r.u8 0) with
      chan := r.u8 1, pitch := BitVec.ofNat 64 (r.u64 8) } ∧ t.comps = s.comps) ∧
    (bit (r.u8 2) 0 = true → t.beds = s.beds ∧ ∃ k x, k < 48 ∧ s.comp k = none ∧ t.comp k = some x ∧ x.action = 6 ∧
      x.owner = r.cab ∧ x.chan = r.u8 1 ∧ x.target = r.pos 0x10 ∧ x.use = .pitch (BitVec.ofNat 64 (r.u64 8)) ∧
      ∀ j, j ≠ k → t.comp j = s.comp j)) ∧
  Completes bedGraft .bedGraft (fun r s t _ => ∃ g : Graft, g.outFirst = r.u16 4 ∧ g.outWidth = r.u16 6 ∧
    g.entries.length = r.u8 1 ∧ (∀ i, i < r.u8 1 → g.entries[i]? = some (graftEntryOf r i)) ∧
    ((∀ j ∈ s.jobs, j.current = false) → (t.bed (r.u8 0)).graft = some g ∧ (t.bed (r.u8 0)).graftNext = none) ∧
    ((∃ j ∈ s.jobs, j.current = true) → (t.bed (r.u8 0)).graft = (s.bed (r.u8 0)).graft ∧
      (t.bed (r.u8 0)).graftNext = some g) ∧
    (bit (r.u8 2) 0 = true → (s.supply 0).outside = false → (t.bed (r.u8 0)).graftStored.getLast? = some g) ∧
    (bit (r.u8 2) 0 = false ∨ (s.supply 0).outside = true →
      t.nvs = s.nvs ∧ (t.bed (r.u8 0)).graftStored = (s.bed (r.u8 0)).graftStored))

/-- The ILL and CAL families (R151, R152, R154, R174, R175, R182, R197, R199): the settings of a bed's lamps, of a
channel, the codes of an entry, a channel's status, the clearing of its latched fault; the settings of calibration, a
strip read begun by CAL.RUN, which fails at once under SPAN past SPAN_LAST while nothing else is scanned
(log 70), and the status of the set in force. -/
def Obligations.LampAndCalibrationCommands : Prop :=
  Completes illBed .illBed (fun r _ t _ =>
    let x := t.bed (r.u8 0)
    x.tempFixed = bit (r.u8 1) 0 ∧ x.bConst = r.u16 2 ∧ x.window = r.u32 4 ∧ x.tempValue = r.s16 8) ∧
  Completes illChannel .illChannel (fun r s t _ =>
    let l := (t.bed (r.u8 0)).led (r.u8 1)
    l.cls = r.u8 2 ∧ l.knee = r.u8 3 ∧ l.slope = r.u16 4 ∧ l.shortV = r.u8 6 ∧ l.a1 = r.s32 8 ∧ l.a2 = r.s32 0x0C ∧
      ∀ c, c < 8 → c ≠ r.u8 1 → ((t.bed (r.u8 0)).led c).cls = ((s.bed (r.u8 0)).led c).cls) ∧
  Completes illLevel .illLevel (fun r s t _ => ∀ e c, c < 8 → (t.bed (r.u8 0)).codeOf e c =
    if e = r.u8 1 then r.u16 (8 + 2 * c) else (s.bed (r.u8 0)).codeOf e c) ∧
  Completes illStatus .illStatus (fun r s t res => Served s t ∧ res.length = 26 ∧
    res.take 4 = leBytes 4 (s.lampWord (r.u8 0) (r.u8 1)) ∧
    ∀ e, e < 8 → (res.drop (8 + 2 * e)).take 2 = leBytes 2 ((s.bed (r.u8 0)).effOf e (r.u8 1))) ∧
  Completes illClear .illClear (fun r s t _ => Served { s with beds := t.beds } t ∧
    (t.bed (r.u8 0)).led (r.u8 1) = { (s.bed (r.u8 0)).led (r.u8 1) with state := 6, verified := false } ∧
    ∀ c, c ≠ r.u8 1 → (t.bed (r.u8 0)).led c = (s.bed (r.u8 0)).led c) ∧
  Completes calConfig .calConfig (fun r _ t _ =>
    let x := t.bed (r.u8 0)
    x.method = r.u8 1 ∧ x.deliver = bit (r.u8 2) 0 ∧ x.onFailHold = decide (r.u8 3 = 1) ∧ x.cycles = r.u16 4 ∧
      x.deadFrac = r.u8 6 ∧ x.maxDead = r.u8 7 ∧ x.recheck = r.u16 8 ∧ x.spanFirst = r.pos 0x10 ∧
      x.spanLast = r.pos 0x18 ∧ ∀ i, i < 8 → x.target.getD i 0 = r.u16 (0x20 + 2 * i)) ∧
  Completes calRun .calRun (fun r s t _ => ∃ x, (t.bed (r.u8 0)).read = some x ∧ x.cab = r.cab ∧ x.isRun = true ∧
    x.full = bit (r.u8 1) 0 ∧ x.began = s.now ∧ x.deadline = some (s.now + r.u32 4 * 1000000000) ∧
    x.phase = (let y := s.bed (r.u8 0)
      if y.accOn = false ∧ y.method = 2 ∧ reachedFwd (s.chanPos y.chan) y.spanLast = true then 3 else 0) ∧
    x.kept = 0 ∧ ∀ b, b ≠ r.u8 0 → t.bed b = s.bed b) ∧
  Completes calStatus .calStatus (fun r s t res => Served s t ∧ res.length = 20 ∧
    res.take 4 = leBytes 4 (s.bed (r.u8 0)).refSet.gen ∧
    (res.drop 8).take 4 = leBytes 4 (s.bed (r.u8 0)).refSet.epoch ∧
    (res.drop 12).take 8 = leBytes 8 (s.bed (r.u8 0)).refSet.accepted)

/-- The MOVE family, motion (R208, R209, R215, R226, R231, R238, R241, R243): an axis's settings; segments queued behind
those it has; an override on each axis of the mask; a ratio loaded into its slot, at once or at a position; axes stopped,
their queues empty; a position set; and an axis's status. -/
def Obligations.MotionCommands : Prop :=
  Completes moveConfig .moveConfig (fun r s t _ =>
    let x := t.axis (r.u8 0)
    x.role = r.u8 1 ∧ x.reversible = bit (r.u8 2) 0 ∧ x.confirm = bit (r.u8 2) 1 ∧ x.cchan = r.u8 3 ∧ x.vmax = r.u32 4 ∧
      x.amax = r.u32 8 ∧ x.decel = r.u32 0x0C ∧ x.ovrSlew = r.u16 0x10 ∧ x.ctol = r.u16 0x12 ∧ x.ftol = r.u16 0x14 ∧
      x.cnum = r.s32 0x18 ∧ x.cden = r.u32 0x1C ∧ x.limLo = r.s64 0x20 ∧ x.limHi = r.s64 0x28 ∧
      x.pos = (s.axis (r.u8 0)).pos) ∧
  Completes moveQueue .moveQueue (fun r s t _ => Served { s with axes := t.axes } t ∧
    (t.axis (r.u8 0)).queue = (s.axis (r.u8 0)).queue ++ (List.range (r.u8 1)).map r.seg ∧
    (t.axis (r.u8 0)).pos = (s.axis (r.u8 0)).pos ∧
    (t.axis (r.u8 0)).st = (if bit (r.u8 2) 0 then .atRest else (s.axis (r.u8 0)).st) ∧
    ∀ a, a ≠ r.u8 0 → t.axis a = s.axis a) ∧
  Completes moveOverride .moveOverride (fun r s t _ => Served { s with axes := t.axes } t ∧
    ∀ a, t.axis a = if a < 8 ∧ bit (r.u8 0) a = true then { s.axis a with host := r.u16 2 } else s.axis a) ∧
  Completes moveGear .moveGear (fun r s t _ => Served { s with axes := t.axes, comps := t.comps } t ∧
    (t.axis (r.u8 0)).st = .geared ∧ (∃ g, (t.axis (r.u8 0)).gear = some g ∧ g.master = r.u8 1) ∧
    tget none (t.axis (r.u8 0)).gslots (r.u8 2) = some { num := r.s32 4, den := r.u32 8, blend := r.u32 0x0C } ∧
    (∀ a, a ≠ r.u8 0 → t.axis a = s.axis a) ∧
    (bit (r.u8 3) 0 = false → t.comps = s.comps) ∧
    (bit (r.u8 3) 0 = true → ∃ k x, k < 48 ∧ s.comp k = none ∧ t.comp k = some x ∧ x.action = 8 ∧ x.chan = r.u8 1 ∧
      x.dir = r.gearDir ∧ x.target = r.pos 0x10 ∧ x.use = .gear (r.u8 0) (r.u8 2))) ∧
  Completes moveStop .moveStop (fun r s t _ => t.mode = s.mode ∧
    (∀ a, a < 8 → bit (r.u8 0) a = true → (t.axis a).st = .stopped ∧ (t.axis a).pos = (s.axis a).pos ∧
      (t.axis a).queue = [] ∧ (t.axis a).gear = none ∧ (t.axis a).gslots = [] ∧ (t.axis a).posNext = (s.axis a).pos ∧
      (r.u8 1 = 1 → (t.axis a).stopOff = true ∧ (t.axis a).off = true)) ∧
    ∀ a, a < 8 → bit (r.u8 0) a = false → t.axis a = s.axis a) ∧
  Completes moveSetpos .moveSetpos (fun r s t _ =>
    let x := t.axis (r.u8 0)
    x.pos = r.s64 8 ∧ x.st = .atRest ∧ x.lost = false ∧ x.stopOff = false ∧
      (∀ a, a ≠ r.u8 0 → (t.axis a).pos = (s.axis a).pos) ∧
      ∀ c, c < 4 → (s.chan c).source = .axis → (s.chan c).unit = r.u8 0 → (t.chan c).base = posOf (r.s64 8 * 256)) ∧
  Completes moveStatus .moveStatus (fun r s t res => Served s t ∧ res.length = 40 ∧
    res.take 4 = leBytes 4 (s.axisStatus (r.u8 0)) ∧ (res.drop 4).take 4 = leInt 4 ⌊s.axisVel (r.u8 0)⌋ ∧
    (res.drop 8).take 8 = leInt 8 (s.axis (r.u8 0)).pos ∧
    (res.drop 24).take 2 = leBytes 2 (s.axis (r.u8 0)).host)

/-- The MOVE family, coils and pacing (R251, R257, R266, R267, R268, R272): a table, or the table of reset, for each axis
of the mask; the coil settings; latched faults cleared; a bridge's status; the pacing settings of an axis, and those that
its group shares. -/
def Obligations.CoilCommands : Prop :=
  Completes moveTable .moveTable (fun r s t _ => Served { s with axes := t.axes } t ∧
    ∀ a, t.axis a = if a < 8 ∧ bit (r.u8 0) a = true then
      { s.axis a with heldTable := some (if bit (r.u8 1) 0 then none
          else some ((List.range 1024).map fun k => r.s16 (8 + 2 * k))) }
      else s.axis a) ∧
  Completes moveCoil .moveCoil (fun r s t _ => Served { s with axes := t.axes } t ∧
    t.axis (r.u8 0) = { s.axis (r.u8 0) with
      held := some (r.u16 2, r.u16 4, r.u16 6, r.u32 8, r.u16 0x0C, bit (r.u8 1) 0) } ∧
    ∀ a, a ≠ r.u8 0 → t.axis a = s.axis a) ∧
  Completes moveClear .moveClear (fun r s t _ => t.mode = s.mode ∧
    (∀ a, a < 8 → bit (r.u8 0) a = true → (t.axis a).latched = false ∧ (t.axis a).phA.window = [] ∧
      (t.axis a).phB.window = [] ∧ (t.axis a).pos = (s.axis a).pos ∧ (t.axis a).st = (s.axis a).st) ∧
    ∀ a, a < 8 → bit (r.u8 0) a = false → t.axis a = s.axis a) ∧
  Completes moveDrive .moveDrive (fun r s t res => Served s t ∧ res.length = 24 ∧
    res.take 4 = leBytes 4 (s.coilStatus (r.u8 0)) ∧ (res.drop 4).take 2 = leBytes 2 (s.axis (r.u8 0)).phA.rcoil ∧
    (res.drop 6).take 2 = leBytes 2 (s.axis (r.u8 0)).phB.rcoil) ∧
  Completes movePace .movePace (fun r s t _ =>
    let x := t.axis (r.u8 0)
    x.bedMask = BitVec.ofNat 4 (r.u8 2) ∧ x.pauseAccel = r.u32 8 ∧ x.backlash = r.u32 0x0C ∧ x.settle = r.u32 0x10 ∧
      x.maxReverse = r.u32 0x14 ∧ x.pos = (s.axis (r.u8 0)).pos ∧
      ∀ a, a < 8 → (a = r.u8 0 ∨ (s.axis a).bedMask.toNat = r.u8 2) →
        let y := t.axis a
        y.pRate = bit (r.u8 1) 0 ∧ y.pHold = bit (r.u8 1) 1 ∧ y.pPause = bit (r.u8 1) 2 ∧ y.feedGpio = r.u8 3 ∧
          y.minRate = r.u16 4 ∧ y.preroll = r.u16 6 ∧ y.replans = r.u8 0x18)

/-- The GAUGE and BUF families (R310, R317 to R320, R325, R327, R479, R480, R498): a channel's settings and coefficients,
at once or from its next output period, an enabling at once, with its outputs at FAULT_CODE; a lead measurement begun; the settings of its summary; an output's settings; a
channel's status; a descriptor ring enabled, or disabled with every posted descriptor returned, unless its function cannot master the bus;
descriptors posted to it, and its status. -/
def Obligations.GaugeAndBufferCommands : Prop :=
  Completes gaugeConfig .gaugeConfig (fun r s t _ => (t.gauge (r.u8 0)).accepted = r.gaugeCfg ∧
    (let x := s.gauge (r.u8 0)
     let enabling := x.accepted.enable = false ∧ bit (r.u8 2) 0 = true
     (s.gaugeRuns (r.u8 0) = true → ¬ enabling → (t.gauge (r.u8 0)).cfg = x.cfg) ∧
     (s.gaugeRuns (r.u8 0) = false ∨ enabling → (t.gauge (r.u8 0)).cfg = r.gaugeCfg) ∧
     (enabling → s.mode.p3 = true → (t.gauge (r.u8 0)).index = 0 ∧ (t.gauge (r.u8 0)).began = 64 * s.now ∧
       (t.gauge (r.u8 0)).invalidLeft = 5)) ∧
    (∀ g, g ≠ r.u8 0 → t.gauge g = s.gauge g) ∧
    ((s.gauge (r.u8 0)).accepted.enable = true ∨ bit (r.u8 2) 0 = false → t.aouts = s.aouts) ∧
    ((s.gauge (r.u8 0)).accepted.enable = false → bit (r.u8 2) 0 = true → (s.aouts.map Prod.fst).Nodup →
      ∀ k, let o : Aout := tget {} s.aouts k
        tget {} t.aouts k = if o.source = r.u8 0 + 1 then { o with driven := o.faultCode } else o) ∧
    Served { s with gauges := t.gauges, counters := t.counters, aouts := t.aouts } t ∧
    ∀ cls unit i, ¬ (cls = 5 ∧ unit = r.u8 0 ∧ i = 5) → ¬ reportCtr cls i → ¬ commandCtr cls i →
      t.ctr cls unit i = s.ctr cls unit i) ∧
  Completes gaugeLinear .gaugeLinear (fun r s t _ =>
    let c := (List.range 12).map fun k => BitVec.ofNat 32 (r.u32 (8 + 4 * k))
    (s.gaugeRuns (r.u8 0) = true → t.gauge (r.u8 0) = { s.gauge (r.u8 0) with coefNext := some c }) ∧
    (s.gaugeRuns (r.u8 0) = false → t.gauge (r.u8 0) = { s.gauge (r.u8 0) with coef := c, coefNext := none }) ∧
    (∀ g, g ≠ r.u8 0 → t.gauge g = s.gauge g) ∧ Served { s with gauges := t.gauges } t) ∧
  Completes gaugeLead .gaugeLead (fun r s t _ => Served { s with gauges := t.gauges } t ∧
    t.gauge (r.u8 0) = { s.gauge (r.u8 0) with
      leadRun := some { cab := r.cab, store := bit (r.u8 1) 0, count := 0, sum := 0, began := s.now } } ∧
    ∀ g, g ≠ r.u8 0 → t.gauge g = s.gauge g) ∧
  Completes gaugeDoc .gaugeDoc (fun r s t _ => Served { s with gauges := t.gauges } t ∧
    t.gauge (r.u8 0) = { s.gauge (r.u8 0) with
      summary := bit (r.u8 1) 0, df := bit (r.u8 1) 1, dfCount := r.u16 2, trim := r.u32 4,
      dfLimit := BitVec.ofNat 32 (r.u32 8) } ∧
    ∀ g, g ≠ r.u8 0 → t.gauge g = s.gauge g) ∧
  Completes gaugeAout .gaugeAout (fun r s t _ => Served { s with aouts := t.aouts } t ∧
    (∃ o : Aout, tget {} t.aouts (r.u8 0) = o ∧ o.source = r.u8 1 ∧ o.code = r.u16 2 ∧ o.faultCode = r.u16 4 ∧
      o.zero = BitVec.ofNat 32 (r.u32 8) ∧ o.span = BitVec.ofNat 32 (r.u32 0x0C) ∧ (r.u8 1 = 0 → o.driven = r.u16 2)) ∧
    ∀ k, k ≠ r.u8 0 → tget {} t.aouts k = tget {} s.aouts k) ∧
  Completes gaugeStatusCmd .gaugeStatus (fun r s t res => Served s t ∧
    res = (s.gauge (r.u8 0)).lastSample ++ leBytes 4 (s.gaugeStatus (r.u8 0)) ++ leBytes 4 (s.gauge (r.u8 0)).zLast ++
      leBytes 4 (s.gauge (r.u8 0)).leadResult ++ leBytes 2 (s.gauge (r.u8 0)).peak ++ leBytes 2 0) ∧
  Completes bufRing .bufRing (fun r s t _ =>
    let g := t.ring r.cab (r.u8 0)
    (bit (r.u8 1) 0 = true → g.enabled = true ∧ g.size = r.u32 4 ∧ g.base = BitVec.ofNat 64 (r.u64 8) ∧
      g.timeout = r.u32 0x10 ∧ g.via = r.m ∧ g.post = 0 ∧ g.ret = 0 ∧ g.opened = none ∧
      g.next = (s.ring r.cab (r.u8 0)).next) ∧
    (bit (r.u8 1) 0 = false →
      let old := s.ring r.cab (r.u8 0)
      (s.ringBlocked old = false → g.enabled = false ∧ g.closing = false ∧ g.post = old.post ∧ g.ret = old.post ∧
        g.opened = none ∧ g.chan = none) ∧
      (s.ringBlocked old = true → g = { old with closing := true, chan := none, waitSince := none }))) ∧
  Completes bufPost .bufPost (fun r s t _ => ∀ c n, n < 16 →
    (t.ring c n).post = (s.ring c n).post + (if c = r.cab ∧ n = r.u8 0 then BitVec.ofNat 32 (r.u32 4) else 0) ∧
    (t.ring c n).ret = (s.ring c n).ret ∧ (t.ring c n).next = (s.ring c n).next ∧
    (t.ring c n).opened = (s.ring c n).opened) ∧
  Completes bufStatus .bufStatus (fun r s t res => Served s t ∧ res.length = 32 ∧
    res.take 16 = leBytes 4 (s.ring r.cab (r.u8 0)).post.toNat ++ leBytes 4 (s.ring r.cab (r.u8 0)).ret.toNat ++
      leBytes 8 (s.ring r.cab (r.u8 0)).next)

/-- The RUN, INV and DIAG families (R32, R132, R260, R534, R540 to R542, R588 to R592, R598, R599): settings stored for the
next device reset, but not while VIN12 lies outside its limits (log 88); requests and posts on the Runner; a snapshot armed, or taken at once; counters, partners and nodes written
to host memory; the discovery; a test begun. -/
def Obligations.RunnerAndInventoryCommands : Prop :=
  Completes runConfig .runConfig (fun r s t _ =>
    t.runNext = (if (s.supply 0).outside then s.runNext else
      { node := some (r.u16 0), priority := r.u8 2, enable := BitVec.ofNat 4 (r.u8 3),
        maxRate := (List.range 4).map fun i => r.u8 (4 + i), retry := r.u32 8, timeout := r.u32 0x0C }) ∧
    t.runCfg.enable = BitVec.ofNat 4 (r.u8 3) ∧ (∀ i, i < 4 → t.runCfg.maxRate.getD i 0 = r.u8 (4 + i)) ∧
    t.runCfg.retry = r.u32 8 ∧ t.runCfg.timeout = r.u32 0x0C) ∧
  Completes runNodes .runNodes (fun r s t res => Served s t ∧ res = leBytes 4 (s.nodeBytes r.cab).length ∧
    (r.m < 256 → s.canWrite r.m = true →
      Out.mem r.m (BitVec.ofNat 64 (r.u64 0)) ((s.nodeBytes r.cab).take (r.u32 8)) ∈ t.outbox)) ∧
  (∀ row ∈ [((.runRead : Fin 257 → Fin 4 → Instr), 0x0A03, true), (.runWrite, 0x0A04, false)],
    Completes (runReadWrite row.2.1 row.2.2) row.1 (fun r s t _ => ∃ q : Request, t.requests = s.requests ++ [q] ∧
      q.dest = r.u16 0 ∧ q.cab = r.cab ∧ q.mbx = r.m ∧ q.tag = r.u16 2 ∧ q.isRead = row.2.2 ∧ q.len = r.u8 4 ∧
      q.sent = s.now ∧ q.dropped = false ∧ q.id < 65536)) ∧
  Completes runPost .runPost (fun r s t _ =>
    tget 0 t.postSent (r.u16 0) = tget 0 s.postSent (r.u16 0) + 1 ∧
    t.posts = s.posts ++ [{ dest := r.u16 0, cab := r.cab, tag := r.u16 2, n := tget 0 s.postSent (r.u16 0) + 1 }] ∧
    (r.cab < 256 → t.ctr 8 r.cab 22 = s.ctr 8 r.cab 22 + 1)) ∧
  Completes invSnap .invSnap (fun r s t res => res = leBytes 2 s.nodeId ++ leBytes 1 (s.snapNext % 256) ∧
    t.snapNext = s.snapNext + 1 ∧ ∃ k, k < 8 ∧ (t.snap k).id = s.snapNext % 256 ∧ (t.snap k).origin = s.nodeId ∧
      (t.snap k).cabinet = r.cab ∧ (t.snap k).chan = r.u8 0 ∧ (∀ j, j ≠ k → t.snap j = s.snap j) ∧
      (t.snap k).phase = if reachedIn (r.u8 1 % 4) (s.chanPos (r.u8 0)) (r.pos 8) then 2 else 1) ∧
  Completes invRead .invRead (fun r s t res => r.u8 1 = 0 → Served s t ∧ ∃ bs, res = leBytes 4 bs.length ∧
    bs.length = 32 + 8 * (if r.u8 0 = 15 then 19 else classCount (r.u8 0)) ∧
    (r.u8 0 ≠ 8 → r.u8 0 ≠ 15 → ∀ k, k < classCount (r.u8 0) →
      fieldU bs (32 + 8 * k) 8 = (s.ctr (r.u8 0) (r.u16 2) k).toNat) ∧
    (r.m < 256 → s.canWrite r.m = true →
      Out.mem r.m (BitVec.ofNat 64 (r.u64 8)) (bs.take (r.u32 0x10)) ∈ t.outbox)) ∧
  Completes invPartners .invPartners (fun r s t res => Served s t ∧ res = leBytes 4 (s.partnersOf r.cab).length ∧
    (r.m < 256 → s.canWrite r.m = true →
      Out.mem r.m (BitVec.ofNat 64 (r.u64 0)) ((s.partnersOf r.cab).take (r.u32 8)) ∈ t.outbox)) ∧
  (∀ found : List Found, Completes (diagDiscover found) (fun m n => .diagDiscover m n found) (fun _ s t _ =>
    t.mode = s.mode ∧ (∀ a, a < 8 → 8000 ≤ (s.supply (1 + a / 2)).mv → if (s.axis a).confirm = true
      then (t.axis a).confirmAt = some (s.now + 50000000) else (t.axis a).lost = true) ∧
    ∀ i, i < 32 → (t.partner 0 i).known = true ∧ (t.partner 0 i).timestamp = s.now ∧
      let f := readingOf found 0 i
      let vref := (readAt f 0 0).toNat % 65536
      ((t.partner 0 i).outcome = 1 ↔ 800 ≤ vref ∧ vref ≤ 2200 ∧
        ∀ tap, tap < 4 → tapResponds (readList f (2 * tap + 1)) (readList f (2 * tap + 2)) = true))) ∧
  Completes diagRun .diagRun (fun r s t _ => Served { s with diag := t.diag } t ∧
    t.diag = some { test := r.u8 0, unit := r.u8 1, arg := BitVec.ofNat 32 (r.u32 4),
                    addr := BitVec.ofNat 64 (r.u64 8), mbx := r.m })

/-- The HB and CAB families and the attestations (R427 to R429, R439, R442, R445, R574 to R578): which pages commit, as far as they
are written by then; a piece of an image; a slot's mark, kept while VIN12 lies outside its limits (log 88); the owner key; a cabinet reset begun; a transport's diversion; the certificate, an
attestation and a reset summary. -/
def Obligations.HerbariumAndCabinetCommands : Prop :=
  Completes hbRead .hbRead (fun r s t res => Served { s with free := t.free } t ∧ res.length = 16 ∧
    (∀ i, i < 128 → bit (leNat res) i = (decide (i < r.u16 4) && s.nvsAsIs.pageCommits (r.u32 0 + i))) ∧
    (s.unwritten = 0 → ∀ i, i < 128 → bit (leNat res) i = (decide (i < r.u16 4) && s.pageCommits (r.u32 0 + i)))) ∧
  Completes (hbWrite true) (fun m n => .hbWrite m n true) (fun r _ t _ =>
    tget 0 t.hbNext (r.u8 0) = r.u32 4 + (r.p.length - 16) ∧
    (r.u32 4 ≠ 0 → ∀ i, 504 * (i + 1) ≤ r.p.length - 16 →
      (t.pageBytes (imageFirst (r.u8 0) + r.u32 4 / 504 + i)).take 504 = ((r.p.drop 16).drop (504 * i)).take 504 ∧
      t.pageCommits (imageFirst (r.u8 0) + r.u32 4 / 504 + i) = true) ∧
    (r.u8 0 ≤ 2 → bit (r.u8 1) 0 = true → (t.fwOf (r.u8 0 - 1)).verifies = true) ∧
    (r.u8 0 ≤ 2 → bit (r.u8 1) 0 = false → r.u32 4 = 0 → (t.fwOf (r.u8 0 - 1)).verifies = false)) ∧
  Completes hbSlot .hbSlot (fun r s t _ => if (s.supply 0).outside then t.fw = s.fw else (t.fwOf (r.u8 0)).mark = r.u8 1 ∧
    (t.fwOf (1 - r.u8 0)).mark = (if r.u8 1 = 2 ∧ (s.fwOf (1 - r.u8 0)).mark = 2 then 0 else (s.fwOf (1 - r.u8 0)).mark)) ∧
  Completes cabEnrol .cabEnrol (fun r s t _ => t.ownerKey = some (r.p.take 64) ∧
    Served { s with ownerKey := t.ownerKey } t) ∧
  Completes cabReset .cabReset (fun r s t _ => (t.cab (r.u8 0)).resets = (s.cab (r.u8 0)).resets + 1 ∧
    (∃ z, (t.cab (r.u8 0)).resetting = some z ∧ z.cause = 1 ∧ z.start = s.now ∧ z.eraseKeys = bit (r.u8 1) 0) ∧
    (∀ j ∈ t.jobs, j.cab ≠ r.u8 0) ∧ (t.cab (r.u8 0)).summary = none ∧ (t.cab (r.u8 0)).scrubbing = true) ∧
  Completes cabDivert .cabDivert (fun r s t _ => Served { s with diverts := t.diverts } t ∧
    tget {} t.diverts (r.u8 0) = { pin := r.u8 1, width := r.u16 2, dist := r.u32 4 } ∧
    ∀ p, p ≠ r.u8 0 → tget {} t.diverts p = tget {} s.diverts p) ∧
  Completes devCert .devCert (fun _ s t res => Served s t ∧ res = leBytes 4 Config.deviceCert.length) ∧
  Completes devAttest .devAttest (fun r s t res => Served { s with free := t.free } t ∧ res = [] ∧
    (r.m < 256 → s.canWrite r.m = true → ∃ body : List Byte, Out.mem r.m (BitVec.ofNat 64 (r.u64 8)) body ∈ t.outbox ∧
      body.length = 160 ∧ body.take 4 = leBytes 4 s.epoch ∧ (body.drop 4).take 4 = leBytes 4 s.charter.gen ∧
      (body.drop 16).take 8 = leBytes 8 Config.deviceUid.toNat ∧ (body.drop 24).take 8 = leBytes 8 (r.u64 0))) ∧
  Completes devResetsum .devResetsum (fun r s t res => Served s t ∧ ∃ bs, (s.cab (r.u8 0)).summary = some bs ∧
    res = leBytes 4 bs.length)

/-! Beds, lamps and calibration in operation (04, 05, 06). -/

/-- LINE_TRIGGER (R90, R122, R126, R184, R549): a trigger that is due moves the accumulator on by the pitch, is counted, and
fits a line of the document, or of the strip read, to the slot that begins next where the crossing to the bed carries it and
that slot is free; otherwise the document's line waits as one never fitted. A trigger that the crossing does not carry is
counted as an overrun there. While a document is in the way, under SPAN one open on the bed and under BACKING one that lies
over it, a strip read takes no line (R185). A trigger that is not due does nothing (the model's own: log 16).
SLOT_START (R113, R120, R121): each slot of a clocked bed is counted and begins now; a line in progress goes on to its
next entry with the samples of the slot just ended.
LINE_RELEASE (R125, R585): the oldest course's next line is counted triggered, and captured or dropped under exactly one
cause, DISCARD for a course that is discarded. -/
def Obligations.LinesScanned : Prop :=
  (∀ (s : State) (b : Fin 4),
   let x := s.bed b
   (∀ kc ∈ s.dueComps, 4 ≤ actionRank kc.2.action) → s.bedClock b = true →
   (s.triggerDue b = true →
     let carried := s.carries (lineCrossing b) 960
     let ov := if carried = true then 0 else 1
     (∀ c : Course, x.course = some c →
       ∃ t, exec (.lineTrigger b) s = .next t ∧ (t.bed b).acc = x.acc + x.pitch.setWidth 80 ∧
         t.ctr 1 b 11 = s.ctr 1 b 11 + 1 ∧ t.ctr 1 b 0 = s.ctr 1 b 0 ∧ (∀ k, k ≠ b.val → t.bed k = s.bed k) ∧
         Told { s with beds := t.beds, docs := t.docs, counters := t.counters, crossings := t.crossings } t ∧
         t.ctr 0x0C (66 + b) 0 = s.ctr 0x0C (66 + b) 0 + ov ∧
         (carried = true → (tget {} t.crossings (lineCrossing b)).last = some s.now) ∧
         (carried = false → (tget {} t.crossings (lineCrossing b)).ovr = true) ∧
         (carried = true → x.fits = true → (t.bed b).fit = some { kind := 0, acc := c.acc, num := c.triggers + 1 } ∧
           (t.bed b).delay = x.delay) ∧
         (carried = false ∨ x.fits = false → (t.bed b).fit = x.fit ∧
           (t.bed b).delay = x.delay ++ [{ num := c.triggers + 1, acc := c.acc }])) ∧
     (∀ r : StripRead, x.course = none → x.read = some r → r.phase = 0 →
       ∃ t, exec (.lineTrigger b) s = .next t ∧ (t.bed b).acc = x.acc + x.pitch.setWidth 80 ∧
         (∀ k, k ≠ b.val → t.bed k = s.bed k) ∧
         Told { s with beds := t.beds, counters := t.counters, crossings := t.crossings } t ∧
         t.ctr 0x0C (66 + b) 0 = s.ctr 0x0C (66 + b) 0 + ov ∧
         ((if x.method = 2 then s.docOpenOn b else s.docs.any fun d => s.covers b d) = false →
           (t.bed b).read = some { r with turn := r.turn + 1 } ∧ t.ctr 1 b 10 = s.ctr 1 b 10 + 1 ∧
           (carried = true → x.fits = true → (t.bed b).fit = some { kind := 2, cab := if s.jobs = [] then 0 else r.cab, num := r.turn }) ∧
           (carried = false ∨ x.fits = false → (t.bed b).fit = x.fit)) ∧
         ((if x.method = 2 then s.docOpenOn b else s.docs.any fun d => s.covers b d) = true →
           (t.bed b).read = some { r with turn := (r.turn + 3) / 4 * 4, cycle := [], bad := false } ∧
           t.ctr 1 b 10 = s.ctr 1 b 10 ∧ (t.bed b).fit = x.fit))) ∧
   (s.triggerDue b = false → exec (.lineTrigger b) s = .next s)) ∧
  (∀ (s : State) (b : Fin 4) (vin : List (List Int)) (reg : BitVec 8) (ball : List Nat),
   let x := s.bed b
   (s.bedClock b = true → s.clkOk (66 + b) = true →
     ∃ t, exec (.slotStart b vin reg ball) s = .next t ∧ t.ctr 1 b 12 = s.ctr 1 b 12 + 1 ∧
       (t.bed b).slotNo = x.slotNo + 1 ∧ (t.bed b).curAt = s.now ∧
       (∀ e : Exposing, x.cur = .line → x.expo = some e → e.entry + 1 < x.seqLen →
         x.seq.getD e.entry 0 ≠ 0 ∨ e.dLine = true →
         (t.bed b).cur = .line ∧ (t.bed b).expo = some { e with
           entry := e.entry + 1, samples := e.samples ++ [x.slotSamples vin], posTaken := true,
           pos := if e.posTaken then e.pos else s.chanPos x.chan, time := if e.posTaken then e.time else s.now })) ∧
   (s.bedClock b = false → exec (.slotStart b vin reg ball) s = .next s)) ∧
  (∀ (s : State) (b : Fin 4) (c : Course),
   let x := s.bed b
   s.mode.p3 = true → (x.delay.find? fun r => r.acc = 0) = none →
   (x.courses.find? fun c => decide (c.decided < c.lines)) = some c →
   (c.discard = true ∨ x.ready c x.graftTable (c.decided + 1) = true →
     ∃ t i, exec (.lineRelease b) s = .next t ∧ 1 ≤ i ∧ i ≤ 7 ∧ t.ctr 1 b 0 = s.ctr 1 b 0 + 1 ∧
       t.ctr 1 b i = s.ctr 1 b i + 1 ∧ (∀ j, 1 ≤ j → j ≤ 7 → j ≠ i → t.ctr 1 b j = s.ctr 1 b j) ∧
       (c.discard = true → i = 3) ∧ t.mode = s.mode ∧ t.axes = s.axes ∧ t.chans = s.chans ∧ t.jobs = s.jobs) ∧
   (c.discard = false → x.ready c x.graftTable (c.decided + 1) = false → exec (.lineRelease b) s = .next s))

/-- TEMP_READ and SINK_OVERTEMP (R156, R157, R162, R163): a reading within range becomes the bed's temperature; any other
sets the temperature fault and keeps it; a sink above 150 degC is latched off HOT and counted.
STRIP_READ_COMPLETE, CAL_RESULT and CAL_RUN_TIMEOUT (R191 to R197, R201): a quick check that fails goes on to full
calibration; the set of an accepted one is stored, and is in force only once it is whole; the bed learns PASS or FAIL, and a
CAL.RUN ends with it. -/
def Obligations.TemperaturesAndReads : Prop :=
  (∀ (s : State) (b : Fin 4) (mohm : Nat), s.mode.p2 = true ∨ s.mode.p3 = true → (s.bed b).tempFixed = false →
   (∀ k, thermistor mohm (s.bed b).bConst = some k → inI (-640) k 2400 = true →
     ∃ t, exec (.tempRead b mohm) s = .next t ∧ (t.bed b).temp = k ∧ (t.bed b).tempFault = false ∧
       Told { s with beds := t.beds } t ∧ ∀ j, j ≠ b.val → t.bed j = s.bed j) ∧
   ((∀ k, thermistor mohm (s.bed b).bConst = some k → inI (-640) k 2400 = false) →
     ∃ t, exec (.tempRead b mohm) s = .next t ∧ (t.bed b).temp = (s.bed b).temp ∧ (t.bed b).tempFault = true ∧
       Told { s with beds := t.beds, docs := t.docs } t ∧ ∀ j, j ≠ b.val → t.bed j = s.bed j)) ∧
  (∀ (s : State) (b : Fin 4) (c : Fin 8) (temp : Int),
   let l := (s.bed b).led c
   (2400 < temp → l.state ≠ 5 →
     let bare : Led → Led := fun q => { q with probeDue := false }
     ∃ t, exec (.sinkOvertemp b c temp) s = .next t ∧
       bare ((t.bed b).led c) = bare { l with sinkTemp := temp, state := 5 } ∧
       ((s.bed b).read = none → (t.bed b).led c = { l with sinkTemp := temp, state := 5 } ∧
         ∀ k, k ≠ c.val → (t.bed b).led k = (s.bed b).led k) ∧
       t.ctr 3 (8 * b + c) 5 = s.ctr 3 (8 * b + c) 5 + 1 ∧
       Told { s with beds := t.beds, docs := t.docs, counters := t.counters, comps := t.comps } t ∧
       (∀ k, (∀ r, (s.bed b).read = some r → r.comp ≠ some k) → t.comp k = s.comp k) ∧
       (∀ k, k ≠ c.val → bare ((t.bed b).led k) = bare ((s.bed b).led k)) ∧ ∀ j, j ≠ b.val → t.bed j = s.bed j) ∧
   (temp ≤ 2400 → ∃ t, exec (.sinkOvertemp b c temp) s = .next t ∧
     (t.bed b).led c = { l with sinkTemp := temp } ∧ ({ t with beds := s.beds } : State) = s)) ∧
  (∀ (s : State) (b : Fin 4) (r : StripRead), (s.bed b).read = some r →
   let x := s.bed b
   let needs := x.refSet.copy == 0 || x.stale || !s.quickPass b r
   (r.phase = 1 → needs = true → ∃ t, exec (.stripReadComplete b) s = .next t ∧
     t.bed b = { x with read := some { r with phase := 2 } } ∧ ({ t with beds := s.beds } : State) = s) ∧
   (r.phase = 1 → needs = false → ∃ t, exec (.stripReadComplete b) s = .next t ∧ (t.bed b).lastRead = 1 ∧
     (t.bed b).read = none ∧ (t.bed b).refSet = x.refSet ∧ t.mode = s.mode) ∧
   (r.phase = 2 → ∃ t, exec (.calResult b) s = .next t ∧ t.mode = s.mode ∧
     if calAccepted x.maxDead (r.allPairs x.deadFrac) = true
     then (t.bed b).read = some { r with phase := 5 } ∧ (t.bed b).refSet = x.refSet ∧ (t.bed b).lastRead = x.lastRead
     else (t.bed b).lastRead = 2 ∧ (r.isRun = true → (t.bed b).read = none)) ∧
   (r.phase = 5 → s.refWhole b 1 = true → s.refWhole b 2 = true → ∃ t, exec (.calResult b) s = .next t ∧
     t.mode = s.mode ∧ (t.bed b).lastRead = 1 ∧ (t.bed b).read = none ∧
     (s.docOpenOn b = false → (t.bed b).refSet = s.bestRef b) ∧ (s.docOpenOn b = true → (t.bed b).refSet = x.refSet)) ∧
   (r.phase = 5 → s.refWhole b 1 = false ∨ s.refWhole b 2 = false → exec (.calResult b) s = .next s) ∧
   (r.phase = 3 → s.mode ≠ .halted → ∃ t, exec (.calResult b) s = .next t ∧ t.mode = s.mode ∧ (t.bed b).lastRead = 2 ∧
     (t.bed b).refSet = x.refSet ∧ (r.isRun = true → (t.bed b).read = none)) ∧
   (∀ d, r.deadline = some d → r.phase = 0 → (d ≤ s.now → r.isRun = true →
     ∃ t, exec (.calRunTimeout b) s = .next t ∧ (t.bed b).lastRead = 2 ∧ (t.bed b).read = none) ∧
     (s.now < d → exec (.calRunTimeout b) s = .next s)))

/-! Axes, coils and pacing in operation (07, 08, 09). -/

/-- SERVO_UPDATE (R206, R213, R224, R229, R236, R245): each update of a clocked axis takes the position computed for it,
in a segment the curve of R213 at the profile time reached; a geared axis aims at its gear's position, and in a P3 mode an aim
beyond VMAX, compared before rounding, halts the device with the axis stopped where it is; bridges that are off stay off, with no duty.
CONFIRMATION and STANDSTILL_DELAY (R240, R256): the encoder confirms the position or it is lost, as it is outside the P3
modes, where no confirmation is made; the hold begins.
OVERCURRENT and BRIDGE_OVERTEMP (R261, R262): the fault is latched and counted, the axis is stopped, its bridges are off,
and the device, in a P3 mode, is HALTED; a die between its limits only warns. -/
def Obligations.AxesRun : Prop :=
  (∀ (s : State) (a : Fin 8) (curA curB : Int) (vm : Nat) (fwA fwB : Int),
   let x := s.axis a
   (s.motClock a = false → exec (.servoUpdate a curA curB vm fwA fwB) s = .next s) ∧
   (s.motClock a = true → ∃ t, exec (.servoUpdate a curA curB vm fwA fwB) s = .next t ∧
     (t.axis a).pos = x.advance.1.pos ∧ (t.axis a).servoAt = s.now ∧ (t.supply (1 + a / 2)).mv = vm ∧
     (s.mode ≠ .halted → t.mode = s.mode →
       (∀ k, k ≠ a.val → t.axis k = s.axis k) ∧ t.beds = s.beds ∧ t.jobs = s.jobs ∧ t.chans = s.chans) ∧
     (x.st = .running → x.ramp = none → x.exc = none → ∀ g rest, x.queue = g :: rest → x.tau + x.eff < g.span →
       (t.axis a).pos = ⌊hermite x.p0 x.v0 g ((x.tau + x.eff : Nat) : ℚ)⌋) ∧
     (s.bridgesOn a = false → (t.axis a).off = true ∧ (t.axis a).h = 0 ∧ (t.axis a).phA.duty = 0 ∧
       (t.axis a).phB.duty = 0) ∧
     (∀ g, x.st = .geared → x.exc = none → x.ramp = none → x.gear = some g → g.blend = none → g.due = [] →
       ((s.chan g.master).source = .axis → (s.chan g.master).unit ≠ a) →
       let aim := g.posAt (s.chanPos g.master)
       let v := |g.exactAt (s.chanPos g.master) - exactOf x.posNext x.exactNext| * 40000
       (t.axis a).pos = x.posNext ∧
       (v ≤ x.vmax → (aim = x.posNext ∨ (x.limLo ≤ aim ∧ aim ≤ x.limHi)) → x.confirm = false →
         x.phA.window.length < 63 → x.phB.window.length < 63 → (t.axis a).posNext = aim) ∧
       ((x.vmax : ℚ) < v → x.role ≠ 0 → s.mode.p3 = true →
         t.mode = .halted ∧ t.haltCauses.getLsbD 3 = true ∧ (t.axis a).st = .stopped ∧ (t.axis a).stopOff = true ∧
           (t.axis a).posNext = x.posNext)))) ∧
  (∀ (s : State) (a : Fin 8) (k : Nat), (s.axis a).confirmAt = some k →
   (s.now < k → exec (.confirmation a) s = .next s) ∧
   (k ≤ s.now → s.mode.p3 = false ∨ s.motClock a = true → ∃ t, exec (.confirmation a) s = .next t ∧
     (t.axis a).confirmAt = none ∧ Told { s with axes := t.axes, counters := t.counters } t ∧
     (∀ j, j ≠ a.val → t.axis j = s.axis j) ∧
     (s.mode.p3 = false → (t.axis a).lost = true) ∧
     (s.mode.p3 = true → (t.axis a).confirmed = s.confirms a ∧
       (s.confirms a = true → (t.axis a).lost = (s.axis a).lost) ∧
       (s.confirms a = false → (t.axis a).lost = true)))) ∧
  (∀ (s : State) (a : Fin 8), s.motClock a = true → s.bridgesOn a = true → (s.axis a).holdRamp = false →
   40 * (s.axis a).delay ≤ (s.axis a).standing →
   ∃ t, exec (.standstillDelay a) s = .next t ∧ t.axis a = { s.axis a with holding := true } ∧
     ({ t with axes := s.axes } : State) = s) ∧
  (∀ (s : State) (a : Fin 8) (sw : BitVec 8), s.motClock a = true → s.bridgesOn a = true → sw ≠ 0 →
   ∃ t, exec (.overcurrent a sw) s = .next t ∧ t.ctr 4 a 5 = s.ctr 4 a 5 + 1 ∧
     (t.axis a).phA.trip = ((s.axis a).phA.trip || sw.extractLsb' 0 4 != 0) ∧
     (t.axis a).phB.trip = ((s.axis a).phB.trip || sw.extractLsb' 4 4 != 0) ∧
     (t.axis a).st = .stopped ∧ (t.axis a).queue = [] ∧ (t.axis a).stopOff = true ∧ (t.axis a).pos = (s.axis a).pos ∧
     t.mode = .halted ∧ t.haltCauses.getLsbD 3 = true) ∧
  (∀ (s : State) (a : Fin 8) (temp : Int), s.motClock a = true →
   (temp ≤ 2000 → ∃ t, exec (.bridgeOvertemp a temp) s = .next t ∧ t.mode = s.mode ∧
     t.axis a = { s.axis a with
       dieTemp := temp, warm := if 1840 < temp then true else if temp < 1680 then false else (s.axis a).warm }) ∧
   (2000 < temp → (s.axis a).hot = false → (s.axis a).role ≠ 0 → s.mode.p3 = true →
     ∃ t, exec (.bridgeOvertemp a temp) s = .next t ∧ (t.axis a).hot = true ∧ t.ctr 4 a 6 = s.ctr 4 a 6 + 1 ∧
       (t.axis a).st = .stopped ∧ (t.axis a).stopOff = true ∧ t.mode = .halted ∧ t.haltCauses.getLsbD 3 = true))

/-- PACING_EVALUATION (R269, R271, R276, R280): each configured stream's HOLD and PAUSE follow its fill against its marks;
an axis of a pliant RATE group that is not paused takes the least r of its governing streams; one that is to pause and is
not refused has PACE 0.
PAUSE_RESTED, BACKUP_END and EXCURSION_END (R228, R280, R281, R285): the pause backs up with its gates shut, in PAUSED;
rests behind or approaches at once; passes on at the override it had, with its gates shut until they open.
PREROLL_TRIGGER and PAUSE_RESUMED (R282 to R284): a pre-roll line is fitted and counted; the gate opens where the velocity
fits, and otherwise the approach is planned again while attempts are left. -/
def Obligations.PausesRun : Prop :=
  (∀ (s : State), s.clkOk 3 = true → s.mode ≠ .dormant →
   ∃ t, exec .pacingEvaluation s = .next t ∧
     (∀ c n, n < 16 →
       let x := s.stream c n
       t.stream c n = if x.kind = 0 then x else { x with
         hold := if x.holdMark ≤ x.fill then true else if x.fill ≤ x.releaseMark then false else x.hold,
         pause := if x.pauseMark ≤ x.fill then true else if x.fill ≤ x.releaseMark then false else x.pause }) ∧
     (∀ g a, g < 16 → a ∈ s.groupAxes g → s.mode ≠ .keep → (s.group g).phase = 0 →
       let u := { s with streams := t.streams }
       (u.groupPaused g = false → s.pliant g = true → (s.axis (s.groupLead g)).pRate = true →
         (t.axis a).pace = (u.governing g).foldl (fun m x => min m (x.rateValue (s.axis (s.groupLead g)).minRate)) 10000) ∧
       (u.groupPaused g = true → u.refusalsOf g = [] → s.mode.p3 = true → s.mode ≠ .halted →
         (t.axis a).pace = 0 ∧ (t.axis a).k0 = (s.axis a).eff ∧ (t.group g).phase = 1))) ∧
  (∀ (s : State) (g : Fin 16), s.groupAxes g ≠ [] →
   ((s.group g).phase = 1 → (∀ a ∈ s.groupAxes g, (s.axis a).resting = true) →
     (s.allStopped g = true → ∃ t, exec (.pauseRested g) s = .next t ∧ (t.group g).phase = 7 ∧
       ({ t with groups := s.groups } : State) = s) ∧
     (s.allStopped g = false → ∃ t, exec (.pauseRested g) s = .next t ∧ (t.group g).phase = 2 ∧
       (∀ b ∈ groupBeds g, (t.bed b).gateShut = (s.bed b).accOn) ∧
       (s.mode = .capture → t.mode = .paused) ∧ (s.mode ≠ .capture → t.mode = s.mode))) ∧
   ((s.group g).phase = 1 → (∃ a ∈ s.groupAxes g, (s.axis a).resting = false) →
     exec (.pauseRested g) s = .next s)) ∧
  (∀ (s : State) (g : Fin 16), (s.group g).phase = 2 →
   (∀ a ∈ s.groupAxes g, ∀ e, (s.axis a).exc = some e → 0 ≤ e.t ∧ e.tb2 ≤ e.t ^ 2) →
   ∃ t, exec (.backupEnd g) s = .next t ∧
     Told { s with groups := t.groups, axes := t.axes, beds := t.beds } t ∧
     (t.group g).phase = (if (s.group g).released || !s.groupPaused g then 4 else 3)) ∧
  (∀ (s : State) (g : Fin 16), (s.group g).phase = 4 →
   (∀ a ∈ s.groupAxes g, ∀ e, (s.axis a).exc = some e → 0 ≤ e.t ∧ e.reach ≤ e.t) →
   ∃ t, exec (.excursionEnd g) s = .next t ∧ (t.group g).phase = (if s.gatesOpen g then 0 else 6) ∧
     (∀ b, { t.bed b with inExcursion := false } = { s.bed b with inExcursion := false }) ∧
     (s.gatesOpen g = true → ∀ b ∈ groupBeds g, (t.bed b).inExcursion = false) ∧
     (s.gatesOpen g = false → t.beds = s.beds) ∧ t.docs = s.docs ∧ t.jobs = s.jobs ∧
     ∀ a ∈ s.groupAxes g, (s.axis a).exc ≠ none → (t.axis a).eff = (s.axis a).k0) ∧
  (∀ (s : State) (b : Fin 4) (k : Nat),
   let x := s.bed b
   x.prerollNext = k + 1 → x.gateShut = true → s.bedClock b = true → s.approachOf b ≠ none →
   reachedFwd (s.chanPos x.chan) ((x.acc - x.pitch.setWidth 80 * BitVec.ofNat 80 (k + 1)).extractLsb' 16 64) = true →
   ∃ t, exec (.prerollTrigger b) s = .next t ∧ (t.bed b).prerollNext = k ∧ (t.bed b).acc = x.acc ∧
     Told { s with beds := t.beds, docs := t.docs, counters := t.counters } t ∧ (∀ j, j ≠ b.val → t.bed j = s.bed j) ∧
     (∀ c, x.course = some c → x.fits = true → (t.bed b).fit = some { kind := 1, acc := c.acc } ∧
       t.ctr 1 b 9 = s.ctr 1 b 9 + 1) ∧
     (x.course = none → x.fits = true → (t.bed b).fit = some { kind := 1 } ∧ t.ctr 1 b 9 = s.ctr 1 b 9 + 1) ∧
     (x.fits = false → (t.bed b).fit = x.fit)) ∧
  (∀ (s : State) (b : Fin 4) (g : Nat),
   let x := s.bed b
   s.approachOf b = some g → x.gateShut = true → s.bedClock b = true →
   reachedFwd (s.chanPos x.chan) (x.acc.extractLsb' 16 64) = true →
   (s.seamless b = true → ∃ t, exec (.pauseResumed b) s = .next t ∧ (t.bed b).gateShut = false ∧
     (t.bed b).inExcursion = false ∧ (t.bed b).prerollNext = 0) ∧
   (s.seamless b = false → (s.group g).replans < (s.axis (s.groupLead g)).replans →
     ∃ t, exec (.pauseResumed b) s = .next t ∧ t.mode = s.mode ∧ (t.group g).phase = 5 ∧
       (t.group g).replans = (s.group g).replans + 1 ∧ (t.bed b).gateShut = true))

/-! Gauge channels in operation (10). -/

/-- GAUGE_SAMPLE (R293, R296 to R303, R306, R307, R326): an output period that has ended gives one sample, formed from its
modulator cycles, with its index, its INVALID, BLANKED and zero-run flags and its value; the chain goes on; the runs count down; an output that follows a clipped channel drives its fault
code, and one that follows another keeps its code.
GAUGE_RESET (R301, R304, R549): of the events that crossed one restarts the channel, its
filters cleared, and the others are counted; on a channel that is not enabled they have no effect.
GAUGE_CHECK_DUE, GAUGE_CHECK_END and GAUGE_LEAD_DONE (R305, R310 to R312, R315): a tone begins and blanks its channel, or
waits for the gap; it ends with the faults judged; the lead is the mean of 100 samples.
BLANK_INPUT_CHANGE (R291): the input, and since when the cycles of each channel are blanked. -/
def Obligations.GaugesRun : Prop :=
  (∀ (s : State) (c : Fin 8) (cycles : List ModCycle),
   let x := s.gauge c
   let p := x.formed cycles
   let blanked := x.blankSeen (x.began + x.period)
   s.gaugeRuns c = true →
   (64 * s.now < x.began + x.period → exec (.gaugeSample c cycles) s = .next s) ∧
   (x.began + x.period ≤ 64 * s.now →
     ∃ t, exec (.gaugeSample c cycles) s = .next t ∧ t.mode = s.mode ∧ t.beds = s.beds ∧
       t.axes = s.axes ∧ (∀ k, k ≠ c.val → t.gauge k = s.gauge k) ∧
       (t.gauge c).index = (x.index + 1) % 2 ^ 32 ∧ (t.gauge c).began = x.began + x.period ∧
       (t.gauge c).chain = x.filtered cycles ∧
       (x.next = none → (t.gauge c).invalidLeft = x.invalidLeft - 1) ∧ (t.gauge c).zeroLeft = x.zeroLeft - 1 ∧
       t.ctr 5 c 0 = s.ctr 5 c 0 + 1 ∧ t.ctr 5 c 1 = s.ctr 5 c 1 + (if 0 < x.invalidLeft then 1 else 0) ∧
       (let bs := (t.gauge c).lastSample
        bs.length = 32 ∧ fieldU bs 0 4 = (x.index + 1) % 2 ^ 32 ∧ fieldU bs 6 1 = c ∧
        bit (fieldU bs 4 2) 0 = decide (0 < x.invalidLeft) ∧ bit (fieldU bs 4 2) 1 = blanked ∧
        bit (fieldU bs 4 2) 5 = decide (0 < x.zeroLeft) ∧
        fieldU bs 8 4 = (if 0 < x.zeroLeft then 0 else if blanked = true then x.lastValue.toNat
          else (gaugeValue x.coef (s.gaugeTemp c) (x.ratio p)).toNat)) ∧
       ∀ k, let o : Aout := tget {} s.aouts k
         (o.source ≠ c + 1 → tget {} t.aouts k = o) ∧
         (o.source = c + 1 → p.clipped = true → tget {} t.aouts k = { o with driven := o.faultCode }))) ∧
  (∀ (s : State) (c : Fin 8) (ready : List Nat),
   let x := s.gauge c
   (x.resets.filter fun k => decide (6250 ≤ 32 * (s.now - k))) = ready → ready ≠ [] → s.gaugeRuns c = true →
   ((∀ k, (tget ({} : Crossing) s.crossings c).last = some k → 9375 ≤ 32 * (s.now - k)) →
     ∃ t, exec (.gaugeReset c) s = .next t ∧ (t.gauge c).index = 0 ∧ (t.gauge c).began = 64 * s.now ∧
       (t.gauge c).invalidLeft = 5 ∧ (t.gauge c).zeroLeft = 5 ∧ (t.gauge c).chain = { held := x.chain.held } ∧
       (t.gauge c).cfg = x.next.getD x.cfg ∧ (t.gauge c).resets = x.resets.drop ready.length ∧
       t.ctr 0x0C 90 0 = s.ctr 0x0C 90 0 + BitVec.ofNat 48 (ready.length - 1) ∧ (∀ k, k ≠ c.val → t.gauge k = s.gauge k) ∧
       ({ t with gauges := s.gauges, crossings := s.crossings, counters := s.counters } : State) = s) ∧
   (∀ k, (tget ({} : Crossing) s.crossings c).last = some k → 32 * (s.now - k) < 9375 →
     ∃ t, exec (.gaugeReset c) s = .next t ∧
       t.gauge c = { x with resets := x.resets.drop ready.length } ∧
       t.ctr 0x0C 90 0 = s.ctr 0x0C 90 0 + BitVec.ofNat 48 ready.length)) ∧
  (∀ (s : State) (c : Fin 8),
   let ready := (s.gauge c).resets.filter fun k => decide (6250 ≤ 32 * (s.now - k))
   s.mode.p3 = true → (s.gauge c).cfg.enable = false →
   ∃ t, exec (.gaugeReset c) s = .next t ∧
     t.gauge c = { s.gauge c with resets := (s.gauge c).resets.drop ready.length } ∧
     (∀ k, k ≠ c.val → t.gauge k = s.gauge k) ∧ ({ t with gauges := s.gauges } : State) = s) ∧
  (∀ (s : State) (c : Fin 8),
   let x := s.gauge c
   let waits := x.cfg.toneInGap && decide (x.cfg.bed < 4) && s.docOpenOn x.cfg.bed
   s.gaugeRuns c = true → x.cfg.tonePeriod ≠ 0 → x.checking = false →
   (∀ k, x.checkBegan = some k → k + x.cfg.tonePeriod * 1000000 ≤ s.now) →
   (waits = false → ∃ t, exec (.gaugeCheckDue c) s = .next t ∧
     t.gauge c = { x.exciteAt (64 * s.now) x.cfg.toneFreq with
       checking := true, checkBegan := some s.now, blanks := noteBlanks s.now (some none) x.blanks } ∧
     (∀ k, k < 8 → k ≠ c.val → t.gauge k = if (s.gauge k).cfg.enable then
       { s.gauge k with blanks := noteBlanks s.now (t.blankState k) (s.gauge k).blanks } else s.gauge k) ∧
     (∀ k, k < 8 → (s.gauge k).cfg.toneBlank.getLsbD c = true → t.blankState k = some none) ∧
     ({ t with gauges := s.gauges } : State) = s) ∧
   (waits = true → exec (.gaugeCheckDue c) s = .next s)) ∧
  (∀ (s : State) (c : Fin 8) (cycles : List ModCycle) (k : Nat),
   let x := s.gauge c
   let p := x.toneFormed (64 * s.now) cycles
   x.checkBegan = some k → s.gaugeRuns c = true → x.checking = true → k + x.cfg.toneLen * 1000 ≤ s.now →
   ∃ t, exec (.gaugeCheckEnd c cycles) s = .next t ∧ (t.gauge c).checking = false ∧
     (t.gauge c).blankUntil = s.now + 100000 ∧ (t.gauge c).verified = true ∧ (t.gauge c).limit = p.clipped ∧
     (∀ z, x.impedance p = some z → (t.gauge c).short = decide (z < (x.cfg.zMin : ℚ) ^ 2)) ∧
     t.ctr 5 c 4 = s.ctr 5 c 4 + 1 ∧ Told { s with gauges := t.gauges, counters := t.counters } t) ∧
  (∀ (s : State) (c : Fin 8) (r : LeadRun),
   let x := s.gauge c
   x.leadRun = some r →
   (100 ≤ r.count → ∃ t, exec (.gaugeLeadDone c) s = .next t ∧ (t.gauge c).leadRun = none ∧
     (t.gauge c).leadResult = ⌊r.sum / r.count + 1 / 2⌋.toNat ∧
     (t.gauge c).cfg.lead = (if r.store then ⌊r.sum / r.count + 1 / 2⌋.toNat else x.cfg.lead)) ∧
   (r.count < 100 → r.began + 1000000000 ≤ s.now → ∃ t, exec (.gaugeLeadDone c) s = .next t ∧
     t.gauge c = { x with leadRun := none } ∧ Told { s with gauges := t.gauges } t) ∧
   (r.count < 100 → s.now < r.began + 1000000000 → exec (.gaugeLeadDone c) s = .next s)) ∧
  (∀ (s : State) (n : Fin 2) (high : Bool),
   let u := { s with blank := if high then s.blank ||| 1#2 <<< n.val else s.blank &&& ~~~(1#2 <<< n.val) }
   ∃ t, exec (.blankInputChange n high) s = .next t ∧ ({ t with gauges := s.gauges } : State) = u ∧
     ∀ c, c < 8 → t.gauge c = if (s.gauge c).cfg.enable then
       { s.gauge c with blanks := noteBlanks s.now (u.blankState c) (s.gauge c).blanks } else s.gauge c)

/-! Documents in the transport (13). -/

/-- LEADING_EDGE and TRAILING_EDGE (R17, R389, R390, R392, R394, Table DO-3): the rising sensor opens a record at the
position the edge is dated, of the job current there, or refused with NO_JOB where there is none; the falling one gives the
trailing position.
EXIT_SENSOR_CHANGE and JAM (R389, R391): the sensor's level, and the documents that have left by it; a check that finds a
jam halts the device.
RECORD_CLOSE and DELIVERY_NOTE (R388, R395, R400, R414): the oldest document that may close is counted closed, its record
sealed; the note of a document whose items are all delivered is written, or waits for room.
FEED_DECISION (R387, R389, R436): the document of a current FLATBED job that nothing holds back is fed, at the
position at which its job became current, its trailing edge known; the job chosen becomes current with a new turn, the channel's
position noted, or is refused and gone. -/
def Obligations.DocumentsFed : Prop :=
  (∀ (s : State) (p : Fin 16), s.gpioIn.getLsbD p = false → s.mode.senses = true →
   (s.jobOnPin p = none → s.freeCurators ≠ [] →
     ∃ t d, exec (.leadingEdge p) s = .next t ∧ t.gpioIn = s.gpioIn ||| 1#16 <<< p.val ∧ t.accSeq = s.accSeq + 1 ∧
       t.docs = ({ s with gpioIn := t.gpioIn } : State).noteLeft.docs ++ [d] ∧ d.acc = s.nextAccession ∧ d.cab = 0 ∧ d.start = s.chanPos (s.chanOfPin p) ∧
       d.refusedDoc = true ∧ d.flags = 0x80 ∧ d.record = none ∧ (t.cab 0).opened = (s.cab 0).opened + 1 ∧
       t.ctr 8 0 18 = s.ctr 8 0 18 + 1 ∧ t.mode = s.mode) ∧
   (∀ j, s.jobOnPin p = some j → s.cannotTake (some j) = none → 6 ≤ s.freeCurators.length → j.cab < 256 →
     (∀ k ∈ s.jobs, k.flatbed = false) →
     ∃ t, exec (.leadingEdge p) s = .next t ∧ t.gpioIn = s.gpioIn ||| 1#16 <<< p.val ∧ t.accSeq = s.accSeq + 1 ∧
       (∃ d ∈ t.docs, d.acc = s.nextAccession ∧ d.cab = j.cab ∧ d.start = s.chanPos j.chan ∧ d.refusedDoc = false ∧
         d.entryGpio = p ∧ d.tail = none ∧ d.record = none) ∧
       (t.cab j.cab).opened = (s.cab j.cab).opened + 1 ∧ t.ctr 8 j.cab 18 = s.ctr 8 j.cab 18 + 1 ∧ t.mode = s.mode)) ∧
  (∀ (s : State) (p : Fin 16), s.gpioIn.getLsbD p = true →
   (∀ d, s.entering p = some d →
     ∃ t, exec (.trailingEdge p) s = .next t ∧ t.gpioIn = s.gpioIn &&& ~~~(1#16 <<< p.val) ∧
       (t.docs = s.docs.map fun e => if e.acc = d.acc then { e with tail := some (s.chanPos d.chan) } else e) ∧
       t.jobs = s.jobs ∧ t.mode = s.mode ∧ t.counters = s.counters) ∧
   (s.entering p = none →
     exec (.trailingEdge p) s = .next { s with gpioIn := s.gpioIn &&& ~~~(1#16 <<< p.val) })) ∧
  (∀ (s : State) (p : Fin 16) (high : Bool),
   let u := { s with gpioIn := if high then s.gpioIn ||| 1#16 <<< p.val else s.gpioIn &&& ~~~(1#16 <<< p.val) }
   exec (.exitSensorChange p high) s = .next { u with
     docs := u.docs.map fun d => if d.inTransport && u.docLeft d then { d with inTransport := false } else d }) ∧
  (∀ (s : State),
   (∀ k (x : Cmp) acc d, (k, x) ∈ s.dueComps → x.action = 0 → x.use = .frame acc → s.doc acc = some d →
     s.jammed d = true → s.mode.p3 = true →
     ∃ t, exec .jam s = .next t ∧ t.mode = .halted ∧ t.haltCauses.getLsbD 2 = true) ∧
   ((∀ k (x : Cmp) acc d, (k, x) ∈ s.dueComps → x.action = 0 → x.use = .frame acc → s.doc acc = some d →
     s.jammed d = false) → exec .jam s = .next s)) ∧
  (∀ (s : State),
   let u := s.noteLeft
   (∀ d, (u.docs.find? fun d => u.closable d) = some d → u.doc d.acc = some d → d.cab < 256 →
     ∃ t, exec .recordClose s = .next t ∧ t.mode = s.mode ∧ (t.cab d.cab).closed = (s.cab d.cab).closed + 1 ∧
       (t.cab d.cab).capSeq = (s.cab d.cab).capSeq + 1 ∧ t.ctr 8 d.cab 19 = s.ctr 8 d.cab 19 + 1 ∧
       ∀ e ∈ t.docs, e.acc = d.acc → e.record ≠ none ∧ e.inTransport = false) ∧
   ((∀ d ∈ u.docs, u.closable d = false) → exec .recordClose s = .next u)) ∧
  (∀ (s : State),
   (∀ d, (s.docs.find? fun d => s.delivered d) = some d → tget [] s.waiting d.cab = [] → d.cab < 256 →
     ∃ t, exec .deliveryNote s = .next t ∧ t.mode = s.mode ∧
       (((∀ e ∈ t.docs, e.acc ≠ d.acc) ∧ (t.cab d.cab).noted = (s.cab d.cab).noted + 1 ∧
           t.ctr 8 d.cab 20 = s.ctr 8 d.cab 20 + 1) ∨
        ((∀ e ∈ t.docs, e.acc = d.acc → e.noted = true) ∧ (t.cab d.cab).noted = (s.cab d.cab).noted ∧
           tget [] t.waiting d.cab = [{ acc := d.acc, isNote := true }]))) ∧
   ((∀ d ∈ s.docs, s.delivered d = false) → exec .deliveryNote s = .next s)) ∧
  (∀ (s : State) (b : Fin 4),
   let u := s.reBacklog
   let flat := u.jobs.filter fun j => j.current && j.bedMask.getLsbD b
   let v := forEach flat (fun j s => s.feedFlat j) u
   let on (k : Job) : Bool := (s.jobs.filter fun j => j.bedMask.getLsbD b).any fun j => shares j k
   (s.mode.feeds = false → exec (.feedDecision b) s = .next s) ∧
   (s.mode.feeds = true → v.choose on = none → exec (.feedDecision b) s = .next v ∧
     ∀ j, flat = [j] → j.flatbed = true → j.fed = 0 → u.feedHeld j = false → 5 ≤ s.freeCurators.length →
       ∃ d ∈ v.docs, d.acc = s.nextAccession ∧ d.cab = j.cab ∧ d.refusedDoc = false ∧ d.start = j.flatE ∧
         d.tail = some (j.flatE + ticks j.maxLen) ∧ d.record = none ∧ v.mode = s.mode ∧
         (v.cab j.cab).opened = (s.cab j.cab).opened + 1) ∧
   (∀ j, s.mode.feeds = true → v.choose on = some j → j.flatbed = false →
     (v.refusal j = none → ∃ t, exec (.feedDecision b) s = .next t ∧ t.mode = v.mode ∧
       ∃ k ∈ t.jobs, k.cab = j.cab ∧ k.id = j.id ∧ k.current = true ∧ k.turn = 0 ∧ k.flatE = v.chanPos j.chan) ∧
     (∀ order, v.refusal j = some order → (∀ k ∈ s.jobs, k.flatbed = false) →
       ∃ t, exec (.feedDecision b) s = .next t ∧ t.mode = s.mode ∧ ∀ k ∈ t.jobs, ¬ (k.cab = j.cab ∧ k.id = j.id))))

/-! Descriptors, cabinet resets and diagnostics in operation (14, 16, 20). -/

/-- DESCRIPTOR_FETCH and DESCRIPTOR_FETCH_FAIL (R481, R482, R485, R494): a descriptor that passes its checks is open where
the stream stands; one that fails returns BAD with its cause; a failed read is made once more, and the second failure returns it BAD.
DESCRIPTOR_FILL and DESCRIPTOR_TIMEOUT (R483, R486): a descriptor whose bytes are there and have slots is filled to its
LENGTH and returns DONE; one that has waited TIMEOUT returns SHORT.
PROBE_COMPLETE (R57, R492): a page is confirmed, or the descriptor returns BAD; in KEEP a page is confirmed, and nothing is
returned. -/
def Obligations.DescriptorsServed : Prop :=
  (∀ (s : State) (c : Fin 256) (n : Fin 16) (bytes : List Byte),
   let a := s.assignChannels
   let g := s.ring c n
   let bs := padTo 32 bytes
   (a.wantsDesc c n = false → exec (.descriptorFetch c n none) s = .next a ∧
     exec (.descriptorFetch c n (some bytes)) s = .next a ∧ exec (.descriptorFetchFail c n) s = .next a) ∧
   (a.wantsDesc c n = true → g.via ≠ 256 →
     (descCheck bs g.next = none →
       ∃ t, exec (.descriptorFetch c n (some bytes)) s = .next t ∧ Out.memRead g.via (g.descAddr g.ret) 32 ∈ t.outbox ∧
         (t.ring c n).opened = some { descOf bs with first := g.next, lastByte := s.now } ∧
         (t.ring c n).ret = g.ret ∧ (t.ring c n).next = g.next ∧
         Told { s with rings := t.rings } t) ∧
     (∀ cause, descCheck bs g.next = some cause →
       ∃ t, exec (.descriptorFetch c n (some bytes)) s = .next t ∧ (t.ring c n).opened = none ∧ (t.ring c n).ret = g.ret + 1 ∧
         (t.ring c n).next = g.next ∧ t.ctr 9 (16 * c + n) 5 = s.ctr 9 (16 * c + n) 5 + 1 ∧
         Out.mem g.via (g.descAddr g.ret + 0x18) (leBytes 4 (3 * 2 ^ 28 + cause * 2 ^ 24)) ∈ t.outbox) ∧
     (∃ t, exec (.descriptorFetchFail c n) s = .next t ∧ (t.ring c n).opened = none ∧
       (t.ring c n).ret = g.ret + 1 ∧ t.ctr 9 (16 * c + n) 5 = s.ctr 9 (16 * c + n) 5 + 1 ∧
       t.ctr 0x0B 0 4 = s.ctr 0x0B 0 4 + (if g.fetchTried = true then 1 else 2)) ∧
     (g.fetchTried = true → exec (.descriptorFetch c n none) s = exec (.descriptorFetchFail c n) s) ∧
     (g.fetchTried = false →
       ∃ t, exec (.descriptorFetch c n none) s = .next t ∧
         t.ring c n = { a.ring c n with fetchTried := true } ∧ t.ctr 0x0B 0 4 = s.ctr 0x0B 0 4 + 1 ∧
         Told { s with rings := t.rings, counters := t.counters } t))) ∧
  (∀ (s : State) (c : Fin 256) (n : Fin 16) (d : Desc),
   let a := s.assignChannels
   let g := s.ring c n
   g.opened = some d → d.ending = none → d.verify = false → d.item = false → d.doc = false →
   (a.ringServed c n = true → (a.ring c n).chan ≠ none → (s.stream c n).badBlocks = [] →
     g.next = d.first + d.taken → d.taken ≤ d.length → d.first + d.length ≤ (s.stream c n).written →
     d.length - d.taken ≤ a.round.slotsLeft c →
     ∃ t, exec (.descriptorFill c n) s = .next t ∧ (t.ring c n).opened = none ∧ (t.ring c n).ret = g.ret + 1 ∧
       (t.ring c n).next = d.first + d.length ∧ t.ctr 9 (16 * c + n) 3 = s.ctr 9 (16 * c + n) 3 + 1 ∧
       (g.via ≠ 256 →
         Out.mem g.via (g.descAddr g.ret + 0x18) (leBytes 4 (2 ^ 28 + d.length)) ∈ t.outbox)) ∧
   (s.ringServed c n = true → g.timeout ≠ 0 → 0 < d.taken →
     (d.lastByte + g.timeout * 1000 ≤ s.now →
       ∃ t, exec (.descriptorTimeout c n) s = .next t ∧ (t.ring c n).opened = none ∧ (t.ring c n).ret = g.ret + 1 ∧
         (t.ring c n).next = g.next ∧ t.ctr 9 (16 * c + n) 4 = s.ctr 9 (16 * c + n) 4 + 1) ∧
     (s.now < d.lastByte + g.timeout * 1000 → exec (.descriptorTimeout c n) s = .next s))) ∧
  (∀ (s : State) (c : Fin 256) (n : Fin 16) (d : Desc) (i : Nat) (rest : List Nat),
   let g := s.ring c n
   s.ringServed c n = true → g.via ≠ 256 → g.opened = some d → d.probes = i :: rest → d.ending = none →
   (∀ j ∈ rest, i < j) →
   (d.taken < d.pageStart (d.probed + 1) → d.taken ≠ d.length →
     ∃ t, exec (.probeComplete c n true) s = .next t ∧ (t.ring c n).opened = some { d with probes := rest } ∧
       (t.ring c n).ret = g.ret ∧ (t.ring c n).next = g.next) ∧
   (∃ t, exec (.probeComplete c n false) s = .next t ∧ (t.ring c n).opened = none ∧ (t.ring c n).ret = g.ret + 1 ∧
     t.ctr 9 (16 * c + n) 5 = s.ctr 9 (16 * c + n) 5 + 1 ∧ t.ctr 0x0B 0 3 = s.ctr 0x0B 0 3 + 1)) ∧
  (∀ (s : State) (c : Fin 256) (n : Fin 16) (d : Desc) (i : Nat) (rest : List Nat),
   let g := s.ring c n
   s.mode = .keep → g.enabled = true → (s.cab c).resetting = none → g.via ≠ 256 → g.opened = some d →
   d.probes = i :: rest → (∀ j ∈ rest, i < j) →
   ∃ t, exec (.probeComplete c n true) s = .next t ∧ t.ring c n = { g with opened := some { d with probes := rest } } ∧
     ({ t with rings := s.rings } : State) = s)

/-- CABINET_RESET (R440, R444, R458): the summary is there, and the cabinet's mailboxes are open with every slot FREE and
every response zero, but for a slot whose accepted command hangs (R554).
WINDOW_SCRUB_END (R443): the whole window reads zero, and no other byte of DRAM changes.
DIAG_DONE (R260, R598): the result is written and no test is in progress, unless the test hangs in a domain
whose clock has failed (R554); COIL costs the axis its position, or with CONFIRM leaves that to the confirmation
50 ms later. -/
def Obligations.ResetsAndDiagnosticsEnd : Prop :=
  (∀ (s : State) (c : Fin 256),
   ((s.cab c).resetting = none → exec (.cabinetReset c) s = .next s) ∧
   (∀ z, (s.cab c).resetting = some z →
     ∃ t bs, exec (.cabinetReset c) s = .next t ∧ (t.cab c).resetting = none ∧ (t.cab c).summary = some bs ∧
       bs.take 4 = leBytes 4 (64 + 16 * z.entries.length + 8 * z.orphans.length) ∧
       (bs.drop 4).take 1 = leBytes 1 z.cause ∧ (bs.drop 6).take 1 = leBytes 1 c ∧
       (bs.drop 8).take 4 = leBytes 4 s.epoch ∧ t.mode = s.mode ∧
       (∀ m, m < 257 → s.cabOfMbx m = some c.val → (t.mbx m).stray = false ∧ ∀ n,
         (∀ h, s.hung = some h → h.key ≠ 4 * m + n) → (t.slot m n).posted = false ∧ (t.slot m n).done = false ∧
           (t.slot m n).response = List.replicate 32 0) ∧
       ∀ m, m < 257 → s.cabOfMbx m ≠ some c.val → (t.mbx m).unpended = (s.mbx m).unpended)) ∧
  (∀ (s : State) (c : Fin 256),
   ((s.cab c).scrubbing = false → exec (.windowScrubEnd c) s = .next s) ∧
   ((s.cab c).scrubbing = true →
     ∃ t, exec (.windowScrubEnd c) s = .next t ∧ t.cab c = { s.cab c with scrubbing := false } ∧
       (∀ a, tget 0 t.dram a =
         if s.windowBase c ≤ a ∧ a < s.windowBase c + s.windowSize c then 0 else tget 0 s.dram a) ∧
       (∀ k, k ≠ c.val → t.cab k = s.cab k) ∧ ({ t with cabs := s.cabs, dram := s.dram } : State) = s)) ∧
  (∀ (s : State) (data : List Byte),
   (s.diag = none → exec (.diagDone data) s = .next s) ∧
   (∀ d, s.diag = some d → s.diagHangs d = true → exec (.diagDone data) s = .next s) ∧
   (∀ d, s.diag = some d → s.diagHangs d = false →
     ∃ t, exec (.diagDone data) s = .next t ∧ t.diag = none ∧ t.mode = s.mode ∧
       (d.test = 2 → 8000 ≤ (s.supply (1 + d.unit / 2)).mv → if (s.axis d.unit).confirm = true
         then (t.axis d.unit).confirmAt = some (s.now + 50000000) else (t.axis d.unit).lost = true) ∧
       (d.test ≠ 2 → t.axes = s.axes) ∧
       (d.test = 3 → d.mbx ≠ 256 → s.canWrite d.mbx = true → Out.mem d.mbx d.addr (padTo 64 data) ∈ t.outbox)))

/-! The Runner in operation (17). -/

/-- The ports of the Runner: RUNNER_LINK_LOSS, RETRY_EXPIRY and TRAINING_RETRY (R512, R513, R527, R529); IDENT and TRAIN
(R512, R522, R523, R525); ADVERT, ADVERT_DUE and ROOT_STALE (R524, R525); CRC_ERROR (R512, R513, R517); WAKE (Tables MO-4
and MO-8).
An ACTIVE port that loses its link is in RETRY and trains again at once; any other trained one is DOWN. When RETRY expires
the neighbour and the nodes behind it depart. Training begins with IDENT at code 1; an IDENT is answered with this side's own
and the 256 TRAIN, the partner's answer to it with nothing (the model's reading: log 94). The 256th good TRAIN admits the
neighbour, resumes it, or finds a duplicate or a path too long. -/
def Obligations.RunnerPorts : Prop :=
  (∀ (s : State) (p : Fin 4),
   let x := s.port p
   (x.st = 2 → ∃ t k, exec (.runnerLinkLoss p) s = .next t ∧ t.mode = s.mode ∧ (t.port p).st = 5 ∧
     (t.port p).since = s.now ∧ (t.port p).prev = x.peer.map (fun q => (q.uid, q.inc)) ∧ (t.port p).peer = x.peer ∧
     (t.port p).rate = 1 ∧ (t.port p).trains = 0 ∧ (t.port p).resume = false ∧ Out.run p k (packetWire k) ∈ t.outbox ∧
     k.type = 2 ∧ k.src = s.nodeId ∧ k.payload = t.identBytes p ∧ t.ctr 0x0A p 9 = s.ctr 0x0A p 9 + 1) ∧
   (x.st = 3 ∨ x.st = 4 → ∃ t, exec (.runnerLinkLoss p) s = .next t ∧ t.mode = s.mode ∧ (t.port p).st = 0 ∧
     (t.port p).peer = none ∧ (t.port p).advert = none) ∧
   (x.st = 0 ∨ x.st = 1 ∨ x.st = 5 → exec (.runnerLinkLoss p) s = .next s) ∧
   (x.st = 5 → x.since + s.runCfg.retry * 1000000 ≤ s.now →
     ∃ t, exec (.retryExpiry p) s = .next t ∧ t.mode = s.mode ∧ (t.port p).st = 0 ∧ (t.port p).peer = none ∧
       t.ctr 0x0A p 11 = s.ctr 0x0A p 11 + 1 ∧ ∀ id n, s.node id = some n → n.port = p.val → t.node id = none) ∧
   (x.st ≠ 5 ∨ s.now < x.since + s.runCfg.retry * 1000000 → exec (.retryExpiry p) s = .next s) ∧
   (s.portOn p = true → (x.st = 0 ∧ x.since + 10000000 ≤ s.now) ∨ x.st = 1 ∨ x.st = 5 →
     ∃ t k, exec (.trainingRetry p) s = .next t ∧ (t.port p).st = (if x.st = 5 then 5 else 1) ∧ (t.port p).rate = 1 ∧
       (t.port p).trains = 0 ∧ (t.port p).idents = 0 ∧ (t.port p).peer = (if x.st = 5 then x.peer else none) ∧
       (t.port p).resume = false ∧ Out.run p k (packetWire k) ∈ t.outbox ∧ k.type = 2 ∧ k.src = s.nodeId ∧
       k.payload = t.identBytes p) ∧
   (s.portOn p = false ∨ (x.st = 0 ∧ s.now < x.since + 10000000) ∨ x.st = 2 ∨ x.st = 3 ∨ x.st = 4 →
     exec (.trainingRetry p) s = .next s)) ∧
  (∀ (s : State) (p : Fin 4) (k : Packet), s.portOn p = true → k.type = 2 →
   let x := s.port p
   let q := peerOf k
   let answer := decide (x.idents = 1 ∧ x.peer = some q ∧ x.trains = 0)
   let rate := max 1 (min (s.runCfg.maxRate.getD p 3) (min 3 q.maxRate))
   (x.st = 0 ∨ x.st = 1 → answer = false → ∃ t i, exec (.ident p k) s = .next t ∧ (t.port p).st = 1 ∧
     (t.port p).peer = some q ∧ (t.port p).rate = rate ∧ (t.port p).trains = 0 ∧ (t.port p).idents = 1 ∧
     (t.port p).resume = false ∧ (t.port p).vc = [] ∧ Out.run p i (packetWire i) ∈ t.outbox ∧ i.type = 2 ∧
     t.ctr 0x0A p 1 = s.ctr 0x0A p 1 + 1) ∧
   (x.st = 0 ∨ x.st = 1 ∨ x.st = 5 → answer = true → ∃ t, exec (.ident p k) s = .next t ∧
     t.port p = { x with idents := 2 } ∧ t.outbox = s.outbox ∧ t.ctr 0x0A p 1 = s.ctr 0x0A p 1 + 1) ∧
   (x.st = 5 → answer = false → x.prev = some (q.uid, q.inc) → fieldU k.payload 0x14 8 = Config.deviceUid.toNat →
     fieldU k.payload 0x1C 4 = s.inc32 →
     ∃ t, exec (.ident p k) s = .next t ∧ (t.port p).st = 5 ∧ (t.port p).resume = true ∧ (t.port p).rate = rate ∧
       (t.port p).peer = some q ∧ (t.port p).vc = x.vc ∧ t.nodes = s.nodes)) ∧
  (∀ (s : State) (p : Fin 4) (k : Packet), s.portOn p = true → k.type = 1 →
   k.payload = (leBytes 64 0).mapIdx (fun i _ => BitVec.ofNat 8 i) → ∀ q, (s.port p).peer = some q →
   let x := s.port p
   (x.st = 1 ∨ x.st = 5 ∧ x.resume = true → x.trains < 255 → ∃ t, exec (.train p k) s = .next t ∧
     t.port p = { x with trains := x.trains + 1 } ∧ t.outbox = s.outbox) ∧
   (x.st = 1 → x.resume = false → x.trains = 255 →
     (s.duplicate q = true →
       ∃ t, exec (.train p k) s = .next t ∧ (t.port p).st = 4 ∧ (t.port p).blocked = 2 ∧ t.nodes = s.nodes) ∧
     (s.duplicate q = false → s.beyondDepth p = true →
       ∃ t, exec (.train p k) s = .next t ∧ (t.port p).st = 4 ∧ (t.port p).blocked = 1 ∧ t.nodes = s.nodes) ∧
     (s.duplicate q = false → s.beyondDepth p = false → (∀ a, x.advert = some a → a.distance < 16) →
       ∃ t, exec (.train p k) s = .next t ∧ ((t.port p).st = 2 ∨ (t.port p).st = 3) ∧ (t.port p).peer = some q ∧
         t.node q.node ≠ none)) ∧
   (x.st = 5 → x.resume = true → x.trains = 255 →
     ∃ t, exec (.train p k) s = .next t ∧ (t.port p).st = 2 ∧ (t.port p).prev = none ∧ t.nodes = s.nodes ∧
       t.ctr 0x0A p 10 = s.ctr 0x0A p 10 + 1)) ∧
  (∀ (s : State) (p : Fin 4) (k : Packet), s.portOn p = true →
   let x := s.port p
   (k.type = 0x0B → x.st = 1 ∨ x.st = 2 ∨ x.st = 3 →
     ∃ t a, exec (.advert p k) s = .next t ∧ (t.port p).advert = some a ∧
       a.root = BitVec.ofNat 64 (fieldU k.payload 0 8) ∧ a.priority = fieldU k.payload 8 1 ∧
       a.epoch = fieldU k.payload 9 1 ∧ a.distance = fieldU k.payload 0x0A 1 ∧ a.tick = fieldU k.payload 0x0C 4 ∧
       a.parent = bit (fieldU k.payload 0x0B 1) 0 ∧ a.slow = (x.rate == 0) ∧ a.seen = s.now ∧
       (x.st ≠ 1 → 16 ≤ a.distance → a.parent = false → some a.root ≠ t.rootUid →
         betterRoot a.priority a.root t.rootPriority (t.rootUid.getD Config.deviceUid) = true →
         (t.port p).st = 4 ∧ (t.port p).blocked = 1)) ∧
   (k.type = 0x0A → s.mode = .keep → s.change = none → s.wakeMask.getLsbD (1 + p) = true →
     ∃ t, exec (.wake p k) s = .next t ∧ t.wakeCause = s.wakeLatch ||| 1#16 <<< (1 + p.val) ∧ t.wakeLatch = 0 ∧
       t.wakeMask = 0 ∧ t.change = some { target := .idle, cause := 2 }) ∧
   (k.type = 0x0A → s.wakeMask.getLsbD (1 + p) = false →
     ∃ t, exec (.wake p k) s = .next t ∧ ({ t with counters := s.counters } : State) = s ∧
       t.ctr 0x0A p 1 = s.ctr 0x0A p 1 + 1)) ∧
  (∀ (s : State) (p : Fin 4),
   let x := s.port p
   (s.portOn p = true → ∃ t, exec (.advertDue p) s = .next t ∧
     ({ t with outbox := s.outbox, counters := s.counters } : State) = s ∧
     (x.st = 1 ∨ x.st = 2 ∨ x.st = 3 → ∃ k, Out.run p k (packetWire k) ∈ t.outbox ∧ k.type = 0x0B)) ∧
   (s.portOn p = false → exec (.advertDue p) s = .next s) ∧
   (x.advert = none → exec (.rootStale p) s = .next s) ∧
   (∀ a, x.advert = some a → s.advertFresh a = true → exec (.rootStale p) s = .next s) ∧
   (∀ a q, x.advert = some a → s.advertFresh a = false → s.offers = [] → s.parent = some q → (s.port q).st ≠ 5 →
     ∃ t, exec (.rootStale p) s = .next t ∧ t.parent = none ∧ t.rootUid = some Config.deviceUid ∧ t.rootDistance = 0 ∧
       t.rootPriority = s.ownPriority ∧ t.masterNode = s.nodeId)) ∧
  (∀ (s : State) (p vc : Fin 4), s.portOn p = true →
   let x := s.port p
   (x.st = 1 ∧ x.peer ≠ none ∨ x.st = 5 ∧ x.resume = true →
     (1 < x.rate → ∃ t, exec (.crcError p vc) s = .next t ∧ t.ctr 0x0A p 2 = s.ctr 0x0A p 2 + 1 ∧
       t.port p = { x with rate := x.rate - 1, trains := 0 }) ∧
     (x.rate ≤ 1 → ∃ t, exec (.crcError p vc) s = .next t ∧ t.ctr 0x0A p 2 = s.ctr 0x0A p 2 + 1 ∧
       (t.port p).trains = 0 ∧ (x.st = 1 → (t.port p).st = 0 ∧ (t.port p).peer = none) ∧
       (x.st = 5 → (t.port p).st = 5 ∧ (t.port p).resume = false))) ∧
   (x.st = 1 ∧ x.peer = none ∨ x.st = 5 ∧ x.resume = false → ∃ t, exec (.crcError p vc) s = .next t ∧
     t.ctr 0x0A p 2 = s.ctr 0x0A p 2 + 1 ∧ ({ t with counters := s.counters } : State) = s) ∧
   (x.st = 2 → let ts := (x.crcTimes ++ [s.now]).filter fun k => decide (s.now - k < 1000000)
     (16 ≤ ts.length → ∃ t, exec (.crcError p vc) s = .next t ∧ (t.port p).st = 5 ∧
       t.ctr 0x0A p 9 = s.ctr 0x0A p 9 + 1) ∧
     (ts.length < 16 → vc ≠ 0 → ∃ t k, exec (.crcError p vc) s = .next t ∧ t.ctr 0x0A p 2 = s.ctr 0x0A p 2 + 1 ∧
       t.ctr 0x0A p 3 = s.ctr 0x0A p 3 + 1 ∧ t.outbox = s.outbox ++ [Out.run p k (packetWire k)] ∧ k.type = 4 ∧
       k.payload = leBytes 1 vc ++ leBytes 1 0 ++ leBytes 2 ((s.vc p vc).received + 1))))

/-- Link control and the delivery of one hop: CREDIT_SYNC, ACK, NAK, CREDIT and RATE (R514, R517 to R519); DELAY_REQ,
DELAY_RESP and DELAY_EXCHANGE_DUE (R105, R539).
READ, WRITE, POST, RESP, POST_ACK, EVENT, MEMBER and SNAP: only the packet expected next is accepted; another is answered
NAK once (R517; the first packet is numbered 1: the model's reading, log 94). For this node: a READ within the identity block and any other READ or WRITE are answered (R537); posts are
counted and acknowledged (R534); a RESP completes its request or is counted (R532), and one not answered in time ends
(R536); members come and go (R526); a snapshot that cannot be taken is counted (R596).
SYNC, SYNC_DUE, LEGACY_SYNC_DUE, REANCHOR and REANCHOR_FORCED (R104, R106, R109, R530, R538). -/
def Obligations.RunnerTraffic : Prop :=
  (∀ (s : State) (p : Fin 4) (k : Packet), s.portOn p = true → s.trained p = true →
   (k.type = 6 → ∃ t, exec (.creditSync p k) s = .next t ∧ ∀ v, v < 4 →
     (t.vc p v).buffers = fieldU k.payload (8 * v) 2 ∧ (t.vc p v).freed = fieldU k.payload (8 * v + 4) 2) ∧
   (k.type = 3 → ∃ t, exec (.ack p k) s = .next t ∧ t.outbox = s.outbox ∧ ∀ i, i < 3 →
     (t.vc p (i + 1)).retry = (s.vc p (i + 1)).covered (fieldU k.payload (2 * i) 2) ∧
     (t.vc p (i + 1)).waiting = (s.vc p (i + 1)).waiting) ∧
   (k.type = 4 → ∀ v, fieldU k.payload 0 1 = v → 1 ≤ v → v ≤ 3 →
     let y := s.vc p v
     let again := (y.retry.take (y.retry.length - y.replay)).filter fun e =>
        decide ((e.1 + 1 + 65536 - fieldU k.payload 2 2) % 65536 < 32768)
     ∃ t, exec (.nak p k) s = .next t ∧ t.outbox = s.outbox ++ again.map (fun e => Out.run p e.2 (packetWire e.2)) ∧
       t.ctr 0x0A p 4 = s.ctr 0x0A p 4 + BitVec.ofNat 48 again.length ∧ t.vc p v = y) ∧
   (k.type = 5 → ∃ t, exec (.credit p k) s = .next t ∧ ∀ v, v < 4 → (t.vc p v).freed = fieldU k.payload (2 * v) 2) ∧
   (k.type = 9 → fieldU k.payload 0 1 ≤ 3 → fieldU k.payload 0 1 ≠ (s.port p).rate →
     ∃ t, exec (.rate p k) s = .next t ∧ (t.port p).rate = fieldU k.payload 0 1 ∧ (t.port p).rateAsked = none ∧
       (t.port p).st = (s.port p).st) ∧
   (∀ age : Nat, k.type = 7 → ∃ t q, exec (.delayReq p k age) s = .next t ∧
     t.outbox = s.outbox ++ [Out.run p q (packetWire q)] ∧
     q.type = 8 ∧ q.payload = leBytes 8 (fieldU k.payload 0 8) ++ leBytes 8 (s.now - age) ++ leBytes 8 s.now) ∧
   (∀ age : Nat, k.type = 8 → ∃ t, exec (.delayResp p k age) s = .next t ∧ (t.port p).delay =
     if fieldU k.payload 0 8 = (s.port p).t1 then
       ((((s.now - age : Nat) : Int) - fieldU k.payload 0 8) -
         ((fieldU k.payload 16 8 : Int) - fieldU k.payload 8 8)) * 256 / 2
     else (s.port p).delay) ∧
   (1 ≤ (s.port p).rate → ∃ t q, exec (.delayExchangeDue p) s = .next t ∧ (t.port p).t1 = s.now ∧
     t.outbox = s.outbox ++ [Out.run p q (packetWire q)] ∧ q.type = 7 ∧ q.payload = leBytes 8 s.now) ∧
   ((s.port p).rate = 0 → exec (.delayExchangeDue p) s = .next s)) ∧
  (∀ row ∈ [((.read : Fin 4 → Packet → Instr), 0x18, 1), (.write, 0x19, 1), (.post, 0x1A, 1), (.resp, 0x20, 2),
      (.postAck, 0x21, 2), (.event, 0x28, 3), (.member, 0x29, 3), (.snap, 0x2A, 3)],
   ∀ (s : State) (p : Fin 4) (k : Packet), s.portOn p = true → (s.port p).st = 2 → k.type = row.2.1 →
   let y := s.vc p row.2.2
   (k.seq = (y.received + 1) % 4096 → ∃ t, exec (row.1 p k) s = .next t ∧ t.ctr 0x0A p 1 = s.ctr 0x0A p 1 + 1 ∧
     (t.vc p row.2.2).received = (y.received + 1) % 65536 ∧ (t.vc p row.2.2).naked = false) ∧
   (k.seq ≠ (y.received + 1) % 4096 → ∃ t, exec (row.1 p k) s = .next t ∧ t.ctr 0x0A p 1 = s.ctr 0x0A p 1 + 1 ∧
     t.vc p row.2.2 = { y with naked := true } ∧
     t.ctr 0x0A p 3 = s.ctr 0x0A p 3 + (if y.naked then 0 else 1) ∧ (y.naked = true → t.outbox = s.outbox) ∧
     (y.naked = false → ∃ q, t.outbox = s.outbox ++ [Out.run p q (packetWire q)] ∧ q.type = 4 ∧
       q.payload = leBytes 1 row.2.2 ++ leBytes 1 0 ++ leBytes 2 (y.received + 1)))) ∧
  (∀ (s : State) (p : Fin 4) (k : Packet), s.portOn p = true → (s.port p).st = 2 →
   (k.type = 0x18 ∨ k.type = 0x19 → k.dest = s.nodeId → k.seq = ((s.vc p 1).received + 1) % 4096 →
     ∀ q, s.routeTo k.src = some q → (s.port q).st = 2 → (s.vc q 2).credits ≠ 0 → (s.vc q 2).replay = 0 →
     (s.vc q 2).waiting = [] →
     let a := fieldU k.payload 4 4
     let n := fieldU k.payload 2 1
     let ans : Nat × List Byte := if k.type = 0x19 then (2, [])
       else if a + n ≤ 256 then (0, ((s.identityAt 0 s.now).drop a).take n) else (1, [])
     let resp : Packet :=
       { type := 0x20, vc := 2, src := s.nodeId, dest := k.src, hops := 1, epoch := s.runEpoch,
         seq := ((s.vc q 2).count + 1) % 4096,
         payload := leBytes 2 (fieldU k.payload 0 2) ++ leBytes 1 ans.1 ++ leBytes 1 ans.2.length ++ leBytes 4 0 ++ ans.2 }
     ∃ t, exec (if k.type = 0x18 then .read p k else .write p k) s = .next t ∧
       Out.run q resp (packetWire resp) ∈ t.outbox) ∧
   (k.type = 0x1A → k.dest = s.nodeId → k.seq = ((s.vc p 1).received + 1) % 4096 →
     let y : PostIn := tget {} s.postsIn k.src
     ∃ t, exec (.post p k) s = .next t ∧ (tget ({} : PostIn) t.postsIn k.src).count = y.count + 1 ∧
       (tget ({} : PostIn) t.postsIn k.src).unacked = (if 63 ≤ y.unacked then 0 else y.unacked + 1)) ∧
   (k.type = 0x20 → k.dest = s.nodeId → k.seq = ((s.vc p 2).received + 1) % 4096 →
     (∀ q, (s.requests.find? fun q => q.id = fieldU k.payload 0 2 ∧
         (q.dest = k.src ∨ fieldU k.payload 2 1 = 5)) = some q →
       ∃ t, exec (.resp p k) s = .next t ∧ t.requests = s.requests.filter fun r => r.id ≠ q.id) ∧
     ((∀ q ∈ s.requests, ¬ (q.id = fieldU k.payload 0 2 ∧ (q.dest = k.src ∨ fieldU k.payload 2 1 = 5))) →
       ∃ t, exec (.resp p k) s = .next t ∧ t.requests = s.requests ∧ t.ctr 0x0A p 7 = s.ctr 0x0A p 7 + 1)) ∧
   (k.type = 0x21 → k.dest = s.nodeId → k.seq = ((s.vc p 2).received + 1) % 4096 →
     ∃ t, exec (.postAck p k) s = .next t ∧ t.posts = s.posts.filter fun o => !(o.dest == k.src &&
       decide ((fieldU k.payload 0 4 + 2 ^ 32 - o.n % 2 ^ 32) % 2 ^ 32 < 2 ^ 31))) ∧
   (k.type = 0x28 → k.dest = s.nodeId → k.seq = ((s.vc p 3).received + 1) % 4096 →
     ∃ t, exec (.event p k) s = .next t ∧
       t.ctr 0x0A p 8 = s.ctr 0x0A p 8 + (if k.payload.length ≤ 6 then 0 else 1)) ∧
   (k.type = 0x29 → k.seq = ((s.vc p 3).received + 1) % 4096 → fieldU k.payload 1 1 = 1 →
     let e := (k.payload.drop 4).take 16
     let id := fieldU e 0 2
     (fieldU k.payload 0 1 = 1 → id ≠ s.nodeId → s.node id = none →
       ∃ t n, exec (.member p k) s = .next t ∧ t.node id = some n ∧ n.uid = BitVec.ofNat 64 (fieldU e 8 8) ∧
         n.inc = BitVec.ofNat 32 (fieldU e 4 4) ∧ n.distance = fieldU e 2 1 ∧ n.port = p ∧
         ∀ j, j ≠ id → t.node j = s.node j) ∧
     (∀ n, fieldU k.payload 0 1 = 2 → s.node id = some n → n.port = p.val →
       ∃ t, exec (.member p k) s = .next t ∧ t.node id = none ∧ ∀ j, j ≠ id → t.node j = s.node j)) ∧
   (k.type = 0x2A → k.seq = ((s.vc p 3).received + 1) % 4096 → s.mode.p3 = false ∨ k.epoch ≠ s.runEpoch →
     ∃ t, exec (.snap p k) s = .next t ∧ t.ctr 0x0E 0 12 = s.ctr 0x0E 0 12 + 1 ∧ t.comps = s.comps ∧ t.snaps = s.snaps) ∧
   (∀ (age : Nat) (c : Fin 4), k.type = 0x10 → 2 ≤ (s.port p).rate → s.mode ≠ .keep →
     let mask := fieldU k.payload 0x0C 1
     let at_ := 0x10 + 12 * ((List.range (s.chan c).unit).filter fun j => bit mask j).length
     (s.takes c k = true → bit mask (s.chan c).unit = true →
       ∃ t, exec (.sync p k age) s = .next t ∧ (t.chan c).present = true ∧ (t.chan c).t0 = s.now ∧
         (t.chan c).vel = fieldS k.payload (at_ + 8) 4 * 1000000 ∧
         (t.chan c).base = BitVec.ofNat 64 (fieldU k.payload at_ 8) + posOf (fieldS k.payload (at_ + 8) 4 *
           (((fieldU k.payload 8 4 : Int) + (s.port p).delay) / 256 + age) / 1000)) ∧
     (s.takes c k = false → ∃ t, exec (.sync p k age) s = .next t ∧ t.chan c = s.chan c))) ∧
  (∀ (s : State),
   (∀ src : Fin 1024,
     (0 < (tget ({} : PostIn) s.postsIn src).unacked → ∃ t, exec (.postAckDue src) s = .next t ∧
       tget {} t.postsIn src = { tget ({} : PostIn) s.postsIn src with unacked := 0 }) ∧
     ((tget ({} : PostIn) s.postsIn src).unacked = 0 → exec (.postAckDue src) s = .next s)) ∧
   (∀ (id : BitVec 16) (q : Request), (s.requests.find? fun q => q.id = id.toNat) = some q →
     (q.sent + s.runCfg.timeout * 1000000 ≤ s.now → q.dropped = false →
       ∃ t, exec (.reqTimeout id) s = .next t ∧ (t.requests = s.requests.filter fun r => r.id ≠ q.id) ∧
         Told { s with requests := t.requests } t) ∧
     (q.sent + s.runCfg.timeout * 1000000 ≤ s.now → q.dropped = true →
       exec (.reqTimeout id) s = .next { s with requests := s.requests.filter fun r => r.id ≠ q.id }) ∧
     (s.now < q.sent + s.runCfg.timeout * 1000000 → exec (.reqTimeout id) s = .next s)) ∧
   (s.isRoot = true → s.serves = true → s.mode ≠ .keep → s.rootUid ≠ none →
     ∃ t, exec .syncDue s = .next t ∧ t.syncCount = (s.syncCount + 1) % 65536 ∧ t.chans = s.chans) ∧
   (s.isRoot = false → exec .syncDue s = .next s) ∧
   (∀ g, s.merge = some g →
     (g.master = true → s.mode ≠ .keep → s.now - g.since < 2000000000 →
       ∃ t, exec .legacySyncDue s = .next t ∧ t.syncCount = (s.syncCount + 1) % 65536 ∧ t.chans = s.chans) ∧
     (g.master = false → s.mergeNext = [] → exec .legacySyncDue s = .next s) ∧
     (∀ c : Fin 4, s.oldAnchor c = true →
       (s.chanOpen c = false → ∃ t, exec (.reanchor c) s = .next t ∧ (t.chan c).anchorUid = 0 ∧
         (t.chan c).anchorEpoch = s.runEpoch ∧ t.mode = s.mode ∧ t.ctr 6 c 4 = s.ctr 6 c 4 + 1) ∧
       (s.chanOpen c = true → exec (.reanchor c) s = .next s)) ∧
     (g.since + 2000000000 ≤ s.now → ∃ t, exec .reanchorForced s = .next t ∧ t.merge = s.mergeNext.head? ∧
       t.mergeNext = s.mergeNext.tail ∧ t.mode = s.mode ∧
       ∀ c, c < 4 → s.oldAnchor c = true → (∀ h ∈ s.mergeNext, (s.chan c).anchorEpoch ≠ h.epoch) → (t.chan c).anchorUid = 0 ∧ (t.chan c).anchorEpoch = s.runEpoch) ∧
     (s.now < g.since + 2000000000 → exec .reanchorForced s = .next s)) ∧
   (s.merge = none → exec .reanchorForced s = .next s ∧ ∀ c : Fin 4, exec (.reanchor c) s = .next s))

/-! The whole machine. -/

/-- The lines of every bed stay accounted for (R15, R585): whatever command stands in front, LINES_TRIGGERED equals
LINES_CAPTURED and the six DROP counters together after the step when it did before. -/
def Obligations.LinesAccounted : Prop :=
  ∀ s t : State, LinesBalance s → step s = .next t → LinesBalance t
end

