-- ==== Sys2Proof/Laws/Bytes.lean ====
section
/-! SUPPORT. Numbers as bytes, lowest first: what is written is read back. -/

namespace Sys2Proof.Machine

@[simp] theorem length_leBytes (n v : Nat) : (leBytes n v).length = n := by
  induction n generalizing v with
  | zero => rfl
  | succ n ih => simp [leBytes, ih]

/-- n bytes of a number spell it modulo 256^n. -/
theorem leNat_leBytes (n v : Nat) : leNat (leBytes n v) = v % 256 ^ n := by
  induction n generalizing v with
  | zero => simp [leBytes, leNat, Nat.mod_one]
  | succ n ih =>
    show (BitVec.ofNat 8 v).toNat + 256 * leNat (leBytes n (v / 256)) = _
    rw [ih, BitVec.toNat_ofNat, Nat.pow_succ' (m := 256), Nat.mod_mul]

/-- A field that follows a prefix of the length of its offset is read whole. -/
theorem fieldU_append (pre bs post : List Byte) (off n : Nat) (h : pre.length = off) (k : bs.length = n) :
    fieldU (pre ++ bs ++ post) off n = leNat bs := by
  simp [fieldU, ← h, ← k]

end Sys2Proof.Machine
end

