-- ==== Sys2Proof/Laws/Tab.lean ====
section
/-! SUPPORT. Laws of the sparse tables: reading after setting, the canonical form, equality of canonical tables. -/

namespace Sys2Proof.Machine

variable {α : Type}

theorem tget_filter_ne (d : α) (t : Tab α) {i j : Nat} (h : j ≠ i) :
    tget d (t.filter fun e => e.1 != i) j = tget d t j := by
  induction t with
  | nil => rfl
  | cons e t ih =>
    obtain ⟨k, w⟩ := e
    by_cases hk : k = i
    · subst hk; simp [tget, ih, Ne.symm h]
    · simp [tget, hk, ih]

theorem tget_filter_same (d : α) (t : Tab α) (i : Nat) : tget d (t.filter fun e => e.1 != i) i = d := by
  induction t with
  | nil => rfl
  | cons e t ih =>
    obtain ⟨k, w⟩ := e
    by_cases hk : k = i
    · subst hk; simpa using ih
    · simp [tget, hk, ih]

theorem tget_tins_ne (d : α) (t : Tab α) {i j : Nat} (v : α) (h : j ≠ i) : tget d (tins i v t) j = tget d t j := by
  induction t with
  | nil => simp [tins, tget, Ne.symm h]
  | cons e t ih =>
    obtain ⟨k, w⟩ := e
    by_cases hk : i < k <;> simp [tins, tget, hk, ih, Ne.symm h]

theorem tget_tins_same (d : α) (t : Tab α) (i : Nat) (v : α) (h : ∀ e ∈ t, e.1 ≠ i) :
    tget d (tins i v t) i = v := by
  induction t with
  | nil => simp [tins, tget]
  | cons e t ih =>
    obtain ⟨k, w⟩ := e
    have hk : k ≠ i := h (k, w) (by simp)
    by_cases hl : i < k
    · simp [tins, tget, hl]
    · simp [tins, tget, hl, hk, ih (fun e he => h e (by simp [he]))]

/-- Reading after setting. -/
@[simp] theorem tget_tset [DecidableEq α] (d : α) (t : Tab α) (i j : Nat) (v : α) :
    tget d (tset d t i v) j = if j = i then v else tget d t j := by
  unfold tset
  by_cases hj : j = i
  · subst hj
    by_cases hv : v = d
    · simp [hv, tget_filter_same]
    · simp only [hv, if_false, if_true]
      exact tget_tins_same d _ _ _ (by simp)
  · by_cases hv : v = d
    · simp [hv, hj, tget_filter_ne d t hj]
    · simp [hv, hj, tget_tins_ne d _ v hj, tget_filter_ne d t hj]

/-- Reading after changing an entry. -/
@[simp] theorem tget_tupd [DecidableEq α] (d : α) (t : Tab α) (i j : Nat) (f : α → α) :
    tget d (tupd d t i f) j = if j = i then f (tget d t i) else tget d t j := by
  simp [tupd]

/-! The canonical form. -/

theorem twfFrom_weaken [DecidableEq α] (d : α) {lo lo' : Nat} (t : Tab α) (h : lo' ≤ lo) (w : twfFrom d lo t = true) :
    twfFrom d lo' t = true := by
  cases t with
  | nil => rfl
  | cons e t =>
    simp only [twfFrom, Bool.and_eq_true, decide_eq_true_eq] at w ⊢
    exact ⟨⟨h.trans w.1.1, w.1.2⟩, w.2⟩

theorem twfFrom_filter [DecidableEq α] (d : α) (p : Nat × α → Bool) (t : Tab α) :
    ∀ lo, twfFrom d lo t = true → twfFrom d lo (t.filter p) = true := by
  induction t with
  | nil => intro lo _; rfl
  | cons e t ih =>
    intro lo w
    simp only [twfFrom, Bool.and_eq_true, decide_eq_true_eq] at w
    by_cases hp : p e = true
    · rw [List.filter_cons_of_pos hp]
      simp only [twfFrom, Bool.and_eq_true, decide_eq_true_eq]
      exact ⟨w.1, ih _ w.2⟩
    · rw [List.filter_cons_of_neg hp]
      exact twfFrom_weaken d _ (by omega) (ih _ w.2)

theorem twfFrom_tins [DecidableEq α] (d : α) (i : Nat) (v : α) (hv : v ≠ d) (t : Tab α) :
    ∀ lo, lo ≤ i → (∀ e ∈ t, e.1 ≠ i) → twfFrom d lo t = true → twfFrom d lo (tins i v t) = true := by
  induction t with
  | nil => intro lo hl _ _; simp [tins, twfFrom, hl, hv]
  | cons e t ih =>
    obtain ⟨k, w⟩ := e
    intro lo hl hn hw
    simp only [twfFrom, Bool.and_eq_true, decide_eq_true_eq] at hw
    have hk : k ≠ i := hn (k, w) (by simp)
    by_cases h : i < k
    · simp only [tins, h, if_true, twfFrom, Bool.and_eq_true, decide_eq_true_eq]
      exact ⟨⟨hl, hv⟩, ⟨by omega, hw.1.2⟩, hw.2⟩
    · simp only [tins, h, if_false, twfFrom, Bool.and_eq_true, decide_eq_true_eq]
      exact ⟨hw.1, ih (k + 1) (by omega) (fun e he => hn e (by simp [he])) hw.2⟩

/-- Setting an entry keeps the canonical form. -/
theorem twf_tset [DecidableEq α] (d : α) (t : Tab α) (i : Nat) (v : α) (h : twf d t = true) :
    twf d (tset d t i v) = true := by
  unfold tset
  split
  · exact twfFrom_filter d _ t 0 h
  · rename_i hv
    exact twfFrom_tins d i v hv _ 0 (Nat.zero_le _) (by simp) (twfFrom_filter d _ t 0 h)

/-- Changing an entry keeps the canonical form. -/
theorem twf_tupd [DecidableEq α] (d : α) (t : Tab α) (i : Nat) (f : α → α) (h : twf d t = true) :
    twf d (tupd d t i f) = true := twf_tset d t i _ h

/-- Changing every entry gives the canonical form. -/
theorem twf_tmap [DecidableEq α] (d : α) (t : Tab α) (f : α → α) : twf d (tmap d t f) = true := by
  induction t with
  | nil => rfl
  | cons e t ih => exact twf_tset d _ e.1 (f e.2) ih

/-- Reading after changing every entry, for a change that keeps the default. -/
theorem tget_tmap [DecidableEq α] (d : α) (t : Tab α) (f : α → α) (h : f d = d) (i : Nat) :
    tget d (tmap d t f) i = f (tget d t i) := by
  induction t with
  | nil => exact h.symm
  | cons e t ih =>
    obtain ⟨k, w⟩ := e
    have : tget d (tmap d ((k, w) :: t) f) i = tget d (tset d (tmap d t f) k (f w)) i := rfl
    rw [this, tget_tset]
    by_cases hk : i = k
    · subst hk; simp [tget]
    · simp [tget, hk, Ne.symm hk, ih]

theorem tget_below [DecidableEq α] (d : α) (t : Tab α) :
    ∀ lo j, twfFrom d lo t = true → j < lo → tget d t j = d := by
  induction t with
  | nil => intros; rfl
  | cons e t ih =>
    obtain ⟨k, w⟩ := e
    intro lo j hw hj
    simp only [twfFrom, Bool.and_eq_true, decide_eq_true_eq] at hw
    have : k ≠ j := by omega
    simp only [tget, this, if_false]
    exact ih _ _ hw.2 (by omega)

/-- Canonical tables that read alike are equal as data. -/
theorem twf_ext [DecidableEq α] (d : α) (t : Tab α) :
    ∀ (u : Tab α) (lo : Nat), twfFrom d lo t = true → twfFrom d lo u = true →
      (∀ j, tget d t j = tget d u j) → t = u := by
  induction t with
  | nil =>
    intro u lo _ hu h
    cases u with
    | nil => rfl
    | cons e u =>
      obtain ⟨k, w⟩ := e
      simp only [twfFrom, Bool.and_eq_true, decide_eq_true_eq] at hu
      have := h k
      simp only [tget, if_true] at this
      exact absurd this.symm hu.1.2
  | cons e t ih =>
    obtain ⟨k, w⟩ := e
    intro u lo ht hu h
    simp only [twfFrom, Bool.and_eq_true, decide_eq_true_eq] at ht
    cases u with
    | nil =>
      have := h k
      simp only [tget, if_true] at this
      exact absurd this ht.1.2
    | cons e' u =>
      obtain ⟨k', w'⟩ := e'
      simp only [twfFrom, Bool.and_eq_true, decide_eq_true_eq] at hu
      have hk : k = k' := by
        rcases Nat.lt_trichotomy k k' with hlt | heq | hgt
        · have := h k
          simp only [tget, if_true, Nat.ne_of_gt hlt, if_false] at this
          rw [tget_below d u _ k hu.2 (by omega)] at this
          exact absurd this ht.1.2
        · exact heq
        · have := h k'
          simp only [tget, if_true, Nat.ne_of_gt hgt, if_false] at this
          rw [tget_below d t _ k' ht.2 (by omega)] at this
          exact absurd this.symm hu.1.2
      subst hk
      have hw : w = w' := by simpa [tget] using h k
      subst hw
      have : t = u := by
        refine ih u (k + 1) ht.2 hu.2 fun j => ?_
        by_cases hj : k = j
        · subst hj
          rw [tget_below d t _ k ht.2 (by omega), tget_below d u _ k hu.2 (by omega)]
        · simpa [tget, hj] using h j
      rw [this]

end Sys2Proof.Machine
end

