-- ==== Sys2Proof/Laws/State.lean ====
section
/-! SUPPORT. Laws of the shared updates of the state: what each reads back as, and what telling and answering leave. -/

namespace Sys2Proof.Machine

/-! Reading one entry after changing one. -/

@[simp] theorem cab_updCab (s : State) (c d : Nat) (f : Cab → Cab) :
    (s.updCab c f).cab d = if d = c then f (s.cab c) else s.cab d := by simp [State.updCab, State.cab]
@[simp] theorem mbx_updMbx (s : State) (m d : Nat) (f : Mbx → Mbx) :
    (s.updMbx m f).mbx d = if d = m then f (s.mbx m) else s.mbx d := by simp [State.updMbx, State.mbx]
@[simp] theorem chan_updChan (s : State) (c d : Nat) (f : Chan → Chan) :
    (s.updChan c f).chan d = if d = c then f (s.chan c) else s.chan d := by simp [State.updChan, State.chan]
@[simp] theorem comp_setComp (s : State) (k d : Nat) (v : Option Cmp) :
    (s.setComp k v).comp d = if d = k then v else s.comp d := by simp [State.setComp, State.comp]
@[simp] theorem pin_updPin (s : State) (p d : Nat) (f : Pin → Pin) :
    (s.updPin p f).pin d = if d = p then f (s.pin p) else s.pin d := by simp [State.updPin, State.pin]
@[simp] theorem axis_updAxis (s : State) (a d : Nat) (f : Axis → Axis) :
    (s.updAxis a f).axis d = if d = a then f (s.axis a) else s.axis d := by simp [State.updAxis, State.axis]
@[simp] theorem snap_updSnap (s : State) (k d : Nat) (f : Snap → Snap) :
    (s.updSnap k f).snap d = if d = k then f (s.snap k) else s.snap d := by simp [State.updSnap, State.snap]
@[simp] theorem plot_updPlot (s : State) (p d : Nat) (f : Plot → Plot) :
    (s.updPlot p f).plot d = if d = p then f (s.plot p) else s.plot d := by simp [State.updPlot, State.plot]
@[simp] theorem port_updPort (s : State) (p d : Nat) (f : Port → Port) :
    (s.updPort p f).port d = if d = p then f (s.port p) else s.port d := by simp [State.updPort, State.port]

@[simp] theorem bed_updBed (s : State) (b d : Nat) (f : Bed → Bed) :
    (s.updBed b f).bed d = if d = b then f (s.bed b) else s.bed d := by simp [State.updBed, State.bed]
@[simp] theorem group_updGroup (s : State) (g d : Nat) (f : Group → Group) :
    (s.updGroup g f).group d = if d = g then f (s.group g) else s.group d := by simp [State.updGroup, State.group]
@[simp] theorem gauge_updGauge (s : State) (g d : Nat) (f : Gauge → Gauge) :
    (s.updGauge g f).gauge d = if d = g then f (s.gauge g) else s.gauge d := by simp [State.updGauge, State.gauge]
@[simp] theorem clock_setClock (s : State) (d e : Nat) (k : Clock) :
    (s.setClock d k).clock e = if e = d then k else s.clock e := by simp [State.setClock, State.clock]

theorem slot_updSlot (s : State) (m n m' n' : Nat) (f : Slot → Slot) :
    (s.updSlot m n f).slot m' n' = if m' = m ∧ n' = n then f (s.slot m n) else s.slot m' n' := by
  by_cases h : m' = m <;> simp [State.updSlot, State.slot, h]

theorem ctrKey_inj {cls unit idx cls' unit' idx' : Nat} (h : ctrIn unit idx = true) (h' : ctrIn unit' idx' = true)
    (e : ctrKey cls unit idx = ctrKey cls' unit' idx') : cls = cls' ∧ unit = unit' ∧ idx = idx' := by
  simp only [ctrIn, Bool.and_eq_true, decide_eq_true_eq] at h h'
  simp only [ctrKey] at e
  omega

/-- Reading a counter after one increments. -/
theorem ctr_inc (s : State) (cls unit idx n cls' unit' idx' : Nat) :
    (s.inc cls unit idx n).ctr cls' unit' idx' =
      if cls' = cls ∧ unit' = unit ∧ idx' = idx ∧ ctrIn unit idx = true then s.ctr cls unit idx + BitVec.ofNat 48 n
      else s.ctr cls' unit' idx' := by
  unfold State.inc State.ctr
  by_cases h : ctrIn unit idx = true
  · by_cases h' : ctrIn unit' idx' = true
    · by_cases e : ctrKey cls' unit' idx' = ctrKey cls unit idx
      · obtain ⟨rfl, rfl, rfl⟩ := ctrKey_inj h' h e
        simp [h]
      · have : ¬ (cls' = cls ∧ unit' = unit ∧ idx' = idx ∧ ctrIn unit idx = true) := by
          rintro ⟨rfl, rfl, rfl, -⟩; exact e rfl
        rw [if_neg this]
        simp [h, h', e]
    · have : ¬ (cls' = cls ∧ unit' = unit ∧ idx' = idx ∧ ctrIn unit idx = true) := by
        rintro ⟨rfl, rfl, rfl, -⟩; exact h' h
      rw [if_neg this]
      simp [h']
  · simp [h]

/-- A counter increments and nothing else changes. -/
theorem inc_eq (s : State) (cls unit idx n : Nat) :
    s.inc cls unit idx n = { s with counters := (s.inc cls unit idx n).counters } := by
  unfold State.inc; split <;> rfl

/-! Telling. -/

theorem Told.refl (s : State) : Told s s := ⟨rfl, fun _ => rfl, fun _ => rfl, fun _ _ _ _ => rfl⟩

theorem Told.trans {s t u : State} (h : Told s t) (k : Told t u) : Told s u :=
  ⟨k.rest.trans h.rest, fun c => (k.cab c).trans (h.cab c), fun m => (k.mbx m).trans (h.mbx m),
    fun a b i hi => (k.ctr a b i hi).trans (h.ctr a b i hi)⟩

theorem Told.push (s : State) (o : Out) : Told s (s.push o) :=
  ⟨rfl, fun _ => rfl, fun _ => rfl, fun _ _ _ _ => rfl⟩

theorem Told.usbSend (s : State) (o : Out) : Told s (s.usbSend o) := by
  unfold State.usbSend
  split <;> exact ⟨rfl, fun _ => rfl, fun _ => rfl, fun _ _ _ _ => rfl⟩

theorem Told.inc {s : State} (cls unit idx n : Nat) (h : reportCtr cls idx) : Told s (s.inc cls unit idx n) := by
  refine ⟨by rw [inc_eq]; rfl, fun _ => by rw [inc_eq]; rfl, fun _ => by rw [inc_eq]; rfl, fun cls' unit' idx' hk => ?_⟩
  rw [ctr_inc, if_neg]
  rintro ⟨rfl, rfl, rfl, -⟩
  exact hk h

theorem Told.updRing (s : State) (c : Nat) (f : EvRing → EvRing) : Told s (s.updRing c f) := by
  refine ⟨rfl, fun d => ?_, fun _ => rfl, fun _ _ _ _ => rfl⟩
  by_cases h : d = c
  · subst h; simp [State.updRing, Cab.unrung]
  · simp [State.updRing, h]

theorem Told.forEach {β : Type} (f : β → State → State) (h : ∀ x s, Told s (f x s)) (xs : List β) :
    ∀ s, Told s (Machine.forEach xs f s) := by
  induction xs with
  | nil => intro s; exact Told.refl s
  | cons x xs ih => intro s; exact (h x s).trans (ih (f x s))

theorem Told.useSlots (s : State) (m n : Nat) : Told s (s.useSlots m n) := by
  have h : Told s (s.inc 0x0B (if m = 256 then 1 else 0) 5 n) :=
    Told.inc _ _ _ _ (.inr ⟨rfl, rfl⟩)
  unfold State.useSlots
  simp only
  split
  · exact h.trans ⟨rfl, fun _ => rfl, fun _ => rfl, fun _ _ _ _ => rfl⟩
  · exact h

theorem Told.hostWrite (s : State) (m : Nat) (a : BitVec 64) (d : List Byte) : Told s (s.hostWrite m a d) := by
  unfold State.hostWrite
  split
  · exact Told.refl s
  · split
    · exact Told.forEach _ (fun _ s => (Told.useSlots s m _).trans (Told.usbSend _ _)) _ _
    · exact (Told.useSlots s m _).trans (Told.push _ _)

theorem Told.hostRead (s : State) (m : Nat) (a : BitVec 64) (l : Nat) : Told s (s.hostRead m a l) :=
  (Told.useSlots s m _).trans ⟨rfl, fun _ => rfl, fun _ => rfl, fun _ _ _ _ => rfl⟩

theorem Told.signal (s : State) (m v : Nat) : Told s (s.signal m v) := by
  unfold State.signal
  split
  · have h : Told s { s with usbNotes := s.usbNotes + 1 } := ⟨rfl, fun _ => rfl, fun _ => rfl, fun _ _ _ _ => rfl⟩
    exact h.trans (Told.usbSend _ _)
  · split
    · exact Told.refl s
    · split
      · exact Told.push s _
      · refine ⟨rfl, fun _ => rfl, fun d => ?_, fun _ _ _ _ => rfl⟩
        by_cases h : d = m
        · subst h; simp [Mbx.unpended]
        · simp [h]

theorem Told.overflow (s : State) (c k : Nat) : Told s (s.overflow c k) :=
  (Told.updRing s c _).trans (Told.inc _ _ _ _ (.inl ⟨rfl, .inr rfl⟩))

theorem Told.ringSignal (s : State) (c : Nat) : Told s (s.ringSignal c) := by
  unfold State.ringSignal
  simp only
  split
  · exact Told.updRing s c _
  · split
    · exact (Told.signal s _ _).trans (Told.updRing _ c _)
    · exact Told.updRing s c _

theorem Told.writeEntry (s : State) (c : Nat) (e : Ev) : Told s (s.writeEntry c e) := by
  unfold State.writeEntry
  simp only
  split
  · exact (Told.hostWrite s _ _ _).trans ((Told.updRing _ c _).trans
      ((Told.inc _ _ _ _ (.inl ⟨rfl, .inl rfl⟩)).trans (Told.ringSignal _ c)))
  · exact (Told.updRing s c _).trans (Told.overflow _ c _)

/-- Raising an event to one cabinet only tells. -/
theorem Told.raise (s : State) (c : Nat) (e : Ev) : Told s (s.raise c e) := by
  unfold State.raise
  simp only
  split
  · split
    · exact Told.updRing s c _
    · exact Told.overflow s c _
  · split
    · exact Told.overflow s c _
    · exact Told.writeEntry s c e

/-- Raising an event to several cabinets only tells. -/
theorem Told.raiseTo (s : State) (cs : List Nat) (e : Ev) : Told s (s.raiseTo cs e) :=
  Told.forEach _ (fun c s => Told.raise s c e) cs s

/-! Answering. -/

theorem Served.refl (s : State) : Served s s := ⟨rfl, fun _ => rfl, fun _ => rfl, fun _ _ _ _ _ => rfl⟩

theorem Served.trans {s t u : State} (h : Served s t) (k : Served t u) : Served s u :=
  ⟨k.rest.trans h.rest, fun c => (k.cab c).trans (h.cab c), fun m => (k.mbx m).trans (h.mbx m),
    fun a b i hi hc => (k.ctr a b i hi hc).trans (h.ctr a b i hi hc)⟩

theorem Told.served {s t : State} (h : Told s t) : Served s t where
  rest := by
    have := congrArg (fun x : State => { x with rung := [], turn := 0 }) h.rest
    exact this
  cab := h.cab
  mbx m := by
    have := congrArg (fun b : Mbx => { b with slots := [] }) (h.mbx m)
    exact this
  ctr a b i hi _ := h.ctr a b i hi

theorem Served.withRung (s : State) (r : List Nat) : Served s { s with rung := r } :=
  ⟨rfl, fun _ => rfl, fun _ => rfl, fun _ _ _ _ _ => rfl⟩

theorem Served.withTurn (s : State) (c : Nat) : Served s { s with turn := c } :=
  ⟨rfl, fun _ => rfl, fun _ => rfl, fun _ _ _ _ _ => rfl⟩

theorem Served.updSlot (s : State) (m n : Nat) (f : Slot → Slot) : Served s (s.updSlot m n f) := by
  refine ⟨rfl, fun _ => rfl, fun d => ?_, fun _ _ _ _ _ => rfl⟩
  by_cases h : d = m
  · subst h; simp [State.updSlot, Mbx.unslotted]
  · simp [State.updSlot, h]

theorem Served.inc (s : State) (c i n : Nat) (h : i ≤ 20) : Served s (s.inc 8 c i n) := by
  refine ⟨by rw [inc_eq]; rfl, fun _ => by rw [inc_eq]; rfl, fun _ => by rw [inc_eq]; rfl, fun cls' unit' idx' _ hc => ?_⟩
  rw [ctr_inc, if_neg]
  rintro ⟨rfl, rfl, rfl, -⟩
  exact hc ⟨rfl, h⟩

theorem Served.signal (s : State) (m v : Nat) : Served s (s.signal m v) := (Told.signal s m v).served

theorem Served.answer (s : State) (m n : Nat) (r : List Byte) : Served s (s.answer m n r) := by
  unfold State.answer
  simp only
  have h1 := Served.updSlot s m n fun x => { x with response := r, posted := false, done := true, parcel := .absent }
  generalize s.updSlot m n _ = u at h1 ⊢
  have h2 := h1.trans (Served.withRung u (u.rung.filter (· ≠ 4 * m + n)))
  generalize ({ u with rung := u.rung.filter (· ≠ 4 * m + n) } : State) = v at h2 ⊢
  by_cases hm : m = 256
  · simp only [hm, if_true]
    split
    · exact (h2.trans ((Told.useSlots v _ _).trans (Told.usbSend _ _)).served).trans (Served.signal _ _ _)
    · exact h2.trans ((Told.useSlots v _ _).trans (Told.usbSend _ _)).served
  · simp only [hm, if_false]
    split
    · exact h2.trans (Served.signal _ _ _)
    · exact h2

theorem Served.answerErr (s : State) (m n : Nat) (c : Option Nat) (e : Err) (h : e.code < 20) :
    Served s (s.answerErr m n c e) := by
  unfold State.answerErr
  simp only
  cases c with
  | none => exact Served.answer s _ _ _
  | some c =>
    exact (Served.withTurn s c).trans
      ((Served.inc _ c 1 1 (by omega)).trans ((Served.inc _ c (1 + e.code) 1 (by omega)).trans (Served.answer _ _ _ _)))

theorem Served.settle (fuel : Nat) : ∀ s : State, Served s (State.settle fuel s) := by
  induction fuel with
  | zero => intro s; exact Served.refl s
  | succ n ih =>
    intro s
    unfold State.settle
    split
    · exact Served.refl s
    · split
      · exact Served.refl s
      · exact (Served.answerErr s _ _ _ _ (by decide)).trans (ih _)

/-- Settling only answers. -/
theorem Served.settled (s : State) : Served s s.settled := Served.settle _ s

theorem Served.deliver (s : State) (m : Nat) (ws : List (Nat × List Byte)) : Served s (s.deliver m ws).1 := by
  unfold State.deliver
  split
  · exact (Told.forEach _ (fun _ s => Told.hostWrite s _ _ _) ws s).served
  · exact Served.refl s

/-- What an accepted command leaves, but for what follows its answer: its commit, and what answering changes. -/
theorem Served.commitCmd (cmd : Cmd) (r : Req) (s : State) (h : cmd.after = id) :
    Served ((cmd.commit ({ s with turn := r.cab }.inc 8 r.cab 0 1) r).s) (commitCmd cmd r s) := by
  unfold Machine.commitCmd
  simp only [h, id]
  exact (Served.deliver _ _ _).trans (Served.answer _ _ _ _)

/-- An accepted command row. -/
theorem runCommand_accepts {cmd : Cmd} {m : Fin 257} {n : Fin 4} {s : State} {c : Nat} (h : Accepts cmd m n s c) :
    runCommand cmd m n s = (commitCmd cmd (s.reqOf m n c) s).settled := by
  obtain ⟨h1, h2, h3⟩ := h
  simp [runCommand, h1, h2, h3]

/-- A command row whose commit enters a domain that has no clock (R554). -/
theorem runCommand_hangs {cmd : Cmd} {m : Fin 257} {n : Fin 4} {s : State} {c d : Nat} (h1 : s.isNext cmd m n = true)
    (h2 : s.cabOfMbx m = some c) (h3 : checkCmd cmd (s.slot m n) (s.reqOf m n c) s = none)
    (h4 : cmd.hangsIn s (s.reqOf m n c) = some d) :
    runCommand cmd m n s = { s with hung := some { key := 4 * m.val + n.val, domain := d } } := by
  simp [runCommand, h1, h2, h3, h4]

/-- A refused command row. -/
theorem runCommand_rejects {cmd : Cmd} {m : Fin 257} {n : Fin 4} {s : State} {c : Nat} {e : Err}
    (h : Rejects cmd m n s c e) : runCommand cmd m n s = (s.answerErr m n (some c) e).settled := by
  obtain ⟨h1, h2, h3⟩ := h
  simp [runCommand, h1, h2, h3]

end Sys2Proof.Machine
end

