-- ==== Sys2Proof/Laws/Crossings.lean ====
section
/-! SUPPORT. Laws of the crossings between clock domains: when a pulse is carried, and what an overrun or a value offered
leaves. -/

namespace Sys2Proof.Machine

/-- A pulse crossing delivers: its last delivery is now, and nothing else differs. -/
theorem deliveredNow_frame (s : State) (c : Nat) :
    ({ s.deliveredNow c with crossings := s.crossings } : State) = s := rfl

@[simp] theorem crossing_deliveredNow (s : State) (c d : Nat) :
    tget {} (s.deliveredNow c).crossings d =
      if d = c then { tget ({} : Crossing) s.crossings c with last := some s.now } else tget {} s.crossings d := by
  simp [State.deliveredNow]

/-- An overrun is counted at its crossing and in its domain, and nothing else differs. -/
theorem overrun_frame (s : State) (c domain n : Nat) :
    ({ s.overrun c domain n with crossings := s.crossings, counters := s.counters } : State) = s := by
  unfold State.overrun
  split
  · rfl
  · rw [inc_eq]

/-- A source launches an event: only what it awaits of its crossing differs. -/
theorem launch_frame (s : State) (c src dst : Nat) :
    ({ s.launch c src dst with crossings := s.crossings } : State) = s := rfl

/-- A crossing offered an event keeps all but itself and its overrun count. -/
theorem pulse_frame (s : State) (c src dst : Nat) :
    ({ (s.pulse c src dst).1 with crossings := s.crossings, counters := s.counters } : State) = s := by
  unfold State.pulse
  split
  · exact overrun_frame s c dst 1
  · split
    · rfl
    · exact congrArg (fun u : State => { u with crossings := s.crossings, counters := s.counters })
        (overrun_frame (s.launch c src dst) c dst 1)

/-- A crossing offered an event delivers it exactly where it carries events and its source may launch one. -/
theorem pulse_delivers (s : State) (c src dst : Nat) : (s.pulse c src dst).2 = s.carries c (s.pulseGap dst) := by
  unfold State.pulse
  split
  · next h => simp only [State.carries, h, Bool.not_true, Bool.false_and]
  · split
    · next h => exact h.symm
    · next h => simpa using h

/-- Just after a delivery a crossing carries nothing. -/
theorem carries_deliveredNow (s : State) (c gap : Nat) (h : 0 < gap) : (s.deliveredNow c).carries c gap = false := by
  simp [State.carries, State.deliveredNow, Nat.pos_iff_ne_zero.mp h]

/-- A delivery leaves every other crossing as it was. -/
theorem carries_deliveredNow_ne (s : State) (c d gap : Nat) (h : d ≠ c) :
    (s.deliveredNow c).carries d gap = s.carries d gap := by
  unfold State.carries
  rw [crossing_deliveredNow, if_neg h]
  rfl

/-- A value is offered to a hold-and-flag crossing: nothing else differs. -/
theorem cross_frame (s : State) (k src dst : Nat) (v : List Int) :
    ({ s.cross k src dst v with holds := s.holds, free := s.free } : State) = s := rfl

/-- A crossing that awaits no acknowledge sends what it is offered. -/
theorem Hold.offer_idle (h : Hold) (now lat ack : Nat) (v : List Int) (e : h.flight = none) :
    h.offer now lat ack v = (h.send now lat ack v).settle now lat ack := by
  simp [Hold.offer, Hold.settle, e]

end Sys2Proof.Machine
end

