-- ==== Sys2Proof/Laws/Tine.lean ====
section
/-! SUPPORT. Laws of a tine: its registers, and what an instruction leaves once it issues. -/

namespace Sys2Proof.Machine

@[simp] theorem tine_updTine (s : State) (t k : Nat) (f : Tine → Tine) :
    (s.updTine t f).tine k = if k = t then f (s.tine t) else s.tine k := by simp [State.updTine, State.tine]

@[simp] theorem plot_updTine (s : State) (t k : Nat) (f : Tine → Tine) : (s.updTine t f).plot k = s.plot k := rfl

@[simp] theorem tine_updPlot (s : State) (p k : Nat) (f : Plot → Plot) : (s.updPlot p f).tine k = s.tine k := rfl

theorem OnlyTine.upd (s : State) (t : Nat) (f : Tine → Tine) : OnlyTine t s (s.updTine t f) :=
  ⟨rfl, fun k h => by simp [h]⟩

theorem OnlyTine.trans {t : Nat} {s u v : State} (h : OnlyTine t s u) (k : OnlyTine t u v) : OnlyTine t s v :=
  ⟨k.1.trans h.1, fun i hi => (k.2 i hi).trans (h.2 i hi)⟩

/-- An instruction issues: its effect is `k` in its cycle of issue. -/
theorem issue_eq {s : State} {t : Nat} {w : BitVec 32} {srcs dsts : List Nat} {chain : Bool} {r : Running} {c : Nat}
    (h : Issues s t w srcs dsts chain r c) (k : Running → Nat → State → State) :
    s.issue t w srcs dsts chain k = k r c (s.dueLoads t c) := by
  obtain ⟨h1, h2, h3, h4, h5, h6⟩ := h
  subst h5
  simp [State.issue, State.atWord, h1, h2, h3, h4, Nat.not_le.mpr h6]

theorem goTo_inside (s : State) (t : Nat) (r : Running) (pc : BitVec 32) (h : pc.toNat < r.imSize) :
    s.goTo t r pc = s.updTine t fun x => { x with pc := pc } := by
  simp [State.goTo, h]

@[simp] theorem setS_pc (x : Tine) (i : Nat) (v : BitVec 32) : (x.setS i v).pc = x.pc := by
  unfold Tine.setS; split <;> rfl
@[simp] theorem setV_pc (x : Tine) (i : Nat) (v : BitVec 64) : (x.setV i v).pc = x.pc := rfl
@[simp] theorem setP_pc (x : Tine) (i : Nat) (v : BitVec 4) : (x.setP i v).pc = x.pc := by
  unfold Tine.setP; split <;> rfl

/-- A law of forEach: what holds before and is kept by each step holds after. -/
theorem forEach_keeps {α σ : Type} {P : σ → Prop} (f : α → σ → σ) (h : ∀ x s, P s → P (f x s)) (xs : List α) :
    ∀ s, P s → P (Machine.forEach xs f s) := by
  induction xs with
  | nil => intro s hs; exact hs
  | cons x xs ih => intro s hs; exact ih (f x s) (h x s hs)

@[simp] theorem loaded_pc (x : Tine) (vec : Bool) (reg : Nat) (bs : List Byte) : (x.loaded vec reg bs).pc = x.pc := by
  unfold Tine.loaded; split <;> simp
@[simp] theorem loaded_stores (x : Tine) (vec : Bool) (reg : Nat) (bs : List Byte) :
    (x.loaded vec reg bs).stores = x.stores := by
  unfold Tine.loaded Tine.setS; split
  · rfl
  · split <;> rfl

/-- Performing loads put off touches the tine's registers alone. -/
theorem performLoads_only (s : State) (t n : Nat) :
    OnlyTine t s (s.performLoads t n) ∧ ((s.performLoads t n).tine t).pc = (s.tine t).pc ∧
      ((s.performLoads t n).tine t).stores = (s.tine t).stores := by
  unfold State.performLoads
  split
  · exact ⟨⟨rfl, fun _ _ => rfl⟩, rfl, rfl⟩
  · have h := forEach_keeps
      (P := fun u => OnlyTine t s u ∧ (u.tine t).pc = (s.tine t).pc ∧ (u.tine t).stores = (s.tine t).stores)
      (fun l u => u.performLate t l)
      (fun l u hu => ⟨hu.1.trans (OnlyTine.upd u t _), by simp [State.performLate, hu.2.1], by
        simp [State.performLate, hu.2.2]⟩)
      ((s.tine t).late.take n) s ⟨⟨rfl, fun _ _ => rfl⟩, rfl, rfl⟩
    exact ⟨h.1.trans (OnlyTine.upd _ t _), by simp [h.2.1], by simp [h.2.2]⟩

/-- What the loads performed at an issue leave. -/
theorem dueLoads_only (s : State) (t c : Nat) :
    OnlyTine t s (s.dueLoads t c) ∧ (s.duly t c).pc = (s.tine t).pc ∧ (s.duly t c).stores = (s.tine t).stores :=
  performLoads_only s t _

/-- A register instruction completes: what it leaves of its tine, and nothing else differs. -/
theorem alu_completes {s : State} {t : Nat} {w : BitVec 32} {srcs dsts : List Nat} {chain : Bool} {r : Running}
    {c : Nat} (h : Issues s t w srcs dsts chain r c) (hi : FallsInside s t r) (lat : Nat) (f : Tine → Tine) :
    OnlyTine t s (s.alu t w srcs dsts lat f chain) ∧
      (s.alu t w srcs dsts lat f chain).tine t =
        { (f (s.duly t c)).wrote c lat dsts chain with pc := (s.tine t).pc + 4 } := by
  have hd := dueLoads_only s t c
  have hp : ((s.dueLoads t c).tine t).pc = (s.tine t).pc := hd.2.1
  unfold State.alu
  rw [issue_eq h]
  simp only
  rw [hp, goTo_inside _ _ _ _ hi]
  exact ⟨hd.1.trans ((OnlyTine.upd _ t _).trans (OnlyTine.upd _ t _)), by simp [State.duly]⟩

/-- Lanes of a register made of four. -/
theorem lane_ofLanes (f : Nat → BitVec 16) {i : Nat} (h : i < 4) : lane (ofLanes f) i = f i := by
  have : i = 0 ∨ i = 1 ∨ i = 2 ∨ i = 3 := by omega
  rcases this with rfl | rfl | rfl | rfl <;> simp only [lane, ofLanes] <;>
    apply BitVec.eq_of_getLsbD_eq <;> intro j hj <;>
    simp only [BitVec.getLsbD_extractLsb', BitVec.getLsbD_append] <;>
    interval_cases j <;> simp

end Sys2Proof.Machine
end

