-- ==== Sys2Proof/Laws/Nvs.lean ====
section
/-! SUPPORT. Laws of the Herbarium: what writing a word or a page changes, and what a write cut short may change. -/

namespace Sys2Proof.Machine

/-- Writing a word changes the store and what is being written, and nothing else. -/
theorem setNvs_frame (s : State) (page w : Nat) (v : BitVec 64) :
    ({ s.setNvs page w v with nvs := s.nvs, nvsWrites := s.nvsWrites } : State) = s := by
  unfold State.setNvs
  split <;> rfl

/-- A word reads as it was written, while VIN12 lies within its limits. -/
theorem nvsWord_setNvs (s : State) (page w page' w' : Nat) (v : BitVec 64) (h : (s.supply 0).outside = false) :
    (s.setNvs page w v).nvsWord page' w' = if 64 * page' + w' = 64 * page + w then v else s.nvsWord page' w' := by
  simp [State.setNvs, State.nvsWord, h]

/-- No word is written while VIN12 lies outside its limits (R567). -/
theorem setNvs_outside (s : State) (page w : Nat) (v : BitVec 64) (h : (s.supply 0).outside = true) :
    s.setNvs page w v = s := by
  simp [State.setNvs, h]

/-- Writing a page changes the store, what is being written and the failing pages, and nothing else. -/
theorem writePage_frame (s : State) (page : Nat) (bytes : List Byte) (gen : Nat) :
    ({ s.writePage page bytes gen with nvs := s.nvs, nvsWrites := s.nvsWrites, nvsBad := s.nvsBad } : State) = s := by
  have hk : ∀ (u : State) (w : Nat) (v : BitVec 64),
      ({ u with nvs := s.nvs, nvsWrites := s.nvsWrites, nvsBad := s.nvsBad } : State) = s →
      ({ u.setNvs page w v with nvs := s.nvs, nvsWrites := s.nvsWrites, nvsBad := s.nvsBad } : State) = s := by
    intro u w v hu
    rw [← hu]
    have h := congrArg
      (fun x : State => { x with nvs := s.nvs, nvsWrites := s.nvsWrites, nvsBad := s.nvsBad }) (setNvs_frame u page w v)
    exact h
  unfold State.writePage
  refine hk _ _ _ (forEach_keeps (P := fun u : State =>
    ({ u with nvs := s.nvs, nvsWrites := s.nvsWrites, nvsBad := s.nvsBad } : State) = s) _ (fun w u hu => hk u _ _ hu) _ _ ?_)
  split <;> rfl

/-- What a record cut short may change. -/
theorem cutRecord_frame (s : State) (r : NvsRecord) (kept : Nat) :
    ({ s.cutRecord r kept with
       beds := s.beds, checkpoints := s.checkpoints, checkpointNo := s.checkpointNo, breaches := s.breaches, fw := s.fw,
       runNext := s.runNext } : State) = s := by
  cases r <;> rfl

/-- What a store cut short may change: its words, and what the records cut short hold. -/
theorem cutWrites_frame (ws : List NvsWrite) : ∀ (u : Nat) (s : State),
    ({ State.cutWrites u ws s with
       nvs := s.nvs, beds := s.beds, checkpoints := s.checkpoints, checkpointNo := s.checkpointNo, breaches := s.breaches,
       fw := s.fw, runNext := s.runNext } : State) = s := by
  induction ws with
  | nil => intro u s; rfl
  | cons x rest ih =>
    intro u s
    unfold State.cutWrites
    split
    · rfl
    · dsimp only
      generalize (x.words.take (min u x.words.length)).foldl (fun m (w : Nat × BitVec 64 × Nat) => tset 0 m w.1 w.2.1) s.nvs
        = words
      have k := cutRecord_frame { s with nvs := words } x.record (x.words.length - min u x.words.length)
      have k' := congrArg (fun y : State => { y with nvs := s.nvs }) k
      have h := ih (u - min u x.words.length)
        ({ s with nvs := words }.cutRecord x.record (x.words.length - min u x.words.length))
      have h' := congrArg (fun y : State => { y with
        nvs := s.nvs, beds := s.beds, checkpoints := s.checkpoints, checkpointNo := s.checkpointNo, breaches := s.breaches,
        fw := s.fw, runNext := s.runNext }) h
      exact h'.trans k'

/-- What the end of power or of RESET_N to the store may change (R567). -/
theorem nvsStop_frame (s : State) :
    ({ s.nvsStop with
       nvs := s.nvs, beds := s.beds, checkpoints := s.checkpoints, checkpointNo := s.checkpointNo, breaches := s.breaches,
       fw := s.fw, runNext := s.runNext, nvsWrites := s.nvsWrites, free := s.free } : State) = s := by
  have h := cutWrites_frame s.nvsWrites (s.drawn.toNat % (s.unwritten + 1)) s
  exact congrArg (fun y : State => { y with nvsWrites := s.nvsWrites, free := s.free }) h

/-- With no word still to be written, what a cut leaves is the store as it stands. -/
theorem nvsAsIs_written (s : State) (h : s.unwritten = 0) : s.nvsAsIs = s := by
  have e : ∀ ws, State.cutWrites 0 ws s = s := by
    intro ws
    cases ws <;> simp [State.cutWrites]
  simp [State.nvsAsIs, h, Nat.mod_one, e]

end Sys2Proof.Machine
end

