-- ==== Sys2Proof/WellFormed.lean ====
section
/-! DEFINITION. Well-formed commands and events: operands that the layouts of the spec admit. A Sahgar command has none
to check here: its parameters are the copy in its slot, and exec checks them (R460). -/

namespace Sys2Proof

/-- A packet of a type and channel as a link can carry it (Tables RN-3 and RN-4): every field within its width, at most
64 bytes of payload. -/
def Packet.wf (type vc : Nat) (k : Packet) : Bool :=
  k.type == type && k.vc == vc && decide (k.src < 1024) && decide (k.dest < 1024) && decide (k.hops < 64) &&
    decide (k.epoch < 256) && decide (k.seq < 4096) && decide (k.payload.length ≤ 64)

/-- A frame of a type on bulk OUT (Table DH-10): LENGTH is the payload's and at most 65,536. -/
def UsbFrame.wfOut (type : Nat) (f : UsbFrame) : Bool :=
  f.type == type && decide (f.length ≤ 65536) && f.payload.length == f.length

/-- Partners of a kind (R32, R599): AFE boards and segments, LED channels, coil phases, gauges, Runner ports,
functions. -/
def Found.count : Fin 6 → Nat
  | 0 => 32 | 1 => 32 | 2 => 16 | 3 => 8 | 4 => 4 | _ => 256

/-- A discovery result whose index names a partner of its kind. -/
def Found.wf (f : Found) : Bool := decide (f.index < Found.count f.kind)

/-- An aligned access of 4 or 8 bytes (R447). -/
def accessWf (off : BitVec 16) (wide : Bool) : Bool := off.toNat % (if wide then 8 else 4) == 0

/-- Numbers strictly rising from a bound. -/
def risingFrom : Nat → List Nat → Bool
  | _, [] => true
  | lo, p :: t => decide (lo ≤ p) && risingFrom (p + 1) t

/-- The operands of a row are ones the spec's layouts admit. -/
def Instr.wf : Instr → Bool
  | .devMode _ _ => true
  | .devReset _ _ => true
  | .devTbset _ _ => true
  | .devTbread _ _ => true
  | .devCompare _ _ => true
  | .devDisarm _ _ => true
  | .devCert _ _ => true
  | .devAttest _ _ => true
  | .devResetsum _ _ => true
  | .jobOpen _ _ => true
  | .jobCancel _ _ => true
  | .jobStream _ _ => true
  | .jobPace _ _ => true
  | .jobKey _ _ => true
  | .jobLedger _ _ => true
  | .bedConfig _ _ => true
  | .bedAfe _ _ => true
  | .bedPitch _ _ => true
  | .bedGraft _ _ => true
  | .illBed _ _ => true
  | .illChannel _ _ => true
  | .illLevel _ _ => true
  | .illStatus _ _ => true
  | .illClear _ _ => true
  | .calConfig _ _ => true
  | .calRun _ _ => true
  | .calStatus _ _ => true
  | .moveConfig _ _ => true
  | .moveQueue _ _ => true
  | .moveOverride _ _ => true
  | .moveGear _ _ => true
  | .moveStop _ _ => true
  | .moveSetpos _ _ => true
  | .moveStatus _ _ => true
  | .moveTable _ _ => true
  | .moveCoil _ _ => true
  | .moveClear _ _ => true
  | .moveDrive _ _ => true
  | .movePace _ _ => true
  | .gaugeConfig _ _ => true
  | .gaugeLinear _ _ => true
  | .gaugeLead _ _ => true
  | .gaugeDoc _ _ => true
  | .gaugeAout _ _ => true
  | .gaugeStatus _ _ => true
  | .cutLoad _ _ => true
  | .cutUnload _ _ => true
  | .cutPlace _ _ => true
  | .cutAssign _ _ => true
  | .bufRing _ _ => true
  | .bufPost _ _ => true
  | .bufStatus _ _ => true
  | .runConfig _ _ => true
  | .runNodes _ _ => true
  | .runRead _ _ => true
  | .runWrite _ _ => true
  | .runPost _ _ => true
  | .invSnap _ _ => true
  | .invRead _ _ => true
  | .invPartners _ _ => true
  | .hbRead _ _ => true
  | .hbWrite _ _ _ => true
  | .hbSlot _ _ => true
  | .cabEnrol _ _ => true
  | .cabReset _ _ => true
  | .cabDivert _ _ => true
  | .diagDiscover _ _ found => found.all Found.wf
  | .diagRun _ _ => true
  | .ringSlot _ _ => true
  | .freeSlot _ _ => true
  | .strayClear _ => true
  | .commandSlotWrite _ off wide _ => accessWf off wide
  | .eventRingConfigWrite _ off wide _ => accessWf off wide
  | .eventRingCtrlWrite _ _ => true
  | .readIdxWrite _ _ => true
  | .eventStatusClear _ _ => true
  | .wmMarkWrite _ off wide _ => accessWf off wide
  | .wmAck _ _ => true
  | .registerWrite _ off wide _ => accessWf off wide
  | .regWrite f => f.wfOut 0x01 && decide (4 ≤ f.length ∧ f.length ≤ 64 ∧ f.length % 4 = 0)
  | .regRead f => f.wfOut 0x02 && f.length == 4
  | .fetchData f => f.wfOut 0x03
  | .probeReply f => f.wfOut 0x04 && f.length == 0
  | .usbFetchTimeout _ => true
  | .usbReset => true
  | .linkLoss _ => true
  | .vfEnableClear => true
  | .vfEnable _ => true
  | .functionLevelReset _ => true
  | .portChanged _ _ _ _ => true
  | .perstDeassert _ => true
  | .powerUp pages => risingFrom 0 pages && pages.all fun p => decide (p < 32768)
  | .resetNAssert _ => true
  | .vin12Collapse => true
  | .vin12Return _ => true
  | .supplyFault _ _ => true
  | .supplyReturn _ _ => true
  | .junctionRead _ _ _ _ => true
  | .clockFail _ => true
  | .clockResetHold _ => true
  | .clockRecover _ => true
  | .curatorWatchdog _ => true
  | .dramError addr _ _ => addr.toNat % 64 == 0
  | .wakeSource _ => true
  | .wakeTimer => true
  | .modeChangeComplete => true
  | .bootComplete found => found.all Found.wf
  | .drainComplete => true
  | .haltSettled => true
  | .ledgerCheckpoint => true
  | .coverChanged _ _ => true
  | .encEdge _ _ _ => true
  | .encError _ => true
  | .encSignalLoss _ _ => true
  | .tbSourceBack _ => true
  | .encIndex _ => true
  | .syncLoss _ => true
  | .compareFired _ => true
  | .gpioPulseEnd _ => true
  | .gaugeReset _ => true
  | .lineTrigger _ => true
  | .slotStart _ vin _ ball => vin.length == 8 && ball.length == 8 && vin.all fun l => l.length == 0 || l.length == 1152
  | .sinkOvertemp _ _ _ => true
  | .tempRead _ _ => true
  | .lineRelease _ => true
  | .kernelEntry _ => true
  | .resultAccepted _ => true
  | .storePerformed _ => true
  | .kernelWatchdog _ => true
  | .tineDead _ _ => true
  | .tineRevived _ => true
  | .selfTestDone _ _ => true
  | .plotScrub _ => true
  | .add _ _ _ _ => true
  | .sub _ _ _ _ => true
  | .and _ _ _ _ => true
  | .or _ _ _ _ => true
  | .xor _ _ _ _ => true
  | .shl _ _ _ _ => true
  | .shr _ _ _ _ => true
  | .sra _ _ _ _ => true
  | .mul _ _ _ _ => true
  | .mulhu _ _ _ _ => true
  | .slt _ _ _ _ => true
  | .sltu _ _ _ _ => true
  | .min _ _ _ _ => true
  | .max _ _ _ _ => true
  | .addi _ _ _ _ => true
  | .andi _ _ _ _ => true
  | .ori _ _ _ _ => true
  | .xori _ _ _ _ => true
  | .shli _ _ _ _ => true
  | .shri _ _ _ _ => true
  | .srai _ _ _ _ => true
  | .slti _ _ _ _ => true
  | .sltiu _ _ _ _ => true
  | .lui _ _ _ => true
  | .vadd _ _ _ _ _ => true
  | .vsub _ _ _ _ _ => true
  | .vaddus _ _ _ _ _ => true
  | .vsubus _ _ _ _ _ => true
  | .vaddss _ _ _ _ _ => true
  | .vsubss _ _ _ _ _ => true
  | .vmullo _ _ _ _ _ => true
  | .vmulhu _ _ _ _ _ => true
  | .vmulhs _ _ _ _ _ => true
  | .vminu _ _ _ _ _ => true
  | .vmaxu _ _ _ _ _ => true
  | .vmins _ _ _ _ _ => true
  | .vmaxs _ _ _ _ _ => true
  | .vabsdu _ _ _ _ _ => true
  | .vavgu _ _ _ _ _ => true
  | .vand _ _ _ _ _ => true
  | .vor _ _ _ _ _ => true
  | .vxor _ _ _ _ _ => true
  | .vshl _ _ _ _ _ => true
  | .vshr _ _ _ _ _ => true
  | .vsra _ _ _ _ _ => true
  | .vshli _ _ _ _ => true
  | .vshri _ _ _ _ => true
  | .vsrai _ _ _ _ => true
  | .vsplati _ _ _ => true
  | .vcmpeq _ _ _ _ _ => true
  | .vcmpne _ _ _ _ _ => true
  | .vcmpltu _ _ _ _ _ => true
  | .vcmpleu _ _ _ _ _ => true
  | .vcmplts _ _ _ _ _ => true
  | .vcmples _ _ _ _ _ => true
  | .vsel _ _ _ _ _ => true
  | .vsplat _ _ _ _ => true
  | .vext _ _ _ _ => true
  | .vins _ _ _ _ => true
  | .vhsum _ _ _ => true
  | .pand _ _ _ _ => true
  | .por _ _ _ _ => true
  | .pnot _ _ _ => true
  | .ptos _ _ _ => true
  | .stop _ _ _ => true
  | .azero _ _ _ => true
  | .vmacu _ _ _ _ _ => true
  | .vmacs _ _ _ _ _ => true
  | .aaddv _ _ _ _ => true
  | .aget _ _ _ _ _ => true
  | .agets _ _ _ _ _ => true
  | .ldw _ _ _ _ _ _ => true
  | .ldh _ _ _ _ _ _ => true
  | .ldv _ _ _ _ _ _ => true
  | .stw _ _ _ _ _ _ => true
  | .sth _ _ _ _ _ _ => true
  | .stv _ _ _ _ _ _ => true
  | .jal _ _ _ => true
  | .beqz _ _ _ => true
  | .bnez _ _ _ => true
  | .bltz _ _ _ => true
  | .bgez _ _ _ => true
  | .dbnz _ _ _ => true
  | .bpany _ _ _ => true
  | .bpnone _ _ _ => true
  | .nop _ => true
  | .fenceS _ => true
  | .fenceL _ => true
  | .trap _ => true
  | .close _ _ => true
  | .jr _ _ => true
  | .cyc _ _ => true
  | .pfset _ _ => true
  | .pfclr _ _ => true
  | .pfwait _ _ => true
  | .pftest _ _ _ => true
  | .undefinedEncoding _ => true
  | .servoUpdate _ _ _ _ _ _ => true
  | .standstillDelay _ => true
  | .confirmation _ => true
  | .overcurrent _ _ => true
  | .bridgeOvertemp _ _ => true
  | .pacingEvaluation => true
  | .pauseRested _ => true
  | .backupEnd _ => true
  | .excursionEnd _ => true
  | .prerollTrigger _ => true
  | .pauseResumed _ => true
  | .gaugeSample _ _ => true
  | .gaugeCheckDue _ => true
  | .gaugeCheckEnd _ _ => true
  | .gaugeLeadDone _ => true
  | .leadingEdge _ => true
  | .trailingEdge _ => true
  | .exitSensorChange _ _ => true
  | .jam => true
  | .recordClose => true
  | .feedDecision _ => true
  | .deliveryNote => true
  | .stripReadComplete _ => true
  | .calResult _ => true
  | .calRunTimeout _ => true
  | .cabinetReset _ => true
  | .windowScrubEnd _ => true
  | .parcelFetch _ _ bytes => match bytes with | none => true | some b => decide (b.length ≤ 65536)
  | .descriptorFetch _ _ bytes => match bytes with | none => true | some b => b.length == 32
  | .descriptorFetchFail _ _ => true
  | .descriptorFill _ _ => true
  | .descriptorTimeout _ _ => true
  | .probeComplete _ _ _ => true
  | .runnerLinkLoss _ => true
  | .retryExpiry _ => true
  | .trainingRetry _ => true
  | .ident _ k => k.wf 0x02 0
  | .train _ k => k.wf 0x01 0
  | .creditSync _ k => k.wf 0x06 0
  | .ack _ k => k.wf 0x03 0
  | .nak _ k => k.wf 0x04 0
  | .credit _ k => k.wf 0x05 0
  | .delayReq _ k _ => k.wf 0x07 0
  | .delayResp _ k _ => k.wf 0x08 0
  | .delayExchangeDue _ => true
  | .rate _ k => k.wf 0x09 0
  | .wake _ k => k.wf 0x0A 0
  | .advert _ k => k.wf 0x0B 0
  | .advertDue _ => true
  | .rootStale _ => true
  | .sync _ k _ => k.wf 0x10 0
  | .syncDue => true
  | .read _ k => k.wf 0x18 1
  | .write _ k => k.wf 0x19 1
  | .post _ k => k.wf 0x1A 1
  | .postAckDue _ => true
  | .resp _ k => k.wf 0x20 2
  | .postAck _ k => k.wf 0x21 2
  | .event _ k => k.wf 0x28 3
  | .member _ k => k.wf 0x29 3
  | .snap _ k => k.wf 0x2A 3
  | .reqTimeout _ => true
  | .legacySyncDue => true
  | .reanchor _ => true
  | .reanchorForced => true
  | .holdoffExpiry _ => true
  | .diagDone data => decide (data.length ≤ 1024)
  | .msixUnmask _ _ => true
  | .busMasterEnableChange _ _ _ => true
  | .usbResume => true
  | .crcError _ _ => true
  | .blankInputChange _ _ => true

end Sys2Proof
end

