-- ==== Sys2Proof/Tests/Slice0.lean ====
section
/-! SUPPORT. Tests of the rows: for every statement of the obligations a concrete state and operands that meet all its
hypotheses, the rows' fields at the values the spec's tables give, and operands that well-formedness refuses. -/

open Sys2Proof Sys2Proof.Machine

namespace Sys2Proof.Tests
set_option Elab.async false
/-! Witnesses: commands of the Sahgar set that pass every check. -/

/-- A device with command `op` and parameters p posted in slot 0 of mailbox 0, which is cabinet 0's. -/
def posted (s : State) (op : Nat) (p : List Byte) : State :=
  let copy := leBytes 2 op ++ leBytes 2 9 ++ leBytes 4 p.length ++ leBytes 8 0x2000 ++
    padTo 48 (if p.length ≤ 48 then p else leBytes 8 0x4000)
  { s with
    mbxs := [(0, { slots := [(0, { copy, posted := true, parcel := if p.length ≤ 48 then .absent else .got p })] })]
    rung := [0] }

/-- Whether the command is accepted there. -/
def taken (cmd : Cmd) (s : State) (p : List Byte) : Bool :=
  let s := posted s cmd.op p
  s.isNext cmd 0 0 && decide (s.cabOfMbx 0 = some 0) &&
    decide (checkCmd cmd (s.slot 0 0) (s.reqOf 0 0 0) s = none) && decide (cmd.hangsIn s (s.reqOf 0 0 0) = none)

theorem accepts_of_taken (cmd : Cmd) (s : State) (p : List Byte) (h : taken cmd s p = true) :
    Accepts cmd 0 0 (posted s cmd.op p) 0 := by
  simp only [taken, Bool.and_eq_true, decide_eq_true_eq] at h
  exact ⟨h.1.1.1, h.1.1.2, h.1.2, h.2⟩

/-- The device in a mode, its firmware up, one second after reset. -/
def inMode (m : Mode) : State := { State.reset with mode := m, fwUp := true, now := 1000000000 }

/-- A configured bed of one segment and one slot. -/
def bedOne : Bed := { segMask := 1, seqLen := 1, chan := 0 }

/-- A FREE channel. -/
def freeChan : Chan := { source := .free, freeRate := 1000, present := true }

def armedFree : State := { inMode .armed with chans := [(0, freeChan)] }

/-- Parameters from (width in bytes, value) pairs. -/
def ps (l : List (Nat × Nat)) : List Byte := l.flatMap fun x => leBytes x.1 x.2

def cmpOne : Cmp :=
  { owner := 0, chan := 0, action := 0, arg := 0, dir := 0, notify := false, target := 0x6400000000, period := 0,
    below := false, use := .host }

def witDev : List (Cmd × State × List Byte) :=
  [(devMode, inMode .idle, ps [(1, 4), (15, 0)]),
   (devMode, inMode .armed, ps [(1, 11), (15, 0)]),
   (devMode, inMode .idle, ps [(1, 1), (1, 0), (2, 1), (12, 0)]),
   (devReset, inMode .idle, ps [(8, 0)]),
   (devTbset, inMode .idle, ps [(1, 0), (1, 1), (1, 3), (1, 2), (1, 16), (1, 1), (2, 0), (8, 0x50000), (16, 0)]),
   (devTbset, inMode .idle, ps [(1, 3), (1, 3), (30, 0)]),
   (devTbread, inMode .idle, ps [(1, 3), (7, 0)]),
   (devCompare, armedFree, ps [(1, 0xFF), (1, 0), (1, 1), (1, 0), (4, 0x8001), (8, 0x6400000000), (16, 0)]),
   (devCompare, armedFree, ps [(1, 47), (1, 0), (1, 0), (1, 0), (4, 0), (8, 0x6400000000), (8, 65536), (8, 0)]),
   (devDisarm, { armedFree with comps := [(47, some cmpOne)] }, ps [(1, 47), (7, 0)]),
   (devCert, inMode .idle, ps [(8, 0x8000), (4, 1024), (4, 0)]),
   (devAttest, inMode .idle, ps [(8, 7), (8, 0x8000), (4, 160), (4, 0)]),
   (devResetsum, { inMode .idle with cabs := [(1, { summary := some (leBytes 64 64) })] },
      ps [(1, 1), (7, 0), (8, 0x8000), (4, 64), (4, 0)])]

def jobOne : Job :=
  { cab := 0, id := 1, bedMask := 1, flatbed := false, exitCheck := false, free := false, chan := 0, entryGpio := 0,
    exitGpio := 0, gaugeStream := 0xFF, docs := 0, freeRate := 0, dist := [0, 0, 0, 0], maxLen := 1000, exitDist := 0 }

def streamOn : Stream := { kind := 2, base := 0, capacity := 65536 }

def witJob : List (Cmd × State × List Byte) :=
  [(jobOpen, inMode .idle, ps [(2, 65535), (1, 8), (1, 0), (1, 3), (1, 15), (1, 0), (1, 0xFF), (4, 0), (4, 0), (12, 0),
      (4, 2147483647), (4, 1000), (12, 0)]),
   (jobCancel, { inMode .idle with jobs := [jobOne] }, ps [(2, 1), (6, 0)]),
   (jobCancel, { inMode .capture with jobs := [{ jobOne with current := true }] }, ps [(2, 1), (6, 0)]),
   (jobStream, inMode .idle, ps [(1, 15), (1, 2), (6, 0), (8, 4096), (8, 65536)]),
   (jobPace, { inMode .idle with streams := [(15, streamOn)] },
      ps [(1, 15), (3, 0), (2, 1), (2, 10000), (2, 10000), (2, 0), (4, 0)]),
   (jobLedger, inMode .idle, ps [(8, 7)])]

def idleBed : State := { inMode .idle with beds := [(0, bedOne)] }
def present0 : State := { inMode .idle with partners := [(0, { known := true, outcome := 1 })] }

def witBed : List (Cmd × State × List Byte) :=
  [(bedConfig, present0, ps [(1, 0), (1, 1), (1, 1), (1, 15), (2, 300), (1, 1), (1, 11), (1, 0), (1, 1), (2, 4095),
      (4, 0x08080808), (1, 255), (15, 0)]),
   (bedAfe, idleBed, ps [(1, 0), (1, 0), (1, 1), (1, 0), (2, 512), (6, 0), (2, 511), (6, 0)]),
   (bedAfe, { armedFree with beds := [(0, bedOne)] },
      ps [(1, 0), (1, 0), (1, 8), (1, 0), (6, 0), (2, 32), (6, 0), (2, 65024)]),
   (bedPitch, idleBed, ps [(1, 0), (1, 3), (6, 0), (8, 4294967296), (8, 0)]),
   (bedPitch, { armedFree with beds := [(0, bedOne)] },
      ps [(1, 0), (1, 0), (1, 1), (5, 0), (8, 4294967296), (8, 0x6400000000)]),
   (bedGraft, idleBed, ps [(1, 0), (1, 1), (1, 1), (1, 0), (2, 0), (2, 1152), (32, 0)]),
   (bedGraft, { idleBed with jobs := [{ jobOne with current := true, bedMask := 8 }] },
      ps [(1, 0), (1, 1), (2, 0), (2, 8), (2, 64), (32, 0)])]

/-- A bed configured in ARMED, a graft table and settings stored with VIN12 within and outside its limits, a channel
enabled in CAPTURE, a store with words still to be written, and a discovery that finds a segment (log 85, log 88). -/
def witMore : List (Cmd × State × List Byte) :=
  let stored := ps [(1, 0), (1, 1), (1, 1), (1, 0), (2, 0), (2, 1152), (32, 0)]
  let run := ps [(2, 1023), (1, 255), (1, 15), (4, 0x03020103), (4, 10000), (4, 60000)]
  let off : Tab Supply := [(0, {})]
  let seg : List (List Int) := [[1500]] ++ (List.replicate 4 [[0], [1000000000]]).flatten
  [(bedConfig, { present0 with mode := .armed }, ps [(1, 0), (1, 1), (1, 1), (1, 15), (2, 300), (1, 1), (1, 11), (1, 0),
      (1, 1), (2, 4095), (4, 0x08080808), (1, 255), (15, 0)]),
   (bedGraft, { idleBed with supplies := off }, stored), (runConfig, { inMode .idle with supplies := off }, run),
   (hbSlot, { inMode .update with supplies := off }, ps [(1, 0), (1, 2), (6, 0)]),
   (gaugeConfig, inMode .capture, ps [(1, 7), (1, 0), (1, 1), (1, 7), (1, 1), (3, 0), (4, 10000), (2, 100), (2, 128),
      (2, 0), (2, 400), (4, 0), (8, 0), (4, 10000), (2, 0), (2, 1000), (4, 0), (4, 1), (8, 0)]),
   (hbRead, { inMode .update with nvsWrites := [{ words := [(0, 0, 1000000001)] }] }, ps [(4, 300), (2, 128), (2, 0), (8, 0x8000)]),
   (diagDiscover [{ kind := 0, index := 0, readings := seg }], inMode .idle, ps [(8, 0)])]

def witIll : List (Cmd × State × List Byte) :=
  [(illBed, idleBed, ps [(1, 3), (1, 1), (2, 5000), (4, 20), (2, 2000), (6, 0)]),
   (illChannel, idleBed, ps [(1, 0), (1, 7), (1, 3), (1, 125), (2, 1280), (1, 10), (17, 0)]),
   (illLevel, idleBed, ps [(8, 0), (2, 65535), (14, 0)]),
   (illStatus, idleBed, ps [(1, 3), (1, 7), (6, 0)]),
   (illClear, { inMode .idle with beds := [(0, { bedOne with leds := [(7, { state := 4 })] })] },
      ps [(1, 0), (1, 7), (6, 0)]),
   (calConfig, idleBed, ps [(1, 0), (1, 2), (2, 0), (2, 256), (1, 1), (1, 64), (2, 65535), (6, 0), (8, 0), (8, 1),
      (2, 1024), (2, 1024), (2, 1024), (2, 1024), (2, 1024), (2, 1024), (2, 1024), (2, 65535)]),
   (calRun, { inMode .calibrate with chans := [(0, freeChan)], beds := [(0, { bedOne with method := 1 })] },
      ps [(1, 0), (1, 1), (2, 0), (4, 600), (8, 0)]),
   (calRun, { inMode .calibrate with chans := [(0, freeChan)], beds := [(0, { bedOne with method := 2 })] },
      ps [(1, 0), (1, 1), (2, 0), (4, 600), (8, 0)]),
   (calStatus, idleBed, ps [(1, 3), (7, 0)])]

def axisOne : Axis := { role := 1, reversible := true, st := .atRest, off := false }
def idleAxis : State := { inMode .idle with axes := [(0, axisOne)] }
def armedAxis : State := { armedFree with axes := [(0, axisOne)] }

def coilKnown : State :=
  { inMode .idle with
    axes := [(0, { axisOne with phA := { disc := 1, rcoil := 20000 }, phB := { disc := 1, rcoil := 20000 } })] }

def witMove : List (Cmd × State × List Byte) :=
  [(moveConfig, inMode .idle, ps [(1, 7), (1, 3), (2, 0), (4, 2147483647), (4, 1), (4, 1), (2, 20000), (14, 0),
      (8, 0), (8, 1)]),
   (moveQueue, armedAxis, ps [(1, 0), (1, 1), (1, 1), (5, 0), (4, 1000000), (1, 0), (3, 0), (8, 0)]),
   (moveOverride, idleAxis, ps [(1, 1), (1, 0), (2, 20000), (4, 0)]),
   (moveGear, armedAxis, ps [(1, 0), (1, 0), (1, 3), (1, 0), (4, 1), (4, 16777215), (20, 0)]),
   (moveGear, armedAxis, ps [(1, 0), (1, 0), (1, 0), (1, 1), (4, 1), (4, 1), (4, 0), (8, 0x6400000000), (8, 0)]),
   (moveStop, armedAxis, ps [(1, 1), (1, 0), (6, 0)]),
   (moveStop, { armedFree with axes := [(0, { axisOne with st := .stopped })] }, ps [(1, 1), (1, 1), (6, 0)]),
   (moveSetpos, armedAxis, ps [(1, 0), (7, 0), (8, 140737488355327)]),
   (moveStatus, idleAxis, ps [(1, 7), (7, 0)]),
   (moveTable, idleAxis, ps [(1, 1), (1, 1), (6, 0)]),
   (moveCoil, coilKnown,
      ps [(1, 0), (1, 1), (2, 256), (2, 40000), (2, 10000), (4, 1000000), (2, 16000), (10, 0)]),
   (moveClear, { inMode .idle with axes := [(0, { axisOne with phA := { trip := true } })] }, ps [(1, 1), (7, 0)]),
   (moveDrive, idleAxis, ps [(8, 0)]),
   (movePace, idleAxis, ps [(1, 0), (1, 5), (1, 8), (1, 0xFF), (2, 100), (2, 1024), (4, 20000000), (4, 16777215),
      (4, 16777215), (4, 4294967295), (1, 7), (7, 0)])]

def gaugeOn : Gauge := { cfg := { bed := 0, enable := true } }

def witGauge : List (Cmd × State × List Byte) :=
  [(gaugeConfig, inMode .idle, ps [(1, 7), (1, 0), (1, 1), (1, 7), (1, 1), (3, 0), (4, 100000), (2, 5000), (2, 13),
      (2, 0), (2, 2000), (4, 100000), (8, 0), (4, 100000), (2, 10000), (2, 50000), (4, 0), (4, 4294967295), (8, 0)]),
   (gaugeConfig, { inMode .capture with gauges := [(7, gaugeOn)] }, ps [(1, 7), (1, 0), (1, 1), (1, 7), (1, 1), (3, 0),
      (4, 10000), (2, 100), (2, 128), (2, 0), (2, 400), (4, 0), (8, 0), (4, 10000), (2, 0), (2, 1000), (4, 0), (4, 1),
      (8, 0)]),
   (gaugeLinear, inMode .idle, ps [(1, 7), (7, 0), (4, 0x3F800000), (44, 0)]),
   (gaugeLinear, { inMode .capture with gauges := [(7, gaugeOn)] }, ps [(1, 7), (7, 0), (4, 0x3F800000), (44, 0)]),
   (gaugeLead, { inMode .armed with gauges := [(0, gaugeOn)] }, ps [(1, 0), (1, 1), (6, 0)]),
   (gaugeDoc, { inMode .idle with gauges := [(0, gaugeOn)] },
      ps [(1, 0), (1, 3), (2, 65535), (4, 16777215), (4, 0x3F800000), (4, 0)]),
   (gaugeAout, inMode .idle, ps [(1, 3), (1, 0), (2, 65535), (2, 0), (2, 0), (4, 0), (4, 0x3F800000)]),
   (gaugeStatusCmd, inMode .idle, ps [(1, 7), (7, 0)])]

/-- A cutting of one word, TI-12's CLOSE of s1. -/
def image : List Byte :=
  ps [(4, 0x4C4D5548), (2, 1), (1, 3), (1, 0), (4, 68), (4, 0), (16, 0), (2, 1), (2, 0), (4, 65536), (2, 16384),
    (1, 32), (1, 0), (4, 16777215), (4, 0), (12, 0), (4, 0xF8004000)]

/-- The image with its CRC in place (R346). -/
def sealed : List Byte := patch image 0x0C (leBytes 4 (crc32 image).toNat)

def cutOne : Cutting :=
  { cab := 0, code := [0], entry := 0, lmSize := 64, outMax := 64, halo := 0, cycBase := 100, cycCol := 0 }

def placeBed : State :=
  { idleBed with streams := [(1, streamOn)], cuttings := [(0x100, some cutOne)] }

def witCut : List (Cmd × State × List Byte) :=
  [(cutLoad, inMode .idle, sealed),
   (cutUnload, { inMode .idle with cuttings := [(0x13F, some cutOne)] }, ps [(2, 0x13F), (6, 0)]),
   (cutPlace, idleBed, ps [(8, 0)]),
   (cutPlace, placeBed, ps [(1, 0), (1, 1), (6, 0), (2, 0x100), (1, 1), (1, 0), (4, 0), (8, 5)]),
   (cutAssign, inMode .idle, ps [(4, 0x00010203), (4, 0x01010101), (4, 0xFFFFFFFF), (4, 0x03030303)])]

def ringOn : Ring := { enabled := true, size := 16, base := 0x9000 }
/-- A ring whose function cannot master the bus. -/
def blockedRing : State :=
  { inMode .idle with rings := [(15, { ringOn with via := 5 })], mbxs := [(5, { busMaster := false })] }

def nodeNine : Node :=
  { uid := 9, inc := 1, distance := 1, port := 0, cls := 0, priority := 64, keep := false, legacy := false, admitted := 0 }

def inRun : State :=
  { inMode .idle with runCfg := { node := some 5 }, nodes := [(9, some nodeNine)] }

def witPorts : List (Cmd × State × List Byte) :=
  [(bufRing, { inMode .idle with streams := [(15, streamOn)] },
      ps [(1, 15), (1, 1), (2, 0), (4, 65536), (8, 0x9000), (4, 10), (4, 0)]),
   (bufRing, { inMode .idle with rings := [(15, ringOn)] }, ps [(1, 15), (23, 0)]),
   (bufRing, blockedRing, ps [(1, 15), (23, 0)]),
   (bufPost, { inMode .idle with rings := [(15, ringOn)] }, ps [(1, 15), (3, 0), (4, 16)]),
   (bufStatus, inMode .idle, ps [(1, 15), (7, 0)]),
   (runConfig, inMode .idle, ps [(2, 1023), (1, 255), (1, 15), (4, 0x03020103), (4, 10000), (4, 60000)]),
   (runNodes, inMode .idle, ps [(8, 0x8000), (4, 32), (4, 0)]),
   (runReadWrite 0x0A03 true, inRun, ps [(2, 9), (2, 7), (1, 56), (3, 0), (4, 0), (4, 0), (8, 0x8000)]),
   (runReadWrite 0x0A04 false, inRun, ps [(2, 9), (2, 7), (1, 1), (3, 0), (4, 0), (4, 0), (1, 42)]),
   (runPost, inRun, ps [(2, 9), (2, 7), (1, 1), (3, 0), (4, 0), (4, 0), (1, 42)]),
   (invSnap, { armedFree with runCfg := { node := some 5 } }, ps [(1, 0), (1, 0), (6, 0), (8, 0x6400000000), (8, 0)]),
   (invRead, inMode .idle, ps [(1, 1), (1, 0), (2, 3), (4, 0), (8, 0x8000), (4, 32), (4, 0)]),
   (invPartners, inMode .idle, ps [(8, 0x8000), (4, 16), (4, 0)]),
   (diagDiscover [{ kind := 0, index := 0, readings := [] }], inMode .idle, ps [(8, 0)]),
   (diagRun, inMode .service, ps [(1, 6), (3, 0), (4, 0), (8, 0x8000), (4, 12), (4, 0)])]

/-- A charter with a second cabinet. -/
def twoCabs : State :=
  { inMode .idle with
    charter := { Charter.factory with entries := Charter.factory.entries ++ [(255, { enable := true, function := 1 })] } }

def witCab : List (Cmd × State × List Byte) :=
  [(hbRead, inMode .update, ps [(4, 32640), (2, 128), (2, 0), (8, 0x8000)]),
   (hbWrite true, inMode .update, ps [(1, 2), (15, 0), (504, 7)]),
   (hbWrite true, { inMode .update with hbNext := [(2, 504)] }, ps [(1, 2), (3, 0), (4, 504), (8, 0), (504, 7)]),
   (hbSlot, inMode .update, ps [(1, 0), (1, 2), (6, 0)]),
   (cabReset, twoCabs, ps [(1, 255), (1, 1), (6, 0)]),
   (cabDivert, inMode .idle, ps [(1, 15), (1, 0xFF), (2, 65535), (4, 2147483647)])]

theorem test_accepts_dev : (witDev.filter fun w => w.1.op != 0x0107).all (fun w => taken w.1 w.2.1 w.2.2) = true := by
  decide +kernel
theorem test_accepts_more : witMore.all (fun w => taken w.1 w.2.1 w.2.2) = true := by decide +kernel
theorem test_segment_found :
    tapResponds [0] [1000000000] = true ∧ tapResponds [0] [0] = false ∧
    State.unwritten { inMode .update with nvsWrites := [{ words := [(0, 0, 1000000001)] }] } = 1 ∧
    (inMode .update).unwritten = 0 := by decide +kernel
theorem test_ring_blocked : blockedRing.ringBlocked (blockedRing.ring 0 15) = true := by decide +kernel
theorem test_accepts_job : witJob.all (fun w => taken w.1 w.2.1 w.2.2) = true := by decide +kernel
theorem test_accepts_bed : witBed.all (fun w => taken w.1 w.2.1 w.2.2) = true := by decide +kernel
theorem test_accepts_ill : witIll.all (fun w => taken w.1 w.2.1 w.2.2) = true := by decide +kernel
theorem test_accepts_move : witMove.all (fun w => taken w.1 w.2.1 w.2.2) = true := by decide +kernel
theorem test_accepts_gauge : witGauge.all (fun w => taken w.1 w.2.1 w.2.2) = true := by decide +kernel
theorem test_accepts_cut : witCut.all (fun w => taken w.1 w.2.1 w.2.2) = true := by decide +kernel
theorem test_accepts_ports : witPorts.all (fun w => taken w.1 w.2.1 w.2.2) = true := by decide +kernel
theorem test_accepts_cab : witCab.all (fun w => taken w.1 w.2.1 w.2.2) = true := by decide +kernel

/-- Each of them meets the hypothesis of its statements. -/
theorem test_witnesses_accepted (l : List (Cmd × State × List Byte))
    (h : l.all (fun w => taken w.1 w.2.1 w.2.2) = true) :
    ∀ w ∈ l, Accepts w.1 0 0 (posted w.2.1 w.1.op w.2.2) 0 :=
  fun w hw => accepts_of_taken _ _ _ (List.all_eq_true.mp h w hw)

/-- DEV.CERT with LENGTH 1,024: the certificate is no longer (R428). -/
theorem test_accepts_cert :
    Accepts devCert 0 0 (posted (inMode .idle) 0x0107 (ps [(8, 0x8000), (4, 1024), (4, 0)])) 0 := by
  have h : decide (Config.deviceCert.length ≤ 1024) = true := by
    rw [decide_eq_true_eq, Config.deviceCert, List.length_take]; exact Nat.min_le_left ..
  let s := posted (inMode .idle) 0x0107 (ps [(8, 0x8000), (4, 1024), (4, 0)])
  let f (b : Bool) := checkCmd { devCert with value := fun _ _ => [need b (eValue 8)] } (s.slot 0 0) (s.reqOf 0 0 0) s
  refine ⟨by decide +kernel, by decide +kernel, ?_, by decide +kernel⟩
  show f (decide (Config.deviceCert.length ≤ (s.reqOf 0 0 0).u32 8)) = none
  rw [show (s.reqOf 0 0 0).u32 8 = 1024 by decide +kernel, h]
  decide +kernel

/-- The checks of a command see no more of it than what its checks say. -/
theorem test_check_value (cmd : Cmd) (v : State → Req → List (Option Err)) (x : Slot) (r : Req) (s : State)
    (h : cmd.value s r = v s r) : checkCmd cmd x r s = checkCmd { cmd with value := v } x r s := by
  simp only [checkCmd, stage2, Cmd.entered, h]
theorem test_check_state (cmd : Cmd) (v : State → Req → List (Option Err)) (x : Slot) (r : Req) (s : State)
    (h : cmd.state s r = v s r) : checkCmd cmd x r s = checkCmd { cmd with state := v } x r s := by
  simp only [checkCmd, stage2, Cmd.entered, h]

/-- Two points of P-256: its generator, and a key that has signed the generator (made with OpenSSL). -/
def pointG : List Byte := leBytes 32 p256g.x ++ leBytes 32 p256g.y
def pointK : List Byte :=
  leBytes 32 0xde5f130a12fbb3cfe0cd512325fde5cd8fd145fcca5aa866f47e248cf875597d ++
  leBytes 32 0x9ea559358aa78df497adcd92bfc0dd9172205a84d0dd8b6cbdf0ead2fa61c220
def signedG : List Byte :=
  leBytes 32 0xD08EF14C47CA47550ACD531DBBF36B1CB77684575F14A7BE808259D02A6C7223 ++
  leBytes 32 0xB05DDBCF8686BFA5DE8D6C431A174CC0716E06A49A155C1E0AD711DC0FA0AFD0
theorem test_accepts_enrol :
    taken cabEnrol (inMode .idle) (pointG ++ List.replicate 64 0) = true ∧
    taken cabEnrol { inMode .idle with ownerKey := some pointK } (pointG ++ signedG) = true ∧
    taken cabEnrol { inMode .idle with ownerKey := some pointG } (pointG ++ signedG) = false := by decide +kernel

def keying : State := posted (inMode .idle) 0x0205 ([1, 0, 0, 0, 0, 0, 0, 0] ++ pointG ++ List.replicate 48 3)

/-- JOB.KEY is accepted where the tag holds under the device's private key, of which nothing is known (R430). -/
theorem test_accepts_key (k : List Byte) (hk : unwrapKey (keying.reqOf 0 0 0) = some k) : Accepts jobKey 0 0 keying 0 := by
  refine ⟨by decide +kernel, by decide +kernel, ?_, by decide +kernel⟩
  rw [test_check_state jobKey (fun _ _ => [none, none])]
  · decide +kernel
  · have e1 : onCurve (((keying.reqOf 0 0 0).p.drop 8).take 64) = true := by decide +kernel
    have e3 : ((keying.reqOf 0 0 0).u8 0 == 2) = false := by decide +kernel
    show [_, _] = _
    simp only [Fin.val_zero, e1, e3, hk, need, Bool.false_and, Bool.not_false, Option.isSome_some, Bool.and_self, if_true]

def finalPiece : State := posted (inMode .update) 0x0C02 (ps [(1, 2), (1, 1), (14, 0), (504, 7)])

/-- The checks of HB.WRITE, the image's apart. -/
def pieceChecks (s : State) (r : Req) (good : Bool) : List (Option Err) :=
  [need (inR 1 (r.u8 0) 4) (eValue 0),
   need ((r.u32 4 == 0 || r.u32 4 == tget 0 s.hbNext (r.u8 0)) && r.u32 4 % 504 == 0) (eValue 4),
   need (bit (r.u8 1) 0 || (r.p.length - 16) % 504 == 0) (eValue 0x10),
   need (decide (r.u32 4 + (r.p.length - 16) ≤ imageRoom (r.u8 0))) (eValue 4),
   need (!bit (r.u8 1) 0 || good) { code := 0x0B, detail := dSubject 3 }]
theorem test_piece_checks (s : State) (r : Req) :
    (hbWrite true).value s r = pieceChecks s r (s.imageGood (r.u8 0) (s.wholeImage r)) := rfl

/-- HB.WRITE with FINAL is accepted where the image verifies under Obaro's key, of which nothing is known (R419). -/
theorem test_accepts_final (r : Req) (hr : r = finalPiece.reqOf 0 0 0)
    (h : finalPiece.imageGood (r.u8 0) (finalPiece.wholeImage r) = true) : Accepts (hbWrite true) 0 0 finalPiece 0 := by
  refine ⟨by decide +kernel, by decide +kernel, ?_, by decide +kernel⟩
  have g : (hbWrite true).value finalPiece (finalPiece.reqOf 0 0 0) = List.replicate 5 none := by
    rw [test_piece_checks, ← hr, h, hr]
    decide +kernel
  simp only [Fin.val_zero]
  rw [test_check_value (hbWrite true) (fun _ _ => List.replicate 5 none) (h := g)]
  decide +kernel

/-- A command of the wrong length is rejected, and one not rung is not next. -/
theorem test_rejects : Rejects devTbread 0 0 (posted (inMode .idle) 0x0104 (ps [(4, 0)])) 0 eLength :=
  ⟨by decide +kernel, by decide +kernel, by decide +kernel⟩
theorem test_not_next : State.isNext (inMode .idle) devTbread 0 0 = false := by decide +kernel

/-- The clauses of the command statements that look at more than the parameters. -/
theorem test_command_clauses :
    reachedIn 0 (armedFree.chanPos 0) 0x6400000000 = false ∧ (inMode .idle).bedClock 0 = false ∧
    State.bedClock { armedFree with beds := [(0, bedOne)] } 0 = true ∧
    State.gaugeRuns { inMode .capture with gauges := [(7, gaugeOn)] } 7 = true ∧ (inMode .idle).gaugeRuns 7 = false ∧
    State.jobDocs { inMode .idle with jobs := [jobOne] } 0 1 = [] ∧ (inMode .idle).canWrite 0 = true := by
  decide +kernel

/-! Witnesses: tines. -/

def runOne : Running :=
  { bed := 0, band := 0, num := 1, kernel := 0, acc := 1, imBase := 0, imSize := 16, lmBase := 0, lmSize := 64,
    psBase := 0, psSize := 64, loBase := 0, outMax := 64, cycles := 100 }

/-- Tine 0 about to issue `w`: s2 is 5, s3 is 0xFFFFFFFF, v4 and v5 have unlike lanes, p1 governs lanes 0 and 2. -/
def tineOne (w : BitVec 32) : Tine :=
  { run := some runOne, im := [(0, w)], s := [(2, 5), (3, 0xFFFFFFFF), (9, 1)],
    v := [(4, 0x7FFF80000001FFFF), (5, 0x0002FFFF80000001)], p := [(1, 5)], a := [(4, 7), (5, 0xFFFFFFFFFF)] }

def tineAt (w : BitVec 32) : State := { inMode .armed with beds := [(0, bedOne)], tines := [(0, tineOne w)] }

/-- Whether the hypotheses of the tine statements hold there. -/
def issuesAt (s : State) (w : BitVec 32) (srcs dsts : List Nat) (chain : Bool) : Bool :=
  let x := s.tine 0
  decide (x.run = some runOne) && decide (x.fetch runOne = some w) && wordDefined w && s.clkOk (4 + 0 / 17) &&
    decide (x.issueCycle srcs dsts chain = 0) && decide ((x.pc + 4).toNat < runOne.imSize)

theorem issues_of (s : State) (w : BitVec 32) (srcs dsts : List Nat) (chain : Bool)
    (h : issuesAt s w srcs dsts chain = true) : Issues s 0 w srcs dsts chain runOne 0 ∧ FallsInside s 0 runOne := by
  simp only [issuesAt, Bool.and_eq_true, decide_eq_true_eq] at h
  exact ⟨⟨h.1.1.1.1.1, h.1.1.1.1.2, h.1.1.1.2, h.1.1.2, h.1.2.symm, by decide⟩, h.2⟩

/-- Words of the clauses, with the registers they read and write. -/
def witWords : List (BitVec 32 × List Nat × List Nat × Bool) :=
  [(encA 0x01 1 2 3 0 0x0D, [rS 2, rS 3], [rS 1], false), (encB 0x02 15 2 0x8 0xFFF, [rS 2], [rS 15], false),
   (encB 0x02 1 2 0x6 31, [rS 2], [rS 1], false), (encD 0x03 15 0xFFFFF, [], [rS 15], false),
   (encA 0x04 31 4 5 1 20, [rV 4, rV 5, rP 1], [rV 31], false), (encB 0x08 1 4 0 15, [rV 4], [rV 1], false),
   (encB 0x08 1 4 1 15, [rV 4], [rV 1], false), (encB 0x08 1 4 2 15, [rV 4], [rV 1], false),
   (encB 0x08 1 0 3 0x800, [], [rV 1], false), (encA 0x05 7 4 5 1 5, [rV 4, rV 5, rP 1], [rP 7], false)] ++
  [(encA 0x06 1 4 5 1 0, [rV 4, rV 5, rP 1], [rV 1], false), (encA 0x06 1 2 0 1 1, [rS 2, rP 1], [rV 1], false),
   (encA 0x06 1 4 3 0 2, [rV 4], [rS 1], false), (encA 0x06 1 2 3 0 3, [rS 2], [rV 1], false),
   (encA 0x06 1 4 0 0 4, [rV 4], [rS 1], false), (encA 0x06 1 1 2 0 8, [rP 1, rP 2], [rP 1], false),
   (encA 0x06 1 1 2 0 9, [rP 1, rP 2], [rP 1], false), (encA 0x06 1 1 0 0 10, [rP 1], [rP 1], false),
   (encA 0x06 1 1 0 0 11, [rP 1], [rS 1], false), (encA 0x06 1 2 0 0 12, [rS 2], [rP 1], false)] ++
  [(encA 0x07 3 0 0 1 0, [rP 1], [rA 3], false), (encA 0x07 1 4 5 1 1, [rV 4, rV 5, rP 1], [rA 1], true),
   (encA 0x07 1 4 5 1 2, [rV 4, rV 5, rP 1], [rA 1], true), (encA 0x07 1 4 0 1 3, [rV 4, rP 1], [rA 1], true),
   (encA 0x07 1 1 31 1 4, [rA 1, rP 1], [rV 1], false), (encA 0x07 1 1 31 1 5, [rA 1, rP 1], [rV 1], false)] ++
  [(encC 0x10 1 0 0 0 60, [rS 0], [rS 1], false), (encC 0x11 1 0 1 0 62, [rS 0], [rS 1], false),
   (encC 0x12 1 0 2 1 8, [rS 0], [rV 1, rS 0], false), (encC 0x14 2 0 0 0 60, [rS 0, rS 2], [], false),
   (encC 0x15 2 0 1 0 62, [rS 0, rS 2], [], false), (encC 0x16 4 0 3 1 8, [rS 0, rV 4], [rS 0], false),
   (encC 0x10 1 0 3 0 0, [rS 0], [rS 1], false)] ++
  [(encD 0x18 1 2, [], [rS 1], false), (encD 0x19 0 2, [rS 0], [], false), (encD 0x1C 3 2, [rS 3], [], false),
   (encD 0x1D 9 0xFFFFF, [rS 9], [rS 9], false), (encD 0x1E 1 2, [rP 1], [], false), (encD 0x1F 1 2, [rP 1], [], false),
   (encA 0x3E 0 0 0 0 5, [rS 0], [], false), (encD 0x18 0 4, [], [rS 0], false)] ++
  [(encA 0x3E 0 0 0 0 0, [], [], false), (encA 0x3E 0 0 0 0 1, [rStores], [], false), (encA 0x3E 0 0 0 0 2, [], [], false),
   (encA 0x3E 1 0 0 0 6, [], [rS 1], false), (encA 0x3E 0 0 31 0 8, [rStores], [], false),
   (encA 0x3E 0 0 31 0 9, [rStores], [], false), (encA 0x3E 0 0 31 0 10, [rStores], [], false),
   (encA 0x3E 1 0 31 0 11, [rStores], [rS 1], false), (encA 0x3E 0 2 0 0 4, [rS 2, rStores], [], false),
   (encA 0x3E 0 0 0 0 3, [], [], false)]

theorem test_tine_words : witWords.all (fun x => issuesAt (tineAt x.1) x.1 x.2.1 x.2.2.1 x.2.2.2) = true := by
  decide +kernel
theorem test_tine_issues : ∀ x ∈ witWords, Issues (tineAt x.1) 0 x.1 x.2.1 x.2.2.1 x.2.2.2 runOne 0 ∧
    FallsInside (tineAt x.1) 0 runOne :=
  fun x hx => issues_of _ _ _ _ _ (List.all_eq_true.mp test_tine_words x hx)
/-- Each row of the tables meets its hypotheses too. -/
theorem test_tine_rows :
    (∀ r ∈ scalarRows, issuesAt (tineAt (encA 0x01 1 2 3 0 r.2.1)) (encA 0x01 1 2 3 0 r.2.1) [rS 2, rS 3] [rS 1] false) ∧
    (∀ r ∈ immediateRows, issuesAt (tineAt (encB 0x02 1 2 r.2.1 0x800)) (encB 0x02 1 2 r.2.1 0x800) [rS 2] [rS 1] false) ∧
    (∀ r ∈ shiftRows, issuesAt (tineAt (encB 0x02 1 2 r.2.1 31)) (encB 0x02 1 2 r.2.1 31) [rS 2] [rS 1] false) ∧
    (∀ fn < 21, issuesAt (tineAt (encA 0x04 1 4 5 1 fn)) (encA 0x04 1 4 5 1 fn) [rV 4, rV 5, rP 1] [rV 1] false) ∧
    (∀ fn < 6, issuesAt (tineAt (encA 0x05 2 4 5 1 fn)) (encA 0x05 2 4 5 1 fn) [rV 4, rV 5, rP 1] [rP 2] false) ∧
    (∀ r ∈ branchRows, issuesAt (tineAt (encD r.2.1 3 2)) (encD r.2.1 3 2) (if r.2.2.1 then [rS 3] else [])
      (if r.2.2.2.1 then [rS 3] else []) false) := by decide +kernel

/-- Loads and stores inside their windows at the last place, the trap of a load from LO, a JR to 4 and a result of 5
bytes. -/
theorem test_tine_windows :
    memTrap runOne 0 false 60 4 = none ∧ memTrap runOne 1 false 62 2 = none ∧ memTrap runOne 2 false 40952 8 = none ∧
    memTrap runOne 0 true 60 4 = none ∧ memTrap runOne 1 true 62 2 = none ∧ memTrap runOne 3 true 56 8 = none ∧
    memTrap runOne 3 false 0 4 = some 1 ∧ memTrap runOne 0 false 61 4 = some 1 ∧ memTrap runOne 0 false 2 4 = some 3 ∧
    ((tineAt 0).tine 0).stores = [] ∧ (((tineAt 0).tine 0).sreg 2).toNat ≤ runOne.outMax ∧
    ((tineAt 0).tine 0).sreg 0 = 0 := by decide +kernel

/-- Undefined words (R365), a run that has reached 4 x C, and a word that is not the instruction's. -/
theorem test_tine_undefined : decodeTine 0 0 = none ∧ ((tineAt 0).tine 0).fetch runOne = some 0 ∧
    decodeTine 0 (encA 0x01 1 2 3 1 0) = none ∧
    tineWord (.add 0 1 2 3) = some (encA 0x01 1 2 3 0 0) ∧ ((tineAt 0).tine 0).fetch runOne ≠ some (encA 0x01 1 2 3 0 0) := by
  decide +kernel
def lateTine : State :=
  { inMode .armed with beds := [(0, bedOne)], tines := [(0, { run := some runOne, im := [(0, encA 0x01 1 2 3 0 0)], cyc := 400 })] }
theorem test_tine_late : (lateTine.tine 0).fetch runOne = some (encA 0x01 1 2 3 0 0) ∧
    4 * runOne.cycles ≤ (lateTine.tine 0).issueCycle [rS 2, rS 3] [rS 1] false ∧
    4 * runOne.cycles ≤ (lateTine.tine 0).cyc := by decide +kernel

/-- A word of each format and family written out from its encoding (Tables TI-1 and TI-5 to TI-12). -/
theorem test_tine_decodes :
    decodeTine 0 0x04221800 = some (.add 0 1 2 3) ∧ decodeTine 0 0x08220FFF = some (.addi 0 1 2 0xFFF) ∧
    decodeTine 0 0x0DEFFFFF = some (.lui 0 15 0xFFFFF) ∧ decodeTine 0 0x13E42900 = some (.vadd 0 31 4 5 1) ∧
    decodeTine 0 0x14442900 = some (.vcmpeq 0 2 4 5 1) ∧ decodeTine 0 0x18242900 = some (.vsel 0 1 4 5 1) ∧
    decodeTine 0 0x1C242901 = some (.vmacu 0 1 4 5 1) ∧ decodeTine 0 0x2024000F = some (.vshli 0 1 4 15) ∧
    decodeTine 0 0x40220008 = some (.ldw 0 1 2 0 false 8) ∧ decodeTine 0 0x5889D008 = some (.stv 0 4 9 3 true 8) ∧
    decodeTine 0 0x61EFFFFF = some (.jal 0 15 0xFFFFF) ∧ decodeTine 0 0xF8020004 = some (.close 0 2) := by
  decide +kernel

/-- What is undefined by R365: an OP not listed, an unused field, an s field above 15, p0 as a destination, a scalar load
with MODE 1 whose DATA is BASE, DBNZ with REG 0, MODE 2. -/
theorem test_tine_reserved :
    ([0, 0x04221900, 0x06221800, 0x14042900, 0x40421008, 0x7400000F, 0x40222008] : List (BitVec 32)).all
      (fun w => (decodeTine 0 w).isNone) = true := by decide +kernel

/-- The state after a command. -/
def after (i : Instr) (s : State) : State :=
  match exec i s with
  | .next t => t
  | _ => s

def ran (i : Instr) : Tine := (after i (tineAt ((tineWord i).getD 0))).tine 0

/-- The stores outside what R375 allows, the branch and the JR out of the window, the JR to 5 and the result too long. -/
theorem test_tine_traps :
    (∀ x ∈ [(encC 0x11 1 0 1 0 61, [rS 0], [rS 1], 62), (encC 0x12 1 0 2 0 4, [rS 0], [rV 1], 4)],
      issuesAt (tineAt x.1) x.1 x.2.1 x.2.2.1 false = true) ∧
    memTrap runOne 1 false 61 2 = some 3 ∧ memTrap runOne 2 false 4 8 = some 3 ∧ memTrap runOne 2 true 0 4 = some 1 ∧
    issuesAt (tineAt (encC 0x14 2 0 2 0 0)) (encC 0x14 2 0 2 0 0) [rS 0, rS 2] [] false = true ∧
    issuesAt (tineAt (encC 0x15 2 0 2 0 0)) (encC 0x15 2 0 2 0 0) [rS 0, rS 2] [] false = true ∧
    issuesAt (tineAt (encC 0x16 2 0 2 0 0)) (encC 0x16 2 0 2 0 0) [rS 0, rV 2] [] false = true ∧
    ((tineAt 0).tine 0).stores.length = 0 ∧
    issuesAt (tineAt (encA 0x3E 0 2 0 0 5)) (encA 0x3E 0 2 0 0 5) [rS 2] [] false = true ∧
    (((tineAt 0).duly 0 0).sreg 2).toNat % 4 = 1 ∧
    (let s := { inMode .armed with beds := [(0, bedOne)], tines := [(0, { tineOne (encA 0x3E 0 2 0 0 5) with s := [(2, 16)] })] }
     issuesAt s (encA 0x3E 0 2 0 0 5) [rS 2] [] false = true ∧ runOne.imSize ≤ ((s.duly 0 0).sreg 2).toNat) ∧
    issuesAt (tineAt (encA 0x3E 0 3 0 0 4)) (encA 0x3E 0 3 0 0 4) [rS 3, rStores] [] false = true ∧
    runOne.outMax < (((tineAt 0).fenced 0 0).sreg 3).toNat ∧
    ((after (.stw 0 2 0 2 false 0) (tineAt (encC 0x14 2 0 2 0 0))).tine 0).run = none ∧
    (ran (.close 0 3)).gate.map (·.bytes) = [none] := by decide +kernel

/-- Results worked out by hand from Tables TI-5 to TI-9: s2 is 5 and s3 is -1; v4 has the lanes FFFF 0001 8000 7FFF and v5
0001 8000 FFFF 0002, lane 0 first; a1 has 7 in lane 0. -/
theorem test_tine_scalars :
    (ran (.add 0 1 2 3)).sreg 1 = 4 ∧ (ran (.sub 0 1 2 3)).sreg 1 = 6 ∧ (ran (.sra 0 1 3 2)).sreg 1 = 0xFFFFFFFF ∧
    (ran (.shr 0 1 3 2)).sreg 1 = 0x07FFFFFF ∧ (ran (.mulhu 0 1 2 3)).sreg 1 = 4 ∧ (ran (.slt 0 1 3 2)).sreg 1 = 1 ∧
    (ran (.sltu 0 1 3 2)).sreg 1 = 0 ∧ (ran (.min 0 1 2 3)).sreg 1 = 0xFFFFFFFF ∧ (ran (.max 0 1 2 3)).sreg 1 = 5 ∧
    (ran (.andi 0 1 3 0xFFF)).sreg 1 = 0xFFF ∧ (ran (.addi 0 1 2 0xFFF)).sreg 1 = 4 ∧
    (ran (.lui 0 1 0x80000)).sreg 1 = 0x80000000 ∧ (ran (.add 0 0 2 3)).sreg 0 = 0 := by decide +kernel
theorem test_tine_lanes :
    (ran (.vadd 0 5 4 5 1)).vreg 5 = 0x00027FFF80000000 ∧ (ran (.vaddus 0 1 4 5 0)).vreg 1 = 0x8001FFFF8001FFFF ∧
    (ran (.vaddss 0 1 4 5 0)).vreg 1 = 0x7FFF800080010000 ∧ (ran (.vsubus 0 1 4 5 0)).vreg 1 = 0x7FFD00000000FFFE ∧
    (ran (.vavgu 0 1 4 5 0)).vreg 1 = 0x4001C00040018000 ∧ (ran (.vsra 0 1 4 5 0)).vreg 1 = 0x1FFFFFFF0001FFFF ∧
    (ran (.vcmplts 0 1 4 5 0)).preg 1 = 0x5 ∧ (ran (.vsel 0 1 4 5 1)).vreg 1 = 0x000280008000FFFF ∧
    (ran (.vhsum 0 1 4)).sreg 1 = 0x1FFFF ∧ (ran (.vext 0 1 4 2)).sreg 1 = 0x8000 ∧
    (ran (.vmacs 0 1 4 5 1)).alane 1 0 = 6 ∧ (ran (.vmacs 0 1 4 5 1)).alane 1 1 = 0xFFFFFFFFFF ∧
    (ran (.agets 0 1 1 1 0)).vreg 1 = 4 := by decide +kernel
theorem test_tine_memory :
    ((ran (.stw 0 2 0 0 false 60)).stores.map fun x => (x.addr, x.bytes)) = [(60, [5, 0, 0, 0])] ∧
    (ran (.stw 0 2 0 0 false 60)).pc = 4 ∧ (ran (.jal 0 1 2)).pc = 8 ∧ (ran (.jal 0 1 2)).sreg 1 = 4 ∧
    (ran (.dbnz 0 9 2)).pc = 4 ∧ (ran (.dbnz 0 9 2)).sreg 9 = 0 ∧ (ran (.bltz 0 3 2)).pc = 8 ∧
    (ran (.close 0 2)).gate.length = 1 ∧ (ran (.close 0 2)).run = none ∧ (ran (.trap 0)).run = none ∧
    (ran (.ldw 0 1 0 3 false 0)).run = none := by decide +kernel

/-! Witnesses: the Rake and its events. -/

def kernOne : Kern := { id := 0x100, stream := 1, psSize := 0, arg := 0x0000000500000007 }
def placeOne : Place := { line := false, halo := 0, kernels := [kernOne] }

def lineOne : GLine :=
  { acc := 1, line := 1, bed := 0, pos := 0, time := 0, invalid := 0, fluxShort := 0, darkUnchecked := false,
    deadRun := false, pixels := [List.replicate 1152 7], num := 1, cab := 0, docStart := true, docEnd := false,
    place := placeOne, results := [], reserved := [64], tine := none }

def plotReady : Plot := { scrubDue := false, lastCab := some 0, loaded := some (0, 0, placeOne) }

/-- Bed 0 with one line queued and plot 0 loaded for it. -/
def withLine : State :=
  { inMode .capture with
    beds := [(0, { bedOne with queue := [lineOne] })], cuttings := [(0x100, some { cutOne with entry := 1, code := [0, 0] })]
    plots := [(0, plotReady)], places := [(0, some placeOne)], streams := [(1, streamOn)] }

theorem test_kernel_entry :
    withLine.nextWork 0 = some (lineOne, 0, 0) ∧ withLine.mayEnter 0 lineOne = true ∧
    withLine.faultedBefore lineOne 0 = false ∧ ((after (.kernelEntry 0) withLine).tine 0).pc = 4 ∧
    ((after (.kernelEntry 0) withLine).tine 0).sreg 1 = 7 ∧ ((after (.kernelEntry 0) withLine).tine 0).sreg 2 = 5 ∧
    ((after (.kernelEntry 0) withLine).tine 0).preg 0 = 0xF := by decide +kernel

def resOne : Res := { bed := 0, band := 0, num := 1, kernel := 0, epoch := 0, bytes := some [1, 2] }
def withRes (r : Res) : State := { withLine with tines := [(0, { gate := [r] })] }

theorem test_results :
    (withRes resOne).accepts 0 resOne = true ∧ (withRes { resOne with epoch := 1 }).accepts 0 { resOne with epoch := 1 } = false ∧
    (after (.resultAccepted 0) (withRes resOne)).ctr 7 0 1 = 1 ∧
    (after (.resultAccepted 0) (withRes { resOne with epoch := 1 })).ctr 7 0 2 = 1 := by decide +kernel

def withStore (space : Nat) : State :=
  { inMode .armed with beds := [(0, bedOne)], tines := [(0, { stores := [{ space, addr := 65535, bytes := [9], cycle := 0 }] })] }

theorem test_store : ∀ k ∈ [0, 1, 3],
    ((after (.storePerformed 0) (withStore k)).tine 0).stores = [] ∧
    (after (.storePerformed 0) (withStore k)).tineByte 0 k 65535 = 9 ∧
    (after (.storePerformed 0) (withStore k)).tineByte 0 k 65534 = 0 := by decide +kernel

/-- A PFWAIT on a flag that is 0 is blocked. -/
theorem test_watchdog :
    (tineAt (encA 0x3E 0 0 31 0 0x0A)).blocked 0 runOne = true ∧
    ((after (.kernelWatchdog 0) (tineAt (encA 0x3E 0 0 31 0 0x0A))).tine 0).cyc = 400 ∧
    ((after (.kernelWatchdog 0) lateTine).tine 0).run = none := by decide +kernel

def bedThree : State := { inMode .armed with beds := [(3, bedOne)] }
def declaredTine (x : Tine) : State := { bedThree with tines := [(271, { x with declared := true, closed := true })] }

theorem test_tine_failures :
    bedThree.clkOk (4 + 271 / 17) = true ∧ (bedThree.tine 271).declared = false ∧
    ((after (.tineDead 271 true) bedThree).tine 271).declarations = 1 ∧
    ((after (.tineRevived 271) (declaredTine {})).tine 271).quarantined = true ∧
    ((after (.selfTestDone 271 true) (declaredTine { quarantined := true })).tine 271).up = true ∧
    ((after (.selfTestDone 271 false) (declaredTine { quarantined := true })).tine 271).retired = true ∧
    bedThree.plotBed 15 = 3 ∧ (bedThree.bandsOfTine 3 255).length = 1 := by decide +kernel

theorem test_plot_scrub :
    (let s := { withLine with plots := [(0, { plotReady with scrubDue := true, ps := [(0, 1)], flags := 1 })] }
     s.nextLine 0 = some lineOne ∧ s.needsScrub 0 lineOne = true ∧ s.clkOk 4 = true ∧
     (∀ i < 17, (s.tine i).run = none ∧ (s.tine i).gate = []) ∧
     ((after (.plotScrub 0) s).plot 0).flags = 0 ∧ (after (.plotScrub 0) s).ctr 7 0 6 = 1) := by decide +kernel

/-! Witnesses: modes, boot, reset, covers, supplies, clocks. -/

/-- A change of mode under way; the firmware not yet up, so that no checkpoint is written. -/
def changing (m t : Mode) : State :=
  { inMode m with fwUp := false, change := some { target := t, cause := 0, off := false } }

theorem test_mode_change :
    (∀ x ∈ [(Mode.idle, Mode.service), (.idle, .update), (.service, .idle), (.armed, .capture), (.capture, .drain),
      (.idle, .armed), (.armed, .calibrate), (.idle, .keep), (.idle, .dormant)],
      (after .modeChangeComplete (changing x.1 x.2)).mode = x.2) ∧
    (∀ b < 4, ((inMode .idle).bed b).darkHigh = false) ∧ (∀ u < 10, ((inMode .idle).supply u).outside = false) := by
  decide +kernel
theorem test_drain : (inMode .drain).rakeIdle = true ∧ (inMode .drain).transportMoves = false ∧
    (inMode .drain).dmaIdle = true ∧ (inMode .halted).dmaIdle = true ∧
    (after .drainComplete (inMode .drain)).mode = .armed ∧ (inMode .halted).rakeIdle = true ∧
    (after .haltSettled (inMode .halted)).haltSettled = true := by decide +kernel

def asleep : State := { inMode .keep with wakeMask := 0xC1 }
theorem test_wakes :
    (after (.wakeSource 7) asleep).wakeCause = 0x80 ∧ (after .wakeTimer asleep).wakeCause = 0x40 ∧
    after (.wakeSource 1) asleep = asleep ∧
    (after (.vin12Return 10800) { inMode .dormant with wakeLatch := 0x80 }).mode = .boot ∧
    (after (.vin12Return 13200) (inMode .dormant)).mode = .dormant ∧
    (let s := { inMode .dormant with wakeLatch := 0x80, supplies := [(0, {}), (9, {})] }
     (after (.supplyReturn 0 10800) s).mode = .boot ∧ (after (.supplyReturn 9 3300) s).mode = .dormant) := by decide +kernel
theorem test_checkpoint :
    (after .ledgerCheckpoint (inMode .halted)).checkpointNo = 1 ∧ ((inMode .halted).supply 0).outside = false := by
  decide +kernel
theorem test_boot_complete : (inMode .boot).mode = .boot ∧ (inMode .boot).fwUp = true := by decide
theorem test_resets :
    after (.resetNAssert 99) (inMode .armed) = inMode .armed ∧ (after (.resetNAssert 1000) (inMode .armed)).mode = .boot ∧
    (after .vin12Collapse (inMode .armed)).mode = .boot ∧ (after (.powerUp [3]) (inMode .armed)).nvsBad = [3] ∧
    (after (.powerUp []) (inMode .armed)).breaches.all (fun x => x.condition != 0 || x.ended.isSome) = true ∧
    (after (.curatorWatchdog 3) (inMode .armed)).wdPending = some (3, 0) ∧
    (after (.devReset 0 0) (posted (inMode .idle) 0x0102 (ps [(8, 0)]))).mode = .boot := by decide +kernel

theorem test_cover :
    (after (.coverChanged 3 true) { inMode .armed with beds := [(0, { bedOne with coverMask := some 8 })] }).mode = .halted ∧
    (after (.coverChanged 3 true) (inMode .armed)).mode = .halted ∧
    (after (.coverChanged 3 true) { inMode .armed with beds := [(0, bedOne), (3, { coverMask := some 0 })] }).mode = .armed ∧
    (after (.coverChanged 0 false) { inMode .armed with coverOpen := 1 }).coverOpen = 0 := by decide +kernel
theorem test_supply :
    supplyIn 0 10799 = false ∧ (inMode .armed).supplyUsed 0 = true ∧
    (after (.supplyFault 0 10799) (inMode .armed)).mode = .halted ∧ supplyIn 9 3300 = true ∧
    ((after (.supplyReturn 9 3300) { inMode .armed with supplies := [] }).supply 9) = { mv := 3300, outside := false } := by
  decide +kernel
theorem test_junction :
    (after (.junctionRead 0 1680 0 0) (inMode .armed)).warnArmed = false ∧
    (after (.junctionRead 0 1680 0 0) (inMode .armed)).mode = .armed ∧
    (after (.junctionRead 0 0 0 1792) (inMode .armed)).mode = .armed ∧
    (after (.junctionRead 0 0 0 1793) (inMode .armed)).mode = .halted ∧
    (after (.junctionRead 0 0 0 1599) { inMode .armed with warnArmed := false }).warnArmed = true ∧
    (after (.junctionRead 0 0 0 1600) { inMode .armed with warnArmed := false }).warnArmed = false := by decide +kernel
theorem test_clocks :
    (inMode .armed).clkStopped 101 = false ∧ (after (.clockFail 101) (inMode .armed)).mode = .halted ∧
    ((after (.clockResetHold 101) { inMode .armed with clocks := [(101, { failed := true })] }).clock 101).held = true ∧
    (after (.clockRecover 101) { inMode .armed with clocks := [(101, { failed := true })] }).clkOk 101 = true := by
  decide +kernel

/-- A DEV.TBREAD while the clock of TB has failed and CLKOK still reads set (R554). -/
def hanging (c : Clock) : State :=
  { posted (inMode .idle) 0x0104 (ps [(1, 3), (7, 0)]) with clocks := [(95, c)] }
def hungOnce : State := after (.devTbread 0 0) (hanging { failed := true, seen := 1000000001 })
theorem test_hang :
    (let s := hanging { failed := true, seen := 1000000001 }
     s.isNext devTbread 0 0 = true ∧ s.cabOfMbx 0 = some 0 ∧ checkCmd devTbread (s.slot 0 0) (s.reqOf 0 0 0) s = none ∧
     devTbread.hangsIn s (s.reqOf 0 0 0) = some 95) ∧
    checkCmd devTbread ((hanging { failed := true, seen := 1000000000 }).slot 0 0)
      ((hanging { failed := true, seen := 1000000000 }).reqOf 0 0 0) (hanging { failed := true, seen := 1000000000 }) =
      some { code := 4, detail := dDomain 95 } ∧
    hungOnce.hung = some { key := 0, domain := 95 } ∧ ((after (.clockResetHold 95) hungOnce).slot 0 0).done = true ∧
    ((after (.clockResetHold 95) hungOnce).slot 0 0).response.take 5 = [9, 0, 4, 1, 10] ∧
    (after (.clockRecover 95) hungOnce).hung = none ∧ (after (.clockRecover 95) hungOnce).rung = [0] ∧
    ((after (.clockFail 95) (hanging {})).clock 95).failed = true := by decide +kernel

def rawOne : RawLine := { num := 1, acc := 1, fitted := true }
/-- The kernel store of DRAM. -/
def storeAddr : BitVec 34 := BitVec.ofNat 34 (15 * 2 ^ 30)
theorem test_dram :
    (inMode .armed).clkOk 20 = true ∧ (inMode .armed).clkOk 21 = true ∧ storeAddr.toNat = 15 * 2 ^ 30 ∧
    tget none withLine.cuttings 0x100 = some { cutOne with entry := 1, code := [0, 0] } ∧ withLine.clkOk 20 = true ∧
    ((State.bed { inMode .armed with beds := [(0, { bedOne with delay := [rawOne] })] } 0).delay.find?
      fun r => r.num == 1 && r.fitted) = some rawOne := by decide +kernel

/-! Witnesses: the timebase, the mailboxes and the ports. -/

def encoder : Chan := { source := .enc, unit := 3, filter := 0, present := true }

def dueCmp (action : Nat) (arg : BitVec 32) (period : BitVec 64) (dir : Nat) : State :=
  { inMode .armed with
    chans := [(3, { encoder with base := 0x70000 })]
    comps := [(63, some { cmpOne with chan := 3, action, arg, dir, period, target := 0x70000 })] }

theorem test_compare :
    (∀ x ∈ [(0, 0#32, 0#64, 0), (1, 0x8001, 0x10000, 0), (2, 0x8001, 0x10000, 1), (3, 0xFFFF8001, 0, 2)],
      let s := dueCmp x.1 x.2.1 x.2.2.1 x.2.2.2
      s.firstDue 63 = true ∧ (after (.compareFired 63) s).ctr 6 3 5 = 1) ∧
    (after (.compareFired 63) (dueCmp 1 0x8001 0 0)).pin 15 = { output := true, level := true, pulses := [] } ∧
    (after (.compareFired 63) (dueCmp 3 0xFFFF8001 0 0)).pin 0 =
      { output := true, level := true, pulses := [1000000000 + 65535000] } ∧
    ((after (.compareFired 63) (dueCmp 2 1 0x10000 1)).comp 63).map (·.target) = some 0x60000 := by decide +kernel

def pulsing (e : List Nat) : State :=
  { inMode .armed with pins := [(15, { output := true, level := true, pulses := e })] }
theorem test_pulse :
    ((after (.gpioPulseEnd 15) (pulsing [1000000000])).pin 15).level = false ∧
    after (.gpioPulseEnd 15) (pulsing [1000000001]) = pulsing [1000000001] ∧
    after (.gpioPulseEnd 15) (pulsing []) = pulsing [] := by decide +kernel

def withEnc (k : Chan) : State := { inMode .armed with chans := [(3, k)] }

/-- Forward is A leading B (R82): with B low, A rising is forward; INVERT reverses it. -/
theorem test_encoder :
    (withEnc encoder).encRuns 3 = true ∧
    ((after (.encEdge 3 false ⟨true, 0⟩) (withEnc encoder)).chan 3).base = 0x10000 ∧
    ((after (.encEdge 3 true ⟨true, 0⟩) (withEnc encoder)).chan 3).base = 0xFFFFFFFFFFFF0000 ∧
    ((after (.encEdge 3 false ⟨true, 0⟩) (withEnc { encoder with invert := true })).chan 3).base = 0xFFFFFFFFFFFF0000 ∧
    ((after (.encError 3) (withEnc encoder)).chan 3).present = true ∧
    ((after (.encError 3) (withEnc { encoder with illegal := List.replicate 15 0 })).chan 3).present = false ∧
    ((after (.encSignalLoss 3 false) (withEnc encoder)).chan 3).present = false ∧
    ((after (.encSignalLoss 3 true) (withEnc { encoder with indexCheck := true })).chan 3).present = false ∧
    ((after (.tbSourceBack 3) (withEnc { encoder with present := false })).chan 3).present = true ∧
    (after (.encIndex 3) (withEnc { encoder with indexCheck := true, zSeen := true, edges := 5, indexPeriod := 4 })).ctr 6 3 2 = 1 ∧
    (withEnc encoder).chanInUse 3 = false := by decide +kernel
/-- An edge must persist for FILTER samples, and the crossing of its sense carries one each 15 ns (R82, R549); an encoder that
no channel follows, and a channel that holds, keep the levels (R88, R622). -/
theorem test_encoder_crossing :
    (let s (t : Nat) := { withEnc { encoder with filter := 2 } with crossings := [(edgeCrossing 3 true, { last := some t })] }
     (s 999999985).edgeCarried 3 true = true ∧ (s 999999986).edgeCarried 3 true = false ∧
     (s 999999986).edgeCarried 3 false = true ∧
     ((after (.encEdge 3 false ⟨true, 0⟩) (s 999999985)).chan 3).base = 0 ∧
     ((after (.encEdge 3 false ⟨true, 1⟩) (s 999999985)).chan 3).base = 0x10000 ∧
     ((after (.encEdge 3 false ⟨false, 1⟩) (s 999999985)).chan 3).edges = 0 ∧
     ((after (.encEdge 3 false ⟨true, 1⟩) (s 999999986)).chan 3).base = 0 ∧
     ((after (.encEdge 3 false ⟨true, 1⟩) (s 999999986)).chan 3).a = true ∧
     (after (.encEdge 3 false ⟨true, 1⟩) (s 999999986)).ctr 0x0C 95 0 = 1 ∧
     ((after (.encEdge 3 true ⟨true, 1⟩) (s 999999986)).chan 3).base = 0xFFFFFFFFFFFF0000) ∧
    (tget 0 (after (.encEdge 2 true ⟨true, 0⟩) (withEnc encoder)).encs 2) = 2 ∧
    ((after (.encEdge 3 false ⟨true, 0⟩) (withEnc { encoder with held := true })).chan 3).a = true ∧
    (withEnc { encoder with held := true }).encRuns 3 = false ∧
    (after (.encIndex 3) (withEnc { encoder with zSeen := true, edges := 5, indexPeriod := 4 })).ctr 6 3 2 = 0 ∧
    ((after (.encIndex 3) (withEnc { encoder with edges := 5 })).chan 3).edgesAtZ = 5 := by decide +kernel
theorem test_encoder_used :
    (let s := { withEnc encoder with beds := [(0, { bedOne with chan := 3 })], jobs := [{ jobOne with chan := 3, current := true }] }
     s.chanInUse 3 = true ∧ (after (.encSignalLoss 3 false) s).mode = .halted) := by decide +kernel
theorem test_sync_loss :
    (let s := { inMode .armed with chans := [(0, { source := .remote, present := true, syncAt := 999900000 })] }
     s.clkOk 95 = true ∧ 100000 ≤ s.now - (s.chan 0).syncAt ∧ s.chanInUse 0 = false ∧ ((after (.syncLoss 0) s).chan 0).present = false) := by
  decide +kernel

/-- A mailbox whose slot 3 holds a DEV.TBREAD not yet rung. -/
def slotted (x : Slot) : State := { inMode .idle with mbxs := [(0, { slots := [(3, x)] })] }
def host4 : Slot := { host := leBytes 2 0x0104 ++ List.replicate 62 0 }

theorem test_slots :
    (slotted host4).reachable 0 = true ∧ (slotted host4).closed 0 = false ∧ (slotted host4).cabOfMbx 0 = some 0 ∧
    opOf ((slotted host4).slot 0 3).host ∈ opcodes ∧ (after (.ringSlot 0 3) (slotted host4)).rung = [3] ∧
    ((after (.ringSlot 0 3) (slotted { host4 with posted := true })).mbx 0).stray = true ∧
    ((after (.freeSlot 0 3) (slotted { host4 with done := true })).slot 0 3).done = false ∧
    ((after (.commandSlotWrite 0 0x1FC false 0x11223344) (slotted host4)).slot 0 3).host.drop 60 = [0x44, 0x33, 0x22, 0x11] ∧
    after (.commandSlotWrite 0 0x1FC false 1) (slotted { host4 with done := true }) = slotted { host4 with done := true } := by
  decide +kernel

def ringAt (r : EvRing) : State := { inMode .idle with cabs := [(0, { ring := r })] }
def ringOk : EvRing := { base := 0x1000, size := 64 }
theorem test_event_ring :
    ringOk.configOk = true ∧ ({} : EvRing).configOk = false ∧
    ((after (.eventRingCtrlWrite 0 1) (ringAt { ringOk with writeIdx := 7 })).cab 0).ring.readIdx = 7 ∧
    ((after (.eventRingCtrlWrite 0 1) (ringAt {})).cab 0).ring.badConfig = true ∧
    ((after (.eventRingConfigWrite 0 0x408 false 64) (ringAt {})).cab 0).ring.size = 64 ∧
    ((after (.eventRingConfigWrite 0 0x408 false 64) (ringAt { ringOk with ctrl := 1 })).cab 0).ring.badConfig = true ∧
    ((after (.readIdxWrite 0 0) (ringAt { ringOk with writeIdx := 64 })).cab 0).ring.badIndex = false ∧
    ((after (.readIdxWrite 0 0) (ringAt { ringOk with writeIdx := 65 })).cab 0).ring.badIndex = true ∧
    ((after (.eventStatusClear 0 5) (ringAt { ringOk with badIndex := true, badConfig := true })).cab 0).ring.badIndex = false ∧
    (ringAt { ringOk with owed := true }).holdoffOver 0 = true ∧
    ((after (.holdoffExpiry 0) (ringAt { ringOk with ctrl := 3, owed := true, writeIdx := 1 })).cab 0).ring.lastSignal =
      some 1000000000 := by decide +kernel

def marked : State :=
  { inMode .idle with
    cabs := [(0, { ring := { raised := 0x8000, wmMark := [(15, 10000)] } })], streams := [(15, streamOn)] }
/-- The same with a byte in the stream: a mark of 1 stands at its fill, one of 10,000 above it. -/
def markedFill : State := { marked with streams := [(15, { streamOn with capacity := 10000, written := 1 })] }
theorem test_watermarks :
    marked.reachable 0 = true ∧ marked.cabOfMbx 0 = some 0 ∧ (marked.cab 0).ring.raised.getLsbD 15 = true ∧
    (marked.cab 0).ring.raised.getLsbD 14 = false ∧ after (.wmAck 0 0x4000) marked = marked ∧
    tget 0 ((after (.wmMarkWrite 0 0x47C false 0x27100001) marked).cab 0).ring.wmMark 15 = 10000 ∧
    tget 0 ((after (.wmMarkWrite 0 0x47C false 0x27100001) marked).cab 0).ring.wmMark 14 = 1 ∧
    ((after (.wmMarkWrite 0 0x47C false 0x27110001) marked).cab 0).ring.badConfig = true ∧
    ((after (.wmMarkWrite 0 0x47C false 0x27100001) marked).cab 0).ring.raised = 0x8000 ∧
    ((after (.wmMarkWrite 0 0x47C false 0x00010000) markedFill).cab 0).ring.raised = 0x8000 ∧
    ((after (.wmMarkWrite 0 0x47C false 0x00020000) markedFill).cab 0).ring.raised = 0 ∧
    ((after (.wmMarkWrite 0 0x47C false 0x00020000) markedFill).stream 0 15).wmArmed = true ∧
    ((after (.wmAck 0 0x8000) marked).stream 0 15).wmArmed = true ∧
    ((after (.wmAck 0 0x8000) marked).cab 0).ring.raised = 0 := by decide +kernel

theorem test_registers :
    (inMode .idle).reachable 256 = true ∧ (inMode .dormant).reachable 0 = false ∧
    after (.registerWrite 0 0x206 false 1) (inMode .idle) = inMode .idle ∧
    ((after (.registerWrite 0 0x204 false 0xFFFFFFFF) (inMode .idle)).mbx 0).respCtrl = 0x13F ∧
    (after (.regRead { length := 4, type := 2, flags := 0, tag := 7, addr := 0, payload := [4, 0, 0, 0] }) (inMode .idle)).outbox.length
      = 1 ∧
    (after (.regWrite { length := 0, type := 9, flags := 0, tag := 0, addr := 0, payload := [] }) (inMode .idle)).ctr 0x0B 1 1 = 1 := by
  decide +kernel

/-- A parcel of 56 bytes being fetched in slot 3 of mailbox m. -/
def fetching (m : Nat) (tags : Tab (Option UsbTag)) : State :=
  { inMode .idle with
    usbTags := tags
    mbxs := [(m, { slots := [(3, {
      copy := leBytes 2 0x0701 ++ leBytes 2 9 ++ leBytes 4 56 ++ leBytes 8 0 ++ leBytes 8 0x4000 ++ List.replicate 40 0
      posted := true, parcel := .fetching [] })] })] }
def tagOne : UsbTag := { kind := 0, addr := 0x4000, len := 56, mbx := 256, slot := 3, cab := 0, stream := 0, sent := 0 }
theorem test_fetches :
    ((after (.fetchData { length := 56, type := 3, flags := 0, tag := 5, addr := 0x4000, payload := List.replicate 56 7 })
      (fetching 256 [(5, some tagOne)])).slot 256 3).parcel = .got (List.replicate 56 7) ∧
    ((after (.usbFetchTimeout 5) (fetching 256 [(5, some tagOne)])).slot 256 3).parcel = .failed ∧
    lenOf ((fetching 256 []).slot 256 3).copy = 56 ∧ (fetching 0 []).canWrite 0 = true ∧
    ((after (.parcelFetch 0 3 (some (List.replicate 56 7))) (fetching 0 [])).slot 0 3).parcel = .got (List.replicate 56 7) ∧
    (after (.parcelFetch 0 3 none) (fetching 0 [])).ctr 0x0B 0 4 = 1 := by decide +kernel

/-- An error, no reply yet, a reply to another address, and a parcel of which bytes have come already. -/
theorem test_fetch_ends :
    (let s := fetching 256 [(5, some tagOne)]
     s.reachable 256 = true ∧ opOf (s.slot 256 3).copy ∈ opcodes ∧
     ((after (.fetchData { length := 0, type := 3, flags := 1, tag := 5, addr := 0x4000, payload := [] }) s).slot 256 3).parcel = .failed ∧
     s.askedBy { length := 56, type := 3, flags := 0, tag := 5, addr := 0x4008, payload := List.replicate 56 7 } false = none ∧
     s.askedBy { length := 0, type := 4, flags := 0, tag := 5, addr := 0x4000, payload := [] } true = none ∧
     (after (.fetchData { length := 56, type := 3, flags := 0, tag := 5, addr := 0x4008, payload := List.replicate 56 7 }) s).ctr 0x0B 1 1 = 1) ∧
    ((after (.usbFetchTimeout 5) (fetching 256 [(5, some { tagOne with sent := 900000000 })])).slot 256 3).parcel = .failed ∧
    after (.usbFetchTimeout 5) (fetching 256 [(5, some { tagOne with sent := 900000001 })]) =
      fetching 256 [(5, some { tagOne with sent := 900000001 })] ∧
    (((fetching 256 []).usbAnswer { tagOne with len := 55 } (some (List.replicate 55 7))).slot 256 3).parcel =
      .fetching (List.replicate 55 7) ∧
    (fetching 256 []).usbAnswer { tagOne with stale := true } none = fetching 256 [] := by decide +kernel

def descOne : Desc := { descOf [] with dest := 0x10000, length := 8192, first := 0, taken := 10, probed := 0, probes := [0], lastByte := 0 }
theorem test_probe_reply :
    (let s := { inMode .idle with
                  usbTags := [(6, some { tagOne with kind := 2, addr := 0x10000, stream := 1 })]
                  rings := [(1, { ringOn with via := 256, opened := some descOne })] }
     descOne.ending = none ∧ 10 < descOne.pageStart (descOne.probed + 1) ∧ descOne.dest + BitVec.ofNat 64 (descOne.pageStart 0) = 0x10000 ∧
     ((after (.probeReply { length := 0, type := 4, flags := 0, tag := 6, addr := 0x10000, payload := [] }) s).ring 0 1).opened =
       some { descOne with probes := [] }) := by decide +kernel

theorem test_host_ports :
    (after (.linkLoss .perst) (inMode .armed)).pcieUp = false ∧ (inMode .armed).pcieCabs = [0] ∧
    (after (.linkLoss .perst) (inMode .armed)).perst = true ∧
    (after .vfEnableClear { inMode .armed with vfEnabled := true }).vfEnabled = false ∧ (inMode .armed).cabOfMbx 0 = some 0 ∧
    (inMode .armed).cabOfMbx 256 = some 0 ∧ (after .usbReset { inMode .armed with usbUp := true }).usbUp = false ∧
    ((after (.functionLevelReset 0) (inMode .armed)).cab 0).resets = 1 ∧
    (after (.vfEnable 255) (inMode .armed)).vfEnabled = true ∧ (after (.portChanged true true 3 0) (inMode .idle)).usbUp = true ∧
    (after (.perstDeassert true) (inMode .idle)).extRefclk = true ∧
    ((after (.busMasterEnableChange 255 false true) (inMode .idle)).mbx 255).busMaster = false ∧
    (after .usbResume { inMode .keep with usbSuspended := true }).usbSuspended = false ∧
    (after (.msixUnmask 0 (some 63)) { inMode .idle with mbxs := [(0, { msixOn := true, pba := 0x8000000000000000 })] }).outbox =
      [.msix 0 63] ∧
    ((after (.msixUnmask 0 none) { inMode .idle with mbxs := [(0, { msixOn := true, msixMasked := true })] }).mbx 0).msixMasked = false := by
  decide +kernel

/-! Witnesses: beds, lamps and calibration. -/

def courseOne : Course := { acc := 1, start := 0, started := true, triggers := 4, lines := 4 }

/-- Bed 3 running on a document, its next trigger due at position 0. -/
def running : Bed := { bedOne with courses := [courseOne], accOn := true, running := true }
def withBed (x : Bed) : State := { inMode .capture with beds := [(3, x)] }
def readOne : StripRead := { cab := 0, isRun := true, full := false, began := 0, deadline := some 1000000000, turn := 7 }

theorem test_line_trigger :
    (withBed running).triggerDue 3 = true ∧ (withBed running).dueComps = [] ∧ (withBed running).bedClock 3 = true ∧
    running.fits = true ∧ ((withBed running).bed 3).course = some courseOne ∧
    ((after (.lineTrigger 3) (withBed running)).bed 3).fit = some { kind := 0, acc := 1, num := 5 } ∧
    (after (.lineTrigger 3) (withBed running)).ctr 1 3 11 = 1 ∧
    ((after (.lineTrigger 3) (withBed { running with fit := some { kind := 0 } })).bed 3).delay.length = 1 ∧
    after (.lineTrigger 3) (withBed { running with acc := 0x10000 }) = withBed { running with acc := 0x10000 } ∧
    ((after (.lineTrigger 3) (withBed { running with courses := [], read := some readOne })).bed 3).fit =
      some { kind := 2, num := 7 } := by decide +kernel

/-- A trigger 15 ns after the one before crosses to the bed, and one that comes sooner is counted there (R549). -/
theorem test_trigger_crossing :
    (let s (t : Nat) := { withBed running with crossings := [(lineCrossing 3, { last := some t })] }
     (s 999999985).carries (lineCrossing 3) 960 = true ∧ (s 999999986).carries (lineCrossing 3) 960 = false ∧
     (s 999999986).triggerDue 3 = true ∧ (s 999999986).bedClock 3 = true ∧
     (((after (.lineTrigger 3) (s 999999985)).bed 3).fit).isSome = true ∧
     ((after (.lineTrigger 3) (s 999999986)).bed 3).fit = none ∧
     ((after (.lineTrigger 3) (s 999999986)).bed 3).delay.length = 1 ∧
     (after (.lineTrigger 3) (s 999999986)).ctr 0x0C 69 0 = 1) := by decide +kernel

def exposing : Exposing := { kind := 0, acc := 1, num := 1 }
theorem test_slot_start :
    (let x := { running with seqLen := 2, seq := [1, 1, 0, 0, 0, 0, 0, 0], cur := .line, expo := some exposing }
     (withBed x).clkOk 69 = true ∧ (after (.slotStart 3 [] 0 []) (withBed x)).ctr 1 3 12 = 1 ∧
     (((after (.slotStart 3 [] 0 []) (withBed x)).bed 3).expo).map (·.entry) = some 1 ∧
     after (.slotStart 3 [] 0 []) (inMode .idle) = inMode .idle) := by decide +kernel

def releasing (c : Course) : State := withBed { running with courses := [c] }
theorem test_line_release :
    (running.delay.find? fun r => r.acc = 0) = none ∧
    (after (.lineRelease 3) (releasing { courseOne with discard := true })).ctr 1 3 3 = 1 ∧
    (after (.lineRelease 3) (releasing { courseOne with discard := true })).ctr 1 3 0 = 1 ∧
    running.ready courseOne running.graftTable 1 = false ∧
    after (.lineRelease 3) (releasing courseOne) = releasing courseOne ∧
    running.ready { courseOne with stopped := true, triggers := 0 } running.graftTable 1 = true := by decide +kernel

/-- 10 kOhm is 25.0 degC whatever B is (R156). -/
theorem test_temperature :
    (withBed bedOne).mode.p3 = true ∧ (∀ k, thermistor 10000000 bedOne.bConst = some k → inI (-640) k 2400 = true) ∧
    (∀ k, thermistor 0 bedOne.bConst = some k → inI (-640) k 2400 = false) := by
  decide +kernel
theorem test_sink :
    (((after (.sinkOvertemp 3 7 2401) (withBed bedOne)).bed 3).led 7).state = 5 ∧
    (after (.sinkOvertemp 3 7 2401) (withBed bedOne)).ctr 3 31 5 = 1 ∧
    (((after (.sinkOvertemp 3 7 2400) (withBed bedOne)).bed 3).led 7).state = 0 := by decide +kernel

def reading (r : StripRead) (set : RefSet) : State := withBed { bedOne with read := some r, refSet := set }
/-- A read whose set waits for its header page to commit, and one whose set is whole. -/
def storing (whole : Bool) : State :=
  { reading { readOne with phase := 5 } {} with
    nvsWrites := if whole then [] else [{ record := .ref 3 1 none, words := [(0, 0, 2000000000)] }] }
theorem test_strip_reads :
    (let r := { readOne with phase := 1 }
     ((reading r {}).bed 3).refSet.copy = 0 ∧
     ((after (.stripReadComplete 3) (reading r {})).bed 3).read = some { r with phase := 2 } ∧
     ((reading r { copy := 1, settings := bedOne.settings }).bed 3).stale = false ∧
     (reading r { copy := 1, settings := bedOne.settings }).quickPass 3 r = true ∧
     ((after (.stripReadComplete 3) (reading r { copy := 1, settings := bedOne.settings })).bed 3).lastRead = 1) := by
  decide +kernel
theorem test_reads_end :
    ((after (.calResult 3) (reading { readOne with phase := 3 } {})).bed 3).lastRead = 2 ∧
    ((after (.calRunTimeout 3) (reading readOne {})).bed 3).read = none ∧
    after (.calRunTimeout 3) (reading { readOne with deadline := some 1000000001 } {}) =
      reading { readOne with deadline := some 1000000001 } {} := by decide +kernel
theorem test_calibrated :
    ((after (.calResult 3) (reading { readOne with phase := 2 } {})).bed 3).read.map (·.phase) = some 5 ∧
    (let r := { readOne with phase := 2, kept := 1, sums := [[[[100000, 100000]]], [[[0, 0]]], [[[0, 0]]], [[[0, 0]]]], settings := { seq := [1#8] } }
     calAccepted bedOne.maxDead (r.allPairs bedOne.deadFrac) = false ∧ ((after (.calResult 3) (reading r {})).bed 3).lastRead = 2) := by
  decide +kernel
theorem test_stored :
    ((after (.calResult 3) (storing true)).bed 3).lastRead = 1 ∧ (storing false).refWhole 3 1 = false ∧
    after (.calResult 3) (storing false) = storing false := by decide +kernel


/-! Witnesses: axes, coils, pacing and gauges. -/

/-- Axis 7 of an armed device, its bridges on. -/
def withAxis (x : Axis) : State := { inMode .armed with axes := [(7, x)], chans := [(0, { encoder with base := 0x50000 })] }
def runAxis : Axis := { axisOne with st := .running, queue := [{ dur := 1000000, notify := false, endVel := 0, endPos := 256 }] }
def gearOne : Gear := { master := 0, sA := 0, mA := 0, num := 1, den := 1, blend := none, due := [] }
def gearAxis (num : Int) : Axis := { axisOne with st := .geared, gear := some { gearOne with num } }

theorem test_servo :
    (withAxis axisOne).motClock 7 = true ∧ (inMode .idle).motClock 7 = false ∧
    ((after (.servoUpdate 7 0 0 24000 0 0) (withAxis runAxis)).axis 7).servoAt = 1000000000 ∧
    runAxis.tau + runAxis.eff < { dur := 1000000, notify := false, endVel := 0, endPos := 256 : Seg }.span ∧
    ((after (.servoUpdate 7 0 0 24000 0 0) (withAxis { axisOne with off := true, stopOff := true, st := .stopped })).axis 7).h = 0 ∧
    (withAxis { axisOne with off := true, stopOff := true, st := .stopped }).bridgesOn 7 = false ∧
    gearOne.posAt ((withAxis axisOne).chanPos 0) = 1280 ∧
    ((after (.servoUpdate 7 0 0 24000 0 0) (withAxis (gearAxis 1))).axis 7).posNext = 1280 ∧
    (after (.servoUpdate 7 0 0 24000 0 0) (withAxis (gearAxis 8000000))).mode = .halted := by decide +kernel
theorem test_confirmation :
    (withAxis { axisOne with confirmAt := some 1000000000 }).motClock 7 = true ∧
    ((after (.confirmation 7) (withAxis { axisOne with confirmAt := some 1000000000, confirm := true, cnum := 1, cden := 1 })).axis 7).lost
      = true ∧
    after (.confirmation 7) (withAxis { axisOne with confirmAt := some 1000000001 }) =
      withAxis { axisOne with confirmAt := some 1000000001 } ∧
    (let s := { withAxis { axisOne with confirmAt := some 1000000000, confirm := true, cnum := 1, cden := 1 } with mode := .idle }
     ((after (.confirmation 7) s).axis 7).lost = true) ∧
    (withAxis { axisOne with confirmAt := some 1, confirm := true, cnum := 1, cden := 1, anchorM := 0x50000 }).confirms 7 = true ∧
    ((after (.standstillDelay 7) (withAxis { axisOne with standing := 40000, delay := 1000 })).axis 7).holding = true := by
  decide +kernel
theorem test_bridges :
    (withAxis axisOne).bridgesOn 7 = true ∧ (after (.overcurrent 7 0x10) (withAxis axisOne)).mode = .halted ∧
    ((after (.overcurrent 7 0x10) (withAxis axisOne)).axis 7).phB.trip = true ∧
    ((after (.bridgeOvertemp 7 2000) (withAxis axisOne)).axis 7).warm = true ∧
    ((after (.bridgeOvertemp 7 1840) (withAxis axisOne)).axis 7).warm = false ∧
    ((after (.bridgeOvertemp 7 1679) (withAxis { axisOne with warm := true })).axis 7).warm = false ∧
    ((after (.bridgeOvertemp 7 2001) (withAxis axisOne)).axis 7).hot = true := by decide +kernel

/-- A document of a job on bed 3. -/
def jobThree : Job := { jobOne with bedMask := 8 }
def docThree : Doc :=
  { acc := 1, cab := 0, chan := 0, entryGpio := 0, job := some jobThree, start := 0, beds := [(3, { used := true })] }

/-- A pliant group of bed 3 on axis 7, and a stream of its cabinet that governs it. -/
def paced (x : Axis) (g : Group) (b : Bed) (m : Mode) : State :=
  { inMode m with
    axes := [(7, { x with bedMask := 8, pRate := true, pHold := true, pPause := true })], groups := [(8, g)], beds := [(3, b)]
    chans := [(0, encoder)] }
theorem test_pacing :
    (inMode .armed).clkOk 3 = true ∧
    (after .pacingEvaluation { inMode .armed with streams := [(1, { streamOn with written := 65536 })] }).stream 0 1 =
      { streamOn with written := 65536, hold := true, pause := true } ∧
    7 ∈ (paced axisOne {} bedOne .capture).groupAxes 8 ∧ (paced axisOne {} bedOne .capture).pliant 8 = true ∧
    (paced axisOne {} bedOne .capture).groupPaused 8 = false ∧ (paced axisOne {} bedOne .capture).groupLead 8 = 7 := by
  decide +kernel
/-- The same with a document whose stream is full. -/
def full (x : Axis) (g : Group) (m : Mode) : State :=
  { paced x g { bedOne with queue := [lineOne], courses := [courseOne], accOn := true } m with
    streams := [(1, { streamOn with written := 65536, pause := true })], places := [(3, some placeOne)]
    docs := [docThree] }

def restAxis : Axis := { axisOne with eff := 0, k0 := 655360000 }
theorem test_pause :
    (full axisOne {} .capture).groupPaused 8 = true ∧ (full axisOne {} .capture).refusalsOf 8 = [] ∧
    ((after .pacingEvaluation (full axisOne {} .capture)).axis 7).pace = 0 ∧
    ((after .pacingEvaluation (full axisOne {} .capture)).group 8).phase = 1 ∧
    (∀ a ∈ (full restAxis { phase := 1 } .capture).groupAxes 8, ((full restAxis { phase := 1 } .capture).axis a).resting = true) ∧
    (full restAxis { phase := 1 } .capture).allStopped 8 = false ∧
    ((after (.pauseRested 8) (full restAxis { phase := 1 } .capture)).group 8).phase = 2 ∧
    (after (.pauseRested 8) (full restAxis { phase := 1 } .capture)).mode = .paused ∧
    (paced restAxis { phase := 1 } bedOne .capture).allStopped 8 = true ∧
    ((after (.pauseRested 8) (paced restAxis { phase := 1 } bedOne .capture)).group 8).phase = 7 ∧
    (full runAxis { phase := 1 } .capture).groupAxes 8 = [7] ∧
    after (.pauseRested 8) (full runAxis { phase := 1 } .capture) = full runAxis { phase := 1 } .capture := by decide +kernel

def excOne : Excursion :=
  { phase := 2, pRest := 0, vRest := 1, pBack := -1, start := 0, v := 0, t := 1, ta := 0, tb2 := 1 }
theorem test_excursion :
    ((after (.backupEnd 8) (full { restAxis with exc := some excOne } { phase := 2 } .paused)).group 8).phase = 3 ∧
    ((after (.backupEnd 8) (paced { restAxis with exc := some excOne } { phase := 2 } bedOne .paused)).group 8).phase = 4 ∧
    excOne.reach ≤ excOne.t ∧
    ((after (.excursionEnd 8) (paced { restAxis with exc := some excOne } { phase := 4 } bedOne .paused)).group 8).phase = 0 ∧
    ((after (.excursionEnd 8) (paced { restAxis with exc := some excOne } { phase := 4 } { bedOne with gateShut := true } .paused)).group 8).phase
      = 6 := by decide +kernel

/-- Approaching, one pre-roll line to go, the bed at its position. -/
def approaching (x : Bed) : State :=
  paced restAxis { phase := 4 } { x with gateShut := true, prerollNext := 1, acc := 0x100000000 } .paused
theorem test_preroll :
    (approaching running).approachOf 3 = some 8 ∧ (approaching running).bedClock 3 = true ∧
    reachedFwd ((approaching running).chanPos 0) 0 = true ∧
    (after (.prerollTrigger 3) (approaching running)).ctr 1 3 9 = 1 ∧
    ((after (.prerollTrigger 3) (approaching { running with courses := [] })).bed 3).fit = some { kind := 1 } ∧
    ((after (.prerollTrigger 3) (approaching { running with fit := some { kind := 0 } })).bed 3).prerollNext = 0 := by
  decide +kernel

def resuming (vRef : ℚ) : State :=
  paced { restAxis with replans := 7 } { phase := 4 } { running with gateShut := true, vRef } .paused
theorem test_resume :
    (resuming 0).seamless 3 = true ∧ ((after (.pauseResumed 3) (resuming 0)).bed 3).gateShut = false ∧
    (resuming 9).seamless 3 = false ∧ ((after (.pauseResumed 3) (resuming 9)).group 8).phase = 5 := by decide +kernel

/-- The first cycle of an output period: one that saturates. -/
def sampleOne : List ModCycle := [{ sig := 1000000000, ball := 1000000000, exc := 1000000, saturated := true }]
def sampleClipped : List ModCycle := [{ sig := 1000000000, ball := 1000000000, exc := 1000000, clipped := true }]
def withGauge (x : Gauge) : State := { inMode .armed with gauges := [(7, { x with cfg := { x.cfg with enable := true } })] }

theorem test_gauge_sample :
    (withGauge {}).gaugeRuns 7 = true ∧ ({} : Gauge).period = 6400000 ∧
    after (.gaugeSample 7 sampleOne) (withGauge { began := 64 * 1000000000 - 6399999 }) =
      withGauge { began := 64 * 1000000000 - 6399999 } ∧
    ((after (.gaugeSample 7 sampleOne) (withGauge { index := 0xFFFFFFFF, invalidLeft := 1 })).gauge 7).index = 0 ∧
    (after (.gaugeSample 7 sampleOne) (withGauge { invalidLeft := 1 })).ctr 5 7 1 = 1 ∧
    (after (.gaugeSample 7 sampleClipped)
      { withGauge {} with aouts := [(3, { source := 8, faultCode := 77 })] }).ctr 5 7 0 = 1 := by decide +kernel
theorem test_gauge_reset :
    (let s := { inMode .armed with gauges := [(7, { resets := [999999804, 999999805] })] }
     (s.gauge 7).cfg.enable = false ∧ ((after (.gaugeReset 7) s).gauge 7).resets = [999999805]) ∧
    ((after (.gaugeReset 7) (withGauge { resets := [999999804, 999999804], index := 9 })).gauge 7).index = 0 ∧
    (after (.gaugeReset 7) (withGauge { resets := [999999804, 999999804] })).ctr 0x0C 90 0 = 1 ∧
    (after (.gaugeReset 7) { withGauge { resets := [999999804] } with crossings := [(7, { last := some 999999900 })] }).ctr 0x0C 90 0 = 1 := by
  decide +kernel
/-- A tone on channel 7 blanks channel 6, which names it in TONE_BLANK (R305). -/
theorem test_gauge_blanking :
    (let s := { inMode .armed with gauges :=
        [(6, { cfg := { enable := true, toneBlank := 0x80 } }), (7, { cfg := { enable := true, tonePeriod := 100 } })] }
     s.gaugeRuns 7 = true ∧ (after (.gaugeCheckDue 7) s).blankState 6 = some none ∧
     ((after (.gaugeCheckDue 7) s).gauge 6).blanks = [(1000000000, none)] ∧
     ((after (.gaugeCheckDue 7) s).gauge 5).blanks = []) ∧
    ({ blanks := [(50, some 60)] } : Gauge).blankedCycle (64 * 60) = false ∧
    ({ blanks := [(50, some 60)] } : Gauge).blankedCycle (64 * 60 - 1) = true ∧
    incOf 20000 = 8388608 ∧ incOf 12345 = 5177868 := by decide +kernel
theorem test_gauge_checks :
    ((after (.gaugeCheckDue 7) (withGauge { checkBegan := some 900000000 })).gauge 7).checking = true ∧
    (withGauge { cfg := { bed := 3, toneInGap := true } }).docOpenOn 3 = false ∧
    State.docOpenOn { withGauge { cfg := { bed := 3, toneInGap := true } } with docs := [docThree] } 3 = true ∧
    ((after (.gaugeCheckEnd 7 sampleClipped) (withGauge { checking := true, checkBegan := some 998000000 })).gauge 7).verified = true ∧
    ((after (.gaugeLeadDone 7) (withGauge { leadRun := some { cab := 0, store := true, count := 100, sum := 250, began := 0 } })).gauge 7).cfg.lead
      = 3 ∧
    ((after (.gaugeLeadDone 7) (withGauge { leadRun := some { cab := 0, store := true, count := 99, sum := 250, began := 0 } })).gauge 7).leadRun
      = none ∧
    after (.gaugeLeadDone 7) (withGauge { leadRun := some { cab := 0, store := true, count := 99, sum := 250, began := 1 } }) =
      withGauge { leadRun := some { cab := 0, store := true, count := 99, sum := 250, began := 1 } } ∧
    (after (.blankInputChange 1 true) (inMode .armed)).blank = 2 := by decide +kernel

/-! Witnesses: documents, descriptors, cabinet resets, diagnostics. -/

/-- A job on bed 3, current, its placement there, its channel an encoder. -/
def fed (docs : List Doc) : State :=
  { inMode .capture with
    jobs := [{ jobThree with current := true }], chans := [(0, encoder)], beds := [(3, bedOne)]
    places := [(3, some placeOne)], streams := [(0, { streamOn with kind := 1 }), (1, streamOn)], docs
    runCfg := { node := some 5 } }

theorem test_leading_edge :
    (fed []).mode.senses = true ∧ (fed []).jobOnPin 0 = some { jobThree with current := true } ∧
    (fed []).cannotTake (some { jobThree with current := true }) = none ∧ 6 ≤ (fed []).freeCurators.length ∧
    (after (.leadingEdge 0) (fed [])).accSeq = 1 ∧ ((after (.leadingEdge 0) (fed [])).docs.map (·.refusedDoc)) = [false] ∧
    (fed []).jobOnPin 15 = none ∧ ((after (.leadingEdge 15) (fed [])).docs.map (·.flags)) = [0x80] := by decide +kernel
theorem test_trailing_edge :
    (let s := { fed [docThree] with gpioIn := 1 }
     s.entering 0 = some docThree ∧ (after (.trailingEdge 0) s).docs.map (·.tail) = [some 0]) ∧
    State.entering { fed [] with gpioIn := 0x8000 } 15 = none ∧
    (after (.trailingEdge 15) { fed [] with gpioIn := 0x8000 }).gpioIn = 0 ∧
    (after (.exitSensorChange 15 true) (fed [])).gpioIn = 0x8000 := by decide +kernel

/-- The jam check's comparator of the document is due, and the entry sensor is still covered. -/
def jamming (pins : BitVec 16) : State :=
  { fed [docThree] with
    gpioIn := pins, comps := [(48, some { cmpOne with target := 0, use := .frame 1 })] }
theorem test_jam :
    (jamming 1).dueComps = [(48, { cmpOne with target := 0, use := .frame 1 })] ∧ (jamming 1).jammed docThree = true ∧
    (jamming 0).jammed docThree = false := by decide +kernel

def leftDoc : Doc := { docThree with inTransport := false, tail := some 0 }
theorem test_record_close :
    ((fed [leftDoc]).noteLeft.docs.find? fun d => (fed [leftDoc]).noteLeft.closable d) = some leftDoc ∧
    (fed [leftDoc]).noteLeft.doc 1 = some leftDoc ∧ (∀ d ∈ (fed [docThree]).noteLeft.docs, (fed [docThree]).noteLeft.closable d = false) := by
  decide +kernel
def recorded : Doc := { leftDoc with record := some [], recorded := true }
theorem test_delivery_note :
    ((fed [recorded]).docs.find? fun d => (fed [recorded]).delivered d) = some recorded ∧ tget [] (fed [recorded]).waiting 0 = [] ∧
    (∀ d ∈ (fed [leftDoc]).docs, (fed [leftDoc]).delivered d = false) := by decide +kernel

/-- Jobs waiting: one on bed 3 that may start, or one whose bed is not configured. -/
def waitingJob (m : Mode) (j : Job) : State :=
  { fed [] with
    mode := m, jobs := [j], beds := [(3, { bedOne with method := 1 })] }
/-- A job waiting for a bed whose METHOD is UNSET. -/
def unset : State := { waitingJob .capture jobThree with beds := [(3, bedOne)] }
def onBed (s : State) (b : Nat) (k : Job) : Bool := (s.jobs.filter fun j => j.bedMask.getLsbD b).any fun j => shares j k
/-- The FLATBED job current on bed 3, which no sensor governs. -/
def flatJob : Job := { jobThree with current := true, flatbed := true, entryGpio := 0 }
theorem test_feed :
    Mode.feeds .armed = false ∧
    ((waitingJob .capture jobThree).reBacklog.choose (onBed (waitingJob .capture jobThree) 3)).map (·.id) = some 1 ∧
    (waitingJob .capture jobThree).reBacklog.refusal jobThree = none ∧
    (after (.feedDecision 3) (waitingJob .capture jobThree)).jobs.map (·.current) = [true] ∧
    unset.reBacklog.refusal jobThree = some 3 ∧ (unset.reBacklog.choose (onBed unset 3)).isSome = true ∧
    (after (.feedDecision 3) unset).jobs = [] ∧
    (waitingJob .capture jobOne).reBacklog.choose (onBed (waitingJob .capture jobOne) 3) = none ∧
    (let s := waitingJob .capture flatJob
     let u := s.reBacklog
     (u.jobs.filter fun j => j.current && j.bedMask.getLsbD 3).map (·.flatbed) = [true] ∧
     (u.jobs.all fun j => !u.feedHeld j) = true ∧ 5 ≤ s.freeCurators.length ∧
     (forEach u.jobs (fun j s => s.feedFlat j) u).choose (onBed s 3) = none ∧
     (after (.feedDecision 3) s).docs.map (·.tail) = [some 0x3E80000]) := by decide +kernel

/-- Stream 15 of cabinet 0 with 64 bytes, and its ring with one descriptor posted. -/
def served (g : Ring) : State :=
  { inMode .idle with rings := [(15, { g with chan := some 0 })], streams := [(15, { streamOn with written := 64 })] }
def posted1 : Ring := { ringOn with post := 1, timeout := 10 }
def desc64 : List Byte := ps [(4, 0), (4, 64), (8, 0), (8, 0x10000), (4, 0), (4, 7)]
def openDesc : Desc := { descOf desc64 with first := 0, lastByte := 999990000 }

theorem test_descriptors :
    (served posted1).assignChannels.wantsDesc 0 15 = true ∧ descCheck desc64 0 = none ∧ descCheck (List.replicate 32 0) 0 = some 2 ∧
    ((after (.descriptorFetch 0 15 (some desc64)) (served posted1)).ring 0 15).opened = some { openDesc with lastByte := 1000000000 } ∧
    ((after (.descriptorFetch 0 15 (some (List.replicate 32 0))) (served posted1)).ring 0 15).ret = 1 ∧
    ((after (.descriptorFetchFail 0 15) (served posted1)).ring 0 15).ret = 1 ∧
    ((after (.descriptorFetch 0 15 none) (served posted1)).ring 0 15).fetchTried = true ∧
    ((after (.descriptorFetch 0 15 none) (served { posted1 with fetchTried := true })).ring 0 15).ret = 1 ∧
    (inMode .idle).assignChannels.wantsDesc 0 15 = false := by decide +kernel
theorem test_fill :
    openDesc.ending = none ∧ openDesc.verify = false ∧ openDesc.item = false ∧ openDesc.doc = false ∧
    (let s := served { posted1 with opened := some openDesc }
     s.assignChannels.ringServed 0 15 = true ∧ (s.assignChannels.ring 0 15).chan = some 0 ∧
     64 ≤ s.assignChannels.round.slotsLeft 0 ∧ ((after (.descriptorFill 0 15) s).ring 0 15).next = 64 ∧
     ((after (.descriptorFill 0 15) s).ring 0 15).ret = 1) := by decide +kernel
theorem test_timeout :
    (let s := served { posted1 with opened := some { openDesc with taken := 1 } }
     s.ringServed 0 15 = true ∧ 1 % openDesc.group = 0 ∧ ((after (.descriptorTimeout 0 15) s).ring 0 15).ret = 1) ∧
    (let s := served { posted1 with opened := some { openDesc with taken := 1, lastByte := 999990001 } }
     after (.descriptorTimeout 0 15) s = s) := by decide +kernel
theorem test_probe :
    (let s := served { posted1 with opened := some { descOne with taken := 10 } }
     10 < descOne.pageStart (descOne.probed + 1) ∧ ((after (.probeComplete 0 15 true) s).ring 0 15).opened =
       some { descOne with taken := 10, probes := [] } ∧ ((after (.probeComplete 0 15 false) s).ring 0 15).ret = 1) := by
  decide +kernel

/-- In KEEP a probe outstanding at entry is confirmed (R57); a test in a domain whose clock has failed hangs (R554). -/
theorem test_probe_keep :
    (let s := { served { posted1 with opened := some { descOne with taken := 10 } } with mode := .keep }
     (s.ring 0 15).enabled = true ∧ (s.cab 0).resetting = none ∧ ((after (.probeComplete 0 15 true) s).ring 0 15).opened =
       some { descOne with taken := 10, probes := [] }) ∧
    (let s := { inMode .service with
                  diag := some { test := 2, unit := 7, arg := 0, addr := 0x8000, mbx := 0 }, clocks := [(81, { failed := true })] }
     s.diagHangs { test := 2, unit := 7, arg := 0, addr := 0x8000, mbx := 0 } = true ∧ after (.diagDone []) s = s) := by
  decide +kernel

def resetOne : Resetting :=
  { cause := 1, start := 0, eraseKeys := false, aborted := 0, jobs := 0, flushed := 0, entries := [], orphans := [],
    discarded := 0, acked := 0, undelivered := 0 }
theorem test_cabinet_reset :
    (let s := { inMode .idle with cabs := [(0, { resetting := some resetOne })] }
     ((after (.cabinetReset 0) s).cab 0).resetting = none ∧
     (((after (.cabinetReset 0) s).cab 0).summary.map (·.length)) = some 64) ∧
    (let s := { inMode .idle with cabs := [(0, { scrubbing := true })], dram := [(0, 7), (16106127359, 7)] }
     (after (.windowScrubEnd 0) s).dram = [(16106127359, 7)] ∨ (after (.windowScrubEnd 0) s).dram = []) ∧
    (let s := { inMode .service with diag := some { test := 2, unit := 7, arg := 0, addr := 0x8000, mbx := 0 }, axes := [(7, axisOne)] }
     (after (.diagDone []) s).diag = none ∧ ((after (.diagDone []) s).axis 7).lost = true ∧ 8000 ≤ (s.supply (1 + 7 / 2)).mv) ∧
    (let s := { inMode .service with
                  diag := some { test := 2, unit := 7, arg := 0, addr := 0x8000, mbx := 0 }, axes := [(7, { axisOne with confirm := true })] }
     ((after (.diagDone []) s).axis 7).confirmAt = some 1050000000) ∧
    (let s := { inMode .service with diag := some { test := 3, unit := 7, arg := 0, addr := 0x8000, mbx := 0 } }
     (after (.diagDone [1]) s).outbox = [.mem 0 0x8000 (padTo 64 [1])]) := by decide +kernel

/-- Under SPAN a strip read takes no line while a document is open on its bed, and under BACKING while one lies over it
(R185). -/
theorem test_backing_read :
    (let s := { withBed { running with courses := [], read := some readOne, method := 1 } with docs := [{ docThree with tail := none }] }
     s.triggerDue 3 = true ∧ (s.docs.any fun d => s.covers 3 d) = true ∧
     ((after (.lineTrigger 3) s).bed 3).fit = none ∧ (after (.lineTrigger 3) s).ctr 1 3 10 = 0 ∧
     (((after (.lineTrigger 3) s).bed 3).read).map (·.turn) = some 8) := by decide +kernel
theorem test_span_read :
    (let s := { withBed { running with courses := [], read := some readOne, method := 2 } with docs := [docThree] }
     s.triggerDue 3 = true ∧ s.dueComps = [] ∧ s.bedClock 3 = true ∧ s.docOpenOn 3 = true ∧
     ((after (.lineTrigger 3) s).bed 3).fit = none ∧ (after (.lineTrigger 3) s).ctr 1 3 10 = 0) := by decide +kernel

/-! Witnesses: the Runner link. -/

def port3 (x : Port) : State :=
  { inMode .idle with runCfg := { node := some 5 }, ports := [(3, x)], nodes := [(9, some { nodeNine with port := 3 })] }
def peerNine : Peer := { uid := 9, inc := 1, node := 9, priority := 64, maxRate := 3, cls := 0, keep := false }
def peerTen : Peer := { peerNine with uid := 10, node := 10 }
def linked : Port := { st := 2, rate := 3, peer := some peerNine }

theorem test_link_loss :
    ((after (.runnerLinkLoss 3) (port3 linked)).port 3).st = 5 ∧ ((after (.runnerLinkLoss 3) (port3 { linked with st := 4 })).port 3).st = 0 ∧
    after (.runnerLinkLoss 3) (port3 { linked with st := 5 }) = port3 { linked with st := 5 } ∧
    ((after (.retryExpiry 3) (port3 { linked with st := 5, since := 950000000 })).port 3).st = 0 ∧
    (after (.retryExpiry 3) (port3 { linked with st := 5, since := 950000000 })).node 9 = none ∧
    after (.retryExpiry 3) (port3 { linked with st := 5, since := 950000001 }) = port3 { linked with st := 5, since := 950000001 } ∧
    (port3 {}).portOn 3 = true ∧ ((after (.trainingRetry 3) (port3 { since := 990000000 })).port 3).st = 1 ∧
    ((after (.trainingRetry 3) (port3 { linked with st := 5 })).port 3).peer = some peerNine ∧
    after (.trainingRetry 3) (port3 { since := 990000001 }) = port3 { since := 990000001 } ∧
    State.portOn { port3 {} with runCfg := { node := some 5, enable := 7 } } 3 = false := by decide +kernel

/-- An IDENT of node 10. -/
def identTen : Packet := { type := 2, payload := ps [(8, 10), (4, 1), (2, 10), (1, 64), (1, 2), (1, 0), (1, 0), (18, 0)] }
theorem test_ident :
    peerOf identTen = { peerTen with maxRate := 2 } ∧ ((after (.ident 3 identTen) (port3 { st := 1 })).port 3).rate = 2 ∧
    ((after (.ident 3 identTen) (port3 { st := 1, idents := 1, peer := some { peerTen with maxRate := 2 } })).port 3).idents = 2 := by
  decide +kernel
/-- An IDENT that names this device and its incarnation, whatever DEVICE_UID is, in RETRY (R527). -/
def identBack : Packet :=
  { type := 2, payload := ps [(8, 10), (4, 1), (2, 10), (1, 64), (1, 2), (1, 0), (1, 0), (2, 0)] ++
      leBytes 8 Config.deviceUid.toNat ++ ps [(4, 0), (4, 0)] }
theorem test_ident_back :
    fieldU identBack.payload 0x14 8 = Config.deviceUid.toNat ∧ fieldU identBack.payload 0x1C 4 = (port3 {}).inc32 ∧
    (peerOf identBack).uid = 10 ∧ (peerOf identBack).inc = 1 := by
  refine ⟨?_, by decide +kernel, by decide +kernel, by decide +kernel⟩
  have h : fieldU identBack.payload 0x14 8 = leNat (leBytes 8 Config.deviceUid.toNat) :=
    fieldU_append (ps [(8, 10), (4, 1), (2, 10), (1, 64), (1, 2), (1, 0), (1, 0), (2, 0)]) _ _ 0x14 8 (by decide)
      (length_leBytes ..)
  rw [h, leNat_leBytes]
  exact Nat.mod_eq_of_lt (by simpa using Config.deviceUid.isLt)

def trainGood : Packet := { type := 1, payload := (leBytes 64 0).mapIdx fun i _ => BitVec.ofNat 8 i }
theorem test_train :
    ((after (.train 3 trainGood) (port3 { st := 1, peer := some peerTen, trains := 254 })).port 3).trains = 255 ∧
    ((after (.train 3 trainGood) (port3 { st := 1, peer := some peerTen, trains := 255 })).node 10).isSome = true ∧
    State.beyondDepth (port3 {}) 3 = false ∧ State.beyondDepth { port3 {} with rootDistance := 16 } 3 = true ∧
    ((after (.train 3 trainGood) { port3 { st := 1, peer := some peerTen, trains := 255 } with rootDistance := 16 }).port 3).blocked = 1 ∧
    (port3 {}).duplicate peerTen = false ∧ (port3 {}).duplicate { peerTen with node := 9 } = true ∧
    ((after (.train 3 trainGood) (port3 { st := 1, peer := some { peerTen with node := 9 }, trains := 255 })).port 3).blocked = 2 ∧
    ((after (.train 3 trainGood) (port3 { linked with st := 5, resume := true, trains := 255 })).port 3).st = 2 := by
  decide +kernel
def advertFar (d : Nat) : Packet := { type := 0x0B, payload := ps [(8, 78), (1, 200), (1, 1), (1, d), (1, 0), (4, 5)] }
/-- A node that holds root 77 while its parent port is in RETRY. -/
def heldRoot : State :=
  { port3 {} with ports := [(0, { st := 5 }), (3, { linked with st := 3 })], parent := some 0, rootUid := some 77, rootPriority := 64 }
theorem test_advert :
    ((after (.advert 3 (advertFar 16)) heldRoot).port 3).blocked = 1 ∧ (after (.advert 3 (advertFar 16)) heldRoot).rootUid = some 77 ∧
    fieldU (advertFar 16).payload 0x0A 1 = 16 ∧ bit (fieldU (advertFar 16).payload 0x0B 1) 0 = false ∧
    (after (.wake 3 { type := 0x0A }) { port3 linked with mode := .keep, wakeMask := 0x10 }).wakeCause = 0x10 := by decide +kernel
def staleAd : Advert :=
  { root := 77, priority := 64, epoch := 1, distance := 2, parent := false, tick := 5, at_ := 0, slow := false }
def parented (a : Advert) : State := { port3 { linked with advert := some a } with parent := some 3, rootUid := some 77 }
theorem test_root :
    (parented staleAd).advertFresh staleAd = false ∧ (parented staleAd).offers = [] ∧ ((parented staleAd).port 3).st ≠ 5 ∧
    (parented { staleAd with at_ := 997000000 }).advertFresh { staleAd with at_ := 997000000 } = true := by decide +kernel
theorem test_crc :
    ((after (.crcError 3 3) (port3 { st := 1, rate := 2, peer := some peerNine })).port 3).rate = 1 ∧
    ((after (.crcError 3 3) (port3 { st := 1, rate := 1, peer := some peerNine })).port 3).st = 0 ∧
    ((after (.crcError 3 3) (port3 { st := 1, rate := 1 })).port 3).st = 1 ∧
    ((after (.crcError 3 3) (port3 { linked with st := 5, rate := 1, resume := true })).port 3).resume = false ∧
    ((after (.crcError 3 3) (port3 { linked with crcTimes := List.replicate 15 999999999 })).port 3).st = 5 ∧
    (after (.crcError 3 3) (port3 { linked with crcTimes := List.replicate 15 999000000 })).ctr 0x0A 3 3 = 1 ∧
    (after (.crcError 3 1) (port3 linked)).ctr 0x0A 3 3 = 1 := by decide +kernel

def retried : Vc := { buffers := 4, count := 2, retry := [(0, { type := 0x20 }), (1, { type := 0x20, seq := 1 })] }
theorem test_link_control :
    (port3 linked).trained 3 = true ∧
    ((after (.creditSync 3 { type := 6, payload := ps [(24, 0), (2, 16), (2, 0), (2, 9), (2, 0)] }) (port3 linked)).vc 3 3).freed = 9 ∧
    ((after (.ack 3 { type := 3, payload := ps [(2, 0), (2, 1), (2, 0)] }) (port3 { linked with vc := [(2, retried)] })).vc 3 2).retry.length = 1 ∧
    (after (.nak 3 { type := 4, payload := ps [(1, 2), (1, 0), (2, 2)] }) (port3 { linked with vc := [(2, retried)] })).ctr 0x0A 3 4 = 1 ∧
    ((after (.credit 3 { type := 5, payload := ps [(6, 0), (2, 7)] }) (port3 linked)).vc 3 3).freed = 7 ∧
    ((after (.rate 3 { type := 9, payload := [2, 0, 0, 0] }) (port3 linked)).port 3).rate = 2 ∧
    (after (.delayReq 3 { type := 7, payload := leBytes 8 3 } 10) (port3 linked)).outbox.length = 1 ∧
    ((after (.delayResp 3 { type := 8, payload := ps [(8, 999999000), (8, 100), (8, 200)] } 0) (port3 { linked with t1 := 999999000 })).port 3).delay
      = 115200 ∧
    ((after (.delayExchangeDue 3) (port3 { linked with rate := 1 })).port 3).t1 = 1000000000 ∧
    after (.delayExchangeDue 3) (port3 { linked with rate := 0 }) = port3 { linked with rate := 0 } := by decide +kernel

/-- A packet of a type and channel for this node from node 9. -/
def toUs (type : Nat) (payload : List Byte) : Packet := { type, src := 9, dest := 5, seq := 1, payload }
def next (vc : Nat) (x : Vc) : State := port3 { linked with vc := [(vc, x), (7 - vc, {})] |>.filter (·.1 < 4) }
theorem test_delivery :
    ∀ x ∈ [((.read : Fin 4 → Packet → Instr), 0x18, 1), (.write, 0x19, 1), (.post, 0x1A, 1), (.resp, 0x20, 2), (.postAck, 0x21, 2),
        (.event, 0x28, 3), (.member, 0x29, 3), (.snap, 0x2A, 3)],
      ((after (x.1 3 { toUs x.2.1 [] with seq := 0 }) (port3 { linked with vc := [(x.2.2, { received := 4095 })] })).vc 3 x.2.2).received = 4096 ∧
      (after (x.1 3 { toUs x.2.1 [] with seq := 7 }) (port3 linked)).ctr 0x0A 3 3 = 1 := by decide +kernel

def answering : State := port3 { linked with vc := [(2, { buffers := 4 })] }
theorem test_read_answer :
    answering.routeTo 9 = some 3 ∧ (answering.vc 3 2).credits = 4 ∧ answering.nodeId = 5 ∧
    (after (.write 3 (toUs 0x19 (ps [(2, 7), (1, 1), (1, 0), (4, 0), (1, 9)]))) answering).outbox.length = 3 ∧
    (after (.read 3 (toUs 0x18 (ps [(2, 7), (1, 56), (1, 0), (4, 201)]))) answering).outbox.length = 3 := by decide +kernel
def asking : Request := { id := 7, dest := 9, cab := 0, mbx := 0, tag := 1, isRead := true, len := 4, host := 0x8000, sent := 800000000 }
theorem test_traffic :
    (tget ({} : PostIn) (after (.post 3 (toUs 0x1A [1])) { port3 linked with postsIn := [(9, { unacked := 63 })] }).postsIn 9).unacked = 0 ∧
    (after (.resp 3 (toUs 0x20 (ps [(2, 7), (1, 0), (1, 4), (8, 0)]))) { port3 linked with requests := [asking] }).requests = [] ∧
    (after (.resp 3 (toUs 0x20 (ps [(2, 8), (1, 0), (1, 4), (8, 0)]))) { port3 linked with requests := [asking] }).ctr 0x0A 3 7 = 1 ∧
    (after (.postAck 3 (toUs 0x21 (ps [(4, 4), (4, 0)]))) { port3 linked with posts := [{ dest := 9, cab := 0, tag := 1, n := 4 }] }).posts = [] ∧
    (after (.event 3 (toUs 0x28 (List.replicate 7 0))) (port3 linked)).ctr 0x0A 3 8 = 1 ∧
    ((after (.member 3 (toUs 0x29 (ps [(1, 1), (1, 1), (2, 0), (2, 20), (1, 2), (1, 0), (4, 1), (8, 20)]))) (port3 linked)).node 20).isSome = true ∧
    (after (.member 3 (toUs 0x29 (ps [(1, 2), (1, 1), (2, 0), (2, 9), (14, 0)]))) (port3 linked)).node 9 = none ∧
    (after (.snap 3 (toUs 0x2A (leBytes 16 0))) (port3 linked)).ctr 0x0E 0 12 = 1 := by decide +kernel

def remote : Chan := { source := .remote, unit := 3, t0 := 0 }
def syncOne : Packet := { type := 0x10, payload := ps [(8, 0), (4, 256), (1, 8), (3, 0), (8, 0x70000), (4, 2)] }
theorem test_sync :
    (let s := { port3 linked with mode := .armed, chans := [(2, remote)] }
     s.takes 2 syncOne = true ∧ bit (fieldU syncOne.payload 0x0C 1) 3 = true ∧ ((after (.sync 3 syncOne 0) s).chan 2).vel = 2000000) ∧
    State.takes { port3 linked with chans := [(2, { remote with present := true, anchorUid := 1, anchorEpoch := 7 })] } 2 syncOne = false ∧
    State.takes { port3 linked with chans := [(2, { remote with source := .free })] } 2 syncOne = false := by decide +kernel
theorem test_timers :
    (tget ({} : PostIn) (after (.postAckDue 1023) { port3 linked with postsIn := [(1023, { unacked := 1 })] }).postsIn 1023).unacked = 0 ∧
    (after (.reqTimeout 7) { port3 linked with requests := [asking] }).requests = [] ∧
    after (.reqTimeout 7) { port3 linked with requests := [{ asking with dropped := true }] } = port3 linked ∧
    (after (.reqTimeout 7) { port3 linked with requests := [{ asking with sent := 800000001 }] }).requests.length = 1 ∧
    (port3 linked).isRoot = true ∧ (after .syncDue { port3 linked with rootUid := some 1, syncCount := 65535 }).syncCount = 0 ∧
    after .syncDue (parented staleAd) = parented staleAd := by decide +kernel
def merging (m : Bool) (since : Nat) (k : Chan) : State :=
  { port3 linked with merge := some { epoch := 0, since, master := m }, now := 3000000000, chans := [(3, k)], rootUid := some 77, runEpoch := 1 }
def oldChan : Chan := { source := .remote, anchorUid := 66, anchorEpoch := 0 }
theorem test_merge :
    (after .legacySyncDue (merging true 1000000001 oldChan)).syncCount = 1 ∧
    after .legacySyncDue (merging false 1000000001 oldChan) = merging false 1000000001 oldChan ∧
    (merging true 1000000001 oldChan).oldAnchor 3 = true ∧ (merging true 1000000001 oldChan).chanOpen 3 = false ∧
    ((after (.reanchor 3) (merging true 1000000001 oldChan)).chan 3).anchorEpoch = 1 ∧
    (after .reanchorForced (merging true 1000000000 oldChan)).merge = none ∧
    after .reanchorForced (merging true 1000000001 oldChan) = merging true 1000000001 oldChan ∧
    after .reanchorForced (port3 linked) = port3 linked := by decide +kernel

/-! ## Ill-formed operands are refused -/

theorem test_wf_register_accesses :
    ∀ row ∈ [Instr.commandSlotWrite 0, .eventRingConfigWrite 0, .wmMarkWrite 0, .registerWrite 0],
      (row 0x1002 false 0).wf = false ∧ (row 0x1004 true 0).wf = false ∧ (row 0x1004 false 0).wf = true := by decide

def frame (type length : Nat) (n : Nat) : UsbFrame :=
  { length, type, flags := 0, tag := 0, addr := 0, payload := List.replicate n 0 }
theorem test_wf_frames :
    (Instr.regWrite (frame 2 4 4)).wf = false ∧ (Instr.regWrite (frame 1 0 0)).wf = false ∧
    (Instr.regWrite (frame 1 68 68)).wf = false ∧ (Instr.regWrite (frame 1 6 6)).wf = false ∧
    (Instr.regWrite (frame 1 8 4)).wf = false ∧ (Instr.regWrite (frame 1 8 8)).wf = true ∧
    (Instr.regRead (frame 2 8 8)).wf = false ∧ (Instr.regRead (frame 1 4 4)).wf = false ∧ (Instr.regRead (frame 2 4 4)).wf = true ∧
    (Instr.fetchData (frame 4 3 3)).wf = false ∧ (Instr.fetchData (frame 3 3 2)).wf = false ∧
    (Instr.fetchData { frame 3 65537 0 with payload := [] }).wf = false ∧ (Instr.fetchData (frame 3 3 3)).wf = true ∧
    (Instr.probeReply (frame 4 1 1)).wf = false ∧ (Instr.probeReply (frame 3 0 0)).wf = false ∧
    (Instr.probeReply (frame 4 0 0)).wf = true := by decide

theorem test_wf_discovery :
    ∀ x ∈ [((0 : Fin 6), 31), (1, 31), (2, 15), (3, 7), (4, 3), (5, 255)],
      (Instr.bootComplete [⟨x.1, x.2, []⟩]).wf = true ∧ (Instr.bootComplete [⟨x.1, x.2 + 1, []⟩]).wf = false ∧
      (Instr.diagDiscover 0 0 [⟨x.1, x.2, []⟩]).wf = true ∧ (Instr.diagDiscover 0 0 [⟨x.1, x.2 + 1, []⟩]).wf = false := by decide

theorem test_wf_events :
    (Instr.powerUp [4, 4]).wf = false ∧ (Instr.powerUp [5, 4]).wf = false ∧ (Instr.powerUp [32768]).wf = false ∧
    (Instr.powerUp [4, 32767]).wf = true ∧
    (Instr.dramError 65 true .other).wf = false ∧ (Instr.dramError 64 true .other).wf = true ∧
    (Instr.slotStart 0 (List.replicate 7 []) 0 (List.replicate 8 0)).wf = false ∧ (Instr.slotStart 0 (List.replicate 8 [0]) 0 (List.replicate 8 0)).wf = false ∧
    (Instr.slotStart 0 (List.replicate 8 []) 0 []).wf = false ∧
    (Instr.slotStart 0 (List.replicate 8 []) 0 (List.replicate 8 0)).wf = true ∧
    (Instr.descriptorFetch 0 0 (some (List.replicate 31 0))).wf = false ∧ (Instr.descriptorFetch 0 0 (some (List.replicate 32 0))).wf = true := by
  decide
theorem test_wf_lengths :
    (Instr.diagDone (List.replicate 1025 0)).wf = false ∧ (Instr.diagDone (List.replicate 1024 0)).wf = true ∧
    (Instr.parcelFetch 0 0 (some (List.replicate 65537 0))).wf = false ∧ (Instr.parcelFetch 0 0 none).wf = true := by
  decide +kernel

/-- Each packet row with its TYPE and virtual channel in Table RN-4. -/
theorem test_wf_packets :
    ∀ x ∈ [((Instr.train 0 : Packet → Instr), 0x01, 0), (.ident 0, 0x02, 0), (.ack 0, 0x03, 0), (.nak 0, 0x04, 0), (.credit 0, 0x05, 0), (.creditSync 0, 0x06, 0),
      (fun k => .delayReq 0 k 0, 0x07, 0), (fun k => .delayResp 0 k 0, 0x08, 0), (.rate 0, 0x09, 0), (.wake 0, 0x0A, 0),
      (.advert 0, 0x0B, 0), (fun k => .sync 0 k 0, 0x10, 0), (.read 0, 0x18, 1), (.write 0, 0x19, 1), (.post 0, 0x1A, 1),
      (.resp 0, 0x20, 2), (.postAck 0, 0x21, 2), (.event 0, 0x28, 3), (.member 0, 0x29, 3), (.snap 0, 0x2A, 3)],
      let k : Packet := { type := x.2.1, vc := x.2.2 }
      (x.1 k).wf = true ∧ (x.1 { k with type := 0x11 }).wf = false ∧ (x.1 { k with vc := x.2.2 + 1 }).wf = false ∧
      (x.1 { k with src := 1024 }).wf = false ∧ (x.1 { k with dest := 1024 }).wf = false ∧ (x.1 { k with hops := 64 }).wf = false ∧
      (x.1 { k with epoch := 256 }).wf = false ∧ (x.1 { k with seq := 4096 }).wf = false ∧
      (x.1 { k with payload := List.replicate 65 0 }).wf = false := by decide +kernel

/-! ## The queue -/

theorem test_step_runs_the_front :
    step { State.reset with pending := [.strayClear 0, .nop 0] } = exec (.strayClear 0) { State.reset with pending := [.nop 0] } := rfl

def queued : State := { State.reset with pending := [.lineTrigger 0] }
theorem test_balance_met : LinesBalance queued ∧ ∃ t, step queued = .next t ∧ t.pending = [] :=
  ⟨fun b => by simp [queued, State.ctr, State.reset, tget], _, rfl, rfl⟩

/-! ## The standards: expected values from their own examples -/

/-- FIPS 180-4, "abc"; RFC 4231, case 1. -/
theorem test_sha256 : beNat (sha256 [0x61, 0x62, 0x63]) = 0xba7816bf8f01cfea414140de5dae2223b00361a396177a9cb410ff61f20015ad := by
  decide +kernel
theorem test_hmac : beNat (hmacSha256 (List.replicate 20 0x0B) [0x48, 0x69, 0x20, 0x54, 0x68, 0x65, 0x72, 0x65]) =
    0xb0344c61d8db38535ca8afceaf0bf12b881dc200c9833da726e9376c2e32cff7 := by decide +kernel
/-- FIPS 197, C.3. -/
theorem test_aes : beNat (aesBlock (aesKeys ((List.range 32).map (BitVec.ofNat 8 ·)))
    ((List.range 16).map fun i => BitVec.ofNat 8 (17 * i))) = 0x8ea2b7ca516745bfeafc49904b496089 := by decide +kernel
/-- The GCM specification, test case 16. -/
def gcmKey : List Byte := beBytes 32 0xfeffe9928665731c6d6a8f9467308308feffe9928665731c6d6a8f9467308308
def gcmAad : List Byte := beBytes 20 0xfeedfacedeadbeeffeedfacedeadbeefabaddad2
def gcmPlain : List Byte :=
  beBytes 60 0xd9313225f88406e5a55909c5aff5269a86a7a9531534f7da2e4c303d8a318a721c3c0c95956809532fcf0e2449a6b525b16aedf5aa0de657ba637b39
theorem test_gcm :
    let x := gcmEncrypt gcmKey (beBytes 12 0xcafebabefacedbaddecaf888) gcmPlain gcmAad
    beNat x.2 = 0x76fc6ece0f4e1768cddf8853bb2d551b ∧ beNat (x.1.take 8) = 0x522dc1f099567d07 ∧
    gcmDecrypt gcmKey (beBytes 12 0xcafebabefacedbaddecaf888) x.1 x.2 gcmAad = some gcmPlain ∧
    gcmDecrypt gcmKey (beBytes 12 0xcafebabefacedbaddecaf888) x.1 x.2 [] = none := by decide +kernel
/-- RFC 6979, A.2.5: "sample". -/
theorem test_ecdsa : ecdsaVerify
    (leBytes 32 0x60FED4BA255A9D31C961EB74C6356D68C049B8923B61FA6CE669622E60F29FB6 ++
      leBytes 32 0x7903FE1008B8BC99A41AE9E95628BC64F2F1B20C2D7E9F5177A3C294D4462299)
    [0x73, 0x61, 0x6D, 0x70, 0x6C, 0x65]
    (leBytes 32 0xEFD48B2AACB6A8FD1140DD9CD45E81D69D2C877B56AAF991C34D0EA84EAF3716 ++
      leBytes 32 0xF7CB1C942D657C41D436C7A1B6E29F65F3E900DBB9AFF4064DC4AB2F843ACDA8) = true := by decide +kernel
/-- A line like the one before it; a black run of 4 after 3 white ones, in horizontal mode; EOFB. -/
theorem test_t6 :
    packBits (t6Code (List.replicate 8 true) (List.replicate 8 true)) = [0xC0] ∧
    packBits (t6Code (List.replicate 9 false) ([false, false, false, true, true, true, true, false, false])) = [0x30, 0xE0] ∧
    packBits t6Eofb = [0x00, 0x10, 0x01] := by decide +kernel
/-- R411: the tables of Annex K as they stand at QUALITY 50, and all ones at 100; EOB and ZRL of the luminance table. -/
theorem test_jpeg :
    scaledQuant 50 lumQuant = lumQuant ∧ scaledQuant 100 chromQuant = List.replicate 64 1 ∧
    (scaledQuant 10 lumQuant).take 3 = [80, 55, 50] ∧
    packBits (huffCode lumAcCounts lumAcSymbols 0) = [0xA0] ∧
    packBits (huffCode lumAcCounts lumAcSymbols 0xF0) = [0xFF, 0x20] ∧
    stuffed (blockBits false 0 (3 :: List.replicate 63 0)) = [0x7D, 0x7F] ∧ jpegTail 300 = [0xFF, 0xDC, 0, 4, 1, 0x2C, 0xFF, 0xD9] := by
  decide +kernel

end Sys2Proof.Tests
end

section
/-! PROOFS. The lines of every bed stay accounted for (R15, R585): what LINES_TRIGGERED has above LINES_CAPTURED and the six
DROP counters is kept by every operation of the model, or cleared by a device reset. Each operation has one lemma, in the
order of the model's files; a row's answer is a chain of them. -/

namespace Sys2Proof.Machine

/-- LINES_TRIGGERED of each bed less its LINES_CAPTURED and its six DROP counters (R585). -/
@[irreducible] def lineDebt (t : Tab (BitVec 48)) (b : Nat) : BitVec 48 :=
  let n (i : Nat) := if ctrIn b i then tget 0 t (ctrKey 1 b i) else 0
  n 0 - (n 1 + n 2 + n 3 + n 4 + n 5 + n 6 + n 7)

theorem lineDebt_eq (s : State) (b : Nat) : lineDebt s.counters b =
    s.ctr 1 b 0 -
      (s.ctr 1 b 1 + s.ctr 1 b 2 + s.ctr 1 b 3 + s.ctr 1 b 4 + s.ctr 1 b 5 + s.ctr 1 b 6 + s.ctr 1 b 7) := by
  unfold lineDebt
  rfl

/-- The lines of every bed are accounted for where no bed has a debt. -/
theorem linesBalance_iff (s : State) : LinesBalance s ↔ lineDebt s.counters = 0 := by
  simp only [LinesBalance, funext_iff, lineDebt_eq, Pi.zero_apply, sub_eq_zero]

theorem lineDebt_inc_other (s : State) (cls unit idx n : Nat) (h : cls ≠ 1 ∨ 7 < idx) :
    lineDebt (s.inc cls unit idx n).counters = lineDebt s.counters := by
  funext b
  have k : ∀ i, i ≤ 7 → (s.inc cls unit idx n).ctr 1 b i = s.ctr 1 b i := by
    intro i hi
    rw [ctr_inc, if_neg]
    rintro ⟨rfl, -, rfl, -⟩
    omega
  simp [lineDebt_eq, k]

@[simp] theorem lineDebt_inc_class (s : State) (cls unit idx n : Nat) (h : cls ≠ 1) :
    lineDebt (s.inc cls unit idx n).counters = lineDebt s.counters := lineDebt_inc_other s cls unit idx n (.inl h)

@[simp] theorem lineDebt_inc_index (s : State) (unit idx n : Nat) (h : 7 < idx) :
    lineDebt (s.inc 1 unit idx n).counters = lineDebt s.counters := lineDebt_inc_other s 1 unit idx n (.inr h)

@[simp] theorem lineDebt_ite (c : Prop) [Decidable c] (s t : State) :
    lineDebt (if c then s else t).counters = if c then lineDebt s.counters else lineDebt t.counters := by
  split <;> rfl

@[simp] theorem lineDebt_ite_fst {α : Type} (c : Prop) [Decidable c] (x y : State × α) :
    lineDebt (if c then x else y).1.counters = if c then lineDebt x.1.counters else lineDebt y.1.counters := by
  split <;> rfl

@[simp] theorem lineDebt_forEach {α : Type} (f : α → State → State)
    (h : ∀ x s, lineDebt (f x s).counters = lineDebt s.counters) (xs : List α) (s : State) :
    lineDebt (forEach xs f s).counters = lineDebt s.counters :=
  forEach_keeps (P := fun t : State => lineDebt t.counters = lineDebt s.counters) f
    (fun x t ht => (h x t).trans ht) xs s rfl

/-- A line counted triggered, and captured or dropped in the same step. -/
theorem lineDebt_counted (s : State) (b i : Nat) (h1 : 1 ≤ i) (h7 : i ≤ 7) :
    lineDebt ((s.inc 1 b 0 1).inc 1 b i 1).counters = lineDebt s.counters := by
  funext d
  simp only [lineDebt_eq, ctr_inc]
  by_cases hb : d = b
  · subst hb
    by_cases hd : d < 65536
    · interval_cases i <;> simp [ctrIn, hd] <;> ring
    · simp [ctrIn, hd]
  · simp [hb]

/-- A captured line that counts as dropped after all. -/
theorem lineDebt_lost (s : State) (b : Nat) :
    lineDebt ((s.inc 1 b 1 (2 ^ 48 - 1)).inc 1 b 6 1).counters = lineDebt s.counters := by
  funext d
  simp only [lineDebt_eq, ctr_inc]
  by_cases hb : d = b
  · subst hb
    by_cases hd : d < 65536
    · have h : (281474976710655#48 : BitVec 48) + 1#48 = 0 := by decide
      simp [ctrIn, hd]
      linear_combination h
    · simp [ctrIn, hd]
  · simp [hb]

@[simp] theorem lineDebt_dropLine (s : State) (b acc cause : Nat) (h1 : 1 ≤ cause) (h7 : cause ≤ 7) :
    lineDebt (s.dropLine b acc cause).counters = lineDebt s.counters := lineDebt_counted s b cause h1 h7

@[simp] theorem lineDebt_captureLine (s : State) (b acc : Nat) :
    lineDebt (s.captureLine b acc).counters = lineDebt s.counters := lineDebt_counted s b 1 le_rfl (by decide)

/-! The shared operations (Machine/Ops.lean). -/

@[simp] theorem lineDebt_draw (s : State) : lineDebt s.draw.counters = lineDebt s.counters := by rfl
@[simp] theorem lineDebt_updCab (s : State) (c : Nat) (f : Cab → Cab) :
    lineDebt (s.updCab c f).counters = lineDebt s.counters := by rfl
@[simp] theorem lineDebt_updMbx (s : State) (m : Nat) (f : Mbx → Mbx) :
    lineDebt (s.updMbx m f).counters = lineDebt s.counters := by rfl
@[simp] theorem lineDebt_updSlot (s : State) (m n : Nat) (f : Slot → Slot) :
    lineDebt (s.updSlot m n f).counters = lineDebt s.counters := by rfl
@[simp] theorem lineDebt_updChan (s : State) (c : Nat) (f : Chan → Chan) :
    lineDebt (s.updChan c f).counters = lineDebt s.counters := by rfl
@[simp] theorem lineDebt_setComp (s : State) (k : Nat) (v : Option Cmp) :
    lineDebt (s.setComp k v).counters = lineDebt s.counters := by rfl
@[simp] theorem lineDebt_updPin (s : State) (p : Nat) (f : Pin → Pin) :
    lineDebt (s.updPin p f).counters = lineDebt s.counters := by rfl
@[simp] theorem lineDebt_updAxis (s : State) (a : Nat) (f : Axis → Axis) :
    lineDebt (s.updAxis a f).counters = lineDebt s.counters := by rfl
@[simp] theorem lineDebt_updSnap (s : State) (k : Nat) (f : Snap → Snap) :
    lineDebt (s.updSnap k f).counters = lineDebt s.counters := by rfl
@[simp] theorem lineDebt_updRing (s : State) (c : Nat) (f : EvRing → EvRing) :
    lineDebt (s.updRing c f).counters = lineDebt s.counters := by rfl
@[simp] theorem lineDebt_push (s : State) (o : Out) : lineDebt (s.push o).counters = lineDebt s.counters := by rfl
@[simp] theorem lineDebt_usbSend (s : State) (o : Out) : lineDebt (s.usbSend o).counters = lineDebt s.counters := by
  simp [State.usbSend]
@[simp] theorem lineDebt_useSlots (s : State) (m n : Nat) :
    lineDebt (s.useSlots m n).counters = lineDebt s.counters := by
  unfold State.useSlots
  dsimp only
  split <;> simp
@[simp] theorem lineDebt_hostWrite (s : State) (m : Nat) (addr : BitVec 64) (data : List Byte) :
    lineDebt (s.hostWrite m addr data).counters = lineDebt s.counters := by simp [State.hostWrite]
@[simp] theorem lineDebt_hostRead (s : State) (m : Nat) (addr : BitVec 64) (len : Nat) :
    lineDebt (s.hostRead m addr len).counters = lineDebt s.counters := by simp [State.hostRead]
@[simp] theorem lineDebt_usbAsk (s : State) (t : Nat → UsbTag) (type : Nat) (addr : BitVec 64) (len : Nat) :
    lineDebt (s.usbAsk t type addr len).counters = lineDebt s.counters := by
  unfold State.usbAsk
  split <;> simp
@[simp] theorem lineDebt_signal (s : State) (m vector : Nat) :
    lineDebt (s.signal m vector).counters = lineDebt s.counters := by simp [State.signal]
@[simp] theorem lineDebt_overflow (s : State) (c cls : Nat) :
    lineDebt (s.overflow c cls).counters = lineDebt s.counters := by simp [State.overflow]
@[simp] theorem lineDebt_ringSignal (s : State) (c : Nat) :
    lineDebt (s.ringSignal c).counters = lineDebt s.counters := by simp [State.ringSignal]
@[simp] theorem lineDebt_writeEntry (s : State) (c : Nat) (e : Ev) :
    lineDebt (s.writeEntry c e).counters = lineDebt s.counters := by simp [State.writeEntry]
@[simp] theorem lineDebt_raise (s : State) (c : Nat) (e : Ev) :
    lineDebt (s.raise c e).counters = lineDebt s.counters := by simp [State.raise]
@[simp] theorem lineDebt_raiseTo (s : State) (cs : List Nat) (e : Ev) :
    lineDebt (s.raiseTo cs e).counters = lineDebt s.counters := by simp [State.raiseTo]

/-! The Herbarium's words and pages (Machine/Nvs.lean). -/

@[simp] theorem lineDebt_beginRecord (s : State) (r : NvsRecord) :
    lineDebt (s.beginRecord r).counters = lineDebt s.counters := by rfl
@[simp] theorem lineDebt_setNvs (s : State) (page w : Nat) (v : BitVec 64) :
    lineDebt (s.setNvs page w v).counters = lineDebt s.counters := by simp [State.setNvs]
@[simp] theorem lineDebt_cutRecord (s : State) (r : NvsRecord) (kept : Nat) :
    lineDebt (s.cutRecord r kept).counters = lineDebt s.counters := by
  unfold State.cutRecord
  split <;> simp
@[simp] theorem lineDebt_cutWrites (u : Nat) (ws : List NvsWrite) (s : State) :
    lineDebt (State.cutWrites u ws s).counters = lineDebt s.counters := 
  congrArg lineDebt (congrArg State.counters (cutWrites_frame ws u s) :)
@[simp] theorem lineDebt_nvsAsIs (s : State) : lineDebt s.nvsAsIs.counters = lineDebt s.counters := by
  simp [State.nvsAsIs]
@[simp] theorem lineDebt_nvsStop (s : State) : lineDebt s.nvsStop.counters = lineDebt s.counters := by
  simp [State.nvsStop]
@[simp] theorem lineDebt_writePage (s : State) (page : Nat) (bytes : List Byte) (gen : Nat) :
    lineDebt (s.writePage page bytes gen).counters = lineDebt s.counters := by simp [State.writePage]
@[simp] theorem lineDebt_writePages (s : State) (first : Nat) (bytes : List Byte) (gen : Nat) :
    lineDebt (s.writePages first bytes gen).counters = lineDebt s.counters := by simp [State.writePages]
@[simp] theorem lineDebt_freePage (s : State) (page gen : Nat) :
    lineDebt (s.freePage page gen).counters = lineDebt s.counters := by simp [State.freePage]
@[simp] theorem lineDebt_freeRecord (s : State) (pageA : Nat) :
    lineDebt (s.freeRecord pageA).counters = lineDebt s.counters := by simp [State.freeRecord]

/-! Channels and comparators (Machine/Position.lean). -/

@[simp] theorem lineDebt_updBed (s : State) (b : Nat) (f : Bed → Bed) :
    lineDebt (s.updBed b f).counters = lineDebt s.counters := by rfl
@[simp] theorem lineDebt_updGroup (s : State) (g : Nat) (f : Group → Group) :
    lineDebt (s.updGroup g f).counters = lineDebt s.counters := by rfl
@[simp] theorem lineDebt_updStream (s : State) (c n : Nat) (f : Stream → Stream) :
    lineDebt (s.updStream c n f).counters = lineDebt s.counters := by rfl
@[simp] theorem lineDebt_updRingOf (s : State) (c n : Nat) (f : Ring → Ring) :
    lineDebt (s.updRingOf c n f).counters = lineDebt s.counters := by rfl
@[simp] theorem lineDebt_rebase (s : State) (c : Nat) : lineDebt (s.rebase c).counters = lineDebt s.counters := by rfl
@[simp] theorem lineDebt_dropRate (s : State) (j : Job) : lineDebt (s.dropRate j).counters = lineDebt s.counters := by
  simp [State.dropRate]
@[simp] theorem lineDebt_countTicks (s : State) (c : Nat) :
    lineDebt (s.countTicks c).counters = lineDebt s.counters := by simp [State.countTicks]
@[simp] theorem lineDebt_arm (s : State) (k : Nat) (c : Cmp) :
    lineDebt (s.arm k c).counters = lineDebt s.counters := by rfl
@[simp] theorem lineDebt_drivePins (s : State) (mask : BitVec 16) (level : Bool) :
    lineDebt (s.drivePins mask level).counters = lineDebt s.counters := by simp [State.drivePins]
@[simp] theorem lineDebt_pulsePins (s : State) (mask : BitVec 16) (us : Nat) :
    lineDebt (s.pulsePins mask us).counters = lineDebt s.counters := by simp [State.pulsePins]
@[simp] theorem lineDebt_missSnap (s : State) (slot cause : Nat) :
    lineDebt (s.missSnap slot cause).counters = lineDebt s.counters := by simp [State.missSnap]
@[simp] theorem lineDebt_disarm (s : State) (k : Nat) : lineDebt (s.disarm k).counters = lineDebt s.counters := by
  unfold State.disarm
  split
  · rfl
  · split <;> simp

/-! Streams and their items (Machine/Streams.lean). -/

@[simp] theorem lineDebt_ringWrite (s : State) (c n off : Nat) (bs : List Byte) :
    lineDebt (s.ringWrite c n off bs).counters = lineDebt s.counters := by rfl
@[simp] theorem lineDebt_raiseWm (s : State) (c n : Nat) (above : Bool) :
    lineDebt (s.raiseWm c n above).counters = lineDebt s.counters := by simp [State.raiseWm]
@[simp] theorem lineDebt_drainWm (fuel c : Nat) (s : State) :
    lineDebt (State.drainWm fuel c s).counters = lineDebt s.counters := by
  induction fuel generalizing s with
  | zero => rfl
  | succ fuel ih =>
    unfold State.drainWm
    dsimp only
    split <;> simp [ih]
@[simp] theorem lineDebt_armWm (s : State) (c n : Nat) : lineDebt (s.armWm c n).counters = lineDebt s.counters := by
  simp [State.armWm]
@[simp] theorem lineDebt_chgStream (s : State) (c n : Nat) (f : Stream → Stream) :
    lineDebt (s.chgStream c n f).counters = lineDebt s.counters := by simp [State.chgStream]
@[simp] theorem lineDebt_makeItem (s : State) (c n kind flags bed kernel acc : Nat) (payload : List Byte) :
    lineDebt (s.makeItem c n kind flags bed kernel acc payload).1.counters = lineDebt s.counters := by
  unfold State.makeItem
  split <;> simp
@[simp] theorem lineDebt_ringFed (s : State) (c n : Nat) :
    lineDebt (s.ringFed c n).counters = lineDebt s.counters := by simp [State.ringFed]
@[simp] theorem lineDebt_appendItem (s : State) (c n : Nat) (bs : List Byte) (kind acc res : Nat) (last : Bool) :
    lineDebt (s.appendItem c n bs kind acc res last).counters = lineDebt s.counters := by simp [State.appendItem]
@[simp] theorem lineDebt_putItem (s : State) (c n : Nat) (bs : List Byte) (kind acc res : Nat) (last : Bool) :
    lineDebt (s.putItem c n bs kind acc res last).counters = lineDebt s.counters := by simp [State.putItem]
@[simp] theorem lineDebt_flushHeld (fuel c n : Nat) (s : State) :
    lineDebt (State.flushHeld fuel c n s).counters = lineDebt s.counters := by
  induction fuel generalizing s with
  | zero => rfl
  | succ fuel ih =>
    unfold State.flushHeld
    split <;> simp [ih]
@[simp] theorem lineDebt_putSample (s : State) (c n : Nat) (payload : List Byte) (acc : Nat) :
    lineDebt (s.putSample c n payload acc).counters = lineDebt s.counters := by simp [State.putSample]
@[simp] theorem lineDebt_updDoc (s : State) (acc : Nat) (f : Doc → Doc) :
    lineDebt (s.updDoc acc f).counters = lineDebt s.counters := by rfl
@[simp] theorem lineDebt_flushWaiting (fuel c : Nat) (s : State) :
    lineDebt (State.flushWaiting fuel c s).counters = lineDebt s.counters := by
  induction fuel generalizing s with
  | zero => rfl
  | succ fuel ih =>
    unfold State.flushWaiting
    split
    · rfl
    · split <;> simp [ih]
@[simp] theorem lineDebt_queueRecord (s : State) (c acc : Nat) (isNote : Bool) :
    lineDebt (s.queueRecord c acc isNote).counters = lineDebt s.counters := by simp [State.queueRecord]

/-! Axes (Machine/Axis.lean). -/

@[simp] theorem lineDebt_anchor (s : State) (a : Nat) : lineDebt (s.anchor a).counters = lineDebt s.counters := by
  simp [State.anchor]
@[simp] theorem lineDebt_axisEvent (s : State) (a : Nat) (e : Ev) :
    lineDebt (s.axisEvent a e).counters = lineDebt s.counters := by simp [State.axisEvent]
@[simp] theorem lineDebt_setLost (s : State) (a : Nat) : lineDebt (s.setLost a).counters = lineDebt s.counters := by
  simp [State.setLost]
@[simp] theorem lineDebt_confirmsMissed (s : State) :
    lineDebt (s.confirmsMissed).counters = lineDebt s.counters := by
  refine lineDebt_forEach _ (fun _ s => ?_) _ s
  split
  · split <;> simp
  · rfl
@[simp] theorem lineDebt_lose (s : State) (a : Nat) : lineDebt (s.lose a).counters = lineDebt s.counters := by
  simp [State.lose]
@[simp] theorem lineDebt_coilFault (s : State) (a : Nat) (phB : Bool) (st sw : Nat) :
    lineDebt (s.coilFault a phB st sw).counters = lineDebt s.counters := by simp [State.coilFault]
@[simp] theorem lineDebt_coilTell (s : State) (a : Nat) : lineDebt (s.coilTell a).counters = lineDebt s.counters := by
  simp [State.coilTell]
@[simp] theorem lineDebt_coilTellAll (s : State) : lineDebt s.coilTellAll.counters = lineDebt s.counters := by
  simp [State.coilTellAll]
@[simp] theorem lineDebt_disarmSlots (s : State) (a : Nat) :
    lineDebt (s.disarmSlots a).counters = lineDebt s.counters := by simp [State.disarmSlots]
@[simp] theorem lineDebt_freeze (s : State) (a : Nat) (off on : Bool) :
    lineDebt (s.freeze a off on).counters = lineDebt s.counters := by simp [State.freeze]
@[simp] theorem lineDebt_gearChanged (s : State) (a : Nat) (r : Ratio) (slave : Int) (master : Pos) :
    lineDebt (s.gearChanged a r slave master).counters = lineDebt s.counters := by simp [State.gearChanged]
@[simp] theorem lineDebt_unGear (s : State) (a : Nat) (p : Int) :
    lineDebt (s.unGear a p).counters = lineDebt s.counters := by simp [State.unGear]
@[simp] theorem lineDebt_regear (s : State) (c : Nat) (m : Pos) :
    lineDebt (s.regear c m).counters = lineDebt s.counters := by
  refine lineDebt_forEach _ (fun _ s => ?_) _ s
  split
  · rfl
  · dsimp only
    split
    · rfl
    · split <;> simp
@[simp] theorem lineDebt_discontinuity (s : State) (c aux : Nat) :
    lineDebt (s.discontinuity c aux).counters = lineDebt s.counters := by simp [State.discontinuity]
@[simp] theorem lineDebt_stopAxis (s : State) (a : Nat) (off : Bool) :
    lineDebt (s.stopAxis a off).counters = lineDebt s.counters := by simp [State.stopAxis]

/-! Accession records (Machine/Records.lean). -/

@[simp] theorem lineDebt_bedFlag (s : State) (b acc : Nat) (bits : BitVec 16) :
    lineDebt (s.bedFlag b acc bits).counters = lineDebt s.counters := by rfl
@[simp] theorem lineDebt_docFlag (s : State) (acc : Nat) (bits : BitVec 32) :
    lineDebt (s.docFlag acc bits).counters = lineDebt s.counters := by rfl
@[simp] theorem lineDebt_flushOverrun (s : State) (b : Nat) :
    lineDebt (s.flushOverrun b).counters = lineDebt s.counters := by
  unfold State.flushOverrun
  split <;> simp
@[simp] theorem lineDebt_cutOverrun (s : State) (b : Nat) :
    lineDebt (s.cutOverrun b).counters = lineDebt s.counters := by
  unfold State.cutOverrun
  split
  · rfl
  · split <;> simp
@[simp] theorem lineDebt_endOverruns (s : State) (acc : Nat) :
    lineDebt (s.endOverruns acc).counters = lineDebt s.counters := by
  refine lineDebt_forEach _ (fun _ s => ?_) _ s
  split <;> simp
@[simp] theorem lineDebt_noteStale (s : State) (b : Nat) :
    lineDebt (s.noteStale b).counters = lineDebt s.counters := by
  unfold State.noteStale
  split <;> simp
@[simp] theorem lineDebt_closeJob (s : State) (j : Job) (result order : Nat) :
    lineDebt (s.closeJob j result order).counters = lineDebt s.counters := by
  unfold State.closeJob
  simp only [lineDebt_raise]
  split <;> simp
@[simp] theorem lineDebt_noteLeft (s : State) : lineDebt s.noteLeft.counters = lineDebt s.counters := by rfl
@[simp] theorem lineDebt_jobAfterClose (s : State) (d : Doc) :
    lineDebt (s.jobAfterClose d).counters = lineDebt s.counters := by
  unfold State.jobAfterClose
  dsimp only
  split
  · rfl
  · split
    · rfl
    · split <;> simp
@[simp] theorem lineDebt_updGauge (s : State) (g : Nat) (f : Gauge → Gauge) :
    lineDebt (s.updGauge g f).counters = lineDebt s.counters := by rfl
@[simp] theorem lineDebt_trimWindows (s : State) : lineDebt s.trimWindows.counters = lineDebt s.counters := by rfl
@[simp] theorem lineDebt_writeSummaries (s : State) (d : Doc) :
    lineDebt (s.writeSummaries d).counters = lineDebt s.counters := by
  unfold State.writeSummaries
  split <;> simp
@[simp] theorem lineDebt_closeFlags (s : State) (d : Doc) :
    lineDebt (s.closeFlags d).counters = lineDebt s.counters := by simp [State.closeFlags]
@[simp] theorem lineDebt_tryErase (s : State) (c : Nat) : lineDebt (s.tryErase c).counters = lineDebt s.counters := by
  simp [State.tryErase]
@[simp] theorem lineDebt_closeDoc (s : State) (acc : Nat) (halt : Option Nat) :
    lineDebt (s.closeDoc acc halt).counters = lineDebt s.counters := by
  unfold State.closeDoc
  split
  · rfl
  · split
    · rfl
    · simp

/-! Modes, halts and the device reset (Machine/Halt.lean). -/

@[simp] theorem lineDebt_enterMode (s : State) (m : Mode) (cause : Nat) :
    lineDebt (s.enterMode m cause).counters = lineDebt s.counters := by simp [State.enterMode]
@[simp] theorem lineDebt_haltBed (s : State) (b : Nat) :
    lineDebt (s.haltBed b).counters = lineDebt s.counters := by
  have h : ∀ acc n (s : State), lineDebt (forEach (List.range n) (fun _ s => s.dropLine b acc 2) s).counters =
      lineDebt s.counters := fun acc n s => by simp
  simp [State.haltBed, h]
@[simp] theorem lineDebt_countStop (s : State) (cause : Nat) :
    lineDebt (s.countStop cause).counters = lineDebt s.counters := by simp [State.countStop]
@[simp] theorem lineDebt_breach (s : State) (condition : Nat) (p : Pos) :
    lineDebt (s.breach condition p).counters = lineDebt s.counters := by simp [State.breach]
@[simp] theorem lineDebt_breachEnd (s : State) (condition : Nat) (p : Pos) :
    lineDebt (s.breachEnd condition p).counters = lineDebt s.counters := by rfl
@[simp] theorem lineDebt_sourcesAgain (s : State) (c : Nat) :
    lineDebt (s.sourcesAgain c).counters = lineDebt s.counters := by simp [State.sourcesAgain]
@[simp] theorem lineDebt_sourcesMissing (s : State) : lineDebt s.sourcesMissing.counters = lineDebt s.counters := by
  simp [State.sourcesMissing]
@[simp] theorem lineDebt_holdChan (s : State) (c : Nat) : lineDebt (s.holdChan c).counters = lineDebt s.counters := by
  simp [State.holdChan]
@[simp] theorem lineDebt_deviceReset (s : State) : lineDebt s.deviceReset.counters = 0 := by
  funext b
  simp only [lineDebt_eq]
  simp [State.deviceReset, State.reset, State.ctr, tget]

/-! Clock domains (Machine/Clocks.lean). -/

@[simp] theorem lineDebt_updPlot (s : State) (p : Nat) (f : Plot → Plot) :
    lineDebt (s.updPlot p f).counters = lineDebt s.counters := by rfl
@[simp] theorem lineDebt_updPort (s : State) (n : Nat) (f : Port → Port) :
    lineDebt (s.updPort n f).counters = lineDebt s.counters := by rfl
@[simp] theorem lineDebt_cross (s : State) (k src dst : Nat) (v : List Int) :
    lineDebt (s.cross k src dst v).counters = lineDebt s.counters := by rfl
@[simp] theorem lineDebt_stampCross (s : State) : lineDebt s.stampCross.counters = lineDebt s.counters := by rfl
@[simp] theorem lineDebt_motCross (s : State) (a : Nat) (p q : Int) :
    lineDebt (s.motCross a p q).counters = lineDebt s.counters := by rfl
@[simp] theorem lineDebt_overrun (s : State) (c domain n : Nat) :
    lineDebt (s.overrun c domain n).counters = lineDebt s.counters := by simp [State.overrun]
@[simp] theorem lineDebt_deliveredNow (s : State) (c : Nat) :
    lineDebt (s.deliveredNow c).counters = lineDebt s.counters := by rfl
@[simp] theorem lineDebt_launch (s : State) (c src dst : Nat) :
    lineDebt (s.launch c src dst).counters = lineDebt s.counters := by rfl
@[simp] theorem lineDebt_pulse (s : State) (c src dst : Nat) :
    lineDebt (s.pulse c src dst).1.counters = lineDebt s.counters := by simp [State.pulse]

/-! Gauge chains (Machine/Chain.lean). -/

@[simp] theorem lineDebt_noteBlank (s : State) : lineDebt s.noteBlank.counters = lineDebt s.counters := by
  simp [State.noteBlank]
@[simp] theorem lineDebt_tellGauge (s : State) (g : Nat) :
    lineDebt (s.tellGauge g).counters = lineDebt s.counters := by simp [State.tellGauge]
@[simp] theorem lineDebt_gaugeRestart (s : State) (g : Nat) :
    lineDebt (s.gaugeRestart g).counters = lineDebt s.counters := by simp [State.gaugeRestart]
@[simp] theorem lineDebt_gaugesStart (s : State) : lineDebt s.gaugesStart.counters = lineDebt s.counters := by
  simp [State.gaugesStart]
@[simp] theorem lineDebt_gaugesStop (s : State) : lineDebt s.gaugesStop.counters = lineDebt s.counters := by rfl

/-! The mailbox and the course of a command (Machine/Mailbox.lean). -/

@[simp] theorem lineDebt_answer (s : State) (m n : Nat) (resp : List Byte) :
    lineDebt (s.answer m n resp).counters = lineDebt s.counters := by simp [State.answer]
@[simp] theorem lineDebt_answerErr (s : State) (m n : Nat) (cab : Option Nat) (e : Err) :
    lineDebt (s.answerErr m n cab e).counters = lineDebt s.counters := by
  unfold State.answerErr
  split <;> simp
@[simp] theorem lineDebt_settle (fuel : Nat) (s : State) :
    lineDebt (State.settle fuel s).counters = lineDebt s.counters := by
  induction fuel generalizing s with
  | zero => rfl
  | succ fuel ih =>
    unfold State.settle
    split <;> simp [ih]
@[simp] theorem lineDebt_settled (s : State) : lineDebt s.settled.counters = lineDebt s.counters := by
  simp [State.settled]
@[simp] theorem lineDebt_deliver (s : State) (m : Nat) (ws : List (Nat × List Byte)) :
    lineDebt (s.deliver m ws).1.counters = lineDebt s.counters := by
  unfold State.deliver
  split <;> simp
/-- A command of the Sahgar set keeps the lines of every bed accounted for: its commit does, and what follows
its answer. -/
def Cmd.KeepsLines (cmd : Cmd) : Prop :=
  (∀ s, lineDebt (cmd.after s).counters = lineDebt s.counters) ∧
    ∀ s r, lineDebt (cmd.commit s r).s.counters = lineDebt s.counters
@[simp] theorem lineDebt_commitCmd (cmd : Cmd) (r : Req) (s : State) (h : cmd.KeepsLines) :
    lineDebt (commitCmd cmd r s).counters = lineDebt s.counters := by
  obtain ⟨hafter, hcommit⟩ := h
  simp [commitCmd, hafter, hcommit]
@[simp] theorem lineDebt_runCommand (cmd : Cmd) (m : Fin 257) (n : Fin 4) (s : State) (h : cmd.KeepsLines) :
    lineDebt (runCommand cmd m n s).counters = lineDebt s.counters := by
  unfold runCommand
  split
  · split
    · rfl
    · dsimp only
      split
      · simp
      · split <;> simp [h]
  · rfl
@[simp] theorem lineDebt_askParcel (s : State) (n addr len off : Nat) :
    lineDebt (s.askParcel n addr len off).counters = lineDebt s.counters := by simp [State.askParcel]
@[simp] theorem lineDebt_fetchParcel (s : State) (m n : Nat) :
    lineDebt (s.fetchParcel m n).counters = lineDebt s.counters := by simp [State.fetchParcel]
@[simp] theorem lineDebt_ring1 (s : State) (m n : Nat) : lineDebt (s.ring1 m n).counters = lineDebt s.counters := by
  unfold State.ring1
  dsimp only
  split
  · rfl
  · split <;> simp
@[simp] theorem lineDebt_free1 (s : State) (m n : Nat) : lineDebt (s.free1 m n).counters = lineDebt s.counters := by
  simp [State.free1]
@[simp] theorem lineDebt_doorbell (s : State) (m : Nat) (v : BitVec 32) :
    lineDebt (s.doorbell m v).counters = lineDebt s.counters := by simp [State.doorbell]

/-! Tines (Machine/Tine.lean). -/

@[simp] theorem lineDebt_updTine (s : State) (t : Nat) (f : Tine → Tine) :
    lineDebt (s.updTine t f).counters = lineDebt s.counters := by rfl
@[simp] theorem lineDebt_perform (s : State) (t : Nat) (st : Store) :
    lineDebt (s.perform t st).counters = lineDebt s.counters := by simp [State.perform]
@[simp] theorem lineDebt_performAll (s : State) (t : Nat) :
    lineDebt (s.performAll t).counters = lineDebt s.counters := by simp [State.performAll]
@[simp] theorem lineDebt_performLate (s : State) (t : Nat) (l : Late) :
    lineDebt (s.performLate t l).counters = lineDebt s.counters := by rfl
@[simp] theorem lineDebt_performLoads (s : State) (t n : Nat) :
    lineDebt (s.performLoads t n).counters = lineDebt s.counters := by
  unfold State.performLoads
  split <;> simp
@[simp] theorem lineDebt_allLoads (s : State) (t : Nat) : lineDebt (s.allLoads t).counters = lineDebt s.counters := by
  simp [State.allLoads]
@[simp] theorem lineDebt_dueLoads (s : State) (t c : Nat) :
    lineDebt (s.dueLoads t c).counters = lineDebt s.counters := by simp [State.dueLoads]
@[simp] theorem lineDebt_trapKernel (s : State) (t cause : Nat) (pc : BitVec 32) :
    lineDebt (s.trapKernel t cause pc).counters = lineDebt s.counters := by
  unfold State.trapKernel
  dsimp only
  split
  · rfl
  · split <;> simp
@[simp] theorem lineDebt_goTo (s : State) (t : Nat) (r : Running) (pc : BitVec 32) :
    lineDebt (s.goTo t r pc).counters = lineDebt s.counters := by simp [State.goTo]
@[simp] theorem lineDebt_issue (s : State) (t : Nat) (word : BitVec 32) (srcs dsts : List Nat) (chain : Bool)
    (k : Running → Nat → State → State) (h : ∀ r c u, lineDebt (k r c u).counters = lineDebt u.counters) :
    lineDebt (s.issue t word srcs dsts chain k).counters = lineDebt s.counters := by
  unfold State.issue
  dsimp only
  split
  · rfl
  · simp [h]
@[simp] theorem lineDebt_alu (s : State) (t : Nat) (word : BitVec 32) (srcs dsts : List Nat) (lat : Nat)
    (f : Tine → Tine) (chain : optParam Bool false) :
    lineDebt (s.alu t word srcs dsts lat f chain).counters = lineDebt s.counters := by simp [State.alu]
@[simp] theorem lineDebt_scalarRR (s : State) (t : Fin 272) (fn lat : Nat) (d a b : Fin 16)
    (f : BitVec 32 → BitVec 32 → BitVec 32) :
    lineDebt (s.scalarRR t fn lat d a b f).counters = lineDebt s.counters := by simp [State.scalarRR]
@[simp] theorem lineDebt_scalarRI (s : State) (t : Fin 272) (fn : Nat) (d a : Fin 16) (imm : BitVec 12)
    (f : BitVec 32 → BitVec 12 → BitVec 32) :
    lineDebt (s.scalarRI t fn d a imm f).counters = lineDebt s.counters := by simp [State.scalarRI]
@[simp] theorem lineDebt_vectorRR (s : State) (t : Fin 272) (fn lat : Nat) (d a b : Fin 32) (p : Fin 8)
    (f : BitVec 16 → BitVec 16 → BitVec 16) :
    lineDebt (s.vectorRR t fn lat d a b p f).counters = lineDebt s.counters := by simp [State.vectorRR]
@[simp] theorem lineDebt_vectorRI (s : State) (t : Fin 272) (fn : Nat) (d a : Fin 32) (imm : BitVec 12)
    (f : BitVec 16 → BitVec 16) :
    lineDebt (s.vectorRI t fn d a imm f).counters = lineDebt s.counters := by simp [State.vectorRI]
@[simp] theorem lineDebt_vectorCmp (s : State) (t : Fin 272) (fn : Nat) (d : Fin 8) (a b : Fin 32) (p : Fin 8)
    (f : BitVec 16 → BitVec 16 → Bool) :
    lineDebt (s.vectorCmp t fn d a b p f).counters = lineDebt s.counters := by simp [State.vectorCmp]
@[simp] theorem lineDebt_loadOp (s : State) (t : Fin 272) (op size data : Nat) (vec : Bool) (base : Fin 16)
    (space : Fin 4)
    (post : Bool) (off : BitVec 12) :
    lineDebt (s.loadOp t op size data vec base space post off).counters = lineDebt s.counters := by
  refine lineDebt_issue _ _ _ _ _ _ _ fun r c s => ?_
  dsimp only
  split <;> simp
@[simp] theorem lineDebt_storeOp (s : State) (t : Fin 272) (op size data rd : Nat) (base : Fin 16) (space : Fin 4)
    (post : Bool) (off : BitVec 12) (bytes : Tine → List Byte) :
    lineDebt (s.storeOp t op size data rd base space post off bytes).counters = lineDebt s.counters := by
  unfold State.storeOp
  split
  · rfl
  · refine lineDebt_issue _ _ _ _ _ _ _ fun r c s => ?_
    dsimp only
    split <;> simp
@[simp] theorem lineDebt_branchOp (s : State) (t : Fin 272) (op reg : Nat) (srcs dsts : List Nat)
    (off : BitVec 20) (taken : Tine → Bool) (f : Tine → Tine) :
    lineDebt (s.branchOp t op reg srcs dsts off taken f).counters = lineDebt s.counters := by simp [State.branchOp]
@[simp] theorem lineDebt_afterStores (s : State) (t : Fin 272) (word : BitVec 32) (srcs dsts : List Nat)
    (k : Running → Nat → State → State) (h : ∀ r c u, lineDebt (k r c u).counters = lineDebt u.counters) :
    lineDebt (s.afterStores t word srcs dsts k).counters = lineDebt s.counters := by simp [State.afterStores, h]
@[simp] theorem lineDebt_flagOp (s : State) (t : Fin 272) (word : BitVec 32) (srcs dsts : List Nat)
    (k : Running → Nat → State → State) (h : ∀ r c u, lineDebt (k r c u).counters = lineDebt u.counters) :
    lineDebt (s.flagOp t word srcs dsts k).counters = lineDebt s.counters := by simp [State.flagOp, h]
@[simp] theorem lineDebt_seeFlag (s : State) (t flag : Nat) :
    lineDebt (s.seeFlag t flag).counters = lineDebt s.counters := by rfl

/-! The Rake (Machine/Rake.lean). -/

@[simp] theorem lineDebt_nextEpoch (s : State) (b k : Nat) :
    lineDebt (s.nextEpoch b k).counters = lineDebt s.counters := by rfl
@[simp] theorem lineDebt_forgetPlace (s : State) (c b : Nat) :
    lineDebt (s.forgetPlace c b).counters = lineDebt s.counters := by rfl
@[simp] theorem lineDebt_voidPlace (s : State) (c b cause : Nat) :
    lineDebt (s.voidPlace c b cause).counters = lineDebt s.counters := by
  unfold State.voidPlace
  split <;> simp
@[simp] theorem lineDebt_recheckPlaces (s : State) (b cause : Nat) :
    lineDebt (s.recheckPlaces b cause).counters = lineDebt s.counters := by
  refine lineDebt_forEach _ (fun _ s => ?_) _ s
  split <;> simp
@[simp] theorem lineDebt_drawFor (s : State) (r : Run) : lineDebt (s.drawFor r).counters = lineDebt s.counters := by
  simp [State.drawFor]
@[simp] theorem lineDebt_writeGiven (s : State) (c acc b j : Nat) (k : Kern) (g : Given) (res : Nat) :
    lineDebt (s.writeGiven c acc b j k g res).counters = lineDebt s.counters := by simp [State.writeGiven]
@[simp] theorem lineDebt_release (s : State) (c n res : Nat) :
    lineDebt (s.release c n res).counters = lineDebt s.counters := by simp [State.release]
@[simp] theorem lineDebt_beginRun (s : State) (d : Doc) (r : Run) :
    lineDebt (s.beginRun d r).1.counters = lineDebt s.counters := by
  unfold State.beginRun
  split <;> simp
@[simp] theorem lineDebt_writeAll (s : State) (c acc b j : Nat) (k : Kern) (gs : List Given) (res : Nat) :
    lineDebt (s.writeAll c acc b j k gs res).counters = lineDebt s.counters := by
  unfold State.writeAll
  split <;> simp
@[simp] theorem lineDebt_emit (s : State) (l : GLine) (j : Nat) (k : Kern) :
    lineDebt (s.emit l j k).counters = lineDebt s.counters := by
  unfold State.emit
  dsimp only
  split
  · simp
  · split
    · simp
    · split
      · simp
      · simp [lineDebt_ite_fst]
@[simp] theorem lineDebt_collect (fuel b : Nat) (s : State) :
    lineDebt (State.collect fuel b s).counters = lineDebt s.counters := by
  induction fuel generalizing s with
  | zero => rfl
  | succ fuel ih =>
    unfold State.collect
    split <;> simp [ih]
@[simp] theorem lineDebt_collected (s : State) (b : Nat) :
    lineDebt (s.collected b).counters = lineDebt s.counters := by simp [State.collected]
@[simp] theorem lineDebt_endRun (s : State) (d : Doc) (r : Run) :
    lineDebt (s.endRun d r).counters = lineDebt s.counters := by simp [State.endRun]
@[simp] theorem lineDebt_endRuns (s : State) (acc : Nat) :
    lineDebt (s.endRuns acc).counters = lineDebt s.counters := by
  unfold State.endRuns
  split <;> simp
@[simp] theorem lineDebt_openRuns (s : State) (acc b : Nat) :
    lineDebt (s.openRuns acc b).counters = lineDebt s.counters := by
  unfold State.openRuns
  split
  · rfl
  · split <;> simp
@[simp] theorem lineDebt_enterLine (s : State) (b : Nat) (l : GLine) :
    lineDebt (s.enterLine b l).counters = lineDebt s.counters := by simp [State.enterLine]

/-! Turns of cabinets (Machine/Turns.lean). -/

@[simp] theorem lineDebt_updJob (s : State) (c id : Nat) (f : Job → Job) :
    lineDebt (s.updJob c id f).counters = lineDebt s.counters := by rfl
@[simp] theorem lineDebt_reBacklog (s : State) : lineDebt s.reBacklog.counters = lineDebt s.counters := by
  simp [State.reBacklog]

/-! Cuttings and plots (Machine/Cut.lean). -/

@[simp] theorem keepsLines_cutLoad : cutLoad.KeepsLines := ⟨fun _ => rfl, fun s r => by simp [cutLoad]⟩
@[simp] theorem keepsLines_cutUnload : cutUnload.KeepsLines := ⟨fun _ => rfl, fun s r => by simp [cutUnload]⟩
@[simp] theorem keepsLines_cutPlace : cutPlace.KeepsLines := ⟨fun _ => rfl, fun s r => by simp [cutPlace]⟩
@[simp] theorem keepsLines_cutAssign : cutAssign.KeepsLines := ⟨fun _ => rfl, fun s r => by simp [cutAssign]⟩
@[simp] theorem lineDebt_zeroWindows (s : State) (t : Nat) (l : GLine) (r : Running) :
    lineDebt (s.zeroWindows t l r).counters = lineDebt s.counters := by simp [State.zeroWindows]
@[simp] theorem lineDebt_loadLine (s : State) (t : Nat) (l : GLine) (band : Nat) :
    lineDebt (s.loadLine t l band).counters = lineDebt s.counters := by simp [State.loadLine]
@[simp] theorem lineDebt_zeroSpare (s : State) (t : Nat) (r : Running) :
    lineDebt (s.zeroSpare t r).counters = lineDebt s.counters := by simp [State.zeroSpare]
@[simp] theorem lineDebt_noteSubstitute (s : State) (t : Nat) (l : GLine) (band : Nat) :
    lineDebt (s.noteSubstitute t l band).counters = lineDebt s.counters := by simp [State.noteSubstitute]
@[simp] theorem lineDebt_setHolder (s : State) (p pos t : Nat) :
    lineDebt (s.setHolder p pos t).counters = lineDebt s.counters := by simp [State.setHolder]
@[simp] theorem lineDebt_takeBands (s : State) : lineDebt s.takeBands.counters = lineDebt s.counters := by
  simp [State.takeBands]
@[simp] theorem lineDebt_tineEvent (s : State) (t code aux : Nat) :
    lineDebt (s.tineEvent t code aux).counters = lineDebt s.counters := by simp [State.tineEvent]
@[simp] theorem lineDebt_rehand (s : State) (t u : Nat) :
    lineDebt (s.rehand t u).counters = lineDebt s.counters := by simp [State.rehand]
@[simp] theorem lineDebt_declareDead (s : State) (t : Nat) (error : Bool) :
    lineDebt (s.declareDead t error).counters = lineDebt s.counters := by
  unfold State.declareDead
  dsimp only
  split
  · simp
  · split
    · simp
    · simp only [lineDebt_ite, lineDebt_tineEvent, lineDebt_updTine, ite_self]
      rw [lineDebt_forEach]
      · simp
      · intro ph s
        split <;> simp
@[simp] theorem lineDebt_scrubPlot (s : State) (p : Nat) (code : Tab (BitVec 32)) :
    lineDebt (s.scrubPlot p code).counters = lineDebt s.counters := by simp [State.scrubPlot]

/-! Lamps (Machine/Lamp.lean). -/

@[simp] theorem lineDebt_updLed (s : State) (b c : Nat) (f : Led → Led) :
    lineDebt (s.updLed b c f).counters = lineDebt s.counters := by rfl
@[simp] theorem lineDebt_cutoffs (s : State) (b : Nat) : lineDebt (s.cutoffs b).counters = lineDebt s.counters := by
  simp [State.cutoffs]
@[simp] theorem lineDebt_relight (s : State) (b : Nat) (f : Bed → Bed) :
    lineDebt (s.relight b f).counters = lineDebt s.counters := by simp [State.relight]
@[simp] theorem lineDebt_probesDue (s : State) (b : Nat) :
    lineDebt (s.probesDue b).counters = lineDebt s.counters := by simp [State.probesDue]
@[simp] theorem lineDebt_stripStop (s : State) (b : Nat) :
    lineDebt (s.stripStop b).counters = lineDebt s.counters := by simp [State.stripStop]
@[simp] theorem lineDebt_failRead (s : State) (b : Nat) (abandoned : Bool) :
    lineDebt (s.failRead b abandoned).counters = lineDebt s.counters := by
  unfold State.failRead
  dsimp only
  split
  · rfl
  · split
    · rfl
    · split <;> simp
@[simp] theorem lineDebt_strobeEnds (s : State) : lineDebt s.strobeEnds.counters = lineDebt s.counters := by
  simp [State.strobeEnds]
@[simp] theorem lineDebt_lampCheck (s : State) (b c : Nat) (reg short : Bool) :
    lineDebt (s.lampCheck b c reg short).counters = lineDebt s.counters := by simp [State.lampCheck]
@[simp] theorem lineDebt_countLine (s : State) (b : Nat) :
    lineDebt (s.countLine b).counters = lineDebt s.counters := by simp [State.countLine]

/-! Protective stops and entry to P3 (Machine/Stop.lean). -/

@[simp] theorem lineDebt_chooseRef (s : State) (b : Nat) :
    lineDebt (s.chooseRef b).counters = lineDebt s.counters := by simp [State.chooseRef]
@[simp] theorem lineDebt_settingsChanged (s : State) (b : Nat) :
    lineDebt (s.settingsChanged b).counters = lineDebt s.counters := by simp [State.settingsChanged]
@[simp] theorem lineDebt_restartBed (s : State) (b : Nat) :
    lineDebt (s.restartBed b).counters = lineDebt s.counters := by rfl
@[simp] theorem lineDebt_startTemp (s : State) (b : Nat) :
    lineDebt (s.startTemp b).counters = lineDebt s.counters := by simp [State.startTemp]
@[simp] theorem lineDebt_applyCfg (s : State) (b : Nat) (c : BedCfg) :
    lineDebt (s.applyCfg b c).counters = lineDebt s.counters := by simp [State.applyCfg]
@[simp] theorem lineDebt_resumeChans (s : State) : lineDebt s.resumeChans.counters = lineDebt s.counters := by
  simp [State.resumeChans]
@[simp] theorem lineDebt_startBed (s : State) (b : Nat) : lineDebt (s.startBed b).counters = lineDebt s.counters := by
  unfold State.startBed
  split <;> simp
@[simp] theorem lineDebt_startP3 (s : State) :
    lineDebt (s.startP3).counters = lineDebt s.counters := by simp [State.startP3]
@[simp] theorem lineDebt_allOff (s : State) : lineDebt s.allOff.counters = lineDebt s.counters := by
  simp [State.allOff]
@[simp] theorem lineDebt_enterHalted (s : State) (cause : Nat) (off : Bool) :
    lineDebt (s.enterHalted cause off).counters = lineDebt s.counters := by simp [State.enterHalted]
@[simp] theorem lineDebt_protect (s : State) (cause : Nat) (off : Bool) :
    lineDebt (s.protect cause off).counters = lineDebt s.counters := by simp [State.protect]
@[simp] theorem lineDebt_sourceStop (s : State) (c : Nat) :
    lineDebt (s.sourceStop c).counters = lineDebt s.counters := by simp [State.sourceStop]
@[simp] theorem lineDebt_loseSource (s : State) (c : Nat) :
    lineDebt (s.loseSource c).counters = lineDebt s.counters := by simp [State.loseSource]
@[simp] theorem lineDebt_sourceBack (s : State) (c : Nat) :
    lineDebt (s.sourceBack c).counters = lineDebt s.counters := by simp [State.sourceBack]
@[simp] theorem lineDebt_leaveP3 (s : State) :
    lineDebt (s.leaveP3).counters = lineDebt s.counters := by simp [State.leaveP3]

/-! Beds and their lines (Machine/Beds.lean). -/

@[simp] theorem lineDebt_updCourse (s : State) (b acc : Nat) (f : Course → Course) :
    lineDebt (s.updCourse b acc f).counters = lineDebt s.counters := by rfl
@[simp] theorem lineDebt_takeRef (s : State) (b : Nat) : lineDebt (s.takeRef b).counters = lineDebt s.counters := by
  unfold State.takeRef
  split <;> simp
@[simp] theorem lineDebt_armStop (s : State) (b acc : Nat) :
    lineDebt (s.armStop b acc).counters = lineDebt s.counters := by
  unfold State.armStop
  split
  · split
    · split <;> simp
    · rfl
  · rfl
@[simp] theorem lineDebt_dropGap (s : State) (b acc n : Nat) (discard : Bool) :
    lineDebt (s.dropGap b acc n discard).counters = lineDebt s.counters := by
  unfold State.dropGap
  split
  · rfl
  · split <;> simp
@[simp] theorem lineDebt_readYields (s : State) (b : Nat) :
    lineDebt (s.readYields b).counters = lineDebt s.counters := by
  unfold State.readYields
  dsimp only
  split
  · simp
  · split <;> simp
@[simp] theorem lineDebt_bedStart (s : State) (b acc : Nat) (t : Pos) :
    lineDebt (s.bedStart b acc t).counters = lineDebt s.counters := by
  unfold State.bedStart
  split <;> simp
@[simp] theorem lineDebt_bedStop (s : State) (b acc : Nat) (t : Pos) :
    lineDebt (s.bedStop b acc t).counters = lineDebt s.counters := by simp [State.bedStop]
@[simp] theorem lineDebt_fitLine (s : State) (b : Nat) (e : Exposing) :
    lineDebt (s.fitLine b e).counters = lineDebt s.counters := by simp [State.fitLine]
@[simp] theorem lineDebt_docTrigger (s : State) (b : Nat) (c : Course) (t : Pos) (reaches : Bool) :
    lineDebt (s.docTrigger b c t reaches).counters = lineDebt s.counters := by
  unfold State.docTrigger
  dsimp only
  split
  all_goals
    split
    all_goals
      split
      · simp
      · split
        · simp
        · rw [lineDebt_updBed]
          split <;> simp
@[simp] theorem lineDebt_stripTrigger (s : State) (b : Nat) (r : StripRead) (reaches : Bool) :
    lineDebt (s.stripTrigger b r reaches).counters = lineDebt s.counters := by simp [State.stripTrigger]
@[simp] theorem lineDebt_lineCross (s : State) (b : Nat) :
    lineDebt (s.lineCross b).1.counters = lineDebt s.counters := by simp [State.lineCross]
@[simp] theorem lineDebt_bedTrigger (s : State) (b : Nat) :
    lineDebt (s.bedTrigger b).counters = lineDebt s.counters := by
  unfold State.bedTrigger
  dsimp only
  split
  · rfl
  · split <;> simp
@[simp] theorem lineDebt_darkSlot (s : State) (b : Nat) (smp : List (List Nat)) :
    lineDebt (s.darkSlot b smp).counters = lineDebt s.counters := by simp [State.darkSlot]
/-- A strip read that is no longer exposing gives up its comparator and stops the bed. -/
theorem lineDebt_stripStop_unless (u : State) (b : Nat) (r : StripRead) :
    lineDebt (if r.phase = 0 then u else
      (match r.comp with
        | some k => u.setComp k none
        | none => u).stripStop b).counters = lineDebt u.counters := by
  rw [lineDebt_ite, lineDebt_stripStop]
  split
  · rfl
  · split <;> simp
@[simp] theorem lineDebt_stripLine (s : State) (b : Nat) (e : Exposing) :
    lineDebt (s.stripLine b e).counters = lineDebt s.counters := by
  unfold State.stripLine
  dsimp only
  split
  · rfl
  · rw [lineDebt_ite]
    refine ite_eq_left_iff.2 fun _ => (lineDebt_stripStop_unless _ b _).trans ?_
    simp only [lineDebt_updBed, lineDebt_ite, ite_self]
@[simp] theorem lineDebt_lineDone (s : State) (b : Nat) (e : Exposing) :
    lineDebt (s.lineDone b e).counters = lineDebt s.counters := by simp [State.lineDone]
@[simp] theorem lineDebt_strobes (s : State) (b : Nat) (e : Exposing) (reg : BitVec 8) (ball : List Nat) :
    lineDebt (s.strobes b e reg ball).counters = lineDebt s.counters := by
  refine lineDebt_forEach _ (fun _ s => ?_) _ s
  split <;> simp
@[simp] theorem lineDebt_finishSlot (s : State) (b : Nat) (vin : List (List Int)) (reg : BitVec 8) (ball : List Nat) :
    lineDebt (s.finishSlot b vin reg ball).counters = lineDebt s.counters := by
  unfold State.finishSlot
  dsimp only
  split
  · rfl
  · simp
  · simp
  · split <;> simp
@[simp] theorem lineDebt_takeAfe (s : State) (b : Nat) : lineDebt (s.takeAfe b).counters = lineDebt s.counters := by
  rfl
@[simp] theorem lineDebt_startLine (s : State) (b : Nat) (e : Exposing) :
    lineDebt (s.startLine b e).counters = lineDebt s.counters := by simp [State.startLine]
@[simp] theorem lineDebt_beginSlot (s : State) (b : Nat) :
    lineDebt (s.beginSlot b).counters = lineDebt s.counters := by
  unfold State.beginSlot
  dsimp only
  split
  · simp
  · split <;> simp
@[simp] theorem lineDebt_strobeCentres (s : State) :
    lineDebt (s.strobeCentres).counters = lineDebt s.counters := by
  refine lineDebt_forEach _ (fun _ s => ?_) _ s
  dsimp only
  split <;> simp
@[simp] theorem lineDebt_trimCourse (s : State) (b acc : Nat) :
    lineDebt (s.trimCourse b acc).counters = lineDebt s.counters := by rfl
@[simp] theorem lineDebt_releaseLine (s : State) (b : Nat) (c : Course) :
    lineDebt (s.releaseLine b c).counters = lineDebt s.counters := by
  unfold State.releaseLine
  dsimp only
  rw [lineDebt_trimCourse]
  split
  · simp
  · split
    all_goals
      split
      · simp
      · split
        · simp
        · split <;> simp
@[simp] theorem lineDebt_releaseStrip (s : State) (b : Nat) (r : RawLine) :
    lineDebt (s.releaseStrip b r).counters = lineDebt s.counters := by
  unfold State.releaseStrip
  dsimp only
  split <;> simp
@[simp] theorem keepsLines_bedConfig : bedConfig.KeepsLines := ⟨fun _ => rfl, fun s r => by simp [bedConfig]⟩
@[simp] theorem keepsLines_bedAfe : bedAfe.KeepsLines := ⟨fun _ => rfl, fun s r => by simp [bedAfe]⟩
@[simp] theorem keepsLines_bedPitch : bedPitch.KeepsLines := by
  refine ⟨fun _ => rfl, fun s r => ?_⟩
  simp only [bedPitch, lineDebt_ite]
  split
  · split <;> simp
  · simp
@[simp] theorem keepsLines_bedGraft : bedGraft.KeepsLines := ⟨fun _ => rfl, fun s r => by simp [bedGraft]⟩

/-! Illumination commands (Machine/Illum.lean). -/

@[simp] theorem keepsLines_illBed : illBed.KeepsLines := ⟨fun _ => rfl, fun s r => by simp [illBed]⟩
@[simp] theorem keepsLines_illChannel : illChannel.KeepsLines := ⟨fun _ => rfl, fun s r => by simp [illChannel]⟩
@[simp] theorem keepsLines_illLevel : illLevel.KeepsLines := ⟨fun _ => rfl, fun s r => by simp [illLevel]⟩
@[simp] theorem keepsLines_illStatus : illStatus.KeepsLines := ⟨fun _ => rfl, fun s r => by simp [illStatus]⟩
@[simp] theorem keepsLines_illClear : illClear.KeepsLines := ⟨fun _ => rfl, fun s r => by simp [illClear]⟩

/-! Strip reads and calibration (Machine/Calibration.lean). -/

@[simp] theorem lineDebt_kickRead (s : State) (b : Nat) : lineDebt (s.kickRead b).counters = lineDebt s.counters := by
  unfold State.kickRead
  dsimp only
  split
  · rfl
  · split
    all_goals
      split
      · rfl
      · split
        · simp
        · split
          · rfl
          · split <;> simp
@[simp] theorem lineDebt_startRead (s : State) (b cab : Nat) (isRun full : Bool) (deadline : Option Nat)
    (fails : Nat) :
    lineDebt (s.startRead b cab isRun full deadline fails).counters = lineDebt s.counters := by simp [State.startRead]
@[simp] theorem lineDebt_stripStart (s : State) (b k : Nat) (t : Pos) :
    lineDebt (s.stripStart b k t).counters = lineDebt s.counters := by
  unfold State.stripStart
  dsimp only
  split <;> simp
@[simp] theorem lineDebt_storeRef (s : State) (b : Nat) (r : RefSet) (segs : List Nat) (words : List (BitVec 32)) :
    lineDebt (s.storeRef b r segs words).counters = lineDebt s.counters := by simp [State.storeRef]
@[simp] theorem lineDebt_endRead (s : State) (b : Nat) (r : StripRead) (pass : Bool) :
    lineDebt (s.endRead b r pass).counters = lineDebt s.counters := by
  unfold State.endRead
  dsimp only
  split <;> simp
@[simp] theorem lineDebt_calibrate (s : State) (b : Nat) (r : StripRead) :
    lineDebt (s.calibrate b r).counters = lineDebt s.counters := by simp [State.calibrate]
@[simp] theorem lineDebt_refStored (s : State) (b : Nat) (r : StripRead) :
    lineDebt (s.refStored b r).counters = lineDebt s.counters := by simp [State.refStored]
@[simp] theorem keepsLines_calConfig : calConfig.KeepsLines := ⟨fun _ => rfl, fun s r => by simp [calConfig]⟩
@[simp] theorem keepsLines_calRun : calRun.KeepsLines := ⟨fun _ => rfl, fun s r => by simp [calRun]⟩
@[simp] theorem keepsLines_calStatus : calStatus.KeepsLines := ⟨fun _ => rfl, fun s r => by simp [calStatus]⟩

/-! Documents in the transport (Machine/Documents.lean). -/

@[simp] theorem lineDebt_jobReads (s : State) (j : Job) (first : Bool) :
    lineDebt (s.jobReads j first).counters = lineDebt s.counters := by simp [State.jobReads]
@[simp] theorem lineDebt_beginCourse (s : State) (d : Doc) (j : Job) (b : Nat) :
    lineDebt (s.beginCourse d j b).counters = lineDebt s.counters := by
  unfold State.beginCourse
  split <;> simp
@[simp] theorem lineDebt_armJam (s : State) (d : Doc) : lineDebt (s.armJam d).counters = lineDebt s.counters := by
  unfold State.armJam
  split
  · split
    · simp
    · split <;> simp
  · rfl
@[simp] theorem lineDebt_openDocument (s : State) (pin chan : Nat) (job : Option Job) (e : Pos) (tail : Option Pos) :
    lineDebt (s.openDocument pin chan job e tail).counters = lineDebt s.counters := by
  unfold State.openDocument
  split <;> simp
@[simp] theorem lineDebt_feedFlat (s : State) (j : Job) : lineDebt (s.feedFlat j).counters = lineDebt s.counters := by
  simp [State.feedFlat]
@[simp] theorem lineDebt_makeCurrent (s : State) (j : Job) :
    lineDebt (s.makeCurrent j).counters = lineDebt s.counters := by
  unfold State.makeCurrent
  split <;> simp
@[simp] theorem lineDebt_unmakeCurrent (s : State) (j : Job) :
    lineDebt (s.unmakeCurrent j).counters = lineDebt s.counters := by simp [State.unmakeCurrent]
@[simp] theorem lineDebt_fill (fuel : Nat) (ok : Job → Bool) (s : State) :
    lineDebt (State.fill fuel ok s).counters = lineDebt s.counters := by
  induction fuel generalizing s with
  | zero => rfl
  | succ fuel ih =>
    unfold State.fill
    split <;> simp [ih]
@[simp] theorem lineDebt_decideAfter (s : State) (cab id : Nat) :
    lineDebt (s.decideAfter cab id).counters = lineDebt s.counters := by
  unfold State.decideAfter
  dsimp only
  split
  · simp
  · split <;> simp
@[simp] theorem lineDebt_jamCheck (s : State) (acc k : Nat) :
    lineDebt (s.jamCheck acc k).counters = lineDebt s.counters := by
  unfold State.jamCheck
  split <;> simp

/-! Jobs (Machine/Jobs.lean). -/

@[simp] theorem keepsLines_jobOpen : jobOpen.KeepsLines := ⟨fun _ => rfl, fun s r => by simp [jobOpen]⟩
@[simp] theorem keepsLines_jobCancel : jobCancel.KeepsLines := by
  refine ⟨fun _ => rfl, fun s r => ?_⟩
  simp only [jobCancel]
  split <;> simp
@[simp] theorem keepsLines_jobStream : jobStream.KeepsLines := ⟨fun _ => rfl, fun s r => by simp [jobStream]⟩
@[simp] theorem keepsLines_jobPace : jobPace.KeepsLines := ⟨fun _ => rfl, fun s r => by simp [jobPace]⟩
@[simp] theorem keepsLines_jobKey : jobKey.KeepsLines := ⟨fun _ => rfl, fun s r => by simp [jobKey]⟩
@[simp] theorem keepsLines_jobLedger : jobLedger.KeepsLines := ⟨fun _ => rfl, fun s r => by simp [jobLedger]⟩

/-! Coil drive (Machine/Coil.lean). -/

@[simp] theorem lineDebt_motorSupply (s : State) (a : Nat) (on : Bool) :
    lineDebt (s.motorSupply a on).counters = lineDebt s.counters := by simp [State.motorSupply]
@[simp] theorem lineDebt_bridgeStop (s : State) (a : Nat) (on : Bool) :
    lineDebt (s.bridgeStop a on).counters = lineDebt s.counters := by simp [State.bridgeStop]
@[simp] theorem lineDebt_diagnose (s : State) (a : Nat) (phB : Bool) (cur fw : Int) :
    lineDebt (s.diagnose a phB cur fw).1.counters = lineDebt s.counters := by simp [State.diagnose]
@[simp] theorem lineDebt_coilUpdate (s : State) (a : Nat) (curA curB fwA fwB : Int) (vm : Nat) :
    lineDebt (s.coilUpdate a curA curB fwA fwB vm).counters = lineDebt s.counters := by simp [State.coilUpdate]

/-! Gears and motion (Machine/Motion.lean). -/

@[simp] theorem lineDebt_endBlend (s : State) (a : Nat) (g : Gear) (r : Ratio) :
    lineDebt (s.endBlend a g r).counters = lineDebt s.counters := by simp [State.endBlend]
@[simp] theorem lineDebt_gearSteps (fuel a : Nat) (m : Pos) (s : State) :
    lineDebt (State.gearSteps fuel a m s).counters = lineDebt s.counters := by
  induction fuel generalizing s with
  | zero => rfl
  | succ fuel ih =>
    unfold State.gearSteps
    split
    · rfl
    · split <;> simp [ih]
@[simp] theorem lineDebt_gearAt (s : State) (a : Nat) (m : Pos) :
    lineDebt (s.gearAt a m).counters = lineDebt s.counters := by simp [State.gearAt]
@[simp] theorem lineDebt_gearDue (s : State) (a slot : Nat) (at_ : Bool) :
    lineDebt (s.gearDue a slot at_).counters = lineDebt s.counters := by
  unfold State.gearDue
  dsimp only
  split <;> simp
@[simp] theorem lineDebt_ratioChange (s : State) (a slot : Nat) :
    lineDebt (s.ratioChange a slot).counters = lineDebt s.counters := by simp [State.ratioChange]
@[simp] theorem lineDebt_flagUnderrun (s : State) (a : Nat) :
    lineDebt (s.flagUnderrun a).counters = lineDebt s.counters := by simp [State.flagUnderrun]
@[simp] theorem lineDebt_jointDone (s : State) (a eff : Nat) (j : Joint) :
    lineDebt (s.jointDone a eff j).counters = lineDebt s.counters := by simp [State.jointDone]
@[simp] theorem lineDebt_watchCheck (s : State) (a : Nat) :
    lineDebt (s.watchCheck a).counters = lineDebt s.counters := by simp [State.watchCheck]
@[simp] theorem lineDebt_endInterval (s : State) (a : Nat) :
    lineDebt (s.endInterval a).counters = lineDebt s.counters := by simp [State.endInterval]
@[simp] theorem lineDebt_setPoint (s : State) (a : Nat) : lineDebt (s.setPoint a).counters = lineDebt s.counters := by
  unfold State.setPoint
  dsimp only
  split <;> simp

/-! Motion commands (Machine/Moves.lean). -/

@[simp] theorem lineDebt_axisSource (s : State) (a : Nat) :
    lineDebt (s.axisSource a).counters = lineDebt s.counters := by simp [State.axisSource]
@[simp] theorem keepsLines_moveConfig : moveConfig.KeepsLines := ⟨fun _ => rfl, fun s r => by simp [moveConfig]⟩
@[simp] theorem keepsLines_moveQueue : moveQueue.KeepsLines := ⟨fun _ => rfl, fun s r => by simp [moveQueue]⟩
@[simp] theorem keepsLines_moveOverride : moveOverride.KeepsLines :=
  ⟨fun _ => rfl, fun s r => by simp [moveOverride]⟩
@[simp] theorem keepsLines_moveGear : moveGear.KeepsLines := by
  refine ⟨fun _ => rfl, fun s r => ?_⟩
  simp only [moveGear, lineDebt_ite]
  split
  · split <;> simp
  · simp
@[simp] theorem keepsLines_moveStop : moveStop.KeepsLines := ⟨fun _ => rfl, fun s r => by simp [moveStop]⟩
@[simp] theorem keepsLines_moveSetpos : moveSetpos.KeepsLines := ⟨fun _ => rfl, fun s r => by simp [moveSetpos]⟩
@[simp] theorem keepsLines_moveStatus : moveStatus.KeepsLines := ⟨fun _ => rfl, fun s r => by simp [moveStatus]⟩
@[simp] theorem keepsLines_moveTable : moveTable.KeepsLines :=
  ⟨fun _ => rfl, fun s r => by simp [moveTable]⟩
@[simp] theorem keepsLines_moveCoil : moveCoil.KeepsLines := ⟨fun _ => rfl, fun s r => by simp [moveCoil]⟩
@[simp] theorem keepsLines_moveClear : moveClear.KeepsLines := ⟨fun _ => rfl, fun s r => by simp [moveClear]⟩
@[simp] theorem keepsLines_moveDrive : moveDrive.KeepsLines := ⟨fun _ => rfl, fun s r => by simp [moveDrive]⟩

/-! Pacing (Machine/Pacing.lean). -/

@[simp] theorem lineDebt_eachAxis (s : State) (g : Nat) (f : Axis → Axis) :
    lineDebt (s.eachAxis g f).counters = lineDebt s.counters := by simp [State.eachAxis]
@[simp] theorem lineDebt_pauseEvent (s : State) (g code aux : Nat) :
    lineDebt (s.pauseEvent g code aux).counters = lineDebt s.counters := by simp [State.pauseEvent]
@[simp] theorem lineDebt_permitOf (s : State) (g : Nat) : lineDebt (s.permitOf g).counters = lineDebt s.counters := by
  simp [State.permitOf]
@[simp] theorem lineDebt_refusePause (s : State) (g : Nat) (causes : List Nat) :
    lineDebt (s.refusePause g causes).counters = lineDebt s.counters := by simp [State.refusePause]
@[simp] theorem lineDebt_beginPause (s : State) (g : Nat) :
    lineDebt (s.beginPause g).counters = lineDebt s.counters := by simp [State.beginPause]
@[simp] theorem lineDebt_beginBackup (s : State) (g : Nat) :
    lineDebt (s.beginBackup g).counters = lineDebt s.counters := by simp [State.beginBackup]
@[simp] theorem lineDebt_beginExcursion (s : State) (g : Nat) :
    lineDebt (s.beginExcursion g).counters = lineDebt s.counters := by simp [State.beginExcursion]
@[simp] theorem lineDebt_beginApproach (s : State) (g : Nat) :
    lineDebt (s.beginApproach g).counters = lineDebt s.counters := by simp [State.beginApproach]
@[simp] theorem lineDebt_setPace (s : State) (g : Nat) : lineDebt (s.setPace g).counters = lineDebt s.counters := by
  unfold State.setPace
  split <;> simp
@[simp] theorem lineDebt_endPause (s : State) (g : Nat) :
    lineDebt (s.endPause g).counters = lineDebt s.counters := by simp [State.endPause]
@[simp] theorem lineDebt_replan (s : State) (g : Nat) :
    lineDebt (s.replan g).counters = lineDebt s.counters := by simp [State.replan]
/-- A pause that is due begins, or is refused. -/
theorem lineDebt_pauseDue (u : State) (g : Nat) (due : Prop) [Decidable due] (cs : List Nat) :
    lineDebt (if due then
      (match cs with
        | [] => u.beginPause g
        | cs => u.refusePause g cs)
      else u).counters = lineDebt u.counters := by
  split
  · split <;> simp
  · rfl

@[simp] theorem lineDebt_evaluateGroup (s : State) (g : Nat) :
    lineDebt (s.evaluateGroup g).counters = lineDebt s.counters := by
  unfold State.evaluateGroup
  dsimp only
  rw [lineDebt_ite]
  refine ite_eq_left_iff.2 fun _ => ?_
  rw [lineDebt_permitOf, lineDebt_ite, lineDebt_setPace, ite_self]
  refine (lineDebt_pauseDue _ g _ _).trans ?_
  simp only [lineDebt_ite, lineDebt_updGroup, lineDebt_beginApproach, lineDebt_endPause, ite_self]
@[simp] theorem keepsLines_movePace : movePace.KeepsLines := ⟨fun _ => rfl, fun s r => by simp [movePace]⟩

/-! Gauges (Machine/Gauge.lean). -/

@[simp] theorem lineDebt_noteTrack (s : State) : lineDebt s.noteTrack.counters = lineDebt s.counters := by
  unfold State.noteTrack
  split <;> simp
@[simp] theorem lineDebt_driveAouts (s : State) (g : Nat) (fault invalid : Bool) (value : BitVec 32) :
    lineDebt (s.driveAouts g fault invalid value).counters = lineDebt s.counters := by rfl
@[simp] theorem lineDebt_aoutsFault (s : State) (g : Nat) :
    lineDebt (s.aoutsFault g).counters = lineDebt s.counters := by rfl
@[simp] theorem lineDebt_windowSample (s : State) (d : Doc) (g : Nat) (y : GSample) :
    lineDebt (s.windowSample d g y).counters = lineDebt s.counters := by simp [State.windowSample]
@[simp] theorem lineDebt_deliverSample (s : State) (g : Nat) (d : Option Doc) (bs : List Byte) :
    lineDebt (s.deliverSample g d bs).counters = lineDebt s.counters := by
  unfold State.deliverSample
  dsimp only
  split <;> simp
@[simp] theorem lineDebt_gaugeBoundary (s : State) (g : Nat) :
    lineDebt (s.gaugeBoundary g).counters = lineDebt s.counters := by simp [State.gaugeBoundary]
@[simp] theorem lineDebt_gaugeResetFired (s : State) (g : Nat) :
    lineDebt (s.gaugeResetFired g).counters = lineDebt s.counters := by simp [State.gaugeResetFired]
@[simp] theorem keepsLines_gaugeConfig : gaugeConfig.KeepsLines := ⟨fun _ => rfl, fun s r => by simp [gaugeConfig]⟩
@[simp] theorem keepsLines_gaugeLinear : gaugeLinear.KeepsLines := ⟨fun _ => rfl, fun s r => by simp [gaugeLinear]⟩
@[simp] theorem keepsLines_gaugeLead : gaugeLead.KeepsLines := ⟨fun _ => rfl, fun s r => by simp [gaugeLead]⟩
@[simp] theorem keepsLines_gaugeDoc : gaugeDoc.KeepsLines := ⟨fun _ => rfl, fun s r => by simp [gaugeDoc]⟩
@[simp] theorem keepsLines_gaugeAout : gaugeAout.KeepsLines := ⟨fun _ => rfl, fun s r => by simp [gaugeAout]⟩
@[simp] theorem keepsLines_gaugeStatusCmd : gaugeStatusCmd.KeepsLines :=
  ⟨fun _ => rfl, fun s r => by simp [gaugeStatusCmd]⟩

/-! Links of the Runner (Machine/Link.lean). -/

@[simp] theorem lineDebt_updVc (s : State) (p v : Nat) (f : Vc → Vc) :
    lineDebt (s.updVc p v f).counters = lineDebt s.counters := by rfl
@[simp] theorem lineDebt_portSend (s : State) (p : Nat) (k : Packet) :
    lineDebt (s.portSend p k).counters = lineDebt s.counters := by simp [State.portSend]
@[simp] theorem lineDebt_control (s : State) (p type : Nat) (payload : List Byte) :
    lineDebt (s.control p type payload).counters = lineDebt s.counters := by simp [State.control]
@[simp] theorem lineDebt_sendCredit (s : State) (p : Nat) :
    lineDebt (s.sendCredit p).counters = lineDebt s.counters := by simp [State.sendCredit]
@[simp] theorem lineDebt_sendAck (s : State) (p : Nat) : lineDebt (s.sendAck p).counters = lineDebt s.counters := by
  simp [State.sendAck]
@[simp] theorem lineDebt_freeBuf (s : State) (o : Option (Nat × Nat)) :
    lineDebt (s.freeBuf o).counters = lineDebt s.counters := by
  unfold State.freeBuf
  split <;> simp
@[simp] theorem lineDebt_pump (fuel p v : Nat) (s : State) :
    lineDebt (State.pump fuel p v s).counters = lineDebt s.counters := by
  induction fuel generalizing s with
  | zero => rfl
  | succ fuel ih =>
    unfold State.pump
    dsimp only
    split
    · rfl
    · split
      · split <;> simp [ih]
      · split
        · rfl
        · simp [ih]
@[simp] theorem lineDebt_pumped (s : State) (p v : Nat) : lineDebt (s.pumped p v).counters = lineDebt s.counters := by
  simp [State.pumped]
@[simp] theorem lineDebt_enqueue (s : State) (p : Nat) (o : Option (Nat × Nat)) (k : Packet) :
    lineDebt (s.enqueue p o k).counters = lineDebt s.counters := by simp [State.enqueue]
@[simp] theorem lineDebt_forward (s : State) (arr : Nat) (o : Option (Nat × Nat)) (p : Nat) (k : Packet) :
    lineDebt (s.forward arr o p k).counters = lineDebt s.counters := by simp [State.forward]
@[simp] theorem lineDebt_discard (s : State) (o : Option (Nat × Nat)) (k : Packet) :
    lineDebt (s.discard o k).counters = lineDebt s.counters := by
  unfold State.discard
  split <;> simp
@[simp] theorem lineDebt_sendPkt (s : State) (o : Option (Nat × Nat)) (k : Packet) :
    lineDebt (s.sendPkt o k).counters = lineDebt s.counters := by
  unfold State.sendPkt
  split <;> simp
@[simp] theorem lineDebt_broadcast (s : State) (k : Packet) :
    lineDebt (s.broadcast k).counters = lineDebt s.counters := by simp [State.broadcast]
@[simp] theorem lineDebt_rebroadcast (s : State) (arr : Nat) (o : Option (Nat × Nat)) (ps : List Nat) (k : Packet) :
    lineDebt (s.rebroadcast arr o ps k).counters = lineDebt s.counters := by simp [State.rebroadcast]

/-! Inventory and discovery (Machine/Inventory.lean). -/

@[simp] theorem keepsLines_invRead : invRead.KeepsLines := ⟨fun _ => rfl, fun s r => by simp [invRead]⟩
@[simp] theorem lineDebt_snapPulse (s : State) (d : Nat) (missed : List Nat) :
    lineDebt (s.snapPulse d missed).1.counters = lineDebt s.counters := by simp [State.snapPulse]
@[simp] theorem lineDebt_latchAll (s : State) (missed : List Nat) :
    lineDebt (s.latchAll missed).counters = lineDebt s.counters := by rfl
theorem lineDebt_snapPulses (ds missed : List Nat) (s : State) :
    lineDebt (ds.foldl (fun (x : State × List Nat) d => x.1.snapPulse d x.2) (s, missed)).1.counters =
      lineDebt s.counters := by
  induction ds generalizing s missed with
  | nil => rfl
  | cons d ds ih => exact (ih (s.snapPulse d missed).2 (s.snapPulse d missed).1).trans (lineDebt_snapPulse s d missed)
@[simp] theorem lineDebt_takeSnap (s : State) (slot : Nat) (late : Bool) :
    lineDebt (s.takeSnap slot late).counters = lineDebt s.counters := by simp [State.takeSnap, lineDebt_snapPulses]
@[simp] theorem lineDebt_armSnap (s : State) (slot k owner ch dir : Nat) (target : Pos) (x : Snap) :
    lineDebt (s.armSnap slot k owner ch dir target x).counters = lineDebt s.counters := by simp [State.armSnap]
@[simp] theorem keepsLines_invSnap : invSnap.KeepsLines := by
  refine ⟨fun _ => rfl, fun s r => ?_⟩
  simp only [invSnap]
  split <;> simp
@[simp] theorem lineDebt_found (s : State) (kind idx outcome value : Nat) :
    lineDebt (s.found kind idx outcome value).counters = lineDebt s.counters := by simp [State.found]
@[simp] theorem lineDebt_foundSegment (s : State) (i : Nat) (f : Option Found) :
    lineDebt (s.foundSegment i f).counters = lineDebt s.counters := by simp [State.foundSegment]
@[simp] theorem lineDebt_foundLed (s : State) (i : Nat) (f : Option Found) :
    lineDebt (s.foundLed i f).counters = lineDebt s.counters := by simp [State.foundLed]
@[simp] theorem lineDebt_neighbourTests (s : State) (fs : List Found) :
    lineDebt (s.neighbourTests fs).counters = lineDebt s.counters := by simp [State.neighbourTests]
@[simp] theorem lineDebt_foundCoil (s : State) (i : Nat) (f : Option Found) :
    lineDebt (s.foundCoil i f).counters = lineDebt s.counters := by simp [State.foundCoil]
@[simp] theorem lineDebt_foundGauge (s : State) (g : Nat) (f : Option Found) :
    lineDebt (s.foundGauge g f).counters = lineDebt s.counters := by
  unfold State.foundGauge
  dsimp only
  split <;> simp
@[simp] theorem lineDebt_foundNode (s : State) (p : Nat) :
    lineDebt (s.foundNode p).counters = lineDebt s.counters := by
  unfold State.foundNode
  split <;> simp
@[simp] theorem lineDebt_foundFunctions (s : State) : lineDebt s.foundFunctions.counters = lineDebt s.counters := by
  simp [State.foundFunctions]
@[simp] theorem lineDebt_discover (s : State) (fs : List Found) :
    lineDebt (s.discover fs).counters = lineDebt s.counters := by simp [State.discover]
@[simp] theorem lineDebt_coilLost (s : State) (a : Nat) : lineDebt (s.coilLost a).counters = lineDebt s.counters := by
  simp [State.coilLost]
@[simp] theorem lineDebt_coilsLost (s : State) : lineDebt s.coilsLost.counters = lineDebt s.counters := by
  simp [State.coilsLost]
@[simp] theorem keepsLines_diagDiscover (found : List Found) : (diagDiscover found).KeepsLines :=
  ⟨fun _ => rfl, fun s r => by simp [diagDiscover]⟩
@[simp] theorem keepsLines_invPartners : invPartners.KeepsLines := ⟨fun _ => rfl, fun s r => by simp [invPartners]⟩
@[simp] theorem keepsLines_diagRun : diagRun.KeepsLines := ⟨fun _ => rfl, fun s r => by simp [diagRun]⟩
@[simp] theorem lineDebt_diagEffect (s : State) (d : Diag) :
    lineDebt (s.diagEffect d).counters = lineDebt s.counters := by simp [State.diagEffect]

/-! Timebase (Machine/Timebase.lean). -/

@[simp] theorem lineDebt_tbset (s : State) (r : Req) : lineDebt (s.tbset r).counters = lineDebt s.counters := by
  simp [State.tbset]
@[simp] theorem keepsLines_devTbset : devTbset.KeepsLines := ⟨fun _ => rfl, fun s r => by simp [devTbset]⟩
@[simp] theorem keepsLines_devTbread : devTbread.KeepsLines := ⟨fun _ => rfl, fun s r => by simp [devTbread]⟩
@[simp] theorem lineDebt_act (s : State) (k : Nat) (c : Cmp) :
    lineDebt (s.act k c).counters = lineDebt s.counters := by
  unfold State.act
  dsimp only
  split
  · simp
  · simp
  · simp
  · simp
  · simp
  · split <;> simp
@[simp] theorem lineDebt_fire (s : State) (k : Nat) (c : Cmp) (late : Bool) :
    lineDebt (s.fire k c late).counters = lineDebt s.counters := by simp [State.fire]
@[simp] theorem keepsLines_devCompare : devCompare.KeepsLines := ⟨fun _ => rfl, fun s r => by simp [devCompare]⟩
@[simp] theorem keepsLines_devDisarm : devDisarm.KeepsLines := ⟨fun _ => rfl, fun s r => by simp [devDisarm]⟩
@[simp] theorem lineDebt_setInputs (s : State) (u : Nat) (a b : Bool) :
    lineDebt (s.setInputs u a b).counters = lineDebt s.counters := by rfl
@[simp] theorem lineDebt_qualify (s : State) (c : Nat) (ofB : Bool) (age : Nat) :
    lineDebt (s.qualify c ofB age).counters = lineDebt s.counters := by simp [State.qualify]
@[simp] theorem lineDebt_encSeen (s : State) (c : Nat) (ofB level : Bool) (age : Nat) :
    lineDebt (s.encSeen c ofB level age).counters = lineDebt s.counters := by simp [State.encSeen]
@[simp] theorem lineDebt_illegalStep (s : State) (c : Nat) :
    lineDebt (s.illegalStep c).counters = lineDebt s.counters := by simp [State.illegalStep]
@[simp] theorem lineDebt_holdChans (s : State) : lineDebt s.holdChans.counters = lineDebt s.counters := by
  simp [State.holdChans]

/-! Descriptors and DMA (Machine/Dma.lean). -/

@[simp] theorem lineDebt_grantChannels (fuel : Nat) (s : State) :
    lineDebt (State.grantChannels fuel s).counters = lineDebt s.counters := by
  induction fuel generalizing s with
  | zero => rfl
  | succ fuel ih =>
    unfold State.grantChannels
    split
    · rfl
    · split <;> simp [ih]
@[simp] theorem lineDebt_assignChannels (s : State) : lineDebt s.assignChannels.counters = lineDebt s.counters := by
  simp [State.assignChannels]
@[simp] theorem lineDebt_round (s : State) : lineDebt s.round.counters = lineDebt s.counters := by simp [State.round]
@[simp] theorem lineDebt_noteGap (s : State) (c n status off len : Nat) :
    lineDebt (s.noteGap c n status off len).counters = lineDebt s.counters := by simp [State.noteGap]
@[simp] theorem lineDebt_freeTo (s : State) (c n off : Nat) :
    lineDebt (s.freeTo c n off).counters = lineDebt s.counters := by simp [State.freeTo]
@[simp] theorem lineDebt_countReturn (s : State) (c n code : Nat) :
    lineDebt (s.countReturn c n code).counters = lineDebt s.counters := by simp [State.countReturn]
@[simp] theorem lineDebt_portWrite (s : State) (m : Nat) (a : BitVec 64) (data : List Byte) :
    lineDebt (s.portWrite m a data).counters = lineDebt s.counters := by simp [State.portWrite]
@[simp] theorem lineDebt_forgetTags (s : State) (c n : Nat) :
    lineDebt (s.forgetTags c n).counters = lineDebt s.counters := by rfl
@[simp] theorem lineDebt_giveBack (s : State) (c n code cause returned : Nat) :
    lineDebt (s.giveBack c n code cause returned).counters = lineDebt s.counters := by simp [State.giveBack]
@[simp] theorem lineDebt_probe (s : State) (c n : Nat) (d : Desc) (i : Nat) :
    lineDebt (s.probe c n d i).counters = lineDebt s.counters := by simp [State.probe]
@[simp] theorem lineDebt_issueProbes (fuel c n : Nat) (s : State) :
    lineDebt (State.issueProbes fuel c n s).counters = lineDebt s.counters := by
  induction fuel generalizing s with
  | zero => rfl
  | succ fuel ih =>
    unfold State.issueProbes
    split <;> simp [ih]
@[simp] theorem lineDebt_tryReturn (s : State) (c n : Nat) :
    lineDebt (s.tryReturn c n).counters = lineDebt s.counters := by
  unfold State.tryReturn
  dsimp only
  split
  · rfl
  · split
    · simp
    · split <;> simp
@[simp] theorem lineDebt_endDesc (s : State) (c n code cause ret : Nat) :
    lineDebt (s.endDesc c n code cause ret).counters = lineDebt s.counters := by simp [State.endDesc]
@[simp] theorem lineDebt_writePieces (fuel c n stop : Nat) (last : Bool) (s : State) :
    lineDebt (State.writePieces fuel c n stop last s).counters = lineDebt s.counters := by
  induction fuel generalizing s with
  | zero => rfl
  | succ fuel ih =>
    unfold State.writePieces
    split <;> simp [ih]
@[simp] theorem lineDebt_descFill (s : State) (c n : Nat) :
    lineDebt (s.descFill c n).counters = lineDebt s.counters := by
  unfold State.descFill
  dsimp only
  split
  · rfl
  · split
    · simp
    · split <;> simp
@[simp] theorem lineDebt_openDesc (s : State) (c n : Nat) (bs : List Byte) :
    lineDebt (s.openDesc c n bs).counters = lineDebt s.counters := by
  unfold State.openDesc
  dsimp only
  split <;> simp
@[simp] theorem lineDebt_descFailed (s : State) (c n : Nat) :
    lineDebt (s.descFailed c n).counters = lineDebt s.counters := by simp [State.descFailed]
@[simp] theorem lineDebt_probeSettled (s : State) (c n i : Nat) (ok : Bool) :
    lineDebt (s.probeSettled c n i ok).counters = lineDebt s.counters := by
  unfold State.probeSettled
  split <;> simp
@[simp] theorem lineDebt_probeDone (s : State) (c n i : Nat) (ok : Bool) :
    lineDebt (s.probeDone c n i ok).counters = lineDebt s.counters := by simp [State.probeDone]
@[simp] theorem lineDebt_flushOne (s : State) (c n : Nat) :
    lineDebt (s.flushOne c n).counters = lineDebt s.counters := by simp [State.flushOne]
@[simp] theorem lineDebt_closeNow (s : State) (c n : Nat) :
    lineDebt (s.closeNow c n).counters = lineDebt s.counters := by
  unfold State.closeNow
  dsimp only
  split
  · split <;> simp
  · simp
@[simp] theorem lineDebt_closeRing (s : State) (c n : Nat) :
    lineDebt (s.closeRing c n).counters = lineDebt s.counters := by simp [State.closeRing]
@[simp] theorem lineDebt_serveHeld (s : State) : lineDebt s.serveHeld.counters = lineDebt s.counters := by
  simp [State.serveHeld]
@[simp] theorem keepsLines_bufRing : bufRing.KeepsLines := ⟨fun _ => rfl, fun s r => by simp [bufRing]⟩
@[simp] theorem keepsLines_bufPost : bufPost.KeepsLines := ⟨fun _ => rfl, fun s r => by simp [bufPost]⟩
@[simp] theorem keepsLines_bufStatus : bufStatus.KeepsLines := ⟨fun _ => rfl, fun s r => by simp [bufStatus]⟩

/-! The Runner (Machine/Runner.lean). -/

@[simp] theorem lineDebt_tellPort (s : State) (p : Nat) : lineDebt (s.tellPort p).counters = lineDebt s.counters := by
  simp [State.tellPort]
@[simp] theorem lineDebt_setPort (s : State) (p st : Nat) :
    lineDebt (s.setPort p st).counters = lineDebt s.counters := by simp [State.setPort]
@[simp] theorem lineDebt_startTraining (s : State) (p : Nat) :
    lineDebt (s.startTraining p).counters = lineDebt s.counters := by simp [State.startTraining]
@[simp] theorem lineDebt_sendTrains (s : State) (p : Nat) :
    lineDebt (s.sendTrains p).counters = lineDebt s.counters := by simp [State.sendTrains]
@[simp] theorem lineDebt_sendCreditSync (s : State) (p : Nat) :
    lineDebt (s.sendCreditSync p).counters = lineDebt s.counters := by simp [State.sendCreditSync]
@[simp] theorem lineDebt_sendAdvert (s : State) (p : Nat) :
    lineDebt (s.sendAdvert p).counters = lineDebt s.counters := by simp [State.sendAdvert]
@[simp] theorem lineDebt_sendAdverts (s : State) : lineDebt s.sendAdverts.counters = lineDebt s.counters := by
  simp [State.sendAdverts]
@[simp] theorem lineDebt_announce (s : State) (was : Option (BitVec 64) × Nat × Nat × Nat × Option Nat × Nat) :
    lineDebt (s.announce was).counters = lineDebt s.counters := by simp [State.announce]
@[simp] theorem lineDebt_tellMember (s : State) (op : Nat) (e : List Byte) :
    lineDebt (s.tellMember op e).counters = lineDebt s.counters := by
  unfold State.tellMember
  split <;> simp
@[simp] theorem lineDebt_tellLeave (s : State) (p : Nat) (e : List Byte) :
    lineDebt (s.tellLeave p e).counters = lineDebt s.counters := by
  unfold State.tellLeave
  split <;> simp
@[simp] theorem lineDebt_sendTable (s : State) (p : Nat) :
    lineDebt (s.sendTable p).counters = lineDebt s.counters := by simp [State.sendTable]
@[simp] theorem lineDebt_joinSelf (s : State) : lineDebt s.joinSelf.counters = lineDebt s.counters := by
  simp [State.joinSelf]
@[simp] theorem lineDebt_tellNode (s : State) (aux id inc : Nat) :
    lineDebt (s.tellNode aux id inc).counters = lineDebt s.counters := by simp [State.tellNode]
@[simp] theorem lineDebt_tellMaster (s : State) (aux : Nat) :
    lineDebt (s.tellMaster aux).counters = lineDebt s.counters := by simp [State.tellMaster]
@[simp] theorem lineDebt_learnMaster (s : State) (uid : BitVec 64) :
    lineDebt (s.learnMaster uid).counters = lineDebt s.counters := by
  unfold State.learnMaster
  split <;> simp
@[simp] theorem lineDebt_reanchor (s : State) (c : Nat) : lineDebt (s.reanchor c).counters = lineDebt s.counters := by
  simp [State.reanchor]
@[simp] theorem lineDebt_forceAnchor (s : State) (c : Nat) :
    lineDebt (s.forceAnchor c).counters = lineDebt s.counters := by simp [State.forceAnchor]
@[simp] theorem lineDebt_portRoles (s : State) : lineDebt s.portRoles.counters = lineDebt s.counters := by
  simp [State.portRoles]
@[simp] theorem lineDebt_becomeRoot (s : State) : lineDebt s.becomeRoot.counters = lineDebt s.counters := by rfl
@[simp] theorem lineDebt_tellElected (s : State) (hand : Bool) :
    lineDebt (s.tellElected hand).counters = lineDebt s.counters := by simp [State.tellElected]
@[simp] theorem lineDebt_beginMerge (s : State) (p : Nat) (master : Bool) (old : Side) :
    lineDebt (s.beginMerge p master old).counters = lineDebt s.counters := by simp [State.beginMerge]
@[simp] theorem lineDebt_follow (s : State) (p : Nat) (a : Advert) :
    lineDebt (s.follow p a).counters = lineDebt s.counters := by simp [State.follow]
@[simp] theorem lineDebt_chooseRoot (s : State) : lineDebt s.chooseRoot.counters = lineDebt s.counters := by
  unfold State.chooseRoot
  dsimp only
  split
  all_goals
    split
    · simp
    · split <;> simp
@[simp] theorem lineDebt_elect (s : State) : lineDebt s.elect.counters = lineDebt s.counters := by simp [State.elect]
@[simp] theorem lineDebt_complete (s : State) (q : Request) (response : Bool) (status : Nat) (data : List Byte) :
    lineDebt (s.complete q response status data).counters = lineDebt s.counters := by simp [State.complete]
@[simp] theorem lineDebt_undelivered (s : State) (o : Posted) :
    lineDebt (s.undelivered o).counters = lineDebt s.counters := by simp [State.undelivered]
@[simp] theorem lineDebt_endTransactions (s : State) (ids : List Nat) :
    lineDebt (s.endTransactions ids).counters = lineDebt s.counters := by simp [State.endTransactions]
@[simp] theorem lineDebt_forgetOrigins (s : State) (p : Nat) :
    lineDebt (s.forgetOrigins p).counters = lineDebt s.counters := by simp [State.forgetOrigins]
@[simp] theorem lineDebt_clearVcs (s : State) (p : Nat) : lineDebt (s.clearVcs p).counters = lineDebt s.counters := by
  simp [State.clearVcs]
@[simp] theorem lineDebt_dropWaiting (s : State) (p : Nat) :
    lineDebt (s.dropWaiting p).counters = lineDebt s.counters := by simp [State.dropWaiting]
@[simp] theorem lineDebt_leaveNodes (s : State) (p : Nat) (ids : List (Nat × Node)) :
    lineDebt (s.leaveNodes p ids).counters = lineDebt s.counters := by simp [State.leaveNodes]
@[simp] theorem lineDebt_departNodes (s : State) (p : Nat) :
    lineDebt (s.departNodes p).counters = lineDebt s.counters := by simp [State.departNodes]
@[simp] theorem lineDebt_refusePort (s : State) (p cause : Nat) :
    lineDebt (s.refusePort p cause).counters = lineDebt s.counters := by simp [State.refusePort]
@[simp] theorem lineDebt_depthCheck (s : State) (p : Nat) :
    lineDebt (s.depthCheck p).counters = lineDebt s.counters := by
  unfold State.depthCheck
  dsimp only
  split <;> simp
@[simp] theorem lineDebt_depart (s : State) (p : Nat) : lineDebt (s.depart p).counters = lineDebt s.counters := by
  simp [State.depart]
@[simp] theorem lineDebt_leaveStandby (s : State) (p : Nat) :
    lineDebt (s.leaveStandby p).counters = lineDebt s.counters := by
  unfold State.leaveStandby
  split <;> simp
@[simp] theorem lineDebt_afterDepart (s : State) (p : Nat) :
    lineDebt (s.afterDepart p).counters = lineDebt s.counters := by simp [State.afterDepart]
@[simp] theorem lineDebt_linkLost (s : State) (p : Nat) : lineDebt (s.linkLost p).counters = lineDebt s.counters := by
  simp [State.linkLost]
@[simp] theorem lineDebt_received (s : State) (p : Nat) (k : Packet) (type : Nat) (f : State → State)
    (h : ∀ u, lineDebt (f u).counters = lineDebt u.counters) :
    lineDebt (s.received p k type f).counters = lineDebt s.counters := by simp [State.received, h]
@[simp] theorem lineDebt_onControl (s : State) (p : Nat) (k : Packet) (type : Nat) (f : State → State)
    (h : ∀ u, lineDebt (f u).counters = lineDebt u.counters) :
    lineDebt (s.onControl p k type f).counters = lineDebt s.counters := by simp [State.onControl, h]
@[simp] theorem lineDebt_sendNak (s : State) (p v : Nat) :
    lineDebt (s.sendNak p v).counters = lineDebt s.counters := by simp [State.sendNak]
@[simp] theorem lineDebt_onVc (s : State) (p : Nat) (k : Packet) (type v : Nat) (f : State → State)
    (h : ∀ u, lineDebt (f u).counters = lineDebt u.counters) :
    lineDebt (s.onVc p k type v f).counters = lineDebt s.counters := by simp [State.onVc, h]
@[simp] theorem lineDebt_onIdent (s : State) (p : Nat) (k : Packet) :
    lineDebt (s.onIdent p k).counters = lineDebt s.counters := by simp [State.onIdent]
@[simp] theorem lineDebt_joinChild (s : State) (p : Nat) :
    lineDebt (s.joinChild p).counters = lineDebt s.counters := by
  unfold State.joinChild
  dsimp only
  split
  · split <;> simp
  · simp
@[simp] theorem lineDebt_admitPeer (s : State) (p : Nat) (q : Peer) :
    lineDebt (s.admitPeer p q).counters = lineDebt s.counters := by simp [State.admitPeer]
@[simp] theorem lineDebt_trainedNow (s : State) (p : Nat) :
    lineDebt (s.trainedNow p).counters = lineDebt s.counters := by
  unfold State.trainedNow
  dsimp only
  split <;> simp
@[simp] theorem lineDebt_onCreditSync (s : State) (p : Nat) (k : Packet) :
    lineDebt (s.onCreditSync p k).counters = lineDebt s.counters := by simp [State.onCreditSync]
@[simp] theorem lineDebt_setRate (s : State) (p code : Nat) :
    lineDebt (s.setRate p code).counters = lineDebt s.counters := by simp [State.setRate]
@[simp] theorem lineDebt_askRate (s : State) (p code : Nat) :
    lineDebt (s.askRate p code).counters = lineDebt s.counters := by simp [State.askRate]
@[simp] theorem lineDebt_respond (s : State) (p : Nat) (k : Packet) (status : Nat) (data : List Byte) :
    lineDebt (s.respond p k status data).counters = lineDebt s.counters := by simp [State.respond]
@[simp] theorem lineDebt_routed (s : State) (p : Nat) (k : Packet) (f : State → State)
    (h : ∀ u, lineDebt (f u).counters = lineDebt u.counters) :
    lineDebt (s.routed p k f).counters = lineDebt s.counters := by
  unfold State.routed
  split
  · simp [h]
  · split <;> simp
@[simp] theorem lineDebt_ackPosts (s : State) (src : Nat) :
    lineDebt (s.ackPosts src).counters = lineDebt s.counters := by simp [State.ackPosts]
@[simp] theorem lineDebt_refuseMerge (s : State) (p : Nat) :
    lineDebt (s.refuseMerge p).counters = lineDebt s.counters := by
  unfold State.refuseMerge
  dsimp only
  split <;> simp
@[simp] theorem lineDebt_memberJoin (s : State) (p : Nat) (bcast : Bool) (e : List Byte) :
    lineDebt (s.memberJoin p bcast e).counters = lineDebt s.counters := by
  unfold State.memberJoin
  dsimp only
  split
  · rfl
  · split <;> simp
@[simp] theorem lineDebt_memberLeave (s : State) (p : Nat) (e : List Byte) :
    lineDebt (s.memberLeave p e).counters = lineDebt s.counters := by
  unfold State.memberLeave
  dsimp only
  split <;> simp
@[simp] theorem lineDebt_sendSync (s : State) (epoch : Nat) (legacy : Bool) :
    lineDebt (s.sendSync epoch legacy).counters = lineDebt s.counters := by simp [State.sendSync]
@[simp] theorem lineDebt_trackOffset (s : State) (p : Nat) (k : Packet) (age : Nat) :
    lineDebt (s.trackOffset p k age).counters = lineDebt s.counters := by rfl
@[simp] theorem lineDebt_takeSync (s : State) (c p : Nat) (k : Packet) (age at_ : Nat) :
    lineDebt (s.takeSync c p k age at_).counters = lineDebt s.counters := by simp [State.takeSync]
@[simp] theorem lineDebt_receiveSnap (s : State) (k : Packet) :
    lineDebt (s.receiveSnap k).counters = lineDebt s.counters := by
  unfold State.receiveSnap
  dsimp only
  split
  · simp
  · split <;> simp
@[simp] theorem lineDebt_applyEnable (s : State) (mask : BitVec 4) :
    lineDebt (s.applyEnable mask).counters = lineDebt s.counters := by simp [State.applyEnable]
@[simp] theorem lineDebt_saveRunCfg (s : State) (c : RunCfg) :
    lineDebt (s.saveRunCfg c).counters = lineDebt s.counters := by simp [State.saveRunCfg]
@[simp] theorem keepsLines_runConfig : runConfig.KeepsLines := ⟨fun _ => rfl, fun s r => by simp [runConfig]⟩
@[simp] theorem keepsLines_runNodes : runNodes.KeepsLines := ⟨fun _ => rfl, fun s r => by simp [runNodes]⟩
@[simp] theorem lineDebt_request (s : State) (r : Req) (isRead : Bool) :
    lineDebt (s.request r isRead).counters = lineDebt s.counters := by simp [State.request]
@[simp] theorem keepsLines_runReadWrite (op : Nat) (isRead : Bool) : (runReadWrite op isRead).KeepsLines :=
  ⟨fun _ => rfl, fun s r => by simp [runReadWrite]⟩
@[simp] theorem lineDebt_sendPost (s : State) (r : Req) : lineDebt (s.sendPost r).counters = lineDebt s.counters := by
  simp [State.sendPost]
@[simp] theorem keepsLines_runPost : runPost.KeepsLines := ⟨fun _ => rfl, fun s r => by simp [runPost]⟩

/-! Images in the Herbarium (Machine/Herbarium.lean). -/

@[simp] theorem keepsLines_hbRead : hbRead.KeepsLines := ⟨fun _ => rfl, fun s r => by simp [hbRead]⟩
@[simp] theorem lineDebt_commitPage (s : State) (page gen : Nat) :
    lineDebt (s.commitPage page gen).counters = lineDebt s.counters := by simp [State.commitPage]
@[simp] theorem lineDebt_writeData (s : State) (page : Nat) (bytes : List Byte) :
    lineDebt (s.writeData page bytes).counters = lineDebt s.counters := by simp [State.writeData]
@[simp] theorem lineDebt_writePiece (s : State) (region off : Nat) (data : List Byte) (final : Bool) :
    lineDebt (s.writePiece region off data final).1.counters = lineDebt s.counters := by simp [State.writePiece]
@[simp] theorem lineDebt_afterPiece (s : State) (r : Req) (img : List Byte) (gen : Nat) :
    lineDebt (s.afterPiece r img gen).counters = lineDebt s.counters := by simp [State.afterPiece]
@[simp] theorem keepsLines_hbWrite (commits : Bool) : (hbWrite commits).KeepsLines :=
  ⟨fun _ => rfl, fun s r => by simp [hbWrite]⟩
@[simp] theorem lineDebt_markSlot (s : State) (k mark : Nat) :
    lineDebt (s.markSlot k mark).counters = lineDebt s.counters := by simp [State.markSlot]
@[simp] theorem lineDebt_writeBootControl (s : State) (was : Tab FwSlot) :
    lineDebt (s.writeBootControl was).counters = lineDebt s.counters := by simp [State.writeBootControl]
@[simp] theorem keepsLines_hbSlot : hbSlot.KeepsLines := ⟨fun _ => rfl, fun s r => by simp [hbSlot]⟩

/-! Boot, resets and the idle cycle (Machine/Boot.lean). -/

@[simp] theorem lineDebt_writeCheckpoint (s : State) (closing : Bool) :
    lineDebt (s.writeCheckpoint closing).counters = lineDebt s.counters := by
  have keep : ∀ (u : State) (no : Nat) (cps : List Checkpoint) (bs : List Breach),
      lineDebt { u with checkpointNo := no, checkpoints := cps, breaches := bs }.counters = lineDebt u.counters :=
    fun _ _ _ _ => rfl
  unfold State.writeCheckpoint
  split
  · rfl
  · exact (keep _ _ _ _).trans
      ((lineDebt_forEach _ (fun _ u => lineDebt_freePage u _ _) _ _).trans (lineDebt_beginRecord s _))
@[simp] theorem lineDebt_setMark (s : State) (k mark : Nat) :
    lineDebt (s.setMark k mark).counters = lineDebt s.counters := by simp [State.setMark]
@[simp] theorem lineDebt_firstSlot (s : State) : lineDebt s.firstSlot.1.counters = lineDebt s.counters := by
  unfold State.firstSlot
  dsimp only
  split <;> simp
@[simp] theorem lineDebt_chooseSlot (s : State) : lineDebt s.chooseSlot.1.counters = lineDebt s.counters := by
  simp [State.chooseSlot]
@[simp] theorem lineDebt_dropBadCopies (s : State) :
    lineDebt (s.dropBadCopies).counters = lineDebt s.counters := by
  unfold State.dropBadCopies
  split <;> simp
@[simp] theorem lineDebt_beginEpoch (s : State) : lineDebt s.beginEpoch.counters = lineDebt s.counters := by rfl
@[simp] theorem lineDebt_romBoot (s : State) : lineDebt s.romBoot.counters = lineDebt s.counters := by
  unfold State.romBoot
  dsimp only
  split
  · rfl
  · split <;> simp
@[simp] theorem lineDebt_reportHerbarium (s : State) : lineDebt s.reportHerbarium.counters = lineDebt s.counters := by
  simp [State.reportHerbarium]
@[simp] theorem lineDebt_keepTrial (s : State) : lineDebt s.keepTrial.counters = lineDebt s.counters := by
  simp [State.keepTrial]
@[simp] theorem lineDebt_tellWatchdog (s : State) : lineDebt s.tellWatchdog.counters = lineDebt s.counters := by
  unfold State.tellWatchdog
  split <;> simp
@[simp] theorem lineDebt_resetNow (s : State) : lineDebt s.resetNow.counters = 0 := lineDebt_deviceReset s
@[simp] theorem lineDebt_wakeBoot (s : State) : lineDebt s.wakeBoot.counters = 0 := lineDebt_deviceReset s
@[simp] theorem lineDebt_setSupply (s : State) (u mv : Nat) :
    lineDebt (s.setSupply u mv).counters = lineDebt s.counters := by rfl
@[simp] theorem lineDebt_wakeDormant (s : State) (h : lineDebt s.counters = 0) :
    lineDebt (s.wakeDormant).counters = 0 := by simp [State.wakeDormant, h]
@[simp] theorem lineDebt_tick (s : State) : lineDebt s.tick.counters = lineDebt s.counters := by simp [State.tick]

/-! Cabinets (Machine/Cabinets.lean). -/

@[simp] theorem lineDebt_resetMailboxes (s : State) (c : Nat) :
    lineDebt (s.resetMailboxes c).counters = lineDebt s.counters := by
  simp only [State.resetMailboxes, lineDebt_updCab, lineDebt_updRing]
  rw [lineDebt_forEach]
  · simp
  · intro h s
    cases h <;> simp
@[simp] theorem lineDebt_abandonReads (s : State) (c : Nat) :
    lineDebt (s.abandonReads c).counters = lineDebt s.counters := by
  refine lineDebt_forEach _ (fun _ s => ?_) _ s
  split <;> simp
@[simp] theorem lineDebt_cancelJobs (s : State) (c : Nat) :
    lineDebt (s.cancelJobs c).counters = lineDebt s.counters := by simp [State.cancelJobs]
@[simp] theorem lineDebt_armDivert (s : State) (d : Doc) :
    lineDebt (s.armDivert d).counters = lineDebt s.counters := by
  unfold State.armDivert
  split
  · rfl
  · split <;> simp
@[simp] theorem lineDebt_orphanDocs (s : State) (c : Nat) :
    lineDebt (s.orphanDocs c).counters = lineDebt s.counters := by
  simp only [State.orphanDocs, lineDebt_updCab]
  refine lineDebt_forEach _ (fun d s => ?_) _ s
  rw [lineDebt_armDivert, lineDebt_forEach, lineDebt_updDoc]
  intro b s
  rw [lineDebt_updCourse]
  split <;> simp
@[simp] theorem lineDebt_resetRake (s : State) (c : Nat) :
    lineDebt (s.resetRake c).counters = lineDebt s.counters := by simp [State.resetRake]
@[simp] theorem lineDebt_resetStreams (s : State) (c : Nat) :
    lineDebt (s.resetStreams c).counters = lineDebt s.counters := by simp [State.resetStreams]
@[simp] theorem lineDebt_startReset (s : State) (c cause : Nat) (erase : Bool) :
    lineDebt (s.startReset c cause erase).counters = lineDebt s.counters := by simp [State.startReset]
@[simp] theorem lineDebt_reopen (s : State) (m : Nat) : lineDebt (s.reopen m).counters = lineDebt s.counters := by rfl
@[simp] theorem keepsLines_cabEnrol : cabEnrol.KeepsLines := ⟨fun _ => rfl, fun s r => by simp [cabEnrol]⟩
@[simp] theorem keepsLines_cabReset : cabReset.KeepsLines := ⟨fun _ => rfl, fun s r => by simp [cabReset]⟩
@[simp] theorem keepsLines_cabDivert : cabDivert.KeepsLines := ⟨fun _ => rfl, fun s r => by simp [cabDivert]⟩
@[simp] theorem keepsLines_devCert : devCert.KeepsLines := ⟨fun _ => rfl, fun s r => by simp [devCert]⟩
@[simp] theorem lineDebt_ownerDigest (s : State) : lineDebt s.ownerDigest.1.counters = lineDebt s.counters := by
  unfold State.ownerDigest
  split <;> simp
@[simp] theorem keepsLines_devAttest : devAttest.KeepsLines := ⟨fun _ => rfl, fun s r => by simp [devAttest]⟩
@[simp] theorem keepsLines_devResetsum : devResetsum.KeepsLines := ⟨fun _ => rfl, fun s r => by simp [devResetsum]⟩

/-! Mode changes (Machine/Modes.lean). -/

@[simp] theorem lineDebt_yieldMaster (s : State) : lineDebt s.yieldMaster.counters = lineDebt s.counters := by
  simp [State.yieldMaster]
@[simp] theorem lineDebt_modeAccepted (s : State) : lineDebt s.modeAccepted.counters = lineDebt s.counters := by
  unfold State.modeAccepted
  split <;> simp
@[simp] theorem keepsLines_devMode : devMode.KeepsLines := ⟨lineDebt_modeAccepted, fun s r => by simp [devMode]⟩
@[simp] theorem lineDebt_levelCauses (s : State) : lineDebt s.levelCauses.counters = lineDebt s.counters := by
  simp [State.levelCauses]
@[simp] theorem lineDebt_enterP3 (s : State) (m : Mode) (cause : Nat) :
    lineDebt (s.enterP3 m cause).counters = lineDebt s.counters := by simp [State.enterP3]
@[simp] theorem lineDebt_endReads (s : State) :
    lineDebt (s.endReads).counters = lineDebt s.counters := by
  refine lineDebt_forEach _ (fun _ s => ?_) _ s
  split <;> simp
@[simp] theorem lineDebt_clearHalt (s : State) : lineDebt s.clearHalt.counters = lineDebt s.counters := by rfl
@[simp] theorem lineDebt_enterDrain (s : State) (cause : Nat) :
    lineDebt (s.enterDrain cause).counters = lineDebt s.counters := by
  unfold State.enterDrain
  rw [lineDebt_forEach, lineDebt_writeCheckpoint, lineDebt_enterMode]
  intro b s
  split <;> simp
@[simp] theorem lineDebt_wakeKeep (s : State) : lineDebt s.wakeKeep.counters = lineDebt s.counters := by
  simp [State.wakeKeep]
@[simp] theorem lineDebt_dropSyncs (s : State) (p : Nat) :
    lineDebt (s.dropSyncs p).counters = lineDebt s.counters := by simp [State.dropSyncs]
@[simp] theorem lineDebt_enterKeep (s : State) : lineDebt s.enterKeep.counters = lineDebt s.counters := by
  simp [State.enterKeep]
@[simp] theorem lineDebt_flushUsb (s : State) :
    lineDebt (s.flushUsb).counters = lineDebt s.counters := by
  refine lineDebt_forEach _ (fun c s => ?_) _ _
  dsimp only
  rw [lineDebt_forEach, lineDebt_drainWm, lineDebt_updRing]
  intro h s
  cases h <;> simp
@[simp] theorem lineDebt_leaveKeep (s : State) (cause : Nat) :
    lineDebt (s.leaveKeep cause).counters = lineDebt s.counters := by
  simp only [State.leaveKeep, lineDebt_serveHeld, lineDebt_elect]
  rw [lineDebt_forEach, lineDebt_enterMode]
  intro p s
  split <;> simp
@[simp] theorem lineDebt_enterDormant (s : State) (h : lineDebt s.counters = 0) :
    lineDebt s.enterDormant.counters = 0 := by
  refine lineDebt_wakeDormant _ ?_
  simp [h]
@[simp] theorem lineDebt_completeChange (s : State) (q : Change) (h : lineDebt s.counters = 0) :
    lineDebt (s.completeChange q).counters = 0 := by
  unfold State.completeChange
  dsimp only
  split <;> simp [h]
@[simp] theorem lineDebt_endHaltRuns (s : State) : lineDebt s.endHaltRuns.counters = lineDebt s.counters := by
  simp [State.endHaltRuns]
@[simp] theorem lineDebt_wakeFires (s : State) (bit : Nat) (h : lineDebt s.counters = 0) :
    lineDebt (s.wakeFires bit).counters = 0 := by simp [State.wakeFires, h]

/-! Host ports (Machine/Hosts.lean). -/

@[simp] theorem lineDebt_onRing (s : State) (m : Nat) (f : EvRing → EvRing) (after : Nat → State → State)
    (h : ∀ c u, lineDebt (after c u).counters = lineDebt u.counters) :
    lineDebt (s.onRing m f after).counters = lineDebt s.counters := by
  unfold State.onRing
  split
  · simp [h]
  · rfl
@[simp] theorem lineDebt_drained (s : State) (c : Nat) : lineDebt (s.drained c).counters = lineDebt s.counters := by
  simp [State.drained]
@[simp] theorem lineDebt_setMarkWm (s : State) (m n v : Nat) :
    lineDebt (s.setMarkWm m n v).counters = lineDebt s.counters := by simp [State.setMarkWm]
@[simp] theorem lineDebt_ackWm (s : State) (m : Nat) (v : BitVec 32) :
    lineDebt (s.ackWm m v).counters = lineDebt s.counters := by simp [State.ackWm]
@[simp] theorem lineDebt_sendPending (s : State) (m v : Nat) :
    lineDebt (s.sendPending m v).counters = lineDebt s.counters := by simp [State.sendPending]
@[simp] theorem lineDebt_msixWrite (s : State) (m i : Nat) (v : BitVec 32) :
    lineDebt (s.msixWrite m i v).counters = lineDebt s.counters := by simp [State.msixWrite]
@[simp] theorem lineDebt_barDword (s : State) (m off : Nat) (v : BitVec 32) :
    lineDebt (s.barDword m off v).counters = lineDebt s.counters := by simp [State.barDword]
@[simp] theorem lineDebt_barWrite (s : State) (m off : Nat) (wide : Bool) (data : BitVec 64) :
    lineDebt (s.barWrite m off wide data).counters = lineDebt s.counters := by simp [State.barWrite]
@[simp] theorem lineDebt_barWriteIn (s : State) (lo hi m off : Nat) (wide : Bool) (data : BitVec 64) :
    lineDebt (s.barWriteIn lo hi m off wide data).counters = lineDebt s.counters := by simp [State.barWriteIn]
@[simp] theorem lineDebt_badFrame (s : State) : lineDebt s.badFrame.counters = lineDebt s.counters := by
  simp [State.badFrame]
@[simp] theorem lineDebt_frameIn (s : State) (f : UsbFrame) (type : Nat) (ok : Bool) (act : State → State)
    (h : ∀ u, lineDebt (act u).counters = lineDebt u.counters) :
    lineDebt (s.frameIn f type ok act).counters = lineDebt s.counters := by simp [State.frameIn, h]
@[simp] theorem lineDebt_dropTag (s : State) (tag : Nat) :
    lineDebt (s.dropTag tag).counters = lineDebt s.counters := by rfl
@[simp] theorem lineDebt_parcelPart (s : State) (m n : Nat) (bytes : Option (List Byte)) :
    lineDebt (s.parcelPart m n bytes).counters = lineDebt s.counters := by
  unfold State.parcelPart
  dsimp only
  split <;> simp
@[simp] theorem lineDebt_usbAnswer (s : State) (t : UsbTag) (bytes : Option (List Byte)) :
    lineDebt (s.usbAnswer t bytes).counters = lineDebt s.counters := by
  unfold State.usbAnswer
  split
  · rfl
  · split
    · simp
    · split
      · dsimp only
        split
        · simp
        · split <;> simp
      · split <;> simp
@[simp] theorem lineDebt_resetCabs (s : State) (cs : List Nat) (cause : Nat) :
    lineDebt (s.resetCabs cs cause).counters = lineDebt s.counters := by simp [State.resetCabs]
@[simp] theorem lineDebt_portDown (s : State) (fns : List Nat) :
    lineDebt (s.portDown fns).counters = lineDebt s.counters := by simp [State.portDown]
@[simp] theorem lineDebt_linkGone (s : State) : lineDebt s.linkGone.counters = lineDebt s.counters := by
  simp [State.linkGone]

/-! Supplies, clocks and memory errors (Machine/Faults.lean). -/

@[simp] theorem lineDebt_tellSupply (s : State) (u aux mv : Nat) :
    lineDebt (s.tellSupply u aux mv).counters = lineDebt s.counters := by simp [State.tellSupply]
@[simp] theorem lineDebt_tellJunction (s : State) (cs : List Nat) (code aux : Nat) :
    lineDebt (s.tellJunction cs code aux).counters = lineDebt s.counters := by simp [State.tellJunction]
@[simp] theorem lineDebt_tellClock (s : State) (d aux : Nat) :
    lineDebt (s.tellClock d aux).counters = lineDebt s.counters := by simp [State.tellClock]
@[simp] theorem lineDebt_setClock (s : State) (d : Nat) (k : Clock) :
    lineDebt (s.setClock d k).counters = lineDebt s.counters := by rfl
@[simp] theorem lineDebt_safeOutputs (s : State) (d : Nat) (on : Bool) :
    lineDebt (s.safeOutputs d on).counters = lineDebt s.counters := by simp [State.safeOutputs]
@[simp] theorem lineDebt_hungFails (s : State) (d : Nat) :
    lineDebt (s.hungFails d).counters = lineDebt s.counters := by
  unfold State.hungFails
  split <;> simp
@[simp] theorem lineDebt_hungEnds (s : State) (d : Nat) : lineDebt (s.hungEnds d).counters = lineDebt s.counters := by
  unfold State.hungEnds
  split <;> simp
@[simp] theorem lineDebt_gaugesAgain (s : State) (d : Nat) :
    lineDebt (s.gaugesAgain d).counters = lineDebt s.counters := by simp [State.gaugesAgain]
@[simp] theorem lineDebt_loseLine (s : State) (b num : Nat) :
    lineDebt (s.loseLine b num).counters = lineDebt s.counters := by
  unfold State.loseLine
  split
  · rfl
  · dsimp only
    split
    · simp
    · rw [lineDebt_updDoc, lineDebt_lost]
      simp
@[simp] theorem lineDebt_dramHit (s : State) (addr : Nat) (hit : DramHit) :
    lineDebt (s.dramHit addr hit).1.counters = lineDebt s.counters := by
  unfold State.dramHit
  split
  · split <;> rfl
  · split
    · rfl
    · rfl
    · simp
    · split <;> rfl

/-! The rows of the table (Machine/Dispatch.lean). -/

/-- An arm of the dispatch keeps the lines of every bed accounted for. -/
def KeepsDebt (s : State) (a : Answer) : Prop := ∃ t, a = .next t ∧ lineDebt t.counters = lineDebt s.counters

theorem KeepsDebt.balanced {s : State} {a : Answer} (k : KeepsDebt s a) (h : lineDebt s.counters = 0) :
    ∃ t, a = .next t ∧ lineDebt t.counters = 0 := by
  obtain ⟨t, ha, ht⟩ := k
  exact ⟨t, ha, ht.trans h⟩

theorem execUsbReset_keepsDebt (s : State) : KeepsDebt s (execUsbReset s) := by
  refine ⟨_, rfl, ?_⟩
  dsimp only
  split <;> simp

theorem execTempRead_keepsDebt (b : Fin 4) (mohm : Nat) (s : State) : KeepsDebt s (execTempRead b mohm s) := by
  refine ⟨_, rfl, ?_⟩
  dsimp only
  split
  · rfl
  · split
    · simp
    · split <;> simp

theorem execLineRelease_keepsDebt (b : Fin 4) (s : State) : KeepsDebt s (execLineRelease b s) := by
  refine ⟨_, rfl, ?_⟩
  dsimp only
  split
  · rfl
  · split
    · simp
    · split <;> simp

theorem execKernelEntry_keepsDebt (t : Fin 272) (s : State) : KeepsDebt s (execKernelEntry t s) := by
  refine ⟨_, rfl, ?_⟩
  split
  · rfl
  · split
    · rfl
    · split
      · rfl
      · simp

theorem execSelfTestDone_keepsDebt (t : Fin 272) (pass : Bool) (s : State) :
    KeepsDebt s (execSelfTestDone t pass s) := by
  refine ⟨_, rfl, ?_⟩
  dsimp only
  split
  · rfl
  · split
    · simp
    · split
      · split <;> simp
      · simp

theorem execUndefinedEncoding_keepsDebt (t : Fin 272) (s : State) : KeepsDebt s (execUndefinedEncoding t s) := by
  refine ⟨_, rfl, ?_⟩
  split
  · rfl
  · split <;> simp

theorem execPrerollTrigger_keepsDebt (b : Fin 4) (s : State) : KeepsDebt s (execPrerollTrigger b s) := by
  refine ⟨_, rfl, ?_⟩
  dsimp only
  split
  · rfl
  · split
    · simp
    · split <;> simp

theorem execPauseResumed_keepsDebt (b : Fin 4) (s : State) : KeepsDebt s (execPauseResumed b s) := by
  refine ⟨_, rfl, ?_⟩
  dsimp only
  split
  · rfl
  · split
    · rfl
    · split
      · split <;> simp
      · simp

/-- A sample that falls in the window of a document counts in its summary. -/
theorem lineDebt_windowed (o : Option Doc) (u : State) (g : Nat) (x : Doc → GSample) :
    lineDebt (match o with
      | some d => u.windowSample d g (x d)
      | none => u).counters = lineDebt u.counters := by
  cases o <;> simp

theorem execGaugeSample_keepsDebt (c : Fin 8) (cycles : List ModCycle) (s : State) :
    KeepsDebt s (execGaugeSample c cycles s) := by
  have counted : ∀ (u : State) (i : Nat), lineDebt (u.inc 5 c i 1).counters = lineDebt u.counters := by simp
  refine ⟨_, rfl, ?_⟩
  dsimp only
  rw [lineDebt_ite]
  refine ite_eq_left_iff.2 fun _ => ?_
  rw [lineDebt_trimWindows, lineDebt_gaugeBoundary, lineDebt_driveAouts, lineDebt_deliverSample]
  refine (lineDebt_windowed _ _ _ _).trans ?_
  simp only [lineDebt_ite, counted, ite_self, lineDebt_updGauge, lineDebt_tellGauge]

theorem execLeadingEdge_keepsDebt (p : Fin 16) (s : State) : KeepsDebt s (execLeadingEdge p s) := by
  refine ⟨_, rfl, ?_⟩
  dsimp only
  split
  · rfl
  · split
    · rfl
    · split <;> simp

theorem execTrailingEdge_keepsDebt (p : Fin 16) (s : State) : KeepsDebt s (execTrailingEdge p s) := by
  refine ⟨_, rfl, ?_⟩
  dsimp only
  split
  · rfl
  · split
    · rfl
    · split
      · rw [lineDebt_armJam]
        split <;> simp
      · simp only [lineDebt_forEach, lineDebt_armStop, lineDebt_updCourse, lineDebt_armJam, implies_true]
        split <;> simp

theorem execRecordClose_keepsDebt (s : State) : KeepsDebt s (execRecordClose s) := by
  refine ⟨_, rfl, ?_⟩
  dsimp only
  split <;> simp

theorem execStripReadComplete_keepsDebt (b : Fin 4) (s : State) : KeepsDebt s (execStripReadComplete b s) := by
  refine ⟨_, rfl, ?_⟩
  dsimp only
  split <;> simp

theorem execCalRunTimeout_keepsDebt (b : Fin 4) (s : State) : KeepsDebt s (execCalRunTimeout b s) := by
  refine ⟨_, rfl, ?_⟩
  split
  · rfl
  · split <;> simp

theorem execDescriptorTimeout_keepsDebt (c : Fin 256) (n : Fin 16) (s : State) :
    KeepsDebt s (execDescriptorTimeout c n s) := by
  refine ⟨_, rfl, ?_⟩
  dsimp only
  split
  · rfl
  · simp

theorem execNak_keepsDebt (p : Fin 4) (k : Packet) (s : State) : KeepsDebt s (execNak p k s) := by
  refine ⟨_, rfl, lineDebt_onControl s p k _ _ fun u => ?_⟩
  dsimp only
  split
  · rfl
  · simp

theorem execResp_keepsDebt (p : Fin 4) (k : Packet) (s : State) : KeepsDebt s (execResp p k s) := by
  refine ⟨_, rfl, lineDebt_onVc s p k _ _ _ fun u => lineDebt_routed u p k _ fun v => ?_⟩
  dsimp only
  split <;> simp

theorem execPostAck_keepsDebt (p : Fin 4) (k : Packet) (s : State) : KeepsDebt s (execPostAck p k s) := by
  refine ⟨_, rfl, lineDebt_onVc s p k _ _ _ fun u => lineDebt_routed u p k _ fun v => ?_⟩
  simp

theorem execEvent_keepsDebt (p : Fin 4) (k : Packet) (s : State) : KeepsDebt s (execEvent p k s) := by
  refine ⟨_, rfl, lineDebt_onVc s p k _ _ _ fun u => lineDebt_routed u p k _ fun v => ?_⟩
  simp

theorem execMember_keepsDebt (p : Fin 4) (k : Packet) (s : State) : KeepsDebt s (execMember p k s) := by
  refine ⟨_, rfl, lineDebt_onVc s p k _ _ _ fun u => ?_⟩
  dsimp only
  split <;> simp

/-- DEV.RESET: a refusal answers alone, and the device reset that follows its answer leaves every counter at 0. -/
theorem lineDebt_devReset (m : Fin 257) (n : Fin 4) (s : State) (h : lineDebt s.counters = 0) :
    lineDebt (runCommand devReset m n s).counters = 0 := by
  unfold runCommand
  split
  · split
    · exact h
    · dsimp only
      split
      · simp [h]
      · split
        · exact h
        · simp [commitCmd, devReset]
  · exact h

/-- WAKE: a wake packet may begin BOOT with a device reset. -/
theorem lineDebt_wakePacket (p : Fin 4) (k : Packet) (s : State) (h : lineDebt s.counters = 0) :
    lineDebt (s.received p k 0x0A fun s => s.wakeFires (1 + p)).counters = 0 := by simp [State.received, h]

/-- Every row of the table keeps the lines of every bed accounted for. -/
theorem exec_lineDebt (i : Instr) (s : State) (h : lineDebt s.counters = 0) :
    ∃ t, exec i s = .next t ∧ lineDebt t.counters = 0 := by
  cases i
  case devReset m n => exact ⟨_, rfl, lineDebt_devReset m n s h⟩
  case wake p k => exact ⟨_, rfl, lineDebt_wakePacket p k s h⟩
  -- rows that take several cases of what they find
  case usbReset => exact (execUsbReset_keepsDebt s).balanced h
  case tempRead b mohm => exact (execTempRead_keepsDebt b mohm s).balanced h
  case lineRelease b => exact (execLineRelease_keepsDebt b s).balanced h
  case kernelEntry t => exact (execKernelEntry_keepsDebt t s).balanced h
  case selfTestDone t pass => exact (execSelfTestDone_keepsDebt t pass s).balanced h
  case undefinedEncoding t => exact (execUndefinedEncoding_keepsDebt t s).balanced h
  case prerollTrigger b => exact (execPrerollTrigger_keepsDebt b s).balanced h
  case pauseResumed b => exact (execPauseResumed_keepsDebt b s).balanced h
  case gaugeSample c cycles => exact (execGaugeSample_keepsDebt c cycles s).balanced h
  case leadingEdge p => exact (execLeadingEdge_keepsDebt p s).balanced h
  case trailingEdge p => exact (execTrailingEdge_keepsDebt p s).balanced h
  case recordClose => exact (execRecordClose_keepsDebt s).balanced h
  case stripReadComplete b => exact (execStripReadComplete_keepsDebt b s).balanced h
  case calRunTimeout b => exact (execCalRunTimeout_keepsDebt b s).balanced h
  case descriptorTimeout c n => exact (execDescriptorTimeout_keepsDebt c n s).balanced h
  case nak p k => exact (execNak_keepsDebt p k s).balanced h
  case resp p k => exact (execResp_keepsDebt p k s).balanced h
  case postAck p k => exact (execPostAck_keepsDebt p k s).balanced h
  case event p k => exact (execEvent_keepsDebt p k s).balanced h
  case member p k => exact (execMember_keepsDebt p k s).balanced h
  -- rows that look up one entry and act on it
  case fetchData | probeReply | usbFetchTimeout | functionLevelReset | modeChangeComplete | compareFired |
      resultAccepted | storePerformed | kernelWatchdog | plotScrub | pfwait | confirmation | jam | deliveryNote |
      calResult | cabinetReset | descriptorFetch | probeComplete | rootStale | reqTimeout | legacySyncDue |
      reanchorForced | diagDone | msixUnmask =>
    refine ⟨_, rfl, ?_⟩
    split <;> simp [h]
  case gaugeCheckEnd | gaugeLeadDone =>
    refine ⟨_, rfl, ?_⟩
    dsimp only
    split <;> simp [h]
  -- every other row is a chain of shared operations, each with its lemma
  all_goals exact ⟨_, rfl, by simp [h]⟩

/-- Settles O60: every operation keeps a bed's lines accounted for; a device reset clears every counter. -/
theorem linesAccounted : Obligations.LinesAccounted := by
  intro s t balance stepped
  rw [linesBalance_iff] at balance ⊢
  unfold step at stepped
  split at stepped
  · next c rest _ =>
    obtain ⟨u, hu, debt⟩ := exec_lineDebt c { s with pending := rest } balance
    obtain rfl := Host.Outcome.next.inj (hu.symm.trans stepped)
    exact debt
  · obtain rfl := Host.Outcome.next.inj stepped
    simp [balance]

end Sys2Proof.Machine
end

section
/-! PROOFS. What a device reset leaves (R25, R27, R35, R68). -/

namespace Sys2Proof.Machine

theorem ctr_reset (cls unit idx : Nat) : State.reset.ctr cls unit idx = 0 := by
  unfold State.ctr
  split <;> rfl

theorem sreg_reset (t i : Nat) : (State.reset.tine t).sreg i = 0 := by
  unfold Tine.sreg
  split <;> rfl

/-- The Factory Charter enables cabinet 0 alone. -/
theorem enabled_reset (c : Nat) : State.reset.enabled c = decide (c = 0) := by
  by_cases h : c = 0
  · subst h
    rfl
  · simp [State.enabled, State.entry, State.reset, Charter.factory, tget, h, Ne.symm h]

/-- Settles O27, field by field of the state that a reset leaves. -/
theorem resetLeaves : Obligations.ResetLeaves :=
  ⟨rfl, rfl, rfl, rfl, rfl, rfl, ctr_reset, fun b => by simp [ctr_reset], fun _ => ⟨rfl, rfl⟩,
    fun _ _ => ⟨rfl, rfl, rfl⟩, fun _ => ⟨rfl, rfl⟩, fun _ => ⟨rfl, rfl⟩, fun _ => rfl, fun _ _ => rfl,
    sreg_reset, enabled_reset, fun _ => rfl⟩

end Sys2Proof.Machine

end

section
/-! PROOFS. A FEED_DECISION whose own feed halts the device (R387, R436, R628). -/

namespace Sys2Proof.Machine

/-- A FLATBED job of one document, current on beds 0 and 1. -/
def flatPair : Job :=
  { cab := 0, id := 1, bedMask := 3, flatbed := true, exitCheck := false, free := false, chan := 0, entryGpio := 0,
    exitGpio := 0, gaugeStream := 0xFF, docs := 1, freeRate := 0, dist := [0, 0, 0, 0], maxLen := 1000, exitDist := 0,
    current := true }

/-- A job of cabinet 1 that waits for bed 1 alone, its cabinet noted backlogged for it. -/
def waitsBehind : Job :=
  { flatPair with cab := 1, id := 2, bedMask := 2, flatbed := false, docs := 0, current := false, backlog := true }

/-- A delivered document that still has every comparator of the Curators reserved to it. -/
def curatorsHeld : Doc :=
  { acc := 1, cab := 0, chan := 0, entryGpio := 0, job := none, start := 0, inTransport := false,
    reserved := (List.range 16).map (· + 48), record := some [] }

/-- A device in CAPTURE with both jobs, beds and placements in order, and no comparator left for a document. Its node number and
accession sequence are small ones, so that the accession number evaluates without the device's UID. -/
def starved : State :=
  let bed : Bed := { segMask := 1, seqLen := 1, chan := 0, method := 1 }
  let place : Place := { line := false, halo := 0, kernels := [] }
  { State.reset with
    mode := .capture, fwUp := true, jobs := [flatPair, waitsBehind], docs := [curatorsHeld], beds := [(0, bed), (1, bed)],
    chans := [(0, { source := .enc, unit := 3, filter := 0, present := true })],
    places := [(placeKey 0 0, some place), (placeKey 0 1, some place), (placeKey 1 1, some place)],
    streams := [(16, { kind := 1, base := 0, capacity := 65536 })],
    runCfg := { node := some 0 }, accSeq := 7,
    charter := { Charter.factory with entries := [(0, { maxDocs := 2 }), (1, { maxDocs := 1 })] } }

/-- Whether an answer leaves a job current. -/
def leavesCurrent : Answer → Bool
  | .next t => t.jobs.any (·.current)
  | _ => false

/-- Refutes O55 by its clause on the job chosen. On bed 0 the FLATBED job is fed first, finds no comparator, and the halt
closes its document and with it the job. The job of bed 1 shares a transport with bed 0 through that job alone: the statement
still chooses it by the jobs before the feed, the row by those after it, and makes no job current. -/
theorem not_documentsFed : ¬ Obligations.DocumentsFed := by
  intro h
  obtain ⟨-, -, -, -, -, -, feed⟩ := h
  obtain ⟨-, -, chosen⟩ := feed starved 0
  obtain ⟨t, answered, -, k, mem, -, -, current, -⟩ :=
    (chosen waitsBehind (by decide +kernel) (by decide +kernel) (by decide +kernel)).1 (by decide +kernel)
  have none_current : leavesCurrent (exec (.feedDecision 0) starved) = false := by decide +kernel
  have one_current : t.jobs.any (·.current) = true := List.any_eq_true.2 ⟨k, mem, current⟩
  rw [answered] at none_current
  exact absurd one_current (by simpa [leavesCurrent] using none_current)

end Sys2Proof.Machine

end

section
/-! PROOFS. The core of the state: the fields that the rows of the covers, the supplies, the junction and BOOT_COMPLETE
speak of, and the operations that keep them. -/

namespace Sys2Proof.Machine

/-- What the rows of the covers, the supplies, the junction and BOOT_COMPLETE speak of. -/
structure Core where
  mode : Mode
  change : Option Change
  haltCauses : BitVec 16
  supplies : Tab Supply
  breaches : List Breach
  coverOpen : BitVec 4
  junction : Tab Int
  warnArmed : Bool
  limitUp : Bool
  /-- The junction warnings counted. -/
  warned : BitVec 48
  wakeLatch : BitVec 16
  fw : Tab FwSlot
  fwSlot : Nat
  fwTrial : Bool
  charter : Charter
  rollbackFloor : Nat
  wdPending : Option (Nat × Nat)

/-- The core of those fields, its definition closed so that a lemma about it reads the fields as they stand. -/
@[irreducible] def coreOf (mode : Mode) (change : Option Change) (haltCauses : BitVec 16) (supplies : Tab Supply)
    (breaches : List Breach) (coverOpen : BitVec 4) (junction : Tab Int) (warnArmed limitUp : Bool)
    (counters : Tab (BitVec 48)) (wakeLatch : BitVec 16) (fw : Tab FwSlot) (fwSlot : Nat) (fwTrial : Bool)
    (charter : Charter) (rollbackFloor : Nat) (wdPending : Option (Nat × Nat)) : Core :=
  ⟨mode, change, haltCauses, supplies, breaches, coverOpen, junction, warnArmed, limitUp,
    tget 0 counters (ctrKey 0x0E 0 8), wakeLatch, fw, fwSlot, fwTrial, charter, rollbackFloor, wdPending⟩

@[reducible, simp] def State.core (s : State) : Core :=
  coreOf s.mode s.change s.haltCauses s.supplies s.breaches s.coverOpen s.junction s.warnArmed s.limitUp s.counters
    s.wakeLatch s.fw s.fwSlot s.fwTrial s.charter s.rollbackFloor s.wdPending

theorem core_inc_other (s : State) (cls unit idx n : Nat) (h : cls ≠ 0x0E ∨ idx ≠ 8) :
    (s.inc cls unit idx n).core = s.core := by
  have e : (s.inc cls unit idx n).ctr 0x0E 0 8 = s.ctr 0x0E 0 8 := by
    rw [ctr_inc, if_neg]
    rintro ⟨rfl, -, rfl, -⟩
    omega
  have k (t : State) : tget 0 t.counters (ctrKey 0x0E 0 8) = t.ctr 0x0E 0 8 := rfl
  rw [inc_eq]
  simp only [State.core, coreOf, k, e]

@[simp] theorem core_inc_class (s : State) (cls unit idx n : Nat) (h : cls ≠ 0x0E) :
    (s.inc cls unit idx n).core = s.core := core_inc_other s cls unit idx n (.inl h)
@[simp] theorem core_inc_index (s : State) (unit idx n : Nat) (h : idx ≠ 8) :
    (s.inc 0x0E unit idx n).core = s.core := core_inc_other s 0x0E unit idx n (.inr h)
@[simp] theorem core_ite (c : Prop) [Decidable c] (s t : State) :
    (if c then s else t).core = if c then s.core else t.core := by
  split <;> rfl
@[simp] theorem core_forEach {α : Type} (f : α → State → State)
    (h : ∀ x s, (f x s).core = s.core) (xs : List α) (s : State) :
    (forEach xs f s).core = s.core :=
  forEach_keeps (P := fun t : State => t.core = s.core) f
    (fun x t ht => (h x t).trans ht) xs s rfl
@[simp] theorem core_dropLine (s : State) (b acc cause : Nat) : (s.dropLine b acc cause).core = s.core :=
  (core_inc_class _ 1 b cause 1 (by decide)).trans (core_inc_class s 1 b 0 1 (by decide))

/-! The shared operations (Machine/Ops.lean). -/

@[simp] theorem core_draw (s : State) : s.draw.core = s.core := by rfl
@[simp] theorem core_updCab (s : State) (c : Nat) (f : Cab → Cab) :
    (s.updCab c f).core = s.core := by rfl
@[simp] theorem core_updMbx (s : State) (m : Nat) (f : Mbx → Mbx) :
    (s.updMbx m f).core = s.core := by rfl
@[simp] theorem core_updChan (s : State) (c : Nat) (f : Chan → Chan) :
    (s.updChan c f).core = s.core := by rfl
@[simp] theorem core_setComp (s : State) (k : Nat) (v : Option Cmp) :
    (s.setComp k v).core = s.core := by rfl
@[simp] theorem core_updAxis (s : State) (a : Nat) (f : Axis → Axis) :
    (s.updAxis a f).core = s.core := by rfl
@[simp] theorem core_updSnap (s : State) (k : Nat) (f : Snap → Snap) :
    (s.updSnap k f).core = s.core := by rfl
@[simp] theorem core_updRing (s : State) (c : Nat) (f : EvRing → EvRing) :
    (s.updRing c f).core = s.core := by rfl
@[simp] theorem core_push (s : State) (o : Out) : (s.push o).core = s.core := by rfl
@[simp] theorem core_usbSend (s : State) (o : Out) : (s.usbSend o).core = s.core := by
  simp [State.usbSend]
@[simp] theorem core_useSlots (s : State) (m n : Nat) :
    (s.useSlots m n).core = s.core := by
  unfold State.useSlots
  dsimp only
  split <;> simp
@[simp] theorem core_hostWrite (s : State) (m : Nat) (addr : BitVec 64) (data : List Byte) :
    (s.hostWrite m addr data).core = s.core := by simp [State.hostWrite]
@[simp] theorem core_signal (s : State) (m vector : Nat) :
    (s.signal m vector).core = s.core := by simp [State.signal]
@[simp] theorem core_overflow (s : State) (c cls : Nat) :
    (s.overflow c cls).core = s.core := by simp [State.overflow]
@[simp] theorem core_ringSignal (s : State) (c : Nat) :
    (s.ringSignal c).core = s.core := by simp [State.ringSignal]
@[simp] theorem core_writeEntry (s : State) (c : Nat) (e : Ev) :
    (s.writeEntry c e).core = s.core := by simp [State.writeEntry]
@[simp] theorem core_raise (s : State) (c : Nat) (e : Ev) :
    (s.raise c e).core = s.core := by simp [State.raise]
@[simp] theorem core_raiseTo (s : State) (cs : List Nat) (e : Ev) :
    (s.raiseTo cs e).core = s.core := by simp [State.raiseTo]

/-! The Herbarium's records and pages (Machine/Nvs.lean). -/

@[simp] theorem core_beginRecord (s : State) (r : NvsRecord) :
    (s.beginRecord r).core = s.core := by rfl
@[simp] theorem core_setNvs (s : State) (page w : Nat) (v : BitVec 64) :
    (s.setNvs page w v).core = s.core := by simp [State.setNvs]

@[simp] theorem core_writePage (s : State) (page : Nat) (bytes : List Byte) (gen : Nat) :
    (s.writePage page bytes gen).core = s.core := by simp [State.writePage]
@[simp] theorem core_freePage (s : State) (page gen : Nat) :
    (s.freePage page gen).core = s.core := by simp [State.freePage]
@[simp] theorem core_freeRecord (s : State) (pageA : Nat) :
    (s.freeRecord pageA).core = s.core := by simp [State.freeRecord]

/-! Beds, streams, axes and records. -/

@[simp] theorem core_updBed (s : State) (b : Nat) (f : Bed → Bed) :
    (s.updBed b f).core = s.core := by rfl
@[simp] theorem core_updStream (s : State) (c n : Nat) (f : Stream → Stream) :
    (s.updStream c n f).core = s.core := by rfl
@[simp] theorem core_updRingOf (s : State) (c n : Nat) (f : Ring → Ring) :
    (s.updRingOf c n f).core = s.core := by rfl
@[simp] theorem core_rebase (s : State) (c : Nat) : (s.rebase c).core = s.core := by rfl
@[simp] theorem core_dropRate (s : State) (j : Job) : (s.dropRate j).core = s.core := by
  simp [State.dropRate]
@[simp] theorem core_missSnap (s : State) (slot cause : Nat) :
    (s.missSnap slot cause).core = s.core := by simp [State.missSnap]
@[simp] theorem core_disarm (s : State) (k : Nat) : (s.disarm k).core = s.core := by
  unfold State.disarm
  split
  · rfl
  · split <;> simp
@[simp] theorem core_ringWrite (s : State) (c n off : Nat) (bs : List Byte) :
    (s.ringWrite c n off bs).core = s.core := by rfl
@[simp] theorem core_raiseWm (s : State) (c n : Nat) (above : Bool) :
    (s.raiseWm c n above).core = s.core := by simp [State.raiseWm]
@[simp] theorem core_chgStream (s : State) (c n : Nat) (f : Stream → Stream) :
    (s.chgStream c n f).core = s.core := by simp [State.chgStream]
@[simp] theorem core_makeItem (s : State) (c n kind flags bed kernel acc : Nat) (payload : List Byte) :
    (s.makeItem c n kind flags bed kernel acc payload).1.core = s.core := by
  unfold State.makeItem
  split <;> simp
@[simp] theorem core_ringFed (s : State) (c n : Nat) :
    (s.ringFed c n).core = s.core := by simp [State.ringFed]
@[simp] theorem core_appendItem (s : State) (c n : Nat) (bs : List Byte) (kind acc res : Nat) (last : Bool) :
    (s.appendItem c n bs kind acc res last).core = s.core := by simp [State.appendItem]
@[simp] theorem core_putItem (s : State) (c n : Nat) (bs : List Byte) (kind acc res : Nat) (last : Bool) :
    (s.putItem c n bs kind acc res last).core = s.core := by simp [State.putItem]
@[simp] theorem core_updDoc (s : State) (acc : Nat) (f : Doc → Doc) :
    (s.updDoc acc f).core = s.core := by rfl
@[simp] theorem core_flushWaiting (fuel c : Nat) (s : State) :
    (State.flushWaiting fuel c s).core = s.core := by
  induction fuel generalizing s with
  | zero => rfl
  | succ fuel ih =>
    unfold State.flushWaiting
    split
    · rfl
    · split <;> simp [ih]
@[simp] theorem core_queueRecord (s : State) (c acc : Nat) (isNote : Bool) :
    (s.queueRecord c acc isNote).core = s.core := by simp [State.queueRecord]
@[simp] theorem core_axisEvent (s : State) (a : Nat) (e : Ev) :
    (s.axisEvent a e).core = s.core := by simp [State.axisEvent]
@[simp] theorem core_setLost (s : State) (a : Nat) : (s.setLost a).core = s.core := by
  simp [State.setLost]
@[simp] theorem core_confirmsMissed (s : State) :
    (s.confirmsMissed).core = s.core := by
  refine core_forEach _ (fun _ s => ?_) _ s
  split
  · split <;> simp
  · rfl
@[simp] theorem core_lose (s : State) (a : Nat) : (s.lose a).core = s.core := by
  simp [State.lose]
@[simp] theorem core_coilFault (s : State) (a : Nat) (phB : Bool) (st sw : Nat) :
    (s.coilFault a phB st sw).core = s.core := by simp [State.coilFault]
@[simp] theorem core_coilTell (s : State) (a : Nat) : (s.coilTell a).core = s.core := by
  simp [State.coilTell]
@[simp] theorem core_disarmSlots (s : State) (a : Nat) :
    (s.disarmSlots a).core = s.core := by simp [State.disarmSlots]
@[simp] theorem core_freeze (s : State) (a : Nat) (off on : Bool) :
    (s.freeze a off on).core = s.core := by simp [State.freeze]
@[simp] theorem core_gearChanged (s : State) (a : Nat) (r : Ratio) (slave : Int) (master : Pos) :
    (s.gearChanged a r slave master).core = s.core := by simp [State.gearChanged]
@[simp] theorem core_unGear (s : State) (a : Nat) (p : Int) :
    (s.unGear a p).core = s.core := by simp [State.unGear]
@[simp] theorem core_regear (s : State) (c : Nat) (m : Pos) :
    (s.regear c m).core = s.core := by
  refine core_forEach _ (fun _ s => ?_) _ s
  split
  · rfl
  · dsimp only
    split
    · rfl
    · split <;> simp
@[simp] theorem core_discontinuity (s : State) (c aux : Nat) :
    (s.discontinuity c aux).core = s.core := by simp [State.discontinuity]
@[simp] theorem core_stopAxis (s : State) (a : Nat) (off : Bool) :
    (s.stopAxis a off).core = s.core := by simp [State.stopAxis]
@[simp] theorem core_bedFlag (s : State) (b acc : Nat) (bits : BitVec 16) :
    (s.bedFlag b acc bits).core = s.core := by rfl
@[simp] theorem core_flushOverrun (s : State) (b : Nat) :
    (s.flushOverrun b).core = s.core := by
  unfold State.flushOverrun
  split <;> simp
@[simp] theorem core_cutOverrun (s : State) (b : Nat) :
    (s.cutOverrun b).core = s.core := by
  unfold State.cutOverrun
  split
  · rfl
  · split <;> simp
@[simp] theorem core_noteStale (s : State) (b : Nat) :
    (s.noteStale b).core = s.core := by
  unfold State.noteStale
  split <;> simp
@[simp] theorem core_closeJob (s : State) (j : Job) (result order : Nat) :
    (s.closeJob j result order).core = s.core := by
  unfold State.closeJob
  simp only [core_raise]
  split <;> simp
@[simp] theorem core_noteLeft (s : State) : s.noteLeft.core = s.core := by rfl
@[simp] theorem core_jobAfterClose (s : State) (d : Doc) :
    (s.jobAfterClose d).core = s.core := by
  unfold State.jobAfterClose
  dsimp only
  split
  · rfl
  · split
    · rfl
    · split <;> simp
@[simp] theorem core_updGauge (s : State) (g : Nat) (f : Gauge → Gauge) :
    (s.updGauge g f).core = s.core := by rfl
@[simp] theorem core_writeSummaries (s : State) (d : Doc) :
    (s.writeSummaries d).core = s.core := by
  unfold State.writeSummaries
  split <;> simp
@[simp] theorem core_closeFlags (s : State) (d : Doc) :
    (s.closeFlags d).core = s.core := by simp [State.closeFlags]
@[simp] theorem core_tryErase (s : State) (c : Nat) : (s.tryErase c).core = s.core := by
  simp [State.tryErase]
@[simp] theorem core_closeDoc (s : State) (acc : Nat) (halt : Option Nat) :
    (s.closeDoc acc halt).core = s.core := by
  unfold State.closeDoc
  split
  · rfl
  · split
    · rfl
    · simp

/-! Modes and halts (R66, R68). -/

theorem core_enterMode (s : State) (m : Mode) (cause : Nat) :
    (s.enterMode m cause).core = ({ s with mode := m, change := none } : State).core := by simp [State.enterMode]
@[simp] theorem core_haltBed (s : State) (b : Nat) :
    (s.haltBed b).core = s.core := by
  have h : ∀ acc n (s : State), (forEach (List.range n) (fun _ s => s.dropLine b acc 2) s).core =
      s.core := fun acc n s => by simp
  simp [State.haltBed, h]
@[simp] theorem core_countStop (s : State) (cause : Nat) (h : cause ≠ 7) :
    (s.countStop cause).core = s.core := by
  have k : 1 + cause ≠ 8 := by omega
  simp [State.countStop, k]

theorem breach_frame (s : State) (condition : Nat) (p : Pos) :
    s.breach condition p = { s with breaches := (s.breach condition p).breaches } := by
  unfold State.breach
  split <;> rfl
/-- Entry to P3 with a source absent changes the breaches, and nothing else. -/
theorem sourcesMissing_frame (s : State) : ∃ bs, s.sourcesMissing = { s with breaches := bs } := by
  refine forEach_keeps (P := fun t : State => ∃ bs, t = { s with breaches := bs }) _ ?_ _ _ ⟨s.breaches, rfl⟩
  rintro c t ⟨bs, rfl⟩
  split
  · exact ⟨_, breach_frame _ _ _⟩
  · exact ⟨bs, rfl⟩
@[simp] theorem core_updPlot (s : State) (p : Nat) (f : Plot → Plot) :
    (s.updPlot p f).core = s.core := by rfl
@[simp] theorem core_overrun (s : State) (c domain n : Nat) :
    (s.overrun c domain n).core = s.core := by simp [State.overrun]
@[simp] theorem core_tellGauge (s : State) (g : Nat) :
    (s.tellGauge g).core = s.core := by simp [State.tellGauge]
@[simp] theorem core_gaugeRestart (s : State) (g : Nat) :
    (s.gaugeRestart g).core = s.core := by simp [State.gaugeRestart]
@[simp] theorem core_gaugesStart (s : State) : s.gaugesStart.core = s.core := by
  simp [State.gaugesStart]
@[simp] theorem core_forgetPlace (s : State) (c b : Nat) :
    (s.forgetPlace c b).core = s.core := by rfl
@[simp] theorem core_voidPlace (s : State) (c b cause : Nat) :
    (s.voidPlace c b cause).core = s.core := by
  unfold State.voidPlace
  split <;> simp
@[simp] theorem core_recheckPlaces (s : State) (b cause : Nat) :
    (s.recheckPlaces b cause).core = s.core := by
  refine core_forEach _ (fun _ s => ?_) _ s
  split <;> simp
@[simp] theorem core_updLed (s : State) (b c : Nat) (f : Led → Led) :
    (s.updLed b c f).core = s.core := by rfl
@[simp] theorem core_cutoffs (s : State) (b : Nat) : (s.cutoffs b).core = s.core := by
  simp [State.cutoffs]
@[simp] theorem core_relight (s : State) (b : Nat) (f : Bed → Bed) :
    (s.relight b f).core = s.core := by simp [State.relight]
@[simp] theorem core_probesDue (s : State) (b : Nat) :
    (s.probesDue b).core = s.core := by simp [State.probesDue]
@[simp] theorem core_chooseRef (s : State) (b : Nat) :
    (s.chooseRef b).core = s.core := by simp [State.chooseRef]
@[simp] theorem core_settingsChanged (s : State) (b : Nat) :
    (s.settingsChanged b).core = s.core := by simp [State.settingsChanged]
@[simp] theorem core_restartBed (s : State) (b : Nat) :
    (s.restartBed b).core = s.core := by rfl
@[simp] theorem core_startTemp (s : State) (b : Nat) :
    (s.startTemp b).core = s.core := by simp [State.startTemp]
@[simp] theorem core_applyCfg (s : State) (b : Nat) (c : BedCfg) :
    (s.applyCfg b c).core = s.core := by simp [State.applyCfg]
@[simp] theorem core_resumeChans (s : State) : s.resumeChans.core = s.core := by
  simp [State.resumeChans]
@[simp] theorem core_startBed (s : State) (b : Nat) : (s.startBed b).core = s.core := by
  unfold State.startBed
  split <;> simp

/-! Reading the core, and what follows a change of one of its fields. -/

theorem core_iff {s t : State} : s.core = t.core ↔
    s.mode = t.mode ∧ s.change = t.change ∧ s.haltCauses = t.haltCauses ∧ s.supplies = t.supplies ∧
      s.breaches = t.breaches ∧ s.coverOpen = t.coverOpen ∧ s.junction = t.junction ∧ s.warnArmed = t.warnArmed ∧
      s.limitUp = t.limitUp ∧ tget 0 s.counters (ctrKey 0x0E 0 8) = tget 0 t.counters (ctrKey 0x0E 0 8) ∧
      s.wakeLatch = t.wakeLatch ∧ s.fw = t.fw ∧ s.fwSlot = t.fwSlot ∧ s.fwTrial = t.fwTrial ∧ s.charter = t.charter ∧
      s.rollbackFloor = t.rollbackFloor ∧ s.wdPending = t.wdPending := by
  simp only [State.core, coreOf, Core.mk.injEq]

theorem mode_of_core {s t : State} (h : s.core = t.core) : s.mode = t.mode := (core_iff.1 h).1

theorem core_withMode {s t : State} (m : Mode) (h : s.core = t.core) :
    ({ s with mode := m, change := none } : State).core = ({ t with mode := m, change := none } : State).core := by
  rw [core_iff] at h ⊢
  simpa using h.2.2

theorem core_withoutChange {s t : State} (h : s.core = t.core) :
    ({ s with change := none } : State).core = ({ t with change := none } : State).core := by
  rw [core_iff] at h ⊢
  obtain ⟨h1, -, rest⟩ := h
  exact ⟨h1, rfl, rest⟩

theorem core_withBreaches {s t : State} (bs : List Breach) (h : s.core = t.core) :
    ({ s with breaches := bs } : State).core = ({ t with breaches := bs } : State).core := by
  rw [core_iff] at h ⊢
  obtain ⟨h1, h2, h3, h4, -, rest⟩ := h
  exact ⟨h1, h2, h3, h4, rfl, rest⟩

theorem core_startP3 (s : State) : ∃ bs, s.startP3.core = ({ s with breaches := bs } : State).core := by
  obtain ⟨bs, h⟩ := sourcesMissing_frame s.confirmsMissed.resumeChans
  have sources : s.startP3.core = s.confirmsMissed.resumeChans.sourcesMissing.core := by simp [State.startP3]
  have before : s.confirmsMissed.resumeChans.core = s.core := by simp
  exact ⟨bs, sources.trans ((congrArg State.core h).trans (core_withBreaches bs before))⟩

@[simp] theorem core_allOff (s : State) : s.allOff.core = s.core := by
  simp [State.allOff]

theorem mode_stopAxes (s : State) (off : Bool) (xs : List Nat) :
    (forEach xs (fun a s => s.stopAxis a off) s).mode = s.mode :=
  mode_of_core (core_forEach _ (fun a s => by simp) xs s)

theorem mode_countStop (s : State) (cause : Nat) : (s.countStop cause).mode = s.mode := by
  unfold State.countStop
  rw [inc_eq]
  show (s.inc _ _ _ _).mode = _
  rw [inc_eq]

/-- The state on entry to HALTED before its mode changes: the cause noted and counted, the axes stopped. -/
def State.haltNoted (s : State) (cause : Nat) (off : Bool) : State :=
  let u := { s with haltCauses := s.haltCauses ||| (1#16 <<< cause) }
  { forEach (List.range 8) (fun a s => s.stopAxis a off) (u.countStop cause) with haltSettled := false, haltOff := off }

theorem core_haltNoted (s : State) (cause : Nat) (off : Bool) (h : cause ≠ 7) :
    (s.haltNoted cause off).core = ({ s with haltCauses := s.haltCauses ||| (1#16 <<< cause) } : State).core := by
  simp [State.haltNoted, h]

/-- From outside HALTED, what follows the change of mode keeps the core, but for the entry to P3. -/
theorem core_enterHalted_outside (s : State) (cause : Nat) (off : Bool) (hm : s.mode ≠ .halted) :
    (s.enterHalted cause off).core =
      (if s.mode.p3 then (s.haltNoted cause off).enterMode .halted 3
       else ((s.haltNoted cause off).enterMode .halted 3).startP3).core := by
  simp [State.enterHalted, State.haltNoted, hm, mode_stopAxes, mode_countStop, -core_countStop]

/-- In HALTED a further cause is noted, and the change under way is dropped. -/
theorem core_enterHalted_again (s : State) (cause : Nat) (off : Bool) (h : cause ≠ 7) (hm : s.mode = .halted) :
    (s.enterHalted cause off).core =
      ({ s with mode := .halted, change := none, haltCauses := s.haltCauses ||| (1#16 <<< cause) } : State).core := by
  unfold State.enterHalted
  dsimp only
  rw [if_pos (by simp [hm, mode_countStop, apply_ite State.mode])]
  refine (core_withoutChange (t := { s with mode := .halted, haltCauses := s.haltCauses ||| (1#16 <<< cause) }) ?_)
  simp [h, hm]

/-- Entry to HALTED (R66, R68): beside the mode, the change under way and the cause, the core is kept, but for the
breaches of an entry to P3. -/
theorem core_enterHalted (s : State) (cause : Nat) (off : Bool) (h : cause ≠ 7) :
    ∃ bs, (s.enterHalted cause off).core =
        ({ s with mode := .halted, change := none, haltCauses := s.haltCauses ||| (1#16 <<< cause),
                  breaches := bs } : State).core ∧
      (s.mode.p3 = true → bs = s.breaches) := by
  by_cases hm : s.mode = .halted
  · exact ⟨s.breaches, core_enterHalted_again s cause off h hm, fun _ => rfl⟩
  · have entered := (core_enterMode (s.haltNoted cause off) .halted 3).trans
      (core_withMode .halted (core_haltNoted s cause off h))
    by_cases hp : s.mode.p3 = true
    · refine ⟨s.breaches, ?_, fun _ => rfl⟩
      rw [core_enterHalted_outside s cause off hm, if_pos hp]
      exact entered
    · obtain ⟨bs, began⟩ := core_startP3 ((s.haltNoted cause off).enterMode .halted 3)
      refine ⟨bs, ?_, fun k => absurd k hp⟩
      rw [core_enterHalted_outside s cause off hm, if_neg hp]
      exact began.trans (core_withBreaches bs entered)

@[simp] theorem core_motorSupply (s : State) (a : Nat) (on : Bool) :
    (s.motorSupply a on).core = s.core := by simp [State.motorSupply]

/-! The discovery and what BOOT_COMPLETE reports. -/

@[simp] theorem core_found (s : State) (kind idx outcome value : Nat) :
    (s.found kind idx outcome value).core = s.core := by simp [State.found]
@[simp] theorem core_foundSegment (s : State) (i : Nat) (f : Option Found) :
    (s.foundSegment i f).core = s.core := by simp [State.foundSegment]
@[simp] theorem core_foundLed (s : State) (i : Nat) (f : Option Found) :
    (s.foundLed i f).core = s.core := by simp [State.foundLed]
@[simp] theorem core_neighbourTests (s : State) (fs : List Found) :
    (s.neighbourTests fs).core = s.core := by simp [State.neighbourTests]
@[simp] theorem core_foundCoil (s : State) (i : Nat) (f : Option Found) :
    (s.foundCoil i f).core = s.core := by simp [State.foundCoil]
@[simp] theorem core_foundGauge (s : State) (g : Nat) (f : Option Found) :
    (s.foundGauge g f).core = s.core := by
  unfold State.foundGauge
  dsimp only
  split <;> simp
@[simp] theorem core_foundNode (s : State) (p : Nat) :
    (s.foundNode p).core = s.core := by
  unfold State.foundNode
  split <;> simp
@[simp] theorem core_foundFunctions (s : State) : s.foundFunctions.core = s.core := by
  simp [State.foundFunctions]
@[simp] theorem core_discover (s : State) (fs : List Found) :
    (s.discover fs).core = s.core := by simp [State.discover]

@[simp] theorem core_reportHerbarium (s : State) : s.reportHerbarium.core = s.core := by
  simp [State.reportHerbarium]

end Sys2Proof.Machine

end

section
/-! PROOFS. Covers, supplies and the junction (R23, R130, R580, R581). -/

namespace Sys2Proof.Machine

theorem protect_halts (s : State) (cause : Nat) (off : Bool) (h : cause ≠ 7) (hp : s.mode.p3 = true) :
    (s.protect cause off).core =
      ({ s with mode := .halted, change := none, haltCauses := s.haltCauses ||| (1#16 <<< cause) } : State).core := by
  obtain ⟨bs, halted, same⟩ := core_enterHalted s cause off h
  rw [same hp] at halted
  simpa [State.protect, State.stops, hp] using halted

theorem protect_keeps (s : State) (cause : Nat) (off : Bool) (h : cause ≠ 7) :
    ∃ m c hc bs, (s.protect cause off).core =
      ({ s with mode := m, change := c, haltCauses := hc, breaches := bs } : State).core := by
  unfold State.protect
  split
  · obtain ⟨bs, halted, -⟩ := core_enterHalted s cause off h
    exact ⟨_, _, _, bs, halted⟩
  · exact ⟨s.mode, s.change, s.haltCauses, s.breaches, rfl⟩

theorem getLsbD_cause (hc : BitVec 16) (cause : Nat) (h : cause < 16) :
    (hc ||| (1#16 <<< cause)).getLsbD cause = true := by
  simp [h]

/-- The inputs after one of them changes. -/
theorem getLsbD_inputs (x : BitVec 4) (b k : Nat) (up : Bool) (hb : b < 4) (hk : k < 4) :
    (if up then x ||| (1#4 <<< b) else x &&& ~~~(1#4 <<< b)).getLsbD k = if k = b then up else x.getLsbD k := by
  interval_cases b <;> interval_cases k <;> cases up <;> simp

/-- The covers' inputs once input b shows its new level. -/
def State.coversAt (s : State) (b : Fin 4) (opened : Bool) : BitVec 4 :=
  if opened then s.coverOpen ||| (1#4 <<< (b : Nat)) else s.coverOpen &&& ~~~(1#4 <<< (b : Nat))

/-- Whether some bed's COVER_MASK names an input (R130). -/
def State.guarded (s : State) (b : Fin 4) : Bool := (List.range 4).any fun k => (s.coverMask k).getLsbD b

theorem guarded_iff (s : State) (b : Fin 4) : s.guarded b = true ↔ ∃ k, k < 4 ∧ (s.coverMask k).getLsbD b = true := by
  simp [State.guarded]

/-- A change of a cover told, before any halt. -/
def State.coverTold (s : State) (b : Fin 4) (opened : Bool) : State :=
  let u := { s with coverOpen := s.coversAt b opened }
  u.raiseTo (u.coverCabs b) (u.ev 0x0302 b opened.toNat (w2 0))

theorem Told.beds {s t : State} (h : Told s t) : t.beds = s.beds := (congrArg State.beds h.rest :)

theorem coverTold_told (s : State) (b : Fin 4) (opened : Bool) :
    Told { s with coverOpen := s.coversAt b opened } (s.coverTold b opened) := Told.raiseTo _ _ _

theorem coverTold_core (s : State) (b : Fin 4) (opened : Bool) :
    (s.coverTold b opened).core = ({ s with coverOpen := s.coversAt b opened } : State).core := by
  simp [State.coverTold]

theorem execCoverChanged_eq (s : State) (b : Fin 4) (opened : Bool) (hd : s.mode ≠ .dormant)
    (hb : s.coverOpen.getLsbD b ≠ opened) :
    exec (.coverChanged b opened) s = .next (
      if opened && s.guarded b then (s.coverTold b opened).protect 0 true
      else s.coverTold b opened) := by
  have masks : ∀ k, (s.coverTold b opened).coverMask k = s.coverMask k := fun k => by
    simp only [State.coverMask, State.bed, (coverTold_told s b opened).beds]
  have hor : ¬ (s.mode = .dormant ∨ s.coverOpen.getLsbD b = opened) := by tauto
  show execCoverChanged b opened s = _
  unfold execCoverChanged
  rw [if_neg hor]
  have same : (s.coverTold b opened).guarded b = s.guarded b := by simp only [State.guarded, masks]
  rw [← same]
  rfl

theorem coverChanged_row (s : State) (b : Fin 4) (opened : Bool) (hd : s.mode ≠ .dormant)
    (hb : s.coverOpen.getLsbD b ≠ opened) :
     ∃ t, exec (.coverChanged b opened) s = .next t ∧
       (∀ k, k < 4 → t.coverOpen.getLsbD k = if k = b.val then opened else s.coverOpen.getLsbD k) ∧
       let guards := ∃ k, k < 4 ∧ (s.coverMask k).getLsbD b = true
       ((opened = false ∨ ¬ guards) → Told { s with coverOpen := t.coverOpen } t) ∧
       (opened = true → guards → s.mode.p3 = true → t.mode = .halted ∧ t.haltCauses.getLsbD 0 = true) := by
  have inputs : ∀ t : State, t.coverOpen = s.coversAt b opened →
      ∀ k, k < 4 → t.coverOpen.getLsbD k = if k = b.val then opened else s.coverOpen.getLsbD k := by
    intro t ht k hk
    rw [ht]
    exact getLsbD_inputs _ _ _ _ b.isLt hk
  obtain ⟨hm, -, -, -, -, told, -⟩ := core_iff.1 (coverTold_core s b opened)
  refine ⟨_, execCoverChanged_eq s b opened hd hb, ?_⟩
  dsimp only
  rw [← guarded_iff]
  by_cases hg : (opened && s.guarded b) = true
  · rw [if_pos hg]
    obtain ⟨m, c, hc, bs, kept⟩ := protect_keeps (s.coverTold b opened) 0 true (by decide)
    obtain ⟨-, -, -, -, -, covers, -⟩ := core_iff.1 kept
    refine ⟨inputs _ (covers.trans told), fun h => by simp_all, fun _ _ hp => ?_⟩
    obtain ⟨halted, -, causes, -⟩ :=
      core_iff.1 (protect_halts (s.coverTold b opened) 0 true (by decide) (by rw [hm]; exact hp))
    exact ⟨halted, by rw [causes]; exact getLsbD_cause _ 0 (by decide)⟩
  · rw [if_neg hg]
    exact ⟨inputs _ told, fun _ => told ▸ coverTold_told s b opened, fun ho hk => absurd hg (by simp [ho, hk])⟩

/-! The roles of the axes, on which it depends whether a supply is in use. -/

/-- The role of each axis. -/
@[irreducible] def rolesOf (axes : Tab Axis) (a : Nat) : Nat := (tget {} axes a).role

theorem role_eq (s : State) (a : Nat) : (s.axis a).role = rolesOf s.axes a := by
  unfold rolesOf
  rfl

@[simp] theorem roles_updAxis (s : State) (a : Nat) (f : Axis → Axis) (h : ∀ x, (f x).role = x.role) :
    rolesOf (s.updAxis a f).axes = rolesOf s.axes := by
  funext d
  rw [← role_eq, ← role_eq, axis_updAxis]
  split
  · next e => rw [h, e]
  · rfl

@[simp] theorem roles_ite (c : Prop) [Decidable c] (s t : State) :
    rolesOf (if c then s else t).axes = if c then rolesOf s.axes else rolesOf t.axes := by
  split <;> rfl

@[simp] theorem roles_forEach {α : Type} (f : α → State → State) (h : ∀ x s, rolesOf (f x s).axes = rolesOf s.axes)
    (xs : List α) (s : State) : rolesOf (forEach xs f s).axes = rolesOf s.axes :=
  forEach_keeps (P := fun t : State => rolesOf t.axes = rolesOf s.axes) f (fun x t ht => (h x t).trans ht) xs s rfl

@[simp] theorem roles_inc (s : State) (cls unit idx n : Nat) :
    rolesOf (s.inc cls unit idx n).axes = rolesOf s.axes := by
  rw [inc_eq]

@[simp] theorem roles_setComp (s : State) (k : Nat) (v : Option Cmp) :
    rolesOf (s.setComp k v).axes = rolesOf s.axes := by
  rfl

theorem Told.axes {s t : State} (h : Told s t) : t.axes = s.axes := (congrArg State.axes h.rest :)

@[simp] theorem roles_axisEvent (s : State) (a : Nat) (e : Ev) : rolesOf (s.axisEvent a e).axes = rolesOf s.axes :=
  congrArg rolesOf (Told.raiseTo s _ e).axes

@[simp] theorem role_updPhase (x : Axis) (phB : Bool) (f : Phase → Phase) : (x.updPhase phB f).role = x.role := by
  unfold Axis.updPhase
  split <;> rfl

@[simp] theorem roles_coilTell (s : State) (a : Nat) : rolesOf (s.coilTell a).axes = rolesOf s.axes := by
  simp [State.coilTell]
@[simp] theorem roles_disarmSlots (s : State) (a : Nat) : rolesOf (s.disarmSlots a).axes = rolesOf s.axes := by
  simp [State.disarmSlots]
@[simp] theorem roles_setLost (s : State) (a : Nat) : rolesOf (s.setLost a).axes = rolesOf s.axes := by
  simp [State.setLost]
@[simp] theorem roles_lose (s : State) (a : Nat) : rolesOf (s.lose a).axes = rolesOf s.axes := by
  simp [State.lose]
@[simp] theorem roles_freeze (s : State) (a : Nat) (off on : Bool) :
    rolesOf (s.freeze a off on).axes = rolesOf s.axes := by
  simp [State.freeze, apply_ite Axis.role, Axis.dark]
@[simp] theorem roles_coilFault (s : State) (a : Nat) (phB : Bool) (st sw : Nat) :
    rolesOf (s.coilFault a phB st sw).axes = rolesOf s.axes := by simp [State.coilFault]
@[simp] theorem roles_motorSupply (s : State) (a : Nat) (on : Bool) :
    rolesOf (s.motorSupply a on).axes = rolesOf s.axes := by
  simp [State.motorSupply]

/-! The supplies (R23, R581). -/

theorem supply_setSupply (s : State) (u mv k : Nat) :
    (s.setSupply u mv).supply k = if k = u then { mv := mv, outside := !supplyIn u mv } else s.supply k := by
  simp [State.setSupply, State.supply]

theorem supply_of_supplies {s t : State} (h : t.supplies = s.supplies) (k : Nat) : t.supply k = s.supply k := by
  simp only [State.supply, h]

/-- What the end of power to the store leaves of the supplies, of the mode and of the wake sources. -/
theorem nvsStop_supplies (s : State) : s.nvsStop.supplies = s.supplies := (congrArg State.supplies (nvsStop_frame s) :)
theorem nvsStop_mode (s : State) : s.nvsStop.mode = s.mode := (congrArg State.mode (nvsStop_frame s) :)

theorem tellSupply_told (s : State) (u aux mv : Nat) : Told s (s.tellSupply u aux mv) := by
  unfold State.tellSupply
  split
  · exact Told.raiseTo _ _ _
  · exact Told.refl s

@[simp] theorem core_tellSupply (s : State) (u aux mv : Nat) : (s.tellSupply u aux mv).core = s.core := by
  simp [State.tellSupply]

/-- The motors' supplies feed axes, the others none. -/
theorem fedAxes_lamp (u : Nat) (h : 5 ≤ u) : fedAxes u = [] := by
  simp only [fedAxes, List.filter_eq_nil_iff, List.mem_range, supplyOfAxis, beq_iff_eq]
  omega

/-- Opening a breach leaves one open. -/
theorem breach_open (s : State) (c : Nat) (p : Pos) :
    ∃ x ∈ (s.breach c p).breaches, x.condition = c ∧ x.ended = none := by
  unfold State.breach
  split
  · next h => simpa using h
  · exact ⟨_, List.mem_append_right _ (List.mem_singleton_self _), rfl, rfl⟩

theorem breach_supplies (s : State) (c : Nat) (p : Pos) : (s.breach c p).supplies = s.supplies :=
  (congrArg State.supplies (breach_frame s c p) :)
theorem breach_mode (s : State) (c : Nat) (p : Pos) : (s.breach c p).mode = s.mode :=
  (congrArg State.mode (breach_frame s c p) :)

/-- A supply leaves its limits: read and told, and the motors it feeds stop. -/
def State.supplyLost (s : State) (u : Fin 10) (mv : Nat) : State :=
  let on := (fedAxes u).map fun a => (a, s.bridgesOn a)
  forEach on (fun x s => s.motorSupply x.1 x.2)
    (((if u.val = 0 then s.nvsStop else s).setSupply u mv).tellSupply u 1 mv)

theorem supplyLost_core (s : State) (u : Fin 10) (mv : Nat) :
    (s.supplyLost u mv).core = ((if u.val = 0 then s.nvsStop else s).setSupply u mv).core := by
  refine (core_forEach _ (fun (x : Nat × Bool) s => core_motorSupply s x.1 x.2) _ _).trans ?_
  exact core_tellSupply _ _ _ _

theorem supplyLost_supplies (s : State) (u : Fin 10) (mv : Nat) :
    (s.supplyLost u mv).supplies = (s.setSupply u mv).supplies := by
  obtain ⟨-, -, -, supplies, -⟩ := core_iff.1 (supplyLost_core s u mv)
  rw [supplies]
  split
  · simp only [State.setSupply, nvsStop_supplies]
  · rfl

theorem supplyLost_mode (s : State) (u : Fin 10) (mv : Nat) : (s.supplyLost u mv).mode = s.mode := by
  rw [mode_of_core (supplyLost_core s u mv)]
  split
  · exact nvsStop_mode s
  · rfl

/-- Whether a supply is in use does not change as it leaves its limits. -/
theorem supplyLost_used (s : State) (u : Fin 10) (mv : Nat) : (s.supplyLost u mv).supplyUsed u = s.supplyUsed u := by
  by_cases ends : u.val = 0 ∨ u.val = 9
  · simp only [State.supplyUsed, if_pos ends]
  have started : (if u.val = 0 then s.nvsStop else s) = s := if_neg (by tauto)
  have told : Told (s.setSupply u mv) ((s.setSupply u mv).tellSupply u 1 mv) := tellSupply_told _ _ _ _
  by_cases motor : u.val ≤ 4
  · have roles : rolesOf (s.supplyLost u mv).axes = rolesOf s.axes := by
      unfold State.supplyLost
      rw [started]
      exact (roles_forEach _ (fun (x : Nat × Bool) s => roles_motorSupply s x.1 x.2) _ _).trans
        (congrArg rolesOf told.axes)
    simp only [State.supplyUsed, role_eq, roles, if_neg ends, if_pos motor]
  · have fed : s.supplyLost u mv = (s.setSupply u mv).tellSupply u 1 mv := by
      unfold State.supplyLost
      rw [started, fedAxes_lamp u (by omega)]
      rfl
    simp only [State.supplyUsed, State.configured, State.bed, fed, told.beds, if_neg ends, if_neg motor]
    rfl

/-- SUPPLY_FAULT of a supply that lay within its limits. -/
theorem exec_supplyFault (s : State) (u : Fin 10) (mv : Nat) (out : supplyIn u mv = false)
    (was : (s.supply u).outside = false) :
    exec (.supplyFault u mv) s = .next (
      if s.supplyUsed u && s.mode != .dormant then
        ((s.supplyLost u mv).breach 0 ((s.supplyLost u mv).chanPos 0)).protect 5 true
      else s.supplyLost u mv) := by
  show execSupplyFault u mv s = _
  unfold execSupplyFault
  rw [if_neg (by simp [out, was]), ← supplyLost_used s u mv, ← supplyLost_mode s u mv]
  rfl

/-- What of a supply's fault holds whatever the mode is. -/
theorem supplyFault_row (s : State) (u : Fin 10) (mv : Nat) (out : supplyIn u mv = false)
    (was : (s.supply u).outside = false) :
    ∃ t, exec (.supplyFault u mv) s = .next t ∧ t.supply u = { mv := mv, outside := true } ∧
        (∀ k, k ≠ u.val → t.supply k = s.supply k) ∧
        (s.supplyUsed u = true → s.mode.p3 = true →
          t.mode = .halted ∧ t.haltCauses.getLsbD 5 = true ∧ ∃ x ∈ t.breaches, x.condition = 0 ∧ x.ended = none) := by
  have reads : ∀ t : State, t.supplies = (s.supplyLost u mv).supplies →
      t.supply u = { mv := mv, outside := true } ∧ ∀ k, k ≠ u.val → t.supply k = s.supply k := by
    intro t ht
    have same := fun k => supply_of_supplies (ht.trans (supplyLost_supplies s u mv)) k
    refine ⟨?_, fun k hk => ?_⟩
    · rw [same, supply_setSupply, if_pos rfl, out]
      rfl
    · rw [same, supply_setSupply, if_neg hk]
  refine ⟨_, exec_supplyFault s u mv out was, ?_⟩
  by_cases h : (s.supplyUsed u && s.mode != .dormant) = true
  · rw [if_pos h]
    obtain ⟨m, c, hc, bs, kept⟩ :=
      protect_keeps ((s.supplyLost u mv).breach 0 ((s.supplyLost u mv).chanPos 0)) 5 true (by decide)
    obtain ⟨-, -, -, supplies, -⟩ := core_iff.1 kept
    obtain ⟨own, others⟩ := reads _ (supplies.trans (breach_supplies _ _ _))
    refine ⟨own, others, fun _ hp => ?_⟩
    have p3 : ((s.supplyLost u mv).breach 0 ((s.supplyLost u mv).chanPos 0)).mode.p3 = true := by
      rw [breach_mode, supplyLost_mode]
      exact hp
    obtain ⟨halted, -, causes, -, breaches, -⟩ := core_iff.1 (protect_halts _ 5 true (by decide) p3)
    refine ⟨halted, by rw [causes]; exact getLsbD_cause _ 5 (by decide), ?_⟩
    rw [breaches]
    exact breach_open _ _ _
  · rw [if_neg h]
    obtain ⟨own, others⟩ := reads _ rfl
    refine ⟨own, others, fun hu hp => absurd ?_ h⟩
    cases hm : s.mode <;> simp_all [Mode.p3]

/-- A supply is within its limits again, before what a return of VIN12 wakes. -/
def State.supplyBack (s : State) (u : Fin 10) (mv : Nat) : State :=
  let t := (s.setSupply u mv).tellSupply u 0 mv
  forEach (fedAxes u) (fun a s => s.coilTell a) (if t.suppliesGood then t.breachEnd 0 (t.chanPos 0) else t)

theorem supplyBack_core (s : State) (u : Fin 10) (mv : Nat) :
    ∃ bs, (s.supplyBack u mv).core = ({ s.setSupply u mv with breaches := bs } : State).core := by
  have told := core_tellSupply (s.setSupply u mv) u 0 mv
  have axes := core_forEach (fun a (s : State) => s.coilTell a) (fun a s => core_coilTell s a) (fedAxes u)
  unfold State.supplyBack
  dsimp only
  split
  · exact ⟨_, (axes _).trans (core_withBreaches _ told)⟩
  · exact ⟨_, (axes _).trans told⟩

/-- SUPPLY_RETURN of a supply that lay outside its limits. -/
theorem exec_supplyReturn (s : State) (u : Fin 10) (mv : Nat) (inside : supplyIn u mv = true)
    (was : (s.supply u).outside = true) :
    exec (.supplyReturn u mv) s =
      .next (if u.val = 0 then (s.supplyBack u mv).wakeDormant else s.supplyBack u mv) := by
  show execSupplyReturn u mv s = _
  unfold execSupplyReturn
  rw [if_pos ⟨inside, was⟩]
  rfl

/-- VIN12 within its limits in DORMANT with a wake latched begins BOOT; anywhere else it wakes nothing. -/
theorem wakeDormant_eq (s : State) (h : (s.supply 0).outside = false) :
    s.wakeDormant = if s.mode = .dormant ∧ s.wakeLatch ≠ 0 then s.wakeBoot else s := by
  simp [State.wakeDormant, h]

theorem wakeBoot_leaves (s : State) :
    s.wakeBoot.mode = .boot ∧ s.wakeBoot.wakeCause = s.wakeLatch ∧ s.wakeBoot.supplies = s.supplies := ⟨rfl, rfl, rfl⟩

theorem supplyReturn_row (s : State) (u : Fin 10) (mv : Nat) (inside : supplyIn u mv = true)
    (was : (s.supply u).outside = true) :
    ∃ t, exec (.supplyReturn u mv) s = .next t ∧ t.supply u = { mv := mv, outside := false } ∧
        (s.mode ≠ .dormant ∨ s.wakeLatch = 0 ∨ u.val ≠ 0 → t.mode = s.mode) ∧
        (s.mode = .dormant → s.wakeLatch ≠ 0 → u.val = 0 → t.mode = .boot ∧ t.wakeCause = s.wakeLatch) ∧
        ∀ k, k ≠ u.val → t.supply k = s.supply k := by
  obtain ⟨bs, kept⟩ := supplyBack_core s u mv
  obtain ⟨mode, -, -, supplies, -, -, -, -, -, -, latch, -⟩ := core_iff.1 kept
  have own : (s.supplyBack u mv).supply u = { mv := mv, outside := false } := by
    rw [supply_of_supplies supplies]
    exact (supply_setSupply s u mv u).trans (by rw [if_pos rfl, inside]; rfl)
  have others : ∀ k, k ≠ u.val → (s.supplyBack u mv).supply k = s.supply k := by
    intro k hk
    rw [supply_of_supplies supplies]
    exact (supply_setSupply s u mv k).trans (if_neg hk)
  refine ⟨_, exec_supplyReturn s u mv inside was, ?_⟩
  by_cases wakes : s.mode = .dormant ∧ s.wakeLatch ≠ 0 ∧ u.val = 0
  · obtain ⟨hd, hl, hu⟩ := wakes
    have started : (s.supplyBack u mv).wakeDormant = (s.supplyBack u mv).wakeBoot := by
      rw [wakeDormant_eq _ (by rw [← hu, own])]
      exact if_pos ⟨mode.trans hd, by rw [latch]; exact hl⟩
    obtain ⟨boot, cause, kept⟩ := wakeBoot_leaves (s.supplyBack u mv)
    rw [if_pos hu, started]
    refine ⟨(supply_of_supplies kept _).trans own, fun h => by tauto, fun _ _ _ => ⟨boot, cause.trans latch⟩,
      fun k hk => (supply_of_supplies kept k).trans (others k hk)⟩
  · have stays : (if u.val = 0 then (s.supplyBack u mv).wakeDormant else s.supplyBack u mv) = s.supplyBack u mv := by
      split
      · next hu =>
        rw [wakeDormant_eq _ (by rw [← hu, own])]
        exact if_neg fun h => wakes ⟨mode.symm.trans h.1, fun hl => h.2 (latch.trans hl), hu⟩
      · rfl
    rw [stays]
    exact ⟨own, fun _ => mode, fun hd hl hu => absurd ⟨hd, hl, hu⟩ wakes, others⟩

/-! The junction (R580). -/

/-- The highest sensor of a reading. -/
theorem junctionMax_read (s : State) (j0 j1 j2 j3 : Int)
    (h : ∀ k, tget 0 s.junction k = tget 0 [(0, j0), (1, j1), (2, j2), (3, j3)] k) :
    s.junctionMax = max (max j0 j1) (max j2 j3) := by
  have sensors : s.junctionMax = max (max (max j0 j1) j2) j3 := by
    simp only [State.junctionMax, List.range, List.range.loop, List.foldl, h, tget]
    simp
  rw [sensors, max_assoc]

theorem tget_absent {α : Type} (d : α) (t : Tab α) (i : Nat) (h : i ∉ t.map Prod.fst) : tget d t i = d := by
  induction t with
  | nil => rfl
  | cons e t ih =>
    obtain ⟨k, v⟩ := e
    simp only [List.map_cons, List.mem_cons, not_or] at h
    simp [tget, Ne.symm h.1, ih h.2]

/-- Leaving out entries at the default changes nothing that is read, where no key stands twice. -/
theorem tget_filter_default {α : Type} [DecidableEq α] (d : α) (t : Tab α) (h : (t.map Prod.fst).Nodup) (i : Nat) :
    tget d (t.filter fun x => x.2 ≠ d) i = tget d t i := by
  induction t with
  | nil => rfl
  | cons e t ih =>
    obtain ⟨k, v⟩ := e
    obtain ⟨fresh, rest⟩ := List.nodup_cons.1 h
    by_cases hv : v = d
    · have dropped : ((k, v) :: t).filter (fun x => x.2 ≠ d) = t.filter fun x => x.2 ≠ d := by simp [hv]
      rw [dropped, ih rest]
      by_cases hk : k = i
      · subst hk
        simp [tget, hv, tget_absent d t k fresh]
      · simp [tget, hk]
    · have kept : ((k, v) :: t).filter (fun x => x.2 ≠ d) = (k, v) :: t.filter fun x => x.2 ≠ d := by simp [hv]
      rw [kept, tget, tget, ih rest]

/-- The four sensors, those that read 0 left out of the table. -/
def sensors (j0 j1 j2 j3 : Int) : Tab Int := ([(0, j0), (1, j1), (2, j2), (3, j3)] : Tab Int).filter fun x => x.2 ≠ 0

theorem tget_sensors (j0 j1 j2 j3 : Int) (k : Nat) :
    tget 0 (sensors j0 j1 j2 j3) k = tget 0 [(0, j0), (1, j1), (2, j2), (3, j3)] k :=
  tget_filter_default 0 [(0, j0), (1, j1), (2, j2), (3, j3)] (by simp) k

/-- The junction warning (R580): counted and told once, until it is armed again. -/
def State.junctionWarned (s : State) (js : Tab Int) : State :=
  let s := { s with junction := js }
  let j := s.junctionMax
  let s := if 1680 ≤ j ∧ s.warnArmed then
      ({ s with warnArmed := false }.inc 0x0E 0 8 1).tellJunction [0] 0x0B03 0
    else s
  if j < 1600 then { s with warnArmed := true } else s

@[simp] theorem core_tellJunction (s : State) (cs : List Nat) (code aux : Nat) :
    (s.tellJunction cs code aux).core = s.core := by
  simp [State.tellJunction]

theorem junctionWarned_leaves (s : State) (js : Tab Int) (j : Int)
    (hj : ({ s with junction := js } : State).junctionMax = j) :
    (s.junctionWarned js).mode = s.mode ∧ (s.junctionWarned js).junction = js ∧
      (s.junctionWarned js).limitUp = s.limitUp ∧
      (s.junctionWarned js).warnArmed = (if 1680 ≤ j then false else if j < 1600 then true else s.warnArmed) ∧
      (s.junctionWarned js).ctr 0x0E 0 8 = s.ctr 0x0E 0 8 + (if 1680 ≤ j ∧ s.warnArmed = true then 1 else 0) := by
  by_cases warn : 1680 ≤ j ∧ s.warnArmed = true
  · let u : State := { s with junction := js, warnArmed := false }
    have told : s.junctionWarned js = (u.inc 0x0E 0 8 1).tellJunction [0] 0x0B03 0 := by
      simp only [State.junctionWarned, hj, if_pos warn]
      exact if_neg (by omega)
    obtain ⟨mode, -, -, -, -, -, junction, armed, limit, warned, -⟩ :=
      core_iff.1 (core_tellJunction (u.inc 0x0E 0 8 1) [0] 0x0B03 0)
    have count : (u.inc 0x0E 0 8 1).ctr 0x0E 0 8 = s.ctr 0x0E 0 8 + 1 := by
      rw [ctr_inc, if_pos ⟨rfl, rfl, rfl, rfl⟩]
      rfl
    have other := inc_eq u 0x0E 0 8 1
    rw [told, if_pos warn, if_pos warn.1]
    exact ⟨mode.trans (congrArg State.mode other :), junction.trans (congrArg State.junction other :),
      limit.trans (congrArg State.limitUp other :), armed.trans (congrArg State.warnArmed other :), warned.trans count⟩
  · have quiet : s.junctionWarned js =
        { s with junction := js, warnArmed := if j < 1600 then true else s.warnArmed } := by
      simp only [State.junctionWarned, hj, if_neg warn]
      split <;> rfl
    rw [quiet, if_neg warn]
    refine ⟨rfl, rfl, rfl, ?_, (BitVec.add_zero _).symm⟩
    by_cases high : 1680 ≤ j
    · have low : ¬ j < 1600 := by omega
      simpa [high, low] using fun h => warn ⟨high, h⟩
    · rw [if_neg high]

/-- The junction limit (R580): it stands above 112 degC, and is told and halts; below 100 degC it falls. -/
def State.junctionLimited (s : State) (j : Int) : State :=
  if 1792 < j ∧ !s.limitUp then ({ s with limitUp := true }.tellJunction s.enabledCabs 0x0B08 1).protect 4 true
  else if j < 1600 ∧ s.limitUp then { s with limitUp := false }.tellJunction s.enabledCabs 0x0B08 0
  else s

theorem junctionLimited_leaves (s : State) (j : Int) :
    (s.junctionLimited j).junction = s.junction ∧ (s.junctionLimited j).warnArmed = s.warnArmed ∧
      (s.junctionLimited j).ctr 0x0E 0 8 = s.ctr 0x0E 0 8 ∧
      (s.junctionLimited j).limitUp = (if 1792 < j then true else if j < 1600 then false else s.limitUp) ∧
      (1792 < j → s.limitUp = false → s.mode.p3 = true →
        (s.junctionLimited j).mode = .halted ∧ (s.junctionLimited j).haltCauses.getLsbD 4 = true) ∧
      (j ≤ 1792 → (s.junctionLimited j).mode = s.mode) := by
  by_cases above : 1792 < j ∧ s.limitUp = false
  · let u : State := { s with limitUp := true }.tellJunction s.enabledCabs 0x0B08 1
    have stands : s.junctionLimited j = u.protect 4 true := if_pos (by simpa using above)
    obtain ⟨mode, -, -, -, -, -, junction, armed, limit, warned, -⟩ :=
      core_iff.1 (core_tellJunction { s with limitUp := true } s.enabledCabs 0x0B08 1)
    obtain ⟨m, c, hc, bs, kept⟩ := protect_keeps u 4 true (by decide)
    obtain ⟨-, -, -, -, -, -, junction', armed', limit', warned', -⟩ := core_iff.1 kept
    rw [stands, if_pos above.1]
    refine ⟨junction'.trans junction, armed'.trans armed, warned'.trans warned, limit'.trans limit, fun _ _ hp => ?_,
      fun h => by omega⟩
    obtain ⟨halted, -, causes, -⟩ := core_iff.1 (protect_halts u 4 true (by decide) (mode ▸ hp))
    exact ⟨halted, by rw [causes]; exact getLsbD_cause _ 4 (by decide)⟩
  · have first : ¬ (1792 < j ∧ (!s.limitUp) = true) := by simpa using above
    by_cases falls : j < 1600 ∧ s.limitUp = true
    · have told : s.junctionLimited j = { s with limitUp := false }.tellJunction s.enabledCabs 0x0B08 0 :=
        (if_neg first).trans (if_pos falls)
      obtain ⟨mode, -, -, -, -, -, junction, armed, limit, warned, -⟩ :=
        core_iff.1 (core_tellJunction { s with limitUp := false } s.enabledCabs 0x0B08 0)
      rw [told, if_neg (by omega), if_pos falls.1]
      exact ⟨junction, armed, warned, limit, fun h => by omega, fun _ => mode⟩
    · have stays : s.junctionLimited j = s := (if_neg first).trans (if_neg falls)
      rw [stays]
      refine ⟨rfl, rfl, rfl, ?_, fun h hl => absurd ⟨h, hl⟩ above, fun _ => rfl⟩
      split
      · next h => exact Bool.eq_true_of_not_eq_false fun hl => above ⟨h, hl⟩
      · split
        · next h => exact Bool.eq_false_of_not_eq_true fun hl => falls ⟨h, hl⟩
        · rfl

/-- JUNCTION_READ outside DORMANT. -/
theorem exec_junctionRead (s : State) (j0 j1 j2 j3 : Int) (hd : s.mode ≠ .dormant) :
    exec (.junctionRead j0 j1 j2 j3) s = .next ((s.junctionWarned (sensors j0 j1 j2 j3)).junctionLimited
      ({ s with junction := sensors j0 j1 j2 j3 } : State).junctionMax) := by
  show execJunctionRead j0 j1 j2 j3 s = _
  unfold execJunctionRead
  rw [if_neg hd]
  rfl

theorem junctionRead_row (s : State) (j0 j1 j2 j3 : Int) (hd : s.mode ≠ .dormant) :
      let j := max (max j0 j1) (max j2 j3)
      ∃ t, exec (.junctionRead j0 j1 j2 j3) s = .next t ∧
        tget 0 t.junction 0 = j0 ∧ tget 0 t.junction 1 = j1 ∧ tget 0 t.junction 2 = j2 ∧ tget 0 t.junction 3 = j3 ∧
        t.warnArmed = (if 105 * 16 ≤ j then false else if j < 100 * 16 then true else s.warnArmed) ∧
        t.limitUp = (if 112 * 16 < j then true else if j < 100 * 16 then false else s.limitUp) ∧
        t.ctr 0x0E 0 8 = s.ctr 0x0E 0 8 + (if 105 * 16 ≤ j ∧ s.warnArmed = true then 1 else 0) ∧
        (112 * 16 < j → s.limitUp = false → s.mode.p3 = true → t.mode = .halted ∧ t.haltCauses.getLsbD 4 = true) ∧
        (j ≤ 112 * 16 → t.mode = s.mode) := by
  dsimp only
  have hj := junctionMax_read { s with junction := sensors j0 j1 j2 j3 } j0 j1 j2 j3 (tget_sensors j0 j1 j2 j3)
  refine ⟨_, exec_junctionRead s j0 j1 j2 j3 hd, ?_⟩
  rw [hj]
  generalize max (max j0 j1) (max j2 j3) = j at hj ⊢
  obtain ⟨mode, junction, limit, armed, count⟩ := junctionWarned_leaves s (sensors j0 j1 j2 j3) j hj
  obtain ⟨junction', armed', count', limit', halts, stays⟩ :=
    junctionLimited_leaves (s.junctionWarned (sensors j0 j1 j2 j3)) j
  rw [mode, limit] at halts
  simp only [junction'.trans junction, tget_sensors]
  exact ⟨rfl, rfl, rfl, rfl, armed'.trans armed, limit'.trans (limit ▸ rfl), count'.trans count, halts,
    fun h => (stays h).trans mode⟩

/-- Settles O29, row by row: what a row tells touches nothing the statement names, and a halt changes of it only the
mode and the cause. -/
theorem coversSuppliesAndJunction : Obligations.CoversSuppliesAndJunction :=
  ⟨coverChanged_row, fun s u mv => ⟨supplyFault_row s u mv, supplyReturn_row s u mv⟩, junctionRead_row⟩

end Sys2Proof.Machine

end

section
/-! PROOFS. BOOT_COMPLETE (R32, R424, R425). -/

namespace Sys2Proof.Machine

theorem rollback_markSlot (s : State) (k mark j : Nat) :
    ((s.markSlot k mark).fwOf j).rollback = (s.fwOf j).rollback := by
  have first : ∀ t : Tab FwSlot,
      (tget {} (tupd {} t k fun x => { x with mark }) j).rollback = (tget {} t j).rollback := by
    intro t
    rw [tget_tupd]
    split
    · next h => rw [h]
    · rfl
  have other : ∀ t : Tab FwSlot,
      (tget {} (tupd {} t (1 - k) fun x => if x.mark = 2 then { x with mark := 0 } else x) j).rollback =
        (tget {} t j).rollback := by
    intro t
    rw [tget_tupd]
    split
    · next h =>
      rw [h]
      split <;> rfl
    · rfl
  unfold State.markSlot
  dsimp only
  split
  · exact (other _).trans (first _)
  · exact first _

/-- BOOT_CONTROL is written, or, VIN12 outside its limits, the marks are as before (R567, R578). -/
theorem core_writeBootControl (s : State) (was : Tab FwSlot) :
    (s.writeBootControl was).core =
      ({ s with fw := if (s.supply 0).outside then was else s.fw } : State).core := by
  unfold State.writeBootControl
  split <;> simp

theorem core_tellWatchdog (s : State) : s.tellWatchdog.core = ({ s with wdPending := none } : State).core := by
  unfold State.tellWatchdog
  split
  · simp
  · next h => simp [h]

/-- A firmware on trial is kept and raises the rollback floor (R424, R425). -/
theorem core_keepTrial (s : State) : ∃ fw, s.keepTrial.core = ({ s with
    fw := fw, fwTrial := false,
    rollbackFloor := if s.fwTrial then max s.rollbackFloor (s.fwOf s.fwSlot).rollback else s.rollbackFloor } :
      State).core := by
  unfold State.keepTrial
  split
  · next trial =>
    let u := s.markSlot s.fwSlot 2
    have fw : (u.writeBootControl s.fw).fw = if (u.supply 0).outside then s.fw else u.fw := by
      obtain ⟨-, -, -, -, -, -, -, -, -, -, -, fw, -⟩ := core_iff.1 (core_writeBootControl u s.fw)
      exact fw
    have rollback : ∀ k, ((u.writeBootControl s.fw).fwOf k).rollback = (s.fwOf k).rollback := by
      intro k
      show (tget {} (u.writeBootControl s.fw).fw k).rollback = _
      rw [fw]
      split
      · rfl
      · exact rollback_markSlot s s.fwSlot 2 k
    have written : (u.writeBootControl s.fw).core = ({ s with fw := (u.writeBootControl s.fw).fw } : State).core :=
      (core_writeBootControl u s.fw).trans (by rw [fw]; rfl)
    refine ⟨(u.writeBootControl s.fw).fw, core_iff.2 ?_⟩
    obtain ⟨h1, h2, h3, h4, h5, h6, h7, h8, h9, h10, h11, h12, slot, -, h15, floor, h17⟩ := core_iff.1 written
    have raised : max (u.writeBootControl s.fw).rollbackFloor
          ((u.writeBootControl s.fw).fwOf (u.writeBootControl s.fw).fwSlot).rollback =
        max s.rollbackFloor (s.fwOf s.fwSlot).rollback := by
      rw [floor, slot, rollback]
    exact ⟨h1, h2, h3, h4, h5, h6, h7, h8, h9, h10, h11, h12, slot, rfl, h15, raised, h17⟩
  · next kept => exact ⟨s.fw, by simp [kept]⟩

/-- BOOT_COMPLETE once the trial has been decided: IDLE, and what was left to report. -/
theorem core_bootReported (s : State) : ((s.enterMode .idle 1).tellWatchdog.reportHerbarium).core =
    ({ s with mode := .idle, change := none, wdPending := none } : State).core := by
  refine (core_reportHerbarium _).trans ((core_tellWatchdog _).trans ?_)
  obtain ⟨h1, h2, h3, h4, h5, h6, h7, h8, h9, h10, h11, h12, h13, h14, h15, h16, -⟩ :=
    core_iff.1 (core_enterMode s .idle 1)
  exact core_iff.2 ⟨h1, h2, h3, h4, h5, h6, h7, h8, h9, h10, h11, h12, h13, h14, h15, h16, rfl⟩

/-- Settles O25: of BOOT_COMPLETE's steps only the change of mode, the keeping of a trial and the watchdog's report
touch what the statement names. -/
theorem bootCompletes : Obligations.BootCompletes := by
  intro s found boot up
  have answered : exec (.bootComplete found) s = .next
      (((s.discover found).keepTrial.enterMode .idle 1).tellWatchdog.reportHerbarium) := by
    show execBootComplete found s = _
    exact congrArg Host.Outcome.next (if_pos ⟨boot, up⟩)
  obtain ⟨-, -, -, -, -, -, -, -, -, -, -, fw, slot, trial, charter, floor, -⟩ := core_iff.1 (core_discover s found)
  obtain ⟨fw', kept⟩ := core_keepTrial (s.discover found)
  obtain ⟨-, -, -, -, -, -, -, -, -, -, -, -, -, trial', charter', floor', -⟩ := core_iff.1 kept
  obtain ⟨mode, change, -, -, -, -, -, -, -, -, -, -, -, trial'', charter'', floor'', reported⟩ :=
    core_iff.1 (core_bootReported (s.discover found).keepTrial)
  dsimp only at trial' charter' floor' mode change trial'' charter'' floor'' reported
  refine ⟨_, answered, mode, change, trial''.trans trial', reported, charter''.trans (charter'.trans charter),
    floor''.trans (floor'.trans ?_)⟩
  simp only [trial, floor, slot, State.fwOf, fw]

end Sys2Proof.Machine

end

section
/-! PROOFS. Checkpoints of the ledger (R23, R26). -/

namespace Sys2Proof.Machine

/-- `t` is `s` but for what writing to the Herbarium may change: its words, what is being written, the failing pages, and
the free values taken. -/
def Stored (s t : State) : Prop :=
  ({ t with nvs := s.nvs, nvsWrites := s.nvsWrites, nvsBad := s.nvsBad, free := s.free } : State) = s

theorem Stored.refl (s : State) : Stored s s := rfl

theorem Stored.trans {s t u : State} (h : Stored s t) (k : Stored t u) : Stored s u := by
  have k' := congrArg (fun x : State =>
    { x with nvs := s.nvs, nvsWrites := s.nvsWrites, nvsBad := s.nvsBad, free := s.free }) k
  exact k'.trans h

theorem Stored.beginRecord (s : State) (r : NvsRecord) : Stored s (s.beginRecord r) := rfl

theorem Stored.of_words {s t : State}
    (h : ({ t with nvs := s.nvs, nvsWrites := s.nvsWrites, nvsBad := s.nvsBad } : State) = s) : Stored s t := by
  have k := congrArg (fun x : State => { x with free := s.free }) h
  exact k

theorem Stored.writePage (s : State) (page : Nat) (bytes : List Byte) (gen : Nat) :
    Stored s (s.writePage page bytes gen) := .of_words (writePage_frame s page bytes gen)

theorem Stored.takeFree (s : State) (n : Nat) : Stored s { s with free := n } := rfl

theorem Stored.freePage (s : State) (page gen : Nat) : Stored s (s.freePage page gen) :=
  (Stored.takeFree s (s.free + 63)).trans (Stored.writePage _ page _ gen)

theorem Stored.forEach {α : Type} (f : α → State → State) (h : ∀ x s, Stored s (f x s)) (xs : List α) (s : State) :
    Stored s (Machine.forEach xs f s) :=
  forEach_keeps (P := Stored s) f (fun x t ht => ht.trans (h x t)) xs s (Stored.refl s)

/-- A checkpoint that is written (R23, R26): what the Herbarium holds apart, its number, its place and the breaches left. -/
theorem writeCheckpoint_eq (s : State) (closing : Bool) (up : s.fwUp = true) (awake : s.mode ≠ .dormant)
    (good : (s.supply 0).outside = false) :
    ∃ u, Stored s u ∧ s.writeCheckpoint closing = { u with
      checkpointNo := s.checkpointNo + 1, checkpoints := (s.checkpointOf closing :: u.checkpoints).take 256,
      breaches := u.breaches.filter fun b => b.ended.isNone } := by
  have open_ : (!s.fwUp || s.mode == .dormant || (s.supply 0).outside) = false := by simp [up, awake, good]
  unfold State.writeCheckpoint
  rw [open_]
  exact ⟨_, (Stored.beginRecord s _).trans (Stored.forEach _ (fun i s => Stored.freePage s _ _) _ _), rfl⟩

/-- What a store of the Herbarium leaves of the fields that LEDGER_CHECKPOINT's row speaks of. -/
theorem Stored.checkpoints {s t : State} (h : Stored s t) : t.checkpoints = s.checkpoints :=
  (congrArg State.checkpoints h :)
theorem Stored.breaches {s t : State} (h : Stored s t) : t.breaches = s.breaches := (congrArg State.breaches h :)
theorem Stored.mode {s t : State} (h : Stored s t) : t.mode = s.mode := (congrArg State.mode h :)
theorem Stored.docs {s t : State} (h : Stored s t) : t.docs = s.docs := (congrArg State.docs h :)
theorem Stored.streams {s t : State} (h : Stored s t) : t.streams = s.streams := (congrArg State.streams h :)
theorem Stored.counters {s t : State} (h : Stored s t) : t.counters = s.counters := (congrArg State.counters h :)

/-- Settles O24: beside the checkpoint, its number and the breaches, a checkpoint changes the Herbarium's pages alone. -/
theorem checkpointWritten : Obligations.CheckpointWritten := by
  intro s up awake good
  obtain ⟨u, stored, written⟩ := writeCheckpoint_eq s false up awake good
  refine ⟨_, s.checkpointOf false, congrArg Host.Outcome.next written, congrArg _ (congrArg _ stored.checkpoints), rfl, rfl,
    rfl, rfl, rfl, rfl, rfl, rfl, rfl, rfl, fun x => ?_, stored.mode, stored.docs, stored.streams, stored.counters⟩
  simp [stored.breaches]

end Sys2Proof.Machine

end

section
/-! PROOFS. Device resets (R25, R27, R567, R582, R607 to R609). -/

namespace Sys2Proof.Machine

/-- What is true of a table's default and of each of its entries is true of what it reads as. -/
theorem tget_of_forall {α : Type} (P : α → Prop) (d : α) (hd : P d) (t : Tab α) (h : ∀ e ∈ t, P e.2) (i : Nat) :
    P (tget d t i) := by
  induction t with
  | nil => exact hd
  | cons e t ih =>
    obtain ⟨k, v⟩ := e
    rw [tget]
    split
    · exact h _ List.mem_cons_self
    · exact ih fun x hx => h x (List.mem_cons_of_mem _ hx)

/-- A device reset empties every event ring and ends every cabinet reset. -/
theorem deviceReset_cab (s : State) (c : Nat) :
    (s.deviceReset.cab c).ring = {} ∧ (s.deviceReset.cab c).resetting = none := by
  refine tget_of_forall (fun x : Cab => x.ring = {} ∧ x.resetting = none) {} ⟨rfl, rfl⟩ s.deviceReset.cabs ?_ c
  intro e he
  obtain ⟨⟨d, x⟩, -, kept⟩ := List.mem_filterMap.1 he
  dsimp only at kept
  split at kept
  · cases kept
  · obtain rfl := Option.some.inj kept
    exact ⟨rfl, rfl⟩

/-- A device reset leaves of a bed what its stores hold. -/
theorem deviceReset_bed (s : State) (b : Nat) :
    (s.deviceReset.bed b).segMask = 0 ∧ (s.deviceReset.bed b).refSet = {} ∧ (s.deviceReset.bed b).queue = [] := by
  refine tget_of_forall (fun x : Bed => x.segMask = 0 ∧ x.refSet = {} ∧ x.queue = []) {} ⟨rfl, rfl, rfl⟩
    s.deviceReset.beds ?_ b
  intro e he
  obtain ⟨⟨d, x⟩, -, kept⟩ := List.mem_filterMap.1 he
  dsimp only at kept
  split at kept
  · cases kept
  · obtain rfl := Option.some.inj kept
    exact ⟨rfl, rfl, rfl⟩

theorem ResetFrom.deviceReset (s : State) : ResetFrom s s.deviceReset where
  mode := rfl
  fresh := rfl
  epoch := rfl
  oldEpoch := rfl
  fw := rfl
  ownerKey := rfl
  floors := ⟨rfl, rfl⟩
  accSeq := rfl
  breaches := rfl
  inputs := ⟨rfl, rfl, rfl, rfl, rfl⟩
  node := ⟨rfl, rfl⟩
  rings := deviceReset_cab s
  beds := deviceReset_bed s
  chans _ := ⟨rfl, rfl⟩

/-- The breaches that a reset leaves, by what it reads of the state (`State.resetBreaches`). -/
def breachesLeft (bs : List Breach) (up : Bool) (p : Pos) (now : Nat) : List Breach :=
  let ended := bs.map fun b => if b.condition = 1 ∧ b.ended.isNone then { b with ended := some (p, now) } else b
  if up = true ∧ ¬ ended.any (fun b => b.condition = 2 ∧ b.ended.isNone) = true then
    ended ++ [{ condition := 2, beganAt := p, beganTime := now, ended := none }]
  else ended

theorem resetBreaches_eq (s : State) : s.resetBreaches = breachesLeft s.breaches s.fwUp (s.chanPos 0) s.now := by
  by_cases up : s.fwUp = true
  · have left : s.resetBreaches = ((s.breachEnd 1 (s.chanPos 0)).breach 2 (s.chanPos 0)).breaches := if_pos up
    rw [left, up]
    unfold State.breach breachesLeft
    split
    · next stands => exact (if_neg fun h => h.2 stands).symm
    · next none => exact (if_pos ⟨rfl, none⟩).symm
  · exact (if_neg up).trans (if_neg fun h => up h.1).symm

/-- What a device reset reads of the state and its statement names, on the state of reset. -/
def State.outlasts (s : State) : State :=
  { State.reset with
    epoch := s.epoch, oldEpoch := s.oldEpoch, fw := s.fw, ownerKey := s.ownerKey, charterFloor := s.charterFloor,
    rollbackFloor := s.rollbackFloor, accSeq := s.accSeq,
    breaches := breachesLeft s.breaches s.fwUp (s.chanPos 0) s.now, coverOpen := s.coverOpen,
    gpioIn := s.gpioIn, blank := s.blank, perst := s.perst, encs := s.encs, runNext := s.runNext }

/-- A reset is one from every state that agrees in what outlasts it. -/
theorem ResetFrom.of_outlasts {s u t : State} (h : ResetFrom u t) (k : u.outlasts = s.outlasts) : ResetFrom s t where
  mode := h.mode
  fresh := h.fresh
  epoch := h.epoch.trans (congrArg State.epoch k :)
  oldEpoch := h.oldEpoch.trans (congrArg State.oldEpoch k :)
  fw := h.fw.trans (congrArg State.fw k :)
  ownerKey := h.ownerKey.trans (congrArg State.ownerKey k :)
  floors := ⟨h.floors.1.trans (congrArg State.charterFloor k :), h.floors.2.trans (congrArg State.rollbackFloor k :)⟩
  accSeq := h.accSeq.trans (congrArg State.accSeq k :)
  breaches := by
    rw [h.breaches, resetBreaches_eq, resetBreaches_eq]
    exact (congrArg State.breaches k :)
  inputs := by
    obtain ⟨covers, gpio, blank, perst, encs⟩ := h.inputs
    exact ⟨covers.trans (congrArg State.coverOpen k :), gpio.trans (congrArg State.gpioIn k :),
      blank.trans (congrArg State.blank k :), perst.trans (congrArg State.perst k :), encs.trans (congrArg State.encs k :)⟩
  node := by
    obtain ⟨next, now⟩ := h.node
    exact ⟨next.trans (congrArg State.runNext k :), now.trans (congrArg State.runNext k :)⟩
  rings := h.rings
  beds := h.beds
  chans := h.chans

theorem Stored.outlasts {s t : State} (h : Stored s t) : t.outlasts = s.outlasts := (congrArg State.outlasts h :)

/-- Of what outlasts a reset, a checkpoint changes the breaches alone. -/
theorem writeCheckpoint_outlasts (s : State) (closing : Bool) :
    (s.writeCheckpoint closing).outlasts = ({ s with
      breaches := if !s.fwUp || s.mode == .dormant || (s.supply 0).outside then s.breaches
        else s.breaches.filter fun b => b.ended.isNone } : State).outlasts := by
  by_cases shut : (!s.fwUp || s.mode == .dormant || (s.supply 0).outside) = true
  · rw [if_pos shut]
    exact congrArg State.outlasts (if_pos shut)
  · obtain ⟨⟨up, awake⟩, good⟩ : (s.fwUp = true ∧ s.mode ≠ .dormant) ∧ (s.supply 0).outside = false := by
      simpa using shut
    obtain ⟨u, stored, written⟩ := writeCheckpoint_eq s closing up awake good
    rw [written, if_neg shut]
    have k := congrArg (fun x : State =>
      ({ x with breaches := u.breaches.filter fun b => b.ended.isNone } : State).outlasts) stored
    rw [stored.breaches] at k ⊢
    exact k

theorem Served.outlasts {s t : State} (h : Served s t) : t.outlasts = s.outlasts := (congrArg State.outlasts h.rest :)

/-- A closing checkpoint before a reset, or none where BOOT has failed, leaves the same behind in every state that serving
commands leads to. -/
theorem Served.closed_outlasts {s t : State} (h : Served s t) :
    (if t.bootFailed then t else t.writeCheckpoint true).outlasts =
      (if s.bootFailed then s else s.writeCheckpoint true).outlasts := by
  have failed : t.bootFailed = s.bootFailed := (congrArg State.bootFailed h.rest :)
  rw [failed]
  split
  · exact h.outlasts
  · rw [writeCheckpoint_outlasts, writeCheckpoint_outlasts]
    exact (congrArg (fun x : State => ({ x with
      breaches := if !x.fwUp || x.mode == .dormant || (x.supply 0).outside then x.breaches
        else x.breaches.filter fun b => b.ended.isNone } : State).outlasts) h.rest :)

/-! DEV.RESET. -/

/-- What an accepted command leaves is what follows its answer, on a state that has only been served. -/
theorem commitCmd_after (cmd : Cmd) (r : Req) (s : State) :
    ∃ x, Served (cmd.commit ({ s with turn := r.cab }.inc 8 r.cab 0 1) r).s x ∧ commitCmd cmd r s = cmd.after x :=
  ⟨_, (Served.deliver _ _ _).trans (Served.answer _ _ _ _), rfl⟩

/-- With no command rung, as after a device reset, nothing is settled. -/
theorem settled_deviceReset (s : State) : s.deviceReset.settled = s.deviceReset := rfl

theorem devReset_row (m : Fin 257) (n : Fin 4) (s : State) (c : Nat) (h : Accepts devReset m n s c) :
    ∃ t, exec (.devReset m n) s = .next t ∧ ResetFrom (if s.bootFailed then s else s.writeCheckpoint true) t := by
  obtain ⟨x, served, committed⟩ := commitCmd_after devReset (s.reqOf m n c) s
  have answered : Served s x :=
    (Served.withTurn s _).trans ((Served.inc _ _ 0 1 (by decide)).trans served)
  have reset : runCommand devReset m n s =
      (if x.bootFailed then x else x.writeCheckpoint true).deviceReset := by
    rw [runCommand_accepts h, committed]
    exact settled_deviceReset _
  exact ⟨_, congrArg Host.Outcome.next reset, (ResetFrom.deviceReset _).of_outlasts answered.closed_outlasts⟩

/-! Power and RESET_N. -/

theorem nvsStop_incarnation (s : State) : s.nvsStop.incarnation = s.incarnation :=
  (congrArg State.incarnation (nvsStop_frame s) :)
theorem nvsStop_fwUp (s : State) : s.nvsStop.fwUp = s.fwUp := (congrArg State.fwUp (nvsStop_frame s) :)
theorem resetNAssert_row (w : Nat) (s : State) : (w < 100 → exec (.resetNAssert w) s = .next s) ∧
    (1000 ≤ w → ∃ t, exec (.resetNAssert w) s = .next t ∧ ResetFrom s.nvsStop t ∧ t.supplies = s.supplies ∧
      t.incarnation = if s.mode = .dormant then s.incarnation + 1 else s.incarnation) := by
  constructor
  · intro short
    show execResetNAssert w s = _
    unfold execResetNAssert
    rw [if_neg (by omega), if_pos short]
  · intro long
    refine ⟨s.nvsStop.resetNow, congrArg Host.Outcome.next (if_pos long), ?_, nvsStop_supplies s, ?_⟩
    · obtain ⟨mode, fresh, epoch, oldEpoch, fw, ownerKey, floors, accSeq, breaches, inputs, node, rings, beds, chans⟩ :=
        ResetFrom.deviceReset s.nvsStop
      exact ⟨mode, fresh, epoch, oldEpoch, fw, ownerKey, floors, accSeq, breaches, inputs, node, rings, beds, chans⟩
    · show (if s.nvsStop.mode = .dormant then s.nvsStop.incarnation + 1 else s.nvsStop.incarnation) = _
      rw [nvsStop_mode, nvsStop_incarnation]

/-- A reading of a supply after a device reset leaves it one. -/
theorem ResetFrom.setSupply {s t : State} (h : ResetFrom s t) (u mv : Nat) : ResetFrom s (t.setSupply u mv) := by
  obtain ⟨mode, fresh, epoch, oldEpoch, fw, ownerKey, floors, accSeq, breaches, inputs, node, rings, beds, chans⟩ := h
  exact ⟨mode, fresh, epoch, oldEpoch, fw, ownerKey, floors, accSeq, breaches, inputs, node, rings, beds, chans⟩

theorem vin12Collapse_row (s : State) (awake : s.mode ≠ .dormant) :
    let u := s.draw.nvsStop
    ∃ t, exec .vin12Collapse s = .next t ∧ ResetFrom (if s.fwUp then u.breach 0 (u.chanPos 0) else u) t ∧
      (t.supply 0).outside = true ∧ t.incarnation = s.incarnation := by
  have up : s.draw.nvsStop.fwUp = s.fwUp := nvsStop_fwUp s.draw
  have low : supplyIn 0 (s.drawn.toNat % 9500) = false := by
    have below : s.drawn.toNat % 9500 < 9500 := Nat.mod_lt _ (by decide)
    simp only [supplyIn, supplyRange, inR]
    simp
    omega
  refine ⟨_, (congrArg Host.Outcome.next (if_neg awake) :), ?_⟩
  dsimp only
  rw [up]
  refine ⟨(ResetFrom.deviceReset _).setSupply 0 _, ?_, ?_⟩
  · rw [supply_setSupply, if_pos rfl, low]
    rfl
  · have kept : s.draw.nvsStop.incarnation = s.incarnation := nvsStop_incarnation s.draw
    show (if s.fwUp = true then _ else _ : State).incarnation = _
    split
    · exact (congrArg State.incarnation (breach_frame _ _ _) :).trans kept
    · exact kept

/-- A breach that ends is not open. -/
theorem breachEnd_ended (s : State) (c : Nat) (p : Pos) :
    ∀ x ∈ (s.breachEnd c p).breaches, x.condition = c → x.ended ≠ none := by
  intro x hx hc
  obtain ⟨b, -, rfl⟩ := List.mem_map.1 hx
  split at hc
  · next h => simp [h]
  · next h =>
    rw [if_neg h]
    intro hn
    exact h ⟨hc, by rw [hn]; rfl⟩

theorem powerUp_row (s : State) (bad : List Nat) :
    ∃ t, exec (.powerUp bad) s = .next t ∧ ResetFrom s.nvsStop { t with breaches := s.nvsStop.resetBreaches } ∧
      (∀ x ∈ t.breaches, x.condition = 0 → x.ended ≠ none) ∧ (t.supply 0).outside = false ∧
      (t.supply 9).outside = false ∧ t.nvsBad = bad ∧ t.incarnation = s.incarnation + 1 := by
  have vin : supplyIn 0 (10800 + s.nvsStop.drawn.toNat % 2401) = true := by
    have below : s.nvsStop.drawn.toNat % 2401 < 2401 := Nat.mod_lt _ (by decide)
    simp only [supplyIn, supplyRange, inR]
    simp
    omega
  have vao : supplyIn 9 (3000 + s.nvsStop.draw.drawn.toNat % 601) = true := by
    have below : s.nvsStop.draw.drawn.toNat % 601 < 601 := Nat.mod_lt _ (by decide)
    simp only [supplyIn, supplyRange, inR]
    simp
    omega
  refine ⟨_, rfl, ?_, breachEnd_ended _ 0 0, ?_, ?_, rfl, congrArg (· + 1) (nvsStop_incarnation s)⟩
  · obtain ⟨mode, fresh, epoch, oldEpoch, fw, ownerKey, floors, accSeq, breaches, inputs, node, rings, beds, chans⟩ :=
      ResetFrom.deviceReset s.nvsStop
    exact ⟨mode, fresh, epoch, oldEpoch, fw, ownerKey, floors, accSeq, breaches, inputs, node, rings, beds, chans⟩
  · show (State.supply (State.setSupply (State.setSupply _ _ _) _ _) 0).outside = false
    rw [supply_setSupply, if_neg (by decide), supply_setSupply, if_pos rfl, vin]
    rfl
  · show (State.supply (State.setSupply (State.setSupply _ _ _) _ _) 9).outside = false
    rw [supply_setSupply, if_pos rfl, vao]
    rfl

/-- What the Curator's watchdog writes of its core before the reset. -/
def State.watchdogNoted (s : State) : State :=
  if (s.supply 0).outside then s else (s.beginRecord .other).freePage 29680 (s.highGen 29680 1 + 1)

theorem Stored.watchdogNoted (s : State) : Stored s s.watchdogNoted := by
  unfold State.watchdogNoted
  split
  · exact Stored.refl s
  · exact (Stored.beginRecord s _).trans (Stored.freePage _ _ _)

theorem curatorWatchdog_row (s : State) (core : Fin 4) (awake : s.mode ≠ .dormant) (shallow : s.mode ≠ .keep) :
    ∃ t, exec (.curatorWatchdog core) s = .next t ∧ ResetFrom s t ∧ t.wdPending = some (core.val, s.epoch) := by
  have stored := Stored.watchdogNoted s
  let u : State := { s.watchdogNoted with wdPending := some (core.val, s.watchdogNoted.epoch) }
  have reset : exec (.curatorWatchdog core) s = .next u.deviceReset :=
    congrArg Host.Outcome.next (if_neg (by tauto))
  refine ⟨_, reset, (ResetFrom.deviceReset u).of_outlasts stored.outlasts, ?_⟩
  have epoch : s.watchdogNoted.epoch = s.epoch := (congrArg State.epoch stored :)
  show some (core.val, s.watchdogNoted.epoch) = _
  rw [epoch]

/-- Settles O26, row by row: what stands before a reset changes nothing of what outlasts it, but for the breaches. -/
theorem deviceResets : Obligations.DeviceResets :=
  ⟨devReset_row, resetNAssert_row, vin12Collapse_row, powerUp_row, curatorWatchdog_row⟩

end Sys2Proof.Machine

end

section
/-! PROOFS. Commands of the Sahgar set that complete: what a command that only commits leaves (R13, R450 to R461). -/

namespace Sys2Proof.Machine

/-! What answering leaves in a slot. -/

@[simp] theorem slot_inc (s : State) (cls unit idx k m n : Nat) : (s.inc cls unit idx k).slot m n = s.slot m n := by
  rw [inc_eq]
  rfl

@[simp] theorem slot_usbSend (s : State) (o : Out) (m n : Nat) : (s.usbSend o).slot m n = s.slot m n := by
  unfold State.usbSend
  split <;> rfl

@[simp] theorem slot_useSlots (s : State) (c k m n : Nat) : (s.useSlots c k).slot m n = s.slot m n := by
  unfold State.useSlots
  dsimp only
  split
  · exact slot_inc s _ _ _ _ m n
  · exact slot_inc s _ _ _ _ m n

@[simp] theorem slot_signal (s : State) (c v m n : Nat) : (s.signal c v).slot m n = s.slot m n := by
  unfold State.signal
  split
  · exact slot_usbSend _ _ m n
  · split
    · rfl
    · split
      · rfl
      · simp only [State.slot, mbx_updMbx]
        split
        · next h => rw [h]
        · rfl

/-- An answer changes its own slot alone. -/
theorem slot_answer (s : State) (m n : Nat) (resp : List Byte) (m' n' : Nat) :
    (s.answer m n resp).slot m' n' = if m' = m ∧ n' = n then
      { s.slot m n with response := resp, posted := false, done := true, parcel := .absent } else s.slot m' n' := by
  rw [← slot_updSlot s m n m' n' fun x => { x with response := resp, posted := false, done := true, parcel := .absent }]
  unfold State.answer
  dsimp only
  split
  · split
    · simp only [slot_signal, slot_usbSend, slot_useSlots]
      rfl
    · simp only [slot_usbSend, slot_useSlots]
      rfl
  · split
    · rw [slot_signal]
      rfl
    · rfl

theorem rung_useSlots (s : State) (c k : Nat) : (s.useSlots c k).rung = s.rung :=
  (congrArg State.rung (Told.useSlots s c k).rest :)
theorem rung_usbSend (s : State) (o : Out) : (s.usbSend o).rung = s.rung :=
  (congrArg State.rung (Told.usbSend s o).rest :)
theorem rung_signal (s : State) (c v : Nat) : (s.signal c v).rung = s.rung :=
  (congrArg State.rung (Told.signal s c v).rest :)

/-- A command that has been answered is rung no longer. -/
theorem rung_answer (s : State) (m n : Nat) (resp : List Byte) :
    (s.answer m n resp).rung = s.rung.filter (· ≠ 4 * m + n) := by
  unfold State.answer
  dsimp only
  split
  · split
    · rw [rung_signal, rung_usbSend, rung_useSlots]
      rfl
    · rw [rung_usbSend, rung_useSlots]
      rfl
  · split
    · rw [rung_signal]
      rfl
    · rfl

theorem nextCommand_rung (s : State) (k : Nat) (h : s.nextCommand = some k) : k ∈ s.rung := by
  unfold State.nextCommand at h
  split at h
  · cases h
  · obtain ⟨c, -, found⟩ := List.exists_of_findSome?_eq_some h
    cases hk : s.oldest c with
    | none => simp [hk] at found
    | some j =>
      simp only [hk] at found
      have same : j = k := by
        split at found
        · cases found
        · exact Option.some.inj found
      exact same ▸ List.mem_of_find?_eq_some hk

/-- An answer of failure changes its own slot alone, and takes its command from those rung. -/
theorem answerErr_leaves (s : State) (m n : Nat) (c : Option Nat) (e : Err) :
    (s.answerErr m n c e).rung = s.rung.filter (· ≠ 4 * m + n) ∧
      ∀ m' n', ¬ (m' = m ∧ n' = n) → (s.answerErr m n c e).slot m' n' = s.slot m' n' := by
  unfold State.answerErr
  dsimp only
  refine ⟨?_, fun m' n' other => ?_⟩
  · rw [rung_answer]
    split
    · rw [inc_eq, inc_eq]
    · rfl
  · rw [slot_answer, if_neg other]
    split
    · simp only [slot_inc]
      rfl
    · rfl

/-- Settling leaves a slot whose command is not rung. -/
theorem slot_settle (fuel m n : Nat) : ∀ s : State, 4 * m + n ∉ s.rung →
    (State.settle fuel s).slot m n = s.slot m n := by
  induction fuel with
  | zero => intro s _; rfl
  | succ fuel ih =>
    intro s idle
    unfold State.settle
    split
    · rfl
    · next k next =>
      split
      · rfl
      · obtain ⟨rung, others⟩ := answerErr_leaves s (k / 4) (k % 4) (s.cabOfMbx (k / 4)) { code := 0x01, detail := 0 }
        have differs : ¬ (m = k / 4 ∧ n = k % 4) := by
          rintro ⟨hm, hk⟩
          exact idle (by rw [show 4 * m + n = k by omega]; exact nextCommand_rung s k next)
        rw [ih _ (by rw [rung]; exact fun h => idle (List.mem_filter.1 h).1), others m n differs]

/-! What has been sent stays sent. -/

/-- Whatever `s` has sent, `t` has. -/
def Sent (s t : State) : Prop := ∀ o ∈ s.outbox, o ∈ t.outbox

theorem Sent.of_eq {s t : State} (h : t.outbox = s.outbox) : Sent s t := fun _ ho => h.symm ▸ ho

theorem Sent.refl (s : State) : Sent s s := fun _ ho => ho

theorem Sent.trans {s t u : State} (h : Sent s t) (k : Sent t u) : Sent s u := fun o ho => k o (h o ho)

theorem Sent.inc (s : State) (cls unit idx n : Nat) : Sent s (s.inc cls unit idx n) := .of_eq (by rw [inc_eq])

theorem Sent.push (s : State) (o : Out) : Sent s (s.push o) := fun _ ho => List.mem_append_left _ ho

theorem Sent.useSlots (s : State) (m n : Nat) : Sent s (s.useSlots m n) := by
  have counted := Sent.inc s 0x0B (if m = 256 then 1 else 0) 5 n
  unfold State.useSlots
  dsimp only
  split
  · exact counted.trans (.of_eq rfl)
  · exact counted

theorem Sent.usbSend (s : State) (o : Out) : Sent s (s.usbSend o) := by
  unfold State.usbSend
  split
  · exact .of_eq rfl
  · exact Sent.push s o

theorem Sent.signal (s : State) (m v : Nat) : Sent s (s.signal m v) := by
  unfold State.signal
  split
  · exact (Sent.of_eq rfl).trans (Sent.usbSend { s with usbNotes := s.usbNotes + 1 } _)
  · split
    · exact Sent.refl s
    · split
      · exact Sent.push s _
      · exact .of_eq rfl

theorem Sent.answer (s : State) (m n : Nat) (resp : List Byte) : Sent s (s.answer m n resp) := by
  let u := s.updSlot m n fun x => { x with response := resp, posted := false, done := true, parcel := .absent }
  let v := { u with rung := u.rung.filter (· ≠ 4 * m + n) }
  have slot : Sent s v := .of_eq rfl
  unfold State.answer
  dsimp only
  split
  · have told : ∀ o, Sent s ((v.useSlots 256 1).usbSend o) := fun o =>
      slot.trans ((Sent.useSlots v 256 1).trans (Sent.usbSend _ o))
    split
    · exact (told _).trans (Sent.signal _ _ _)
    · exact told _
  · split
    · exact slot.trans (Sent.signal _ _ _)
    · exact slot

theorem Sent.answerErr (s : State) (m n : Nat) (c : Option Nat) (e : Err) : Sent s (s.answerErr m n c e) := by
  unfold State.answerErr
  dsimp only
  refine Sent.trans ?_ (Sent.answer _ m n _)
  split
  · next c => exact (Sent.of_eq (t := { s with turn := c }) rfl).trans ((Sent.inc _ _ _ _ _).trans (Sent.inc _ _ _ _ _))
  · exact Sent.refl s

theorem Sent.settle (fuel : Nat) : ∀ s : State, Sent s (State.settle fuel s) := by
  induction fuel with
  | zero => exact Sent.refl
  | succ fuel ih =>
    intro s
    unfold State.settle
    split
    · exact Sent.refl s
    · split
      · exact Sent.refl s
      · exact (Sent.answerErr s _ _ _ _).trans (ih _)

theorem Sent.forEach {α : Type} (f : α → State → State) (h : ∀ x s, Sent s (f x s)) (xs : List α) (s : State) :
    Sent s (Machine.forEach xs f s) :=
  forEach_keeps (P := Sent s) f (fun x t ht => ht.trans (h x t)) xs s (Sent.refl s)

theorem Sent.hostWrite (s : State) (m : Nat) (a : BitVec 64) (bs : List Byte) : Sent s (s.hostWrite m a bs) := by
  unfold State.hostWrite
  split
  · exact Sent.refl s
  · split
    · exact Sent.forEach _ (fun p t => (Sent.useSlots t _ _).trans (Sent.usbSend _ _)) _ s
    · exact (Sent.useSlots s _ _).trans (Sent.push _ _)

/-- A write of some bytes to a function's host memory is sent. -/
theorem mem_hostWrite (s : State) (m : Nat) (a : BitVec 64) (bs : List Byte) (hm : m < 256) (some_ : bs ≠ []) :
    Out.mem m a bs ∈ (s.hostWrite m a bs).outbox := by
  have sent : s.hostWrite m a bs = (s.useSlots m (ceilDiv bs.length 256)).push (.mem m a bs) := by
    unfold State.hostWrite
    rw [if_neg (by simpa using some_), if_neg (by omega)]
  rw [sent]
  exact List.mem_append_right _ (List.mem_singleton_self _)

/-- Every write of some bytes that a command delivers is sent. -/
theorem mem_deliver (s : State) (m : Nat) (ws : List (Nat × List Byte)) (hm : m < 256) (can : s.canWrite m = true)
    (w : Nat × List Byte) (hw : w ∈ ws) (some_ : w.2 ≠ []) :
    Out.mem m (BitVec.ofNat 64 w.1) w.2 ∈ (s.deliver m ws).1.outbox := by
  have sent : (s.deliver m ws).1 = forEach ws (fun w s => s.hostWrite m (BitVec.ofNat 64 w.1) w.2) s := by
    unfold State.deliver
    rw [if_pos can]
  rw [sent]
  clear can sent
  induction ws generalizing s with
  | nil => cases hw
  | cons x ws ih =>
    rcases List.mem_cons.1 hw with rfl | later
    · exact Sent.forEach _ (fun x t => Sent.hostWrite t _ _ _) ws _ _ (mem_hostWrite s m _ _ hm some_)
    · exact ih _ later

/-! Commands that complete. -/

/-- The state in which an accepted command commits: its cabinet's turn taken, and counted (R461). -/
def State.counted (s : State) (r : Req) : State := { s with turn := r.cab }.inc 8 r.cab 0 1

theorem counted_eq (s : State) (r : Req) : ∃ cs, s.counted r = { s with turn := r.cab, counters := cs } :=
  ⟨_, inc_eq _ 8 r.cab 0 1⟩

theorem Served.counted (s : State) (r : Req) : Served s (s.counted r) :=
  (Served.withTurn s _).trans (Served.inc _ _ 0 1 (by decide))

/-- What a command of the Sahgar set that only commits leaves: its answer, what serving changes after its commit, and
what it wrote to the host's memory. -/
theorem completes_of_commit (cmd : Cmd) (i : Fin 257 → Fin 4 → Instr) (P : Req → State → State → List Byte → Prop)
    (row : ∀ m n s, exec (i m n) s = .next (runCommand cmd m n s)) (plain : cmd.after = id)
    (h : ∀ (m : Fin 257) (n : Fin 4) (s : State) (c : Nat), Accepts cmd m n s c → ∀ t : State,
      let r := s.reqOf m n c
      let d := cmd.commit (s.counted r) r
      Served d.s t →
      (r.m < 256 → d.s.canWrite r.m = true → ∀ w ∈ d.writes, w.2 ≠ [] →
        Out.mem r.m (BitVec.ofNat 64 w.1) w.2 ∈ t.outbox) →
      P r s t d.result) : Completes cmd i P := by
  intro m n s c accepted
  let r := s.reqOf m n c
  let d := cmd.commit (s.counted r) r
  let ws := (if 16 < d.result.length then [(r.result, d.result)] else []) ++ d.writes
  let u := (d.s.deliver r.m ws).1
  let flags := (if 16 < d.result.length then 1 else 0) + if (d.s.deliver r.m ws).2 then 0 else 2
  let v := u.answer r.m r.n (responseBytes r.tag cmd.op 0 flags 0 0 d.result)
  have committed : commitCmd cmd r s = v := by
    unfold commitCmd
    rw [plain]
    rfl
  have served : Served d.s v.settled :=
    ((Served.deliver d.s r.m ws).trans (Served.answer u r.m r.n _)).trans (Served.settled v)
  have lost : flags = (if 16 < d.result.length then 1 else 0) + if !(d.s.deliver r.m ws).2 then 2 else 0 := by
    cases ok : (d.s.deliver r.m ws).2 <;> simp [flags, ok]
  have idle : 4 * r.m + r.n ∉ v.rung := by
    rw [rung_answer]
    simp
  have slot : v.settled.slot r.m r.n = { u.slot r.m r.n with
      response := responseBytes r.tag cmd.op 0 flags 0 0 d.result, posted := false, done := true,
      parcel := .absent } := by
    unfold State.settled
    rw [slot_settle _ _ _ v idle, slot_answer, if_pos ⟨rfl, rfl⟩]
  refine ⟨v.settled, d.result, ?_, ⟨?_, ?_, !(d.s.deliver r.m ws).2, ?_⟩, h m n s c accepted _ served ?_⟩
  · rw [row, runCommand_accepts accepted, committed]
  · rw [slot]
  · rw [slot]
  · rw [slot]
    exact congrArg (fun f => responseBytes r.tag cmd.op 0 f 0 0 d.result) lost
  · intro hm can w hw some_
    exact Sent.settle _ _ _ (Sent.answer _ _ _ _ _ (mem_deliver d.s r.m ws hm can w (List.mem_append_right _ hw) some_))

end Sys2Proof.Machine

end

section
/-! PROOFS. What lists bytes of the state in host memory: RUN.NODES, INV.PARTNERS, INV.READ; and DIAG.RUN (R534, R588,
R589, R598, R599). -/

namespace Sys2Proof.Machine

/-! What an accepted command has passed. -/

theorem firstErr_none {ε : Type} (l : List (Option ε)) (h : firstErr l = none) : ∀ e ∈ l, e = none := by
  induction l with
  | nil => intro e he; cases he
  | cons x l ih =>
    cases x with
    | some _ => simp [firstErr] at h
    | none => simpa using ih h

theorem Accepts.checked {cmd : Cmd} {m : Fin 257} {n : Fin 4} {s : State} {c : Nat} (h : Accepts cmd m n s c) :
    (∀ e ∈ cmd.value s (s.reqOf m n c), e = none) ∧ ∀ e ∈ cmd.resource s (s.reqOf m n c), e = none := by
  obtain ⟨-, -, passed, -⟩ := h
  have all := firstErr_none _ passed
  exact ⟨fun e he => all e (by simp [he]), fun e he => all e (by simp [he])⟩

theorem need_none {ok : Bool} {e : Err} (h : need ok e = none) : ok = true := by
  cases ok
  · cases h
  · rfl

/-- Some bytes remain of a write that its host has made room for. -/
theorem take_ne_nil {α : Type} {l : List α} {n : Nat} (h : l ≠ []) (room : 0 < n) : l.take n ≠ [] := by
  simp [h]
  omega

/-! DIAG.RUN. -/

theorem Served.diag {s t : State} (h : Served s t) : t.diag = s.diag := (congrArg State.diag h.rest :)

theorem counted_diag (s : State) (r : Req) (x : Option Diag) :
    ({ s with diag := x } : State).counted r = { s.counted r with diag := x } := by
  unfold State.counted State.inc
  split <;> rfl

theorem diagRun_completes : Completes diagRun .diagRun (fun r s t _ => Served { s with diag := t.diag } t ∧
    t.diag = some { test := r.u8 0, unit := r.u8 1, arg := BitVec.ofNat 32 (r.u32 4),
                    addr := BitVec.ofNat 64 (r.u64 8), mbx := r.m }) := by
  refine completes_of_commit _ _ _ (fun _ _ _ => rfl) rfl fun m n s c _ t served _ => ?_
  refine ⟨?_, served.diag⟩
  rw [served.diag]
  have counted := fun x => counted_diag s (s.reqOf m n c) x ▸ Served.counted { s with diag := x } (s.reqOf m n c)
  exact (counted _).trans served

/-! Commands that list bytes of the state in host memory. -/

theorem canWrite_counted (s : State) (r : Req) (m : Nat) : (s.counted r).canWrite m = s.canWrite m := by
  obtain ⟨cs, counted⟩ := counted_eq s r
  rw [counted]
  rfl

theorem Completes.imp {cmd : Cmd} {i : Fin 257 → Fin 4 → Instr} {P Q : Req → State → State → List Byte → Prop}
    (h : Completes cmd i P) (k : ∀ r s t res, P r s t res → Q r s t res) : Completes cmd i Q := by
  intro m n s c accepted
  obtain ⟨t, res, stepped, answered, holds⟩ := h m n s c accepted
  exact ⟨t, res, stepped, answered, k _ _ _ _ holds⟩

/-- A command that answers the length of its bytes and writes what its host has room for. -/
theorem completes_of_listing (cmd : Cmd) (i : Fin 257 → Fin 4 → Instr) (f : State → Req → List Byte)
    (addr room : Req → Nat)
    (row : ∀ m n s, exec (i m n) s = .next (runCommand cmd m n s)) (plain : cmd.after = id)
    (commit : ∀ s r, cmd.commit s r =
      { s := s, result := leBytes 4 (f s r).length, writes := [(addr r, (f s r).take (room r))] })
    (fits : ∀ r s, (∀ e ∈ cmd.value s r, e = none) → 0 < room r) :
    Completes cmd i (fun r s t res => (∀ e ∈ cmd.value s r, e = none) ∧
      Served s t ∧ res = leBytes 4 (f (s.counted r) r).length ∧
      (f (s.counted r) r ≠ [] → r.m < 256 → s.canWrite r.m = true →
        Out.mem r.m (BitVec.ofNat 64 (addr r)) ((f (s.counted r) r).take (room r)) ∈ t.outbox)) := by
  refine completes_of_commit cmd i _ row plain fun m n s c accepted t served sent => ?_
  obtain ⟨value, -⟩ := accepted.checked
  simp only [commit] at served sent ⊢
  exact ⟨value, (Served.counted s _).trans served, trivial, fun some_ hm can =>
    sent hm ((canWrite_counted s _ _).trans can) _ (List.mem_singleton_self _) (take_ne_nil some_ (fits _ _ value))⟩

theorem nodeBytes_counted (s : State) (r : Req) (c : Nat) : (s.counted r).nodeBytes c = s.nodeBytes c := by
  obtain ⟨cs, counted⟩ := counted_eq s r
  rw [counted]
  rfl

theorem nodeBytes_ne_nil (s : State) (c : Nat) : s.nodeBytes c ≠ [] := by
  intro h
  have := congrArg List.length h
  simp [State.nodeBytes] at this

theorem runNodes_completes : Completes runNodes .runNodes (fun r s t res =>
    Served s t ∧ res = leBytes 4 (s.nodeBytes r.cab).length ∧
    (r.m < 256 → s.canWrite r.m = true →
      Out.mem r.m (BitVec.ofNat 64 (r.u64 0)) ((s.nodeBytes r.cab).take (r.u32 8)) ∈ t.outbox)) := by
  have listed := completes_of_listing runNodes .runNodes (fun s r => s.nodeBytes r.cab) (fun r => r.u64 0)
    (fun r => r.u32 8) (fun _ _ _ => rfl) rfl (fun _ _ => rfl) fun r s value => by
      have room : 32 ≤ r.u32 8 := by simpa using need_none (value _ (List.mem_singleton_self _))
      omega
  refine listed.imp fun r s t res h => ?_
  simpa only [nodeBytes_counted, ne_eq, nodeBytes_ne_nil, not_false_iff, forall_const] using h.2

theorem partnersOf_counted (s : State) (r : Req) (c : Nat) : (s.counted r).partnersOf c = s.partnersOf c := by
  obtain ⟨cs, counted⟩ := counted_eq s r
  rw [counted]
  rfl

theorem partnersOf_ne_nil (s : State) (c : Nat) : s.partnersOf c ≠ [] := by
  intro h
  have := congrArg List.length h
  simp [State.partnersOf] at this

theorem invPartners_completes : Completes invPartners .invPartners (fun r s t res =>
    Served s t ∧ res = leBytes 4 (s.partnersOf r.cab).length ∧
    (r.m < 256 → s.canWrite r.m = true →
      Out.mem r.m (BitVec.ofNat 64 (r.u64 0)) ((s.partnersOf r.cab).take (r.u32 8)) ∈ t.outbox)) := by
  have listed := completes_of_listing invPartners .invPartners (fun s r => s.partnersOf r.cab) (fun r => r.u64 0)
    (fun r => r.u32 8) (fun _ _ _ => rfl) rfl (fun _ _ => rfl) fun r s value => by
      have room : 16 ≤ r.u32 8 := by simpa using need_none (value _ (List.mem_singleton_self _))
      omega
  refine listed.imp fun r s t res h => ?_
  simpa only [partnersOf_counted, ne_eq, partnersOf_ne_nil, not_false_iff, forall_const] using h.2

/-! INV.READ of the counters as they stand (R589). -/

/-- The number of a flat list's first words. -/
theorem length_flatMap_const {α β : Type} (f : α → List β) (k : Nat) (h : ∀ x, (f x).length = k) (l : List α) :
    (l.flatMap f).length = k * l.length := by
  simp [h, Nat.mul_comm]

/-- Word k of a row of words of one length, behind some others, is read whole. -/
theorem fieldU_flatMap_range (pre : List Byte) (f : Nat → List Byte) (w n k : Nat) (h : ∀ i, (f i).length = w)
    (hk : k < n) : fieldU (pre ++ (List.range n).flatMap f) (pre.length + w * k) w = leNat (f k) := by
  obtain ⟨r, rfl⟩ : ∃ r, n = k + (1 + r) := ⟨n - k - 1, by omega⟩
  have cut : (List.range (k + (1 + r))).flatMap f =
      (List.range k).flatMap f ++ f k ++ (List.range r).flatMap fun i => f (k + (1 + i)) := by
    rw [List.range_add, List.flatMap_append, List.range_add]
    simp [List.flatMap_map, List.range_succ, Nat.add_assoc]
  rw [cut, ← List.append_assoc, ← List.append_assoc]
  refine fieldU_append _ (f k) _ _ w ?_ (h k)
  rw [List.length_append, length_flatMap_const f w h, List.length_range]

theorem length_leInt (n : Nat) (v : Int) : (leInt n v).length = n := length_leBytes n _

theorem length_invHeader (r : Req) (flags epoch : Nat) (pos : Pos) (time : Nat) :
    (invHeader r flags epoch pos time).length = 32 := by simp [invHeader]

theorem length_readings (s : State) : s.readings.length = 19 := by simp [State.readings]

/-- A block of a class holds a word for each of its entries. -/
theorem length_blockOf (s : State) (cls i : Nat) (t : Tab (BitVec 48)) :
    (blockOf cls i t s.readings).length = 8 * (if cls = 15 then 19 else classCount cls) := by
  unfold blockOf
  split
  · rw [length_flatMap_const _ 8 (length_leInt 8), length_readings]
  · rw [length_flatMap_const _ 8 (fun _ => length_leBytes 8 _), List.length_range]

theorem getD_le {l : List Nat} {d b : Nat} (h : ∀ x ∈ l, x ≤ b) (hd : d ≤ b) (i : Nat) : l.getD i d ≤ b := by
  rcases Nat.lt_or_ge i l.length with inside | beyond
  · rw [List.getD_eq_getElem _ _ inside]
    exact h _ (List.getElem_mem inside)
  · rw [List.getD_eq_default _ _ beyond]
    exact hd

theorem classCount_le (cls : Nat) : classCount cls ≤ 28 := getD_le (by decide) (by decide) cls

theorem classUnits_le (cls : Nat) : classUnits cls ≤ 4096 := getD_le (by decide) (by decide) cls

/-- Counting a command leaves the counters of the other classes. -/
theorem ctr_counted (s : State) (r : Req) (cls unit idx : Nat) (h : cls ≠ 8) :
    (s.counted r).ctr cls unit idx = s.ctr cls unit idx := by
  unfold State.counted
  rw [ctr_inc, if_neg fun k => h k.1]
  rfl

/-- The bytes of a counter in a block. -/
theorem fieldU_counter (s : State) (pre : List Byte) (cls i k : Nat) (mon : List Int) (h15 : cls ≠ 15)
    (hi : i < classUnits cls) (hk : k < classCount cls) :
    fieldU (pre ++ blockOf cls i s.counters mon) (pre.length + 8 * k) 8 = (s.ctr cls i k).toNat := by
  have inside : ctrIn i k = true := by
    have := classUnits_le cls
    have := classCount_le cls
    simp only [ctrIn, Bool.and_eq_true, decide_eq_true_eq]
    omega
  have bound := (s.ctr cls i k).isLt
  have read : s.ctr cls i k = tget 0 s.counters (ctrKey cls i k) := if_pos inside
  unfold blockOf
  rw [if_neg h15, fieldU_flatMap_range pre _ 8 _ k (fun _ => length_leBytes 8 _) hk, leNat_leBytes, ← read]
  omega

/-- A block of the counters as they stand, behind its header. -/
theorem invBytes_live (s : State) (r : Req) (h : r.u8 1 = 0) :
    ∃ pre : List Byte, pre.length = 32 ∧ s.invBytes r = pre ++ blockOf (r.u8 0) (r.u16 2) s.counters s.readings :=
  ⟨_, length_invHeader _ _ _ _ _, if_pos h⟩

theorem invRead_completes : Completes invRead .invRead (fun r s t res => r.u8 1 = 0 → Served s t ∧
    ∃ bs, res = leBytes 4 bs.length ∧ bs.length = 32 + 8 * (if r.u8 0 = 15 then 19 else classCount (r.u8 0)) ∧
    (r.u8 0 ≠ 8 → r.u8 0 ≠ 15 → ∀ k, k < classCount (r.u8 0) →
      fieldU bs (32 + 8 * k) 8 = (s.ctr (r.u8 0) (r.u16 2) k).toNat) ∧
    (r.m < 256 → s.canWrite r.m = true →
      Out.mem r.m (BitVec.ofNat 64 (r.u64 8)) (bs.take (r.u32 0x10)) ∈ t.outbox)) := by
  have listed := completes_of_listing invRead .invRead State.invBytes (fun r => r.u64 8) (fun r => r.u32 0x10)
    (fun _ _ _ => rfl) rfl (fun _ _ => rfl) fun r s value => by
      have room : 32 ≤ r.u32 0x10 := by
        simpa using need_none (value (need (decide (32 ≤ r.u32 0x10)) (eValue 0x10)) (by simp [invRead]))
      omega
  refine listed.imp fun r s t res ⟨value, served, answer, sent⟩ now => ?_
  obtain ⟨pre, header, live⟩ := invBytes_live (s.counted r) r now
  have length : ((s.counted r).invBytes r).length = 32 + 8 * (if r.u8 0 = 15 then 19 else classCount (r.u8 0)) := by
    rw [live, List.length_append, header, length_blockOf]
  refine ⟨served, _, answer, length, fun h8 h15 k hk => ?_, sent fun none => ?_⟩
  · have unit : r.u16 2 < classUnits (r.u8 0) := by
      simpa using need_none (value (need (decide (r.u16 2 < classUnits (r.u8 0))) (eValue 2)) (by simp [invRead]))
    rw [live, ← header, fieldU_counter _ _ _ _ _ _ h15 unit hk, ctr_counted s r _ _ _ h8]
  · rw [none, List.length_nil] at length
    omega

end Sys2Proof.Machine

end

section
/-! PROOFS. RUN.READ, RUN.WRITE and RUN.POST (R540 to R542). -/

namespace Sys2Proof.Machine

/-! Requests and posts on the Runner (R540 to R542). Sending a packet keeps what is noted of them. -/

/-- What the commands of the Runner note of their requests and posts; the counter is that of the posts sent, by
cabinet. -/
structure Mail where
  requests : List Request
  posts : List Posted
  postSent : Tab Nat
  counted : Nat → BitVec 48

/-- The mail, its definition closed so that a lemma about it reads the fields as they stand. -/
@[irreducible] def mailOf (requests : List Request) (posts : List Posted) (postSent : Tab Nat)
    (counters : Tab (BitVec 48)) : Mail :=
  ⟨requests, posts, postSent, fun c => if ctrIn c 22 then tget 0 counters (ctrKey 8 c 22) else 0⟩

@[reducible, simp] def State.mail (s : State) : Mail := mailOf s.requests s.posts s.postSent s.counters

theorem mail_iff {s t : State} : s.mail = t.mail ↔ s.requests = t.requests ∧ s.posts = t.posts ∧
    s.postSent = t.postSent ∧ ∀ c, s.ctr 8 c 22 = t.ctr 8 c 22 := by
  simp only [State.mail, mailOf, Mail.mk.injEq, funext_iff]
  rfl

@[simp] theorem mail_inc_class (s : State) (cls unit idx n : Nat) (h : cls ≠ 8) :
    (s.inc cls unit idx n).mail = s.mail := by
  refine mail_iff.2 ⟨?_, ?_, ?_, fun c => ?_⟩
  · rw [inc_eq]
  · rw [inc_eq]
  · rw [inc_eq]
  · rw [ctr_inc, if_neg fun k => h k.1.symm]

@[simp] theorem mail_ite (c : Prop) [Decidable c] (s t : State) :
    (if c then s else t).mail = if c then s.mail else t.mail := by
  split <;> rfl
@[simp] theorem mail_push (s : State) (o : Out) : (s.push o).mail = s.mail := by rfl
@[simp] theorem mail_updVc (s : State) (p v : Nat) (f : Vc → Vc) : (s.updVc p v f).mail = s.mail := by rfl
@[simp] theorem mail_portSend (s : State) (p : Nat) (k : Packet) :
    (s.portSend p k).mail = s.mail := by simp [State.portSend]
@[simp] theorem mail_control (s : State) (p type : Nat) (payload : List Byte) :
    (s.control p type payload).mail = s.mail := by simp [State.control]
@[simp] theorem mail_sendCredit (s : State) (p : Nat) : (s.sendCredit p).mail = s.mail := by simp [State.sendCredit]
@[simp] theorem mail_freeBuf (s : State) (o : Option (Nat × Nat)) : (s.freeBuf o).mail = s.mail := by
  unfold State.freeBuf
  split <;> simp
@[simp] theorem mail_pump (fuel p v : Nat) (s : State) : (State.pump fuel p v s).mail = s.mail := by
  induction fuel generalizing s with
  | zero => rfl
  | succ fuel ih =>
    unfold State.pump
    dsimp only
    split
    · rfl
    · split
      · split <;> simp [ih]
      · split
        · rfl
        · simp [ih]
@[simp] theorem mail_pumped (s : State) (p v : Nat) : (s.pumped p v).mail = s.mail := by
  simp [State.pumped]
@[simp] theorem mail_enqueue (s : State) (p : Nat) (o : Option (Nat × Nat)) (k : Packet) :
    (s.enqueue p o k).mail = s.mail := by simp [State.enqueue]
@[simp] theorem mail_discard (s : State) (o : Option (Nat × Nat)) (k : Packet) : (s.discard o k).mail = s.mail := by
  unfold State.discard
  split <;> simp
@[simp] theorem mail_sendPkt (s : State) (o : Option (Nat × Nat)) (k : Packet) : (s.sendPkt o k).mail = s.mail := by
  unfold State.sendPkt
  split <;> simp

/-! RUN.READ and RUN.WRITE. -/

/-- A request is noted last, with its parameters (R540). -/
theorem request_leaves (s : State) (r : Req) (isRead : Bool) : ∃ q : Request,
    (s.request r isRead).requests = s.requests ++ [q] ∧ q.dest = r.u16 0 ∧ q.cab = r.cab ∧ q.mbx = r.m ∧
      q.tag = r.u16 2 ∧ q.isRead = isRead ∧ q.len = r.u8 4 ∧ q.sent = s.now ∧ q.dropped = false ∧ q.id < 65536 :=
  ⟨_, (mail_iff.1 (mail_sendPkt _ _ _)).1, rfl, rfl, rfl, rfl, rfl, rfl, rfl, rfl, Nat.mod_lt _ (by decide)⟩

theorem Served.requests {s t : State} (h : Served s t) : t.requests = s.requests := (congrArg State.requests h.rest :)
theorem Served.now {s t : State} (h : Served s t) : t.now = s.now := (congrArg State.now h.rest :)

theorem runReadWrite_completes (op : Nat) (isRead : Bool) (i : Fin 257 → Fin 4 → Instr)
    (row : ∀ m n s, exec (i m n) s = .next (runCommand (runReadWrite op isRead) m n s)) :
    Completes (runReadWrite op isRead) i (fun r s t _ => ∃ q : Request, t.requests = s.requests ++ [q] ∧
      q.dest = r.u16 0 ∧ q.cab = r.cab ∧ q.mbx = r.m ∧ q.tag = r.u16 2 ∧ q.isRead = isRead ∧ q.len = r.u8 4 ∧
      q.sent = s.now ∧ q.dropped = false ∧ q.id < 65536) := by
  refine completes_of_commit _ _ _ row rfl fun m n s c _ t served _ => ?_
  have counted := Served.counted s (s.reqOf m n c)
  obtain ⟨q, noted, rest⟩ := request_leaves (s.counted (s.reqOf m n c)) (s.reqOf m n c) isRead
  rw [counted.now] at rest
  exact ⟨q, served.requests.trans (noted.trans (by rw [counted.requests])), rest⟩

/-! RUN.POST. -/

theorem Served.posts {s t : State} (h : Served s t) : t.posts = s.posts := (congrArg State.posts h.rest :)
theorem Served.postSent {s t : State} (h : Served s t) : t.postSent = s.postSent := (congrArg State.postSent h.rest :)

/-- The posts sent are no counter of the commands. -/
theorem Served.posted {s t : State} (h : Served s t) (c : Nat) : t.ctr 8 c 22 = s.ctr 8 c 22 :=
  h.ctr 8 c 22 (by simp [reportCtr]) (by simp [commandCtr])

/-- A post is numbered, noted last and counted (R541). -/
theorem sendPost_leaves (s : State) (r : Req) :
    tget 0 (s.sendPost r).postSent (r.u16 0) = tget 0 s.postSent (r.u16 0) + 1 ∧
    (s.sendPost r).posts =
      s.posts ++ [{ dest := r.u16 0, cab := r.cab, tag := r.u16 2, n := tget 0 s.postSent (r.u16 0) + 1 }] ∧
    (r.cab < 256 → (s.sendPost r).ctr 8 r.cab 22 = s.ctr 8 r.cab 22 + 1) := by
  let n := tget 0 s.postSent (r.u16 0) + 1
  let u : State := { s with
    postSent := tset 0 s.postSent (r.u16 0) n,
    posts := s.posts ++ [{ dest := r.u16 0, cab := r.cab, tag := r.u16 2, n }] }
  obtain ⟨-, posts, sent, counted⟩ := mail_iff.1 (mail_sendPkt (u.inc 8 r.cab 22 1) none
    { type := 0x1A, vc := 1, dest := r.u16 0, payload := leBytes 2 0 ++ leBytes 1 (r.u8 4) ++ leBytes 1 0 ++
        leBytes 4 (r.u32 8) ++ (r.p.drop 0x10).take (r.u8 4) })
  have other := inc_eq u 8 r.cab 22 1
  refine ⟨?_, posts.trans (congrArg State.posts other :), fun low => (counted r.cab).trans ?_⟩
  · rw [show (s.sendPost r).postSent = u.postSent from sent.trans (congrArg State.postSent other :)]
    simp [u, n]
  · rw [ctr_inc, if_pos ⟨rfl, rfl, rfl, by simp [ctrIn]; omega⟩]
    rfl

theorem runPost_completes : Completes runPost .runPost (fun r s t _ =>
    tget 0 t.postSent (r.u16 0) = tget 0 s.postSent (r.u16 0) + 1 ∧
    t.posts = s.posts ++ [{ dest := r.u16 0, cab := r.cab, tag := r.u16 2, n := tget 0 s.postSent (r.u16 0) + 1 }] ∧
    (r.cab < 256 → t.ctr 8 r.cab 22 = s.ctr 8 r.cab 22 + 1)) := by
  refine completes_of_commit _ _ _ (fun _ _ _ => rfl) rfl fun m n s c _ t served _ => ?_
  have counted := Served.counted s (s.reqOf m n c)
  obtain ⟨sent, posts, number⟩ := sendPost_leaves (s.counted (s.reqOf m n c)) (s.reqOf m n c)
  rw [counted.postSent] at sent posts
  rw [counted.posts] at posts
  rw [counted.posted] at number
  refine ⟨?_, served.posts.trans posts, fun low => (served.posted _).trans (number low)⟩
  rw [served.postSent]
  exact sent

end Sys2Proof.Machine

end

section
/-! PROOFS. RUN.CONFIG (R534). -/

namespace Sys2Proof.Machine

/-! The settings of RUN.CONFIG. What the ports of the Runner do keeps them. -/

/-- The settings stored for the next device reset, and those in force. -/
structure Link where
  runNext : RunCfg
  runCfg : RunCfg

/-- The settings, their definition closed so that a lemma about it reads the fields as they stand. -/
@[irreducible] def linkOf (runNext runCfg : RunCfg) : Link := ⟨runNext, runCfg⟩

@[reducible, simp] def State.link (s : State) : Link := linkOf s.runNext s.runCfg

theorem link_iff {s t : State} : s.link = t.link ↔ s.runNext = t.runNext ∧ s.runCfg = t.runCfg := by
  simp only [State.link, linkOf, Link.mk.injEq]

@[simp] theorem link_inc (s : State) (cls unit idx n : Nat) : (s.inc cls unit idx n).link = s.link := by
  rw [inc_eq]

@[simp] theorem link_ite (c : Prop) [Decidable c] (s t : State) :
    (if c then s else t).link = if c then s.link else t.link := by
  split <;> rfl
@[simp] theorem link_forEach {α : Type} (f : α → State → State)
    (h : ∀ x s, (f x s).link = s.link) (xs : List α) (s : State) : (forEach xs f s).link = s.link :=
  forEach_keeps (P := fun t : State => t.link = s.link) f
    (fun x t ht => (h x t).trans ht) xs s rfl
@[simp] theorem link_draw (s : State) : s.draw.link = s.link := by rfl
@[simp] theorem link_updCab (s : State) (c : Nat) (f : Cab → Cab) : (s.updCab c f).link = s.link := by rfl
@[simp] theorem link_updMbx (s : State) (m : Nat) (f : Mbx → Mbx) : (s.updMbx m f).link = s.link := by rfl
@[simp] theorem link_updChan (s : State) (c : Nat) (f : Chan → Chan) : (s.updChan c f).link = s.link := by rfl
@[simp] theorem link_setComp (s : State) (k : Nat) (v : Option Cmp) : (s.setComp k v).link = s.link := by rfl
@[simp] theorem link_updAxis (s : State) (a : Nat) (f : Axis → Axis) : (s.updAxis a f).link = s.link := by rfl
@[simp] theorem link_updSnap (s : State) (k : Nat) (f : Snap → Snap) : (s.updSnap k f).link = s.link := by rfl
@[simp] theorem link_updRing (s : State) (c : Nat) (f : EvRing → EvRing) : (s.updRing c f).link = s.link := by rfl
@[simp] theorem link_push (s : State) (o : Out) : (s.push o).link = s.link := by rfl
@[simp] theorem link_usbSend (s : State) (o : Out) : (s.usbSend o).link = s.link := by
  simp [State.usbSend]
@[simp] theorem link_useSlots (s : State) (m n : Nat) : (s.useSlots m n).link = s.link := by
  unfold State.useSlots
  dsimp only
  split <;> simp
@[simp] theorem link_hostWrite (s : State) (m : Nat) (addr : BitVec 64) (data : List Byte) :
    (s.hostWrite m addr data).link = s.link := by simp [State.hostWrite]
@[simp] theorem link_signal (s : State) (m vector : Nat) :
    (s.signal m vector).link = s.link := by simp [State.signal]
@[simp] theorem link_overflow (s : State) (c cls : Nat) :
    (s.overflow c cls).link = s.link := by simp [State.overflow]
@[simp] theorem link_ringSignal (s : State) (c : Nat) : (s.ringSignal c).link = s.link := by simp [State.ringSignal]
@[simp] theorem link_writeEntry (s : State) (c : Nat) (e : Ev) :
    (s.writeEntry c e).link = s.link := by simp [State.writeEntry]
@[simp] theorem link_raise (s : State) (c : Nat) (e : Ev) : (s.raise c e).link = s.link := by simp [State.raise]
@[simp] theorem link_raiseTo (s : State) (cs : List Nat) (e : Ev) :
    (s.raiseTo cs e).link = s.link := by simp [State.raiseTo]
@[simp] theorem link_updBed (s : State) (b : Nat) (f : Bed → Bed) : (s.updBed b f).link = s.link := by rfl
@[simp] theorem link_missSnap (s : State) (slot cause : Nat) :
    (s.missSnap slot cause).link = s.link := by simp [State.missSnap]
@[simp] theorem link_disarm (s : State) (k : Nat) : (s.disarm k).link = s.link := by
  unfold State.disarm
  split
  · rfl
  · split <;> simp
@[simp] theorem link_axisEvent (s : State) (a : Nat) (e : Ev) :
    (s.axisEvent a e).link = s.link := by simp [State.axisEvent]
@[simp] theorem link_disarmSlots (s : State) (a : Nat) :
    (s.disarmSlots a).link = s.link := by simp [State.disarmSlots]
@[simp] theorem link_gearChanged (s : State) (a : Nat) (r : Ratio) (slave : Int) (master : Pos) :
    (s.gearChanged a r slave master).link = s.link := by simp [State.gearChanged]
@[simp] theorem link_unGear (s : State) (a : Nat) (p : Int) : (s.unGear a p).link = s.link := by simp [State.unGear]
@[simp] theorem link_regear (s : State) (c : Nat) (m : Pos) : (s.regear c m).link = s.link := by
  refine link_forEach _ (fun _ s => ?_) _ s
  split
  · rfl
  · dsimp only
    split
    · rfl
    · split <;> simp
@[simp] theorem link_discontinuity (s : State) (c aux : Nat) :
    (s.discontinuity c aux).link = s.link := by simp [State.discontinuity]
@[simp] theorem link_docFlag (s : State) (acc : Nat) (bits : BitVec 32) :
    (s.docFlag acc bits).link = s.link := by rfl
@[simp] theorem link_updPort (s : State) (n : Nat) (f : Port → Port) : (s.updPort n f).link = s.link := by rfl
@[simp] theorem link_deliver (s : State) (m : Nat) (ws : List (Nat × List Byte)) :
    (s.deliver m ws).1.link = s.link := by
  unfold State.deliver
  split <;> simp
@[simp] theorem link_updVc (s : State) (p v : Nat) (f : Vc → Vc) : (s.updVc p v f).link = s.link := by rfl
@[simp] theorem link_portSend (s : State) (p : Nat) (k : Packet) :
    (s.portSend p k).link = s.link := by simp [State.portSend]
@[simp] theorem link_control (s : State) (p type : Nat) (payload : List Byte) :
    (s.control p type payload).link = s.link := by simp [State.control]
@[simp] theorem link_sendCredit (s : State) (p : Nat) : (s.sendCredit p).link = s.link := by simp [State.sendCredit]
@[simp] theorem link_freeBuf (s : State) (o : Option (Nat × Nat)) : (s.freeBuf o).link = s.link := by
  unfold State.freeBuf
  split <;> simp
@[simp] theorem link_pump (fuel p v : Nat) (s : State) : (State.pump fuel p v s).link = s.link := by
  induction fuel generalizing s with
  | zero => rfl
  | succ fuel ih =>
    unfold State.pump
    dsimp only
    split
    · rfl
    · split
      · split <;> simp [ih]
      · split
        · rfl
        · simp [ih]
@[simp] theorem link_pumped (s : State) (p v : Nat) : (s.pumped p v).link = s.link := by
  simp [State.pumped]
@[simp] theorem link_enqueue (s : State) (p : Nat) (o : Option (Nat × Nat)) (k : Packet) :
    (s.enqueue p o k).link = s.link := by simp [State.enqueue]
@[simp] theorem link_broadcast (s : State) (k : Packet) : (s.broadcast k).link = s.link := by simp [State.broadcast]
@[simp] theorem link_tellPort (s : State) (p : Nat) : (s.tellPort p).link = s.link := by
  simp [State.tellPort]
@[simp] theorem link_setPort (s : State) (p st : Nat) : (s.setPort p st).link = s.link := by simp [State.setPort]
@[simp] theorem link_sendAdvert (s : State) (p : Nat) : (s.sendAdvert p).link = s.link := by simp [State.sendAdvert]
@[simp] theorem link_sendAdverts (s : State) : s.sendAdverts.link = s.link := by
  simp [State.sendAdverts]
@[simp] theorem link_announce (s : State) (was : Option (BitVec 64) × Nat × Nat × Nat × Option Nat × Nat) :
    (s.announce was).link = s.link := by simp [State.announce]
@[simp] theorem link_tellMember (s : State) (op : Nat) (e : List Byte) : (s.tellMember op e).link = s.link := by
  unfold State.tellMember
  split <;> simp
@[simp] theorem link_tellLeave (s : State) (p : Nat) (e : List Byte) : (s.tellLeave p e).link = s.link := by
  unfold State.tellLeave
  split <;> simp
@[simp] theorem link_joinSelf (s : State) : s.joinSelf.link = s.link := by
  simp [State.joinSelf]
@[simp] theorem link_tellNode (s : State) (aux id inc : Nat) :
    (s.tellNode aux id inc).link = s.link := by simp [State.tellNode]
@[simp] theorem link_tellMaster (s : State) (aux : Nat) :
    (s.tellMaster aux).link = s.link := by simp [State.tellMaster]
@[simp] theorem link_learnMaster (s : State) (uid : BitVec 64) : (s.learnMaster uid).link = s.link := by
  unfold State.learnMaster
  split <;> simp
@[simp] theorem link_reanchor (s : State) (c : Nat) : (s.reanchor c).link = s.link := by
  simp [State.reanchor]
@[simp] theorem link_forceAnchor (s : State) (c : Nat) :
    (s.forceAnchor c).link = s.link := by simp [State.forceAnchor]
@[simp] theorem link_portRoles (s : State) : s.portRoles.link = s.link := by
  simp [State.portRoles]
@[simp] theorem link_becomeRoot (s : State) : s.becomeRoot.link = s.link := by rfl
@[simp] theorem link_tellElected (s : State) (hand : Bool) :
    (s.tellElected hand).link = s.link := by simp [State.tellElected]
@[simp] theorem link_beginMerge (s : State) (p : Nat) (master : Bool) (old : Side) :
    (s.beginMerge p master old).link = s.link := by simp [State.beginMerge]
@[simp] theorem link_follow (s : State) (p : Nat) (a : Advert) :
    (s.follow p a).link = s.link := by simp [State.follow]
@[simp] theorem link_chooseRoot (s : State) : s.chooseRoot.link = s.link := by
  unfold State.chooseRoot
  dsimp only
  split
  all_goals
    split
    · simp
    · split <;> simp
@[simp] theorem link_elect (s : State) : s.elect.link = s.link := by simp [State.elect]
@[simp] theorem link_complete (s : State) (q : Request) (response : Bool) (status : Nat) (data : List Byte) :
    (s.complete q response status data).link = s.link := by simp [State.complete]
@[simp] theorem link_undelivered (s : State) (o : Posted) :
    (s.undelivered o).link = s.link := by simp [State.undelivered]
@[simp] theorem link_endTransactions (s : State) (ids : List Nat) :
    (s.endTransactions ids).link = s.link := by simp [State.endTransactions]
@[simp] theorem link_forgetOrigins (s : State) (p : Nat) :
    (s.forgetOrigins p).link = s.link := by simp [State.forgetOrigins]
@[simp] theorem link_clearVcs (s : State) (p : Nat) : (s.clearVcs p).link = s.link := by
  simp [State.clearVcs]
@[simp] theorem link_leaveNodes (s : State) (p : Nat) (ids : List (Nat × Node)) :
    (s.leaveNodes p ids).link = s.link := by simp [State.leaveNodes]
@[simp] theorem link_departNodes (s : State) (p : Nat) :
    (s.departNodes p).link = s.link := by simp [State.departNodes]
@[simp] theorem link_depart (s : State) (p : Nat) : (s.depart p).link = s.link := by
  simp [State.depart]
@[simp] theorem link_afterDepart (s : State) (p : Nat) :
    (s.afterDepart p).link = s.link := by simp [State.afterDepart]

/-! RUN.CONFIG. -/

theorem Served.link {s t : State} (h : Served s t) : t.runNext = s.runNext ∧ t.runCfg = s.runCfg :=
  ⟨(congrArg State.runNext h.rest :), (congrArg State.runCfg h.rest :)⟩

/-- What RUN.CONFIG stores for the next device reset. -/
theorem saveRunCfg_runNext (s : State) (c : RunCfg) :
    (s.saveRunCfg c).runNext = if (s.supply 0).outside then s.runNext else c := by
  unfold State.saveRunCfg
  split <;> rfl

theorem applyEnable_runNext (s : State) (mask : BitVec 4) : (s.applyEnable mask).runNext = s.runNext := by
  unfold State.applyEnable
  exact (link_iff.1 (link_forEach _ (fun p s => by simp) _ s)).1

/-- The settings RUN.CONFIG brings into force at once. -/
theorem runConfig_leaves (s : State) (r : Req) :
    ((runConfig.commit s r).s.runNext = if (s.supply 0).outside then s.runNext else
      { node := some (r.u16 0), priority := r.u8 2, enable := BitVec.ofNat 4 (r.u8 3),
        maxRate := (List.range 4).map fun i => r.u8 (4 + i), retry := r.u32 8, timeout := r.u32 0x0C }) ∧
    (runConfig.commit s r).s.runCfg.enable = BitVec.ofNat 4 (r.u8 3) ∧
    (runConfig.commit s r).s.runCfg.maxRate = ((List.range 4).map fun i => r.u8 (4 + i)) ∧
    (runConfig.commit s r).s.runCfg.retry = r.u32 8 ∧ (runConfig.commit s r).s.runCfg.timeout = r.u32 0x0C :=
  ⟨(applyEnable_runNext _ _).trans (saveRunCfg_runNext s _), rfl, rfl, rfl, rfl⟩

theorem runConfig_completes : Completes runConfig .runConfig (fun r s t _ =>
    t.runNext = (if (s.supply 0).outside then s.runNext else
      { node := some (r.u16 0), priority := r.u8 2, enable := BitVec.ofNat 4 (r.u8 3),
        maxRate := (List.range 4).map fun i => r.u8 (4 + i), retry := r.u32 8, timeout := r.u32 0x0C }) ∧
    t.runCfg.enable = BitVec.ofNat 4 (r.u8 3) ∧ (∀ i, i < 4 → t.runCfg.maxRate.getD i 0 = r.u8 (4 + i)) ∧
    t.runCfg.retry = r.u32 8 ∧ t.runCfg.timeout = r.u32 0x0C) := by
  refine completes_of_commit _ _ _ (fun _ _ _ => rfl) rfl fun m n s c _ t served _ => ?_
  obtain ⟨cs, counted⟩ := counted_eq s (s.reqOf m n c)
  obtain ⟨stored, force⟩ := served.link
  obtain ⟨next, enable, rate, retry, timeout⟩ := runConfig_leaves (s.counted (s.reqOf m n c)) (s.reqOf m n c)
  rw [stored, force, next, enable, rate, retry, timeout, counted]
  refine ⟨rfl, rfl, fun i low => ?_, rfl, rfl⟩
  simp [List.getD, low]

end Sys2Proof.Machine

end

section
/-! PROOFS. INV.SNAP (R592 to R595). -/

namespace Sys2Proof.Machine

/-! The snapshots. What the Runner sends, and what a snapshot carries to the domains, keeps them and the positions. -/

/-- The snapshots, the number of the next, and what the position of a channel is reckoned from. -/
structure Shot where
  snaps : Tab Snap
  snapNext : Nat
  chans : Tab Chan
  now : Nat
  axes : Tab Axis
  holds : Tab Hold

/-- Those fields, the definition closed so that a lemma about it reads them as they stand. -/
@[irreducible] def shotOf (snaps : Tab Snap) (snapNext : Nat) (chans : Tab Chan) (now : Nat) (axes : Tab Axis)
    (holds : Tab Hold) : Shot := ⟨snaps, snapNext, chans, now, axes, holds⟩

@[reducible, simp] def State.shot (s : State) : Shot := shotOf s.snaps s.snapNext s.chans s.now s.axes s.holds

theorem shot_iff {s t : State} : s.shot = t.shot ↔ s.snaps = t.snaps ∧ s.snapNext = t.snapNext ∧ s.chans = t.chans ∧
    s.now = t.now ∧ s.axes = t.axes ∧ s.holds = t.holds := by
  simp only [State.shot, shotOf, Shot.mk.injEq]

@[simp] theorem shot_inc (s : State) (cls unit idx n : Nat) : (s.inc cls unit idx n).shot = s.shot := by
  rw [inc_eq]

@[simp] theorem shot_ite (c : Prop) [Decidable c] (s t : State) :
    (if c then s else t).shot = if c then s.shot else t.shot := by
  split <;> rfl
@[simp] theorem shot_ite_fst {α : Type} (c : Prop) [Decidable c] (x y : State × α) :
    (if c then x else y).1.shot = if c then x.1.shot else y.1.shot := by
  split <;> rfl
@[simp] theorem shot_forEach {α : Type} (f : α → State → State)
    (h : ∀ x s, (f x s).shot = s.shot) (xs : List α) (s : State) : (forEach xs f s).shot = s.shot :=
  forEach_keeps (P := fun t : State => t.shot = s.shot) f
    (fun x t ht => (h x t).trans ht) xs s rfl
@[simp] theorem shot_updMbx (s : State) (m : Nat) (f : Mbx → Mbx) : (s.updMbx m f).shot = s.shot := by rfl
@[simp] theorem shot_updRing (s : State) (c : Nat) (f : EvRing → EvRing) : (s.updRing c f).shot = s.shot := by rfl
@[simp] theorem shot_push (s : State) (o : Out) : (s.push o).shot = s.shot := by rfl
@[simp] theorem shot_usbSend (s : State) (o : Out) : (s.usbSend o).shot = s.shot := by
  simp [State.usbSend]
@[simp] theorem shot_useSlots (s : State) (m n : Nat) : (s.useSlots m n).shot = s.shot := by
  unfold State.useSlots
  dsimp only
  split <;> simp
@[simp] theorem shot_hostWrite (s : State) (m : Nat) (addr : BitVec 64) (data : List Byte) :
    (s.hostWrite m addr data).shot = s.shot := by simp [State.hostWrite]
@[simp] theorem shot_signal (s : State) (m vector : Nat) :
    (s.signal m vector).shot = s.shot := by simp [State.signal]
@[simp] theorem shot_overflow (s : State) (c cls : Nat) :
    (s.overflow c cls).shot = s.shot := by simp [State.overflow]
@[simp] theorem shot_ringSignal (s : State) (c : Nat) : (s.ringSignal c).shot = s.shot := by simp [State.ringSignal]
@[simp] theorem shot_writeEntry (s : State) (c : Nat) (e : Ev) :
    (s.writeEntry c e).shot = s.shot := by simp [State.writeEntry]
@[simp] theorem shot_raise (s : State) (c : Nat) (e : Ev) : (s.raise c e).shot = s.shot := by simp [State.raise]
@[simp] theorem shot_raiseTo (s : State) (cs : List Nat) (e : Ev) :
    (s.raiseTo cs e).shot = s.shot := by simp [State.raiseTo]
@[simp] theorem shot_overrun (s : State) (c domain n : Nat) :
    (s.overrun c domain n).shot = s.shot := by simp [State.overrun]
@[simp] theorem shot_deliveredNow (s : State) (c : Nat) : (s.deliveredNow c).shot = s.shot := by rfl
@[simp] theorem shot_launch (s : State) (c src dst : Nat) : (s.launch c src dst).shot = s.shot := by rfl
@[simp] theorem shot_pulse (s : State) (c src dst : Nat) :
    (s.pulse c src dst).1.shot = s.shot := by simp [State.pulse]
@[simp] theorem shot_updVc (s : State) (p v : Nat) (f : Vc → Vc) : (s.updVc p v f).shot = s.shot := by rfl
@[simp] theorem shot_portSend (s : State) (p : Nat) (k : Packet) :
    (s.portSend p k).shot = s.shot := by simp [State.portSend]
@[simp] theorem shot_control (s : State) (p type : Nat) (payload : List Byte) :
    (s.control p type payload).shot = s.shot := by simp [State.control]
@[simp] theorem shot_sendCredit (s : State) (p : Nat) : (s.sendCredit p).shot = s.shot := by simp [State.sendCredit]
@[simp] theorem shot_freeBuf (s : State) (o : Option (Nat × Nat)) : (s.freeBuf o).shot = s.shot := by
  unfold State.freeBuf
  split <;> simp
@[simp] theorem shot_pump (fuel p v : Nat) (s : State) : (State.pump fuel p v s).shot = s.shot := by
  induction fuel generalizing s with
  | zero => rfl
  | succ fuel ih =>
    unfold State.pump
    dsimp only
    split
    · rfl
    · split
      · split <;> simp [ih]
      · split
        · rfl
        · simp [ih]
@[simp] theorem shot_pumped (s : State) (p v : Nat) : (s.pumped p v).shot = s.shot := by
  simp [State.pumped]
@[simp] theorem shot_enqueue (s : State) (p : Nat) (o : Option (Nat × Nat)) (k : Packet) :
    (s.enqueue p o k).shot = s.shot := by simp [State.enqueue]
@[simp] theorem shot_broadcast (s : State) (k : Packet) : (s.broadcast k).shot = s.shot := by simp [State.broadcast]
@[simp] theorem shot_snapPulse (s : State) (d : Nat) (missed : List Nat) :
    (s.snapPulse d missed).1.shot = s.shot := by simp [State.snapPulse]

/-! INV.SNAP (R592). -/

theorem shot_snapPulses (ds : List Nat) : ∀ x : State × List Nat,
    (ds.foldl (fun (x : State × List Nat) d => x.1.snapPulse d x.2) x).1.shot = x.1.shot := by
  induction ds with
  | nil => exact fun _ => rfl
  | cons d ds ih => exact fun x => (ih _).trans (shot_snapPulse x.1 d x.2)

@[simp] theorem shot_latchAll (s : State) (missed : List Nat) : (s.latchAll missed).shot = s.shot := by rfl

theorem snap_of_shot {s t : State} (h : s.shot = t.shot) (k : Nat) : s.snap k = t.snap k := by
  obtain ⟨snaps, -⟩ := shot_iff.1 h
  simp only [State.snap, snaps]

theorem axisAt_of_shot {s t : State} (h : s.shot = t.shot) (a : Nat) : s.axisAt a = t.axisAt a := by
  obtain ⟨-, -, -, now, axes, holds⟩ := shot_iff.1 h
  unfold State.axisAt State.axis
  rw [now, axes, holds]

theorem chanPos_of_shot {s t : State} (h : s.shot = t.shot) (c : Nat) : s.chanPos c = t.chanPos c := by
  have unit := axisAt_of_shot h
  obtain ⟨-, -, chans, now, -, -⟩ := shot_iff.1 h
  unfold State.chanPos State.chan State.samples
  rw [chans, now]
  simp only [unit]

/-- Who took a snapshot, on which channel, and how far it is: armed (1) or taken (2). -/
def Snap.face (x : Snap) : Nat × Nat × Nat × Nat × Nat := (x.id, x.origin, x.cabinet, x.chan, x.phase)

/-- `t` is `s` with the snapshot of a slot bearing a new face. -/
def SnapAt (slot : Nat) (face : Nat × Nat × Nat × Nat × Nat) (s t : State) : Prop :=
  t.snapNext = s.snapNext ∧ (t.snap slot).face = face ∧ ∀ j, j ≠ slot → t.snap j = s.snap j

theorem SnapAt.face {slot : Nat} {x : Nat × Nat × Nat × Nat × Nat} {s t : State} (h : SnapAt slot x s t) :
    (t.snap slot).face = x := h.2.1

theorem SnapAt.of_updSnap {s t : State} {slot : Nat} {f : Snap → Snap} (h : t.shot = (s.updSnap slot f).shot) :
    SnapAt slot (f (s.snap slot)).face s t := by
  obtain ⟨-, next, -⟩ := shot_iff.1 h
  refine ⟨next, ?_, fun j other => ?_⟩
  · rw [snap_of_shot h, snap_updSnap, if_pos rfl]
  · rw [snap_of_shot h, snap_updSnap, if_neg other]

theorem SnapAt.trans {slot : Nat} {x y : Nat × Nat × Nat × Nat × Nat} {s t u : State} (h : SnapAt slot x s t)
    (k : SnapAt slot y t u) : SnapAt slot y s u := by
  obtain ⟨next, -, others⟩ := h
  obtain ⟨next', face, others'⟩ := k
  exact ⟨next'.trans next, face, fun j other => (others' j other).trans (others j other)⟩

theorem SnapAt.from_shot {slot : Nat} {x : Nat × Nat × Nat × Nat × Nat} {s u t : State} (same : u.shot = s.shot)
    (h : SnapAt slot x u t) : SnapAt slot x s t := by
  obtain ⟨next, face, others⟩ := h
  obtain ⟨-, next', -⟩ := shot_iff.1 same
  exact ⟨next.trans next', face, fun j other => (others j other).trans (snap_of_shot same j)⟩

/-- A snapshot that fires is taken; it and the others are otherwise as they were. -/
theorem takeSnap_leaves (s : State) (slot : Nat) (late : Bool) (id origin cab ch phase : Nat)
    (armed : (s.snap slot).face = (id, origin, cab, ch, phase)) :
    SnapAt slot (id, origin, cab, ch, 2) s (s.takeSnap slot late) := by
  let live := counterDomains.filter fun d => !s.clkStopped d
  let p := live.foldl (fun (x : State × List Nat) d => x.1.snapPulse d x.2) (s, [])
  let u := p.1.latchAll p.2
  have same : u.shot = s.shot := (shot_latchAll _ _).trans (shot_snapPulses live (s, []))
  have taken : SnapAt slot _ u (s.takeSnap slot late) :=
    SnapAt.of_updSnap ((shot_raiseTo _ _ _).trans (shot_inc _ 0x0E 0 11 1))
  rw [snap_of_shot same] at taken
  simp only [Snap.face, Prod.mk.injEq] at armed taken
  obtain ⟨rfl, rfl, rfl, rfl, -⟩ := armed
  exact taken.from_shot same

/-- A snapshot is armed, or taken at once where its target has been reached. -/
theorem armSnap_leaves (s : State) (slot k owner ch dir : Nat) (target : Pos) (x : Snap) :
    SnapAt slot (x.id, x.origin, x.cabinet, ch, if reachedIn dir (s.chanPos ch) target then 2 else 1) s
      (s.armSnap slot k owner ch dir target x) := by
  let u := s.updSnap slot fun _ => { x with phase := 1, chan := ch }
  have armed : SnapAt slot (x.id, x.origin, x.cabinet, ch, 1) s u := SnapAt.of_updSnap rfl
  have pos : u.chanPos ch = s.chanPos ch := rfl
  unfold State.armSnap
  rw [← pos]
  dsimp only
  split
  · have counted : (u.inc 6 ch 5 1).shot = u.shot := shot_inc u 6 ch 5 1
    have face := (congrArg Snap.face (snap_of_shot counted slot)).trans armed.face
    exact armed.trans ((takeSnap_leaves _ slot true _ _ _ _ _ face).from_shot counted)
  · exact armed.trans ⟨rfl, armed.face, fun _ _ => rfl⟩

/-- A slot that a new snapshot takes is one of the eight. -/
theorem snapSlot_lt {s : State} {k : Nat} (h : s.snapSlot = some k) : k < 8 := by
  unfold State.snapSlot at h
  split at h
  · next j found =>
    obtain rfl := Option.some.inj h
    exact List.mem_range.1 (List.mem_of_find?_eq_some found)
  · refine List.foldlRecOn (motive := fun best => ∀ k, best = some k → k < 8) (List.range 8) _
      (fun _ none_ => by cases none_) (fun best ih j mem k oldest => ?_) k h
    have low := List.mem_range.1 mem
    split at oldest
    · exact ih k oldest
    · split at oldest
      · split at oldest
        · exact Option.some.inj oldest ▸ low
        · exact ih k oldest
      · exact Option.some.inj oldest ▸ low

theorem nodeId_of_link {s t : State} (h : s.link = t.link) : s.nodeId = t.nodeId := by
  obtain ⟨-, force⟩ := link_iff.1 h
  simp only [State.nodeId, force]

/-- INV.SNAP on a slot and a comparator that are free. -/
theorem invSnap_leaves (s : State) (r : Req) (slot k : Nat) (free : s.snapSlot = some slot)
    (host : s.freeHost = some k) :
    (invSnap.commit s r).result = leBytes 2 s.nodeId ++ leBytes 1 (s.snapNext % 256) ∧
    SnapAt slot (s.snapNext % 256, s.nodeId, r.cab, r.u8 0,
      if reachedIn (r.u8 1 % 4) (s.chanPos (r.u8 0)) (r.pos 8) then 2 else 1)
      { s with snapNext := s.snapNext + 1 } (invSnap.commit s r).s := by
  let u : State := { s with snapNext := s.snapNext + 1 }
  let body := leBytes 1 (s.snapNext % 256) ++ leBytes 1 (u.masterChan (r.u8 0)) ++ leBytes 1 (r.u8 1 % 8) ++
    leBytes 5 0 ++ leBytes 8 (r.u64 8)
  let v := if bit (r.u8 1) 3 then u.broadcast { type := 0x2A, vc := 3, payload := body } else u
  have same : v.shot = u.shot := by simp [v]
  have node : v.nodeId = s.nodeId := nodeId_of_link (t := u) (by simp [v])
  let x : Snap := { origin := v.nodeId, id := s.snapNext % 256, cabinet := r.cab, isLocal := true }
  have committed : invSnap.commit s r = {
      s := v.armSnap slot k r.cab (r.u8 0) (r.u8 1 % 4) (r.pos 8) x
      result := leBytes 2 v.nodeId ++ leBytes 1 (s.snapNext % 256) } := by
    unfold invSnap
    simp only [free, host]
    rfl
  have armed := armSnap_leaves v slot k r.cab (r.u8 0) (r.u8 1 % 4) (r.pos 8) x
  rw [chanPos_of_shot same] at armed
  rw [committed, ← node]
  exact ⟨rfl, armed.from_shot same⟩

theorem Served.snapNext {s t : State} (h : Served s t) : t.snapNext = s.snapNext := (congrArg State.snapNext h.rest :)

theorem Served.snap {s t : State} (h : Served s t) (k : Nat) : t.snap k = s.snap k :=
  (congrArg (fun u : State => u.snap k) h.rest :)

theorem invSnap_completes : Completes invSnap .invSnap (fun r s t res =>
    res = leBytes 2 s.nodeId ++ leBytes 1 (s.snapNext % 256) ∧
    t.snapNext = s.snapNext + 1 ∧ ∃ k, k < 8 ∧ (t.snap k).id = s.snapNext % 256 ∧ (t.snap k).origin = s.nodeId ∧
      (t.snap k).cabinet = r.cab ∧ (t.snap k).chan = r.u8 0 ∧ (∀ j, j ≠ k → t.snap j = s.snap j) ∧
      (t.snap k).phase = if reachedIn (r.u8 1 % 4) (s.chanPos (r.u8 0)) (r.pos 8) then 2 else 1) := by
  refine completes_of_commit _ _ _ (fun _ _ _ => rfl) rfl fun m n s c accepted t served _ => ?_
  obtain ⟨-, resource⟩ := accepted.checked
  obtain ⟨k, host⟩ := Option.isSome_iff_exists.1 (need_none (resource _ (List.mem_cons_self ..)))
  obtain ⟨slot, free⟩ := Option.isSome_iff_exists.1
    (need_none (resource _ (List.mem_cons_of_mem _ (List.mem_singleton_self _))))
  obtain ⟨cs, counted⟩ := counted_eq s (s.reqOf m n c)
  rw [served.snapNext]
  simp only [served.snap]
  rw [counted]
  obtain ⟨result, next, face, others⟩ := invSnap_leaves
    { s with turn := (s.reqOf m n c).cab, counters := cs } (s.reqOf m n c) slot k free host
  simp only [Snap.face, Prod.mk.injEq] at face
  obtain ⟨id, origin, cab, ch, phase⟩ := face
  exact ⟨result, next, slot, snapSlot_lt free, id, origin, cab, ch, others, phase⟩

end Sys2Proof.Machine

end

section
/-! PROOFS. DIAG.DISCOVER (R32, R132, R259, R260), and the RUN, INV and DIAG families together. -/

namespace Sys2Proof.Machine

/-! DIAG.DISCOVER (R32, R132, R259, R260). -/

/-- What each turn of a loop brings about holds after the loop, where no other turn undoes it. -/
theorem forEach_reaches {α σ : Type} {Q : σ → Prop} {P : α → σ → Prop} (f : α → σ → σ)
    (did : ∀ x s, Q s → Q (f x s) ∧ P x (f x s)) (kept : ∀ x y s, x ≠ y → Q s → P x s → P x (f y s)) (xs : List α) :
    ∀ s, Q s → Q (forEach xs f s) ∧ ∀ x ∈ xs, P x (forEach xs f s) := by
  have stays (x : α) (s : σ) (h : Q s ∧ P x s) (ys : List α) : P x (forEach ys f s) := by
    refine (forEach_keeps (P := fun s => Q s ∧ P x s) f (fun y s ⟨q, p⟩ => ⟨(did y s q).1, ?_⟩) ys s h).2
    by_cases same : x = y
    · exact same ▸ (did y s q).2
    · exact kept x y s same q p
  induction xs with
  | nil => exact fun s q => ⟨q, fun x none_ => by cases none_⟩
  | cons y ys ih =>
    intro s q
    obtain ⟨q', each⟩ := ih (f y s) (did y s q).1
    refine ⟨q', fun x mem => ?_⟩
    rcases List.mem_cons.1 mem with rfl | later
    · exact stays x _ (did x s q) ys
    · exact each x later

/-! The partners of kind 0, the segment interfaces. -/

/-- `t` has the time, the CONFIRM of every axis and the segment interfaces found of `s`. -/
structure SegsKept (s t : State) : Prop where
  now : t.now = s.now
  confirm : ∀ a, (t.axis a).confirm = (s.axis a).confirm
  segs : ∀ i, i < 32 → t.partner 0 i = s.partner 0 i

theorem SegsKept.refl (s : State) : SegsKept s s := ⟨rfl, fun _ => rfl, fun _ _ => rfl⟩

theorem SegsKept.trans {s t u : State} (h : SegsKept s t) (k : SegsKept t u) : SegsKept s u :=
  ⟨k.now.trans h.now, fun a => (k.confirm a).trans (h.confirm a), fun i low => (k.segs i low).trans (h.segs i low)⟩

theorem SegsKept.of_eq {s t : State} (now : t.now = s.now) (axes : t.axes = s.axes)
    (partners : t.partners = s.partners) : SegsKept s t :=
  ⟨now, fun a => by simp only [State.axis, axes], fun i _ => by simp only [State.partner, partners]⟩

theorem SegsKept.forEach {α : Type} (f : α → State → State) (h : ∀ x s, SegsKept s (f x s)) (xs : List α) (s : State) :
    SegsKept s (Machine.forEach xs f s) :=
  forEach_keeps (P := SegsKept s) f (fun x t ht => ht.trans (h x t)) xs s (.refl s)

theorem SegsKept.updAxis (s : State) (a : Nat) (f : Axis → Axis) (h : ∀ x, (f x).confirm = x.confirm) :
    SegsKept s (s.updAxis a f) := by
  refine ⟨rfl, fun d => ?_, fun _ _ => rfl⟩
  rw [axis_updAxis]
  split
  · next same => rw [h, same]
  · rfl

theorem Told.segsKept {s t : State} (h : Told s t) : SegsKept s t :=
  .of_eq (congrArg State.now h.rest :) h.axes (congrArg State.partners h.rest :)

theorem Told.partner {s t : State} (h : Told s t) (k i : Nat) : t.partner k i = s.partner k i :=
  (congrArg (fun u : State => u.partner k i) h.rest :)

theorem found_told (s : State) (kind idx outcome value : Nat) : Told
    { s with partners := tset {} s.partners (partnerKey kind idx) {
        known := true, outcome, value := BitVec.ofNat 32 value, timestamp := s.now,
        node := if kind = 4 ∧ outcome = 1 then value else (tget {} s.partners (partnerKey kind idx)).node } }
    (s.found kind idx outcome value) := by
  unfold State.found
  exact Told.raiseTo _ _ _

/-- What a discovery result leaves of the partners (R33). -/
theorem partner_found (s : State) (kind idx outcome value k i : Nat) :
    (s.found kind idx outcome value).partner k i = if partnerKey k i = partnerKey kind idx then
      { known := true, outcome, value := BitVec.ofNat 32 value, timestamp := s.now,
        node := if kind = 4 ∧ outcome = 1 then value else (tget {} s.partners (partnerKey kind idx)).node }
      else s.partner k i := by
  rw [(found_told s kind idx outcome value).partner]
  simp only [State.partner, tget_tset]

/-- A partner of another kind than a segment interface is found. -/
theorem SegsKept.found (s : State) (kind idx outcome value : Nat) (other : kind ≠ 0) :
    SegsKept s (s.found kind idx outcome value) := by
  have told := found_told s kind idx outcome value
  refine ⟨told.segsKept.now, told.segsKept.confirm, fun i low => ?_⟩
  rw [partner_found, if_neg]
  simp only [partnerKey]
  omega

theorem SegsKept.inc (s : State) (cls unit idx n : Nat) : SegsKept s (s.inc cls unit idx n) := by
  rw [inc_eq]
  exact .of_eq rfl rfl rfl

theorem SegsKept.updBed (s : State) (b : Nat) (f : Bed → Bed) : SegsKept s (s.updBed b f) := .of_eq rfl rfl rfl

theorem SegsKept.foundLed (s : State) (i : Nat) (f : Option Found) : SegsKept s (s.foundLed i f) := by
  unfold State.foundLed
  exact (SegsKept.updBed s _ _).trans (.found _ 1 i _ _ (by decide))

theorem SegsKept.neighbourTests (s : State) (fs : List Found) : SegsKept s (s.neighbourTests fs) := by
  unfold State.neighbourTests
  exact .forEach _ (fun _ s => .updBed s _ _) _ s

theorem SegsKept.foundCoil (s : State) (i : Nat) (f : Option Found) : SegsKept s (s.foundCoil i f) := by
  unfold State.foundCoil
  dsimp only
  refine SegsKept.trans ?_ (SegsKept.found _ 2 i _ _ (by decide))
  refine SegsKept.trans ?_ (SegsKept.updAxis _ _ _ fun x => rfl)
  refine SegsKept.updAxis s _ _ fun x => ?_
  split <;> rfl

theorem SegsKept.updGauge (s : State) (g : Nat) (f : Gauge → Gauge) : SegsKept s (s.updGauge g f) := .of_eq rfl rfl rfl

theorem SegsKept.foundGauge (s : State) (g : Nat) (f : Option Found) : SegsKept s (s.foundGauge g f) := by
  unfold State.foundGauge
  cases f
  all_goals dsimp only
  · exact ((SegsKept.of_eq (s := s) (t := s.draw) rfl rfl rfl).trans (.updGauge _ _ _)).trans
      (.found _ 3 g _ _ (by decide))
  · exact (SegsKept.updGauge s _ _).trans (.found _ 3 g _ _ (by decide))

theorem SegsKept.foundNode (s : State) (p : Nat) : SegsKept s (s.foundNode p) := by
  unfold State.foundNode
  split
  all_goals exact .found s 4 p _ _ (by decide)

theorem SegsKept.foundFunctions (s : State) : SegsKept s s.foundFunctions :=
  .forEach _ (fun f s => .found s 5 f _ _ (by decide)) _ s

/-- The taps of a segment interface that respond, as a mask. -/
def tapMask (responds : Nat → Bool) : Nat := (List.range 4).foldl (fun m t => if responds t then m + 2 ^ t else m) 0

/-- How many of them respond. -/
def tapCount (responds : Nat → Bool) : Nat := ((List.range 4).filter fun t => bit (tapMask responds) t).length

theorem tapCount_eq_four (responds : Nat → Bool) : tapCount responds = 4 ↔ ∀ t, t < 4 → responds t = true := by
  have all : (∀ t, t < 4 → responds t = true) ↔ responds 0 ∧ responds 1 ∧ responds 2 ∧ responds 3 := by
    refine ⟨fun h => ⟨h 0 ?_, h 1 ?_, h 2 ?_, h 3 ?_⟩, fun ⟨h0, h1, h2, h3⟩ t low => ?_⟩
    case refine_5 => interval_cases t <;> assumption
    all_goals decide
  have mask : tapMask responds = (if responds 0 then 1 else 0) + (if responds 1 then 2 else 0) +
      (if responds 2 then 4 else 0) + if responds 3 then 8 else 0 := by
    simp only [tapMask, List.range, List.range.loop, List.foldl]
    split_ifs <;> rfl
  rw [all, tapCount, mask]
  generalize responds 0 = b0, responds 1 = b1, responds 2 = b2, responds 3 = b3
  revert b0 b1 b2 b3
  decide

/-- The outcome of a segment interface by its reference and the taps that respond (R132). -/
def segOutcome (vref : Nat) (responds : Nat → Bool) : Nat :=
  if inR 800 vref 2200 then (if tapCount responds = 4 then 1 else if tapCount responds = 0 then 5 else 2)
  else if tapCount responds = 0 then 3 else 4

theorem segOutcome_eq_one (vref : Nat) (responds : Nat → Bool) :
    segOutcome vref responds = 1 ↔ 800 ≤ vref ∧ vref ≤ 2200 ∧ ∀ t, t < 4 → responds t = true := by
  rw [← tapCount_eq_four, ← and_assoc, ← show inR 800 vref 2200 = true ↔ 800 ≤ vref ∧ vref ≤ 2200 by simp [inR]]
  unfold segOutcome
  split_ifs <;> simp_all

/-- The outcome that a reading gives. -/
def segFound (f : Option Found) : Nat :=
  segOutcome ((readAt f 0 0).toNat % 65536) fun t => tapResponds (readList f (2 * t + 1)) (readList f (2 * t + 2))

/-- A segment interface is found in a state that differs in its bed and a counter. -/
theorem foundSegment_eq (s : State) (i : Nat) (f : Option Found) : ∃ u value,
    s.foundSegment i f = u.found 0 i (segFound f) value ∧ SegsKept s u := by
  refine ⟨_, _, rfl, ?_⟩
  exact (SegsKept.updBed s _ _).trans (.inc _ 2 i 1 1)

/-- A segment interface is found, and nothing else of what the discovery is asked for changes. -/
theorem foundSegment_leaves (s : State) (i : Nat) (f : Option Found) :
    (s.foundSegment i f).now = s.now ∧ (∀ a, ((s.foundSegment i f).axis a).confirm = (s.axis a).confirm) ∧
    ((s.foundSegment i f).partner 0 i).known = true ∧ ((s.foundSegment i f).partner 0 i).timestamp = s.now ∧
    ((s.foundSegment i f).partner 0 i).outcome = segFound f ∧
    ∀ j, j < 32 → j ≠ i → (s.foundSegment i f).partner 0 j = s.partner 0 j := by
  obtain ⟨u, value, found, kept⟩ := foundSegment_eq s i f
  rw [found]
  have told := (found_told u 0 i (segFound f) value).segsKept
  refine ⟨told.now.trans kept.now, fun a => (told.confirm a).trans (kept.confirm a), ?_, ?_, ?_, fun j low other => ?_⟩
  · rw [partner_found, if_pos rfl]
  · rw [partner_found, if_pos rfl]
    exact kept.now
  · rw [partner_found, if_pos rfl]
  · rw [partner_found, if_neg (by simpa [partnerKey] using other)]
    exact kept.segs j low

/-- What the discovery leaves of the segment interfaces and the axes. -/
theorem discover_leaves (s : State) (fs : List Found) :
    (s.discover fs).now = s.now ∧ (∀ a, ((s.discover fs).axis a).confirm = (s.axis a).confirm) ∧
    ∀ i, i < 32 → ((s.discover fs).partner 0 i).known = true ∧ ((s.discover fs).partner 0 i).timestamp = s.now ∧
      ((s.discover fs).partner 0 i).outcome = segFound (readingOf fs 0 i) := by
  let u := forEach (List.range 32) (fun i s => s.foundSegment i (readingOf fs 0 i)) s
  have rest : SegsKept u (s.discover fs) :=
    (((((SegsKept.forEach _ (fun i s => .foundLed s i _) _ u).trans (.neighbourTests _ fs)).trans
      (.forEach _ (fun i s => .foundCoil s i _) _ _)).trans (.forEach _ (fun g s => .foundGauge s g _) _ _)).trans
      (.forEach _ (fun p s => .foundNode s p) _ _)).trans (.foundFunctions _)
  obtain ⟨⟨now, confirm⟩, found⟩ := forEach_reaches
    (Q := fun t => t.now = s.now ∧ ∀ a, (t.axis a).confirm = (s.axis a).confirm)
    (P := fun i t => i < 32 → (t.partner 0 i).known = true ∧ (t.partner 0 i).timestamp = s.now ∧
      (t.partner 0 i).outcome = segFound (readingOf fs 0 i))
    (fun i s => s.foundSegment i (readingOf fs 0 i))
    (fun i t ⟨now, confirm⟩ => by
      obtain ⟨now', confirm', known, stamp, outcome, -⟩ := foundSegment_leaves t i (readingOf fs 0 i)
      exact ⟨⟨now'.trans now, fun a => (confirm' a).trans (confirm a)⟩, fun _ => ⟨known, stamp.trans now, outcome⟩⟩)
    (fun i j t other _ kept low => by
      obtain ⟨-, -, -, -, -, others⟩ := foundSegment_leaves t j (readingOf fs 0 j)
      rw [others i low other]
      exact kept low)
    (List.range 32) s ⟨rfl, fun _ => rfl⟩
  refine ⟨rest.now.trans now, fun a => (rest.confirm a).trans (confirm a), fun i low => ?_⟩
  rw [rest.segs i low]
  exact found i (List.mem_range.2 low) low

/-! The axes whose coils the discovery moves (R259, R260). -/

theorem setLost_now (s : State) (a : Nat) : (s.setLost a).now = s.now := by
  unfold State.setLost
  split
  · rfl
  · refine (congrArg State.now (Told.raiseTo _ _ _).rest :).trans ?_
    rw [inc_eq]
    rfl

theorem axis_of_inc (s : State) (cls unit idx n d : Nat) : (s.inc cls unit idx n).axis d = s.axis d := by
  rw [inc_eq]
  rfl

/-- An axis that loses its position, and the others, which keep theirs. -/
theorem axis_setLost (s : State) (a d : Nat) :
    (s.setLost a).axis d = if d = a then { s.axis a with lost := true } else s.axis d := by
  unfold State.setLost
  split
  · next lost =>
    split
    · next same => rw [same, ← lost]
    · rfl
  · have told (u : State) (e : Ev) : (u.axisEvent a e).axis d = u.axis d :=
      (congrArg (fun v : State => v.axis d) (Told.raiseTo u _ e).rest :)
    rw [told, axis_of_inc]
    exact axis_updAxis s a d _

/-- What a coil check leaves of the axes. -/
theorem coilLost_leaves (s : State) (a : Nat) :
    (s.coilLost a).now = s.now ∧ (∀ d, ((s.coilLost a).axis d).confirm = (s.axis d).confirm) ∧
    (∀ d, d ≠ a → (s.coilLost a).axis d = s.axis d) ∧
    (8000 ≤ (s.supply (1 + a / 2)).mv → if (s.axis a).confirm = true
      then ((s.coilLost a).axis a).confirmAt = some (s.now + 50000000) else ((s.coilLost a).axis a).lost = true) := by
  unfold State.coilLost
  split
  · next low => exact ⟨rfl, fun _ => rfl, fun _ _ => rfl, fun high => absurd low (by omega)⟩
  · split
    · refine ⟨rfl, fun d => ?_, fun d other => ?_, fun _ => ?_⟩
      · rw [axis_updAxis]
        split
        · next same => rw [same]
        · rfl
      · rw [axis_updAxis, if_neg other]
      · rw [axis_updAxis, if_pos rfl]
    · refine ⟨setLost_now s a, fun d => ?_, fun d other => ?_, fun _ => ?_⟩
      · rw [axis_setLost]
        split
        · next same => rw [same]
        · rfl
      · rw [axis_setLost, if_neg other]
      · rw [axis_setLost, if_pos rfl]

@[simp] theorem core_coilLost (s : State) (a : Nat) : (s.coilLost a).core = s.core := by
  simp [State.coilLost]

@[simp] theorem core_coilsLost (s : State) : s.coilsLost.core = s.core := by simp [State.coilsLost]

theorem supply_of_core {s t : State} (h : s.core = t.core) (k : Nat) : s.supply k = t.supply k := by
  obtain ⟨-, -, -, supplies, -⟩ := core_iff.1 h
  exact supply_of_supplies supplies k

theorem coilsLost_axes {s u : State} (core : u.core = s.core) (now : u.now = s.now)
    (confirm : ∀ d, (u.axis d).confirm = (s.axis d).confirm) (a : Nat) (low : a < 8)
    (high : 8000 ≤ (s.supply (1 + a / 2)).mv) : if (s.axis a).confirm = true
      then (u.coilsLost.axis a).confirmAt = some (s.now + 50000000) else (u.coilsLost.axis a).lost = true := by
  obtain ⟨-, each⟩ := forEach_reaches
    (Q := fun t => t.core = s.core ∧ t.now = s.now ∧ ∀ d, (t.axis d).confirm = (s.axis d).confirm)
    (P := fun a t => 8000 ≤ (s.supply (1 + a / 2)).mv → if (s.axis a).confirm = true
      then (t.axis a).confirmAt = some (s.now + 50000000) else (t.axis a).lost = true)
    (fun a s => s.coilLost a)
    (fun a t ⟨core, now, confirm⟩ => by
      obtain ⟨now', confirm', -, checked⟩ := coilLost_leaves t a
      rw [supply_of_core core, now, confirm] at checked
      exact ⟨⟨(core_coilLost t a).trans core, now'.trans now, fun d => (confirm' d).trans (confirm d)⟩, checked⟩)
    (fun a b t other _ kept => by
      obtain ⟨-, -, others, -⟩ := coilLost_leaves t b
      rwa [others a other])
    (List.range 8) u ⟨core, now, confirm⟩
  exact each a (List.mem_range.2 low) high

theorem coilsLost_partner (s : State) (kind i : Nat) : s.coilsLost.partner kind i = s.partner kind i := by
  refine forEach_keeps (P := fun t : State => t.partner kind i = s.partner kind i) _ (fun a t kept => ?_) _ s rfl
  refine Eq.trans ?_ kept
  unfold State.coilLost State.setLost
  split
  · rfl
  · split
    · rfl
    · split
      · rfl
      · refine ((Told.raiseTo _ _ _).partner kind i).trans ?_
        rw [inc_eq]
        rfl

theorem Served.axis {s t : State} (h : Served s t) (a : Nat) : t.axis a = s.axis a :=
  (congrArg (fun u : State => u.axis a) h.rest :)
theorem Served.partner {s t : State} (h : Served s t) (k i : Nat) : t.partner k i = s.partner k i :=
  (congrArg (fun u : State => u.partner k i) h.rest :)
theorem Served.mode {s t : State} (h : Served s t) : t.mode = s.mode := (congrArg State.mode h.rest :)

theorem Served.supply {s t : State} (h : Served s t) (k : Nat) : t.supply k = s.supply k :=
  (congrArg (fun u : State => u.supply k) h.rest :)

/-- What DIAG.DISCOVER leaves, once it has been answered. -/
theorem discover_answered {s t : State} (found : List Found) (served : Served (s.discover found).coilsLost t) :
    t.mode = s.mode ∧ (∀ a, a < 8 → 8000 ≤ (s.supply (1 + a / 2)).mv → if (s.axis a).confirm = true
      then (t.axis a).confirmAt = some (s.now + 50000000) else (t.axis a).lost = true) ∧
    ∀ i, i < 32 → (t.partner 0 i).known = true ∧ (t.partner 0 i).timestamp = s.now ∧
      (t.partner 0 i).outcome = segFound (readingOf found 0 i) := by
  obtain ⟨now, confirm, segments⟩ := discover_leaves s found
  have core := core_discover s found
  refine ⟨?_, fun a low high => ?_, fun i low => ?_⟩
  · exact served.mode.trans ((mode_of_core (core_coilsLost _)).trans (mode_of_core core))
  · rw [served.axis]
    exact coilsLost_axes core now confirm a low high
  · rw [served.partner, coilsLost_partner]
    exact segments i low

theorem diagDiscover_commit (found : List Found) (s : State) (r : Req) :
    ((diagDiscover found).commit s r).s = (s.discover found).coilsLost := by
  simp only [diagDiscover]

theorem diagDiscover_completes (found : List Found) :
    Completes (diagDiscover found) (fun m n => .diagDiscover m n found) (fun _ s t _ =>
    t.mode = s.mode ∧ (∀ a, a < 8 → 8000 ≤ (s.supply (1 + a / 2)).mv → if (s.axis a).confirm = true
      then (t.axis a).confirmAt = some (s.now + 50000000) else (t.axis a).lost = true) ∧
    ∀ i, i < 32 → (t.partner 0 i).known = true ∧ (t.partner 0 i).timestamp = s.now ∧
      let f := readingOf found 0 i
      let vref := (readAt f 0 0).toNat % 65536
      ((t.partner 0 i).outcome = 1 ↔ 800 ≤ vref ∧ vref ≤ 2200 ∧
        ∀ tap, tap < 4 → tapResponds (readList f (2 * tap + 1)) (readList f (2 * tap + 2)) = true)) := by
  refine completes_of_commit _ _ _ (fun _ _ _ => rfl) rfl fun m n s c _ t served _ => ?_
  have answered := discover_answered found ((diagDiscover_commit found _ (s.reqOf m n c)) ▸ served)
  have counted := Served.counted s (s.reqOf m n c)
  simp only [counted.mode, counted.now, counted.axis, counted.supply] at answered
  obtain ⟨mode, axes, segments⟩ := answered
  refine ⟨mode, axes, fun i low => ?_⟩
  obtain ⟨known, stamp, outcome⟩ := segments i low
  refine ⟨known, stamp, ?_⟩
  rw [outcome]
  exact segOutcome_eq_one _ _

/-- Settles O48: each command of the three families, by its own lemma. -/
theorem runnerAndInventoryCommands : Obligations.RunnerAndInventoryCommands := by
  refine ⟨runConfig_completes, runNodes_completes, fun row mem => ?_, runPost_completes, invSnap_completes,
    invRead_completes, invPartners_completes, diagDiscover_completes, diagRun_completes⟩
  rcases List.mem_cons.1 mem with rfl | mem
  · exact runReadWrite_completes _ _ _ fun _ _ _ => rfl
  · obtain rfl := List.mem_singleton.1 mem
    exact runReadWrite_completes _ _ _ fun _ _ _ => rfl

end Sys2Proof.Machine

end

section
/-! PROOFS. What ends a drain and a halt (R65, R68). -/

namespace Sys2Proof.Machine

/-- The steps of Table MO-9 that close a drain and a halt alike are done (R65, R68). -/
theorem workDone_of {s : State} (rake : s.rakeIdle = true) (held : ∀ x ∈ s.streams, x.2.heldItems = [])
    (dma : s.dmaIdle = true) : s.workDone = true := by
  have streams : (s.streams.all fun (_, x) => x.heldItems.isEmpty) = true :=
    List.all_eq_true.2 fun x hx => by simp [held x hx]
  simp only [State.workDone, rake, streams, dma, Bool.and_self]

/-- The mode entered, and the event that tells of it. -/
theorem Told.enterMode (s : State) (m : Mode) (cause : Nat) :
    Told { s with mode := m, change := none } (s.enterMode m cause) := Told.raiseTo _ _ _

theorem Told.mode {s t : State} (h : Told s t) : t.mode = s.mode := (congrArg State.mode h.rest :)
theorem Told.haltCauses {s t : State} (h : Told s t) : t.haltCauses = s.haltCauses :=
  (congrArg State.haltCauses h.rest :)
theorem Told.haltSettled {s t : State} (h : Told s t) : t.haltSettled = s.haltSettled :=
  (congrArg State.haltSettled h.rest :)

/-- With no run left to end, a halt that settles ends none. -/
theorem endHaltRuns_idle {s : State} (runs : ∀ d ∈ s.docs, d.open_ = false → d.runs = []) : s.endHaltRuns = s := by
  have none_left : (s.docs.filter fun d => !d.open_ && !d.runs.isEmpty) = [] :=
    List.filter_eq_nil_iff.2 fun d hd => by
      cases h : d.open_ with
      | true => simp
      | false => simp [runs d hd h]
  unfold State.endHaltRuns
  rw [none_left]
  exact ite_self s

@[simp] theorem core_takeRef (s : State) (b : Nat) : (s.takeRef b).core = s.core := by
  unfold State.takeRef
  split
  · split <;> simp
  · rfl

/-- Settles O22: both rows act when the steps of Table MO-9 are done; the drain's leaves a change of mode and its event,
the halt's the reference sets taken and its event. -/
theorem drainAndHaltEnd : Obligations.DrainAndHaltEnd := by
  refine ⟨fun s drain still closed rake held dma rest => ?_, fun s halted open_ rake held dma runs => ?_⟩
  · have ended : exec .drainComplete s = .next (s.enterMode .armed 1) := by
      have docs : (s.docs.all fun d => !d.open_) = true := List.all_eq_true.2 fun d hd => by simp [closed d hd]
      refine congrArg Host.Outcome.next (if_pos ⟨drain, ?_, docs, workDone_of rake held dma, ?_⟩)
      · simp [still]
      · simp [rest]
    exact ⟨_, ended, (Told.enterMode s .armed 1).mode, Told.enterMode s .armed 1⟩
  · let u := forEach (List.range 4) (fun b s => s.takeRef b) s
    have core : u.core = s.core := core_forEach _ (fun b t => core_takeRef t b) _ s
    obtain ⟨mode, -, causes, -⟩ := core_iff.1 core
    let v := { u with haltSettled := true }
    have settled : exec .haltSettled s =
        .next (v.raiseTo u.enabledCabs (u.ev 0x0102 0xFF 0 (w2 u.haltCauses.toNat))) := by
      show execHaltSettled s = _
      simp only [execHaltSettled, endHaltRuns_idle runs, ite_self]
      exact congrArg Host.Outcome.next (if_pos ⟨halted, by simp [open_], workDone_of rake held dma⟩)
    have told := Told.raiseTo v u.enabledCabs (u.ev 0x0102 0xFF 0 (w2 u.haltCauses.toNat))
    exact ⟨_, settled, told.haltSettled, told.mode.trans (mode.trans halted), told.haltCauses.trans causes⟩

end Sys2Proof.Machine

end

section
/-! PROOFS. Waking from KEEP and DORMANT (R48 to R50, R64). -/

namespace Sys2Proof.Machine

/-- A wake bit is set in whatever it is latched into. -/
theorem latched_ne_zero (x : BitVec 16) (b : Fin 8) : x ||| (1#16 <<< b.val) ≠ 0 := by
  have latched := getLsbD_cause x b.val (b.isLt.trans (by decide))
  intro none_
  simp [none_] at latched

/-- The row of a wake source of Table MO-4 fires it (R49). -/
theorem exec_wake (s : State) (b : Fin 8) :
    exec (if b.val = 6 then .wakeTimer else .wakeSource b) s = .next (s.wakeFires b) := by
  by_cases timer : b.val = 6
  · rw [if_pos timer, timer]
    rfl
  · rw [if_neg timer]
    exact congrArg Host.Outcome.next (if_neg timer)

theorem wakeFires_unarmed (s : State) (b : Nat) (unarmed : s.wakeMask.getLsbD b = false) : s.wakeFires b = s := by
  simp [State.wakeFires, unarmed]

/-- An armed source in KEEP: one change to IDLE, and the sources disarmed. -/
theorem wakeFires_keep (s : State) (b : Fin 8) (keep : s.mode = .keep) (still : s.change = none)
    (armed : s.wakeMask.getLsbD b = true) :
    s.wakeFires b = { s with
      wakeCause := s.wakeLatch ||| (1#16 <<< b.val), wakeLatch := 0, wakeMask := 0,
      change := some { target := .idle, cause := 2 } } := by
  have fires : s.wakeFires b = ({ s with wakeLatch := s.wakeLatch ||| (1#16 <<< b.val) } : State).wakeKeep := by
    simp [State.wakeFires, keep, armed]
  rw [fires]
  exact if_pos ⟨keep, by simp [still], latched_ne_zero s.wakeLatch b⟩

/-- VIN12 within its limits in DORMANT (R64). -/
theorem vin12Return_row (s : State) (mv : Nat) (dormant : s.mode = .dormant) (low : 10800 ≤ mv) (high : mv ≤ 13200) :
    ∃ t, exec (.vin12Return mv) s = .next t ∧ (t.supply 0) = { mv := mv, outside := false } ∧
      (s.wakeLatch = 0 → ({ t with supplies := s.supplies } : State) = s) ∧
      (s.wakeLatch ≠ 0 → t.mode = .boot ∧ t.wakeCause = s.wakeLatch ∧ t.incarnation = s.incarnation + 1) := by
  have inside : supplyIn 0 mv = true := by simp [supplyIn, supplyRange, inR, low, high]
  have supply : (s.setSupply 0 mv).supply 0 = { mv := mv, outside := false } := by
    rw [supply_setSupply, if_pos rfl, inside]
    rfl
  have row : exec (.vin12Return mv) s = .next (s.setSupply 0 mv).wakeDormant :=
    congrArg Host.Outcome.next (if_pos ⟨dormant, inside⟩)
  have wakes := wakeDormant_eq (s.setSupply 0 mv) (by rw [supply])
  by_cases latch : s.wakeLatch = 0
  · rw [if_neg fun h => h.2 latch] at wakes
    exact ⟨_, row.trans (by rw [wakes]), supply, fun _ => rfl, fun h => absurd latch h⟩
  · rw [if_pos ⟨dormant, latch⟩] at wakes
    obtain ⟨boot, cause, supplies⟩ := wakeBoot_leaves (s.setSupply 0 mv)
    exact ⟨_, row.trans (by rw [wakes]), (supply_of_supplies supplies 0).trans supply, fun h => absurd h latch,
      fun _ => ⟨boot, cause, if_pos dormant⟩⟩

/-- Settles O23: by what a source that fires does in KEEP, and by VIN12's return in DORMANT. -/
theorem wakes : Obligations.Wakes := by
  refine ⟨fun s b keep => ⟨fun still armed => ?_, fun unarmed => ?_⟩, vin12Return_row⟩
  · exact (exec_wake s b).trans (by rw [wakeFires_keep s b keep still armed])
  · exact (exec_wake s b).trans (by rw [wakeFires_unarmed s b unarmed])

end Sys2Proof.Machine

end

section
/-! PROOFS. The stance of the device: the fields of its modes, its supplies, its ports and its mailboxes, and the operations
that keep them. -/

namespace Sys2Proof.Machine

/-- What a cabinet reset notes of itself in its cabinet (R440). -/
@[reducible, simp] def Cab.resetFace (x : Cab) : Option Nat × Nat × Bool :=
  (x.resetting.map (·.cause), x.resets, x.scrubbing)

/-- What the rows of the modes and of the host ports speak of. -/
structure Stance where
  mode : Mode
  change : Option Change
  haltCauses : BitVec 16
  wakeMask : BitVec 16
  wakeTimer : Nat
  wakeLatch : BitVec 16
  epoch : Nat
  charter : Charter
  supplies : Tab Supply
  limitUp : Bool
  coverOpen : BitVec 4
  clocks : Tab Clock
  perst : Bool
  pcieUp : Bool
  usbUp : Bool
  vfEnabled : Bool
  usbSuspended : Bool
  rung : List Nat
  /-- The mailboxes but for their pending interrupts. -/
  boxes : Nat → Mbx
  resets : Nat → Option Nat × Nat × Bool
  /-- The beds whose dark slots show an open cover. -/
  dark : Nat → Bool

/-- The stance of those fields, its definition closed so that a lemma about it reads the fields as they stand. -/
@[irreducible] def stanceOf (mode : Mode) (change : Option Change) (haltCauses wakeMask : BitVec 16) (wakeTimer : Nat)
    (wakeLatch : BitVec 16) (epoch : Nat) (charter : Charter) (supplies : Tab Supply) (limitUp : Bool)
    (coverOpen : BitVec 4) (clocks : Tab Clock) (perst pcieUp usbUp vfEnabled usbSuspended : Bool) (rung : List Nat)
    (mbxs : Tab Mbx) (cabs : Tab Cab) (beds : Tab Bed) : Stance :=
  { mode, change, haltCauses, wakeMask, wakeTimer, wakeLatch, epoch, charter, supplies, limitUp, coverOpen, clocks, perst,
    pcieUp, usbUp, vfEnabled, usbSuspended, rung,
    boxes := fun m => (tget {} mbxs m).unpended,
    resets := fun c => (tget {} cabs c).resetFace,
    dark := fun b => (tget {} beds b).darkHigh }

@[reducible, simp] def State.stance (s : State) : Stance :=
  stanceOf s.mode s.change s.haltCauses s.wakeMask s.wakeTimer s.wakeLatch s.epoch s.charter s.supplies s.limitUp
    s.coverOpen s.clocks s.perst s.pcieUp s.usbUp s.vfEnabled s.usbSuspended s.rung s.mbxs s.cabs s.beds

theorem stance_iff {s t : State} : s.stance = t.stance ↔
    s.mode = t.mode ∧ s.change = t.change ∧ s.haltCauses = t.haltCauses ∧ s.wakeMask = t.wakeMask ∧
      s.wakeTimer = t.wakeTimer ∧ s.wakeLatch = t.wakeLatch ∧ s.epoch = t.epoch ∧ s.charter = t.charter ∧
      s.supplies = t.supplies ∧ s.limitUp = t.limitUp ∧ s.coverOpen = t.coverOpen ∧ s.clocks = t.clocks ∧
      s.perst = t.perst ∧ s.pcieUp = t.pcieUp ∧ s.usbUp = t.usbUp ∧ s.vfEnabled = t.vfEnabled ∧
      s.usbSuspended = t.usbSuspended ∧ s.rung = t.rung ∧ (∀ m, (s.mbx m).unpended = (t.mbx m).unpended) ∧
      (∀ c, (s.cab c).resetFace = (t.cab c).resetFace) ∧ ∀ b, (s.bed b).darkHigh = (t.bed b).darkHigh := by
  simp only [State.stance, stanceOf, Stance.mk.injEq, funext_iff]
  rfl

@[simp] theorem stance_inc (s : State) (cls unit idx n : Nat) : (s.inc cls unit idx n).stance = s.stance := by
  rw [inc_eq]

@[simp] theorem stance_ite (c : Prop) [Decidable c] (s t : State) :
    (if c then s else t).stance = if c then s.stance else t.stance := by
  split <;> rfl

@[simp] theorem stance_forEach {α : Type} (f : α → State → State)
    (h : ∀ x s, (f x s).stance = s.stance) (xs : List α) (s : State) : (forEach xs f s).stance = s.stance :=
  forEach_keeps (P := fun t : State => t.stance = s.stance) f (fun x t ht => (h x t).trans ht) xs s rfl


/-! The shared operations (Machine/Ops.lean). -/

@[simp] theorem stance_draw (s : State) : s.draw.stance = s.stance := by rfl
@[simp] theorem stance_updCab (s : State) (c : Nat) (f : Cab → Cab) (h : ∀ x, (f x).resetFace = x.resetFace) :
    (s.updCab c f).stance = s.stance := by
  refine stance_iff.2 ⟨rfl, rfl, rfl, rfl, rfl, rfl, rfl, rfl, rfl, rfl, rfl, rfl, rfl, rfl, rfl, rfl, rfl, rfl,
    fun _ => rfl, fun d => ?_, fun _ => rfl⟩
  rw [cab_updCab]
  split
  · next e => rw [h, e]
  · rfl
@[simp] theorem stance_updMbx (s : State) (m : Nat) (f : Mbx → Mbx) (h : ∀ x, (f x).unpended = x.unpended) :
    (s.updMbx m f).stance = s.stance := by
  refine stance_iff.2 ⟨rfl, rfl, rfl, rfl, rfl, rfl, rfl, rfl, rfl, rfl, rfl, rfl, rfl, rfl, rfl, rfl, rfl, rfl,
    fun d => ?_, fun _ => rfl, fun _ => rfl⟩
  rw [mbx_updMbx]
  split
  · next e => rw [h, e]
  · rfl
@[simp] theorem stance_updChan (s : State) (c : Nat) (f : Chan → Chan) :
    (s.updChan c f).stance = s.stance := by rfl
@[simp] theorem stance_setComp (s : State) (k : Nat) (v : Option Cmp) :
    (s.setComp k v).stance = s.stance := by rfl
@[simp] theorem stance_updAxis (s : State) (a : Nat) (f : Axis → Axis) :
    (s.updAxis a f).stance = s.stance := by rfl
@[simp] theorem stance_updSnap (s : State) (k : Nat) (f : Snap → Snap) :
    (s.updSnap k f).stance = s.stance := by rfl
@[simp] theorem stance_updRing (s : State) (c : Nat) (f : EvRing → EvRing) : (s.updRing c f).stance = s.stance :=
  stance_updCab s c _ fun _ => rfl
@[simp] theorem stance_push (s : State) (o : Out) : (s.push o).stance = s.stance := by rfl
@[simp] theorem stance_usbSend (s : State) (o : Out) : (s.usbSend o).stance = s.stance := by
  simp [State.usbSend]
@[simp] theorem stance_useSlots (s : State) (m n : Nat) :
    (s.useSlots m n).stance = s.stance := by
  unfold State.useSlots
  dsimp only
  split <;> simp
@[simp] theorem stance_hostWrite (s : State) (m : Nat) (addr : BitVec 64) (data : List Byte) :
    (s.hostWrite m addr data).stance = s.stance := by simp [State.hostWrite]
@[simp] theorem stance_usbAsk (s : State) (t : Nat → UsbTag) (type : Nat) (addr : BitVec 64) (len : Nat) :
    (s.usbAsk t type addr len).stance = s.stance := by
  unfold State.usbAsk
  split <;> simp
@[simp] theorem stance_signal (s : State) (m vector : Nat) : (s.signal m vector).stance = s.stance := by
  unfold State.signal
  split
  · simp
  · split
    · rfl
    · split
      · rfl
      · exact stance_updMbx s m _ fun _ => rfl
@[simp] theorem stance_overflow (s : State) (c cls : Nat) :
    (s.overflow c cls).stance = s.stance := by simp [State.overflow]
@[simp] theorem stance_ringSignal (s : State) (c : Nat) :
    (s.ringSignal c).stance = s.stance := by simp [State.ringSignal]
@[simp] theorem stance_writeEntry (s : State) (c : Nat) (e : Ev) :
    (s.writeEntry c e).stance = s.stance := by simp [State.writeEntry]
@[simp] theorem stance_raise (s : State) (c : Nat) (e : Ev) :
    (s.raise c e).stance = s.stance := by simp [State.raise]
@[simp] theorem stance_raiseTo (s : State) (cs : List Nat) (e : Ev) :
    (s.raiseTo cs e).stance = s.stance := by simp [State.raiseTo]

/-! The Herbarium's words and pages (Machine/Nvs.lean). -/

@[simp] theorem stance_beginRecord (s : State) (r : NvsRecord) :
    (s.beginRecord r).stance = s.stance := by rfl
@[simp] theorem stance_setNvs (s : State) (page w : Nat) (v : BitVec 64) :
    (s.setNvs page w v).stance = s.stance := by simp [State.setNvs]
@[simp] theorem stance_writePage (s : State) (page : Nat) (bytes : List Byte) (gen : Nat) :
    (s.writePage page bytes gen).stance = s.stance := by simp [State.writePage]
@[simp] theorem stance_writePages (s : State) (first : Nat) (bytes : List Byte) (gen : Nat) :
    (s.writePages first bytes gen).stance = s.stance := by simp [State.writePages]
@[simp] theorem stance_freePage (s : State) (page gen : Nat) :
    (s.freePage page gen).stance = s.stance := by simp [State.freePage]

/-! Channels and comparators (Machine/Position.lean). -/

@[simp] theorem stance_updBed (s : State) (b : Nat) (f : Bed → Bed) (h : ∀ x, (f x).darkHigh = x.darkHigh) :
    (s.updBed b f).stance = s.stance := by
  refine stance_iff.2 ⟨rfl, rfl, rfl, rfl, rfl, rfl, rfl, rfl, rfl, rfl, rfl, rfl, rfl, rfl, rfl, rfl, rfl, rfl,
    fun _ => rfl, fun _ => rfl, fun d => ?_⟩
  rw [bed_updBed]
  split
  · next e => rw [h, e]
  · rfl
@[simp] theorem stance_updStream (s : State) (c n : Nat) (f : Stream → Stream) :
    (s.updStream c n f).stance = s.stance := by rfl
@[simp] theorem stance_updRingOf (s : State) (c n : Nat) (f : Ring → Ring) :
    (s.updRingOf c n f).stance = s.stance := by rfl
@[simp] theorem stance_rebase (s : State) (c : Nat) : (s.rebase c).stance = s.stance := by rfl
@[simp] theorem stance_dropRate (s : State) (j : Job) : (s.dropRate j).stance = s.stance := by
  simp [State.dropRate]
@[simp] theorem stance_arm (s : State) (k : Nat) (c : Cmp) :
    (s.arm k c).stance = s.stance := by rfl
@[simp] theorem stance_missSnap (s : State) (slot cause : Nat) :
    (s.missSnap slot cause).stance = s.stance := by simp [State.missSnap]
@[simp] theorem stance_disarm (s : State) (k : Nat) : (s.disarm k).stance = s.stance := by
  unfold State.disarm
  split
  · rfl
  · split <;> simp

/-! Streams and their items (Machine/Streams.lean). -/

@[simp] theorem stance_ringWrite (s : State) (c n off : Nat) (bs : List Byte) :
    (s.ringWrite c n off bs).stance = s.stance := by rfl
@[simp] theorem stance_raiseWm (s : State) (c n : Nat) (above : Bool) :
    (s.raiseWm c n above).stance = s.stance := by simp [State.raiseWm]
@[simp] theorem stance_chgStream (s : State) (c n : Nat) (f : Stream → Stream) :
    (s.chgStream c n f).stance = s.stance := by simp [State.chgStream]
@[simp] theorem stance_makeItem (s : State) (c n kind flags bed kernel acc : Nat) (payload : List Byte) :
    (s.makeItem c n kind flags bed kernel acc payload).1.stance = s.stance := by
  unfold State.makeItem
  split <;> simp
@[simp] theorem stance_ringFed (s : State) (c n : Nat) :
    (s.ringFed c n).stance = s.stance := by simp [State.ringFed]
@[simp] theorem stance_appendItem (s : State) (c n : Nat) (bs : List Byte) (kind acc res : Nat) (last : Bool) :
    (s.appendItem c n bs kind acc res last).stance = s.stance := by simp [State.appendItem]
@[simp] theorem stance_putItem (s : State) (c n : Nat) (bs : List Byte) (kind acc res : Nat) (last : Bool) :
    (s.putItem c n bs kind acc res last).stance = s.stance := by simp [State.putItem]
@[simp] theorem stance_flushHeld (fuel c n : Nat) (s : State) :
    (State.flushHeld fuel c n s).stance = s.stance := by
  induction fuel generalizing s with
  | zero => rfl
  | succ fuel ih =>
    unfold State.flushHeld
    split <;> simp [ih]
@[simp] theorem stance_updDoc (s : State) (acc : Nat) (f : Doc → Doc) :
    (s.updDoc acc f).stance = s.stance := by rfl
@[simp] theorem stance_dropLine (s : State) (b acc cause : Nat) : (s.dropLine b acc cause).stance = s.stance := by
  simp [State.dropLine]
@[simp] theorem stance_flushWaiting (fuel c : Nat) (s : State) :
    (State.flushWaiting fuel c s).stance = s.stance := by
  induction fuel generalizing s with
  | zero => rfl
  | succ fuel ih =>
    unfold State.flushWaiting
    split
    · rfl
    · split <;> simp [ih]
@[simp] theorem stance_queueRecord (s : State) (c acc : Nat) (isNote : Bool) :
    (s.queueRecord c acc isNote).stance = s.stance := by simp [State.queueRecord]

/-! Axes (Machine/Axis.lean). -/

@[simp] theorem stance_axisEvent (s : State) (a : Nat) (e : Ev) :
    (s.axisEvent a e).stance = s.stance := by simp [State.axisEvent]
@[simp] theorem stance_setLost (s : State) (a : Nat) : (s.setLost a).stance = s.stance := by
  simp [State.setLost]
@[simp] theorem stance_confirmsMissed (s : State) :
    (s.confirmsMissed).stance = s.stance := by
  refine stance_forEach _ (fun _ s => ?_) _ s
  split
  · split <;> simp
  · rfl
@[simp] theorem stance_lose (s : State) (a : Nat) : (s.lose a).stance = s.stance := by
  simp [State.lose]
@[simp] theorem stance_coilTell (s : State) (a : Nat) : (s.coilTell a).stance = s.stance := by
  simp [State.coilTell]
@[simp] theorem stance_coilTellAll (s : State) : s.coilTellAll.stance = s.stance := by
  simp [State.coilTellAll]
@[simp] theorem stance_disarmSlots (s : State) (a : Nat) :
    (s.disarmSlots a).stance = s.stance := by simp [State.disarmSlots]
@[simp] theorem stance_freeze (s : State) (a : Nat) (off on : Bool) :
    (s.freeze a off on).stance = s.stance := by simp [State.freeze]
@[simp] theorem stance_gearChanged (s : State) (a : Nat) (r : Ratio) (slave : Int) (master : Pos) :
    (s.gearChanged a r slave master).stance = s.stance := by simp [State.gearChanged]
@[simp] theorem stance_unGear (s : State) (a : Nat) (p : Int) :
    (s.unGear a p).stance = s.stance := by simp [State.unGear]
@[simp] theorem stance_regear (s : State) (c : Nat) (m : Pos) :
    (s.regear c m).stance = s.stance := by
  refine stance_forEach _ (fun _ s => ?_) _ s
  split
  · rfl
  · dsimp only
    split
    · rfl
    · split <;> simp
@[simp] theorem stance_discontinuity (s : State) (c aux : Nat) :
    (s.discontinuity c aux).stance = s.stance := by simp [State.discontinuity]
@[simp] theorem stance_stopAxis (s : State) (a : Nat) (off : Bool) :
    (s.stopAxis a off).stance = s.stance := by simp [State.stopAxis]

/-! Accession records (Machine/Records.lean). -/

@[simp] theorem stance_bedFlag (s : State) (b acc : Nat) (bits : BitVec 16) :
    (s.bedFlag b acc bits).stance = s.stance := by rfl
@[simp] theorem stance_docFlag (s : State) (acc : Nat) (bits : BitVec 32) :
    (s.docFlag acc bits).stance = s.stance := by rfl
@[simp] theorem stance_flushOverrun (s : State) (b : Nat) :
    (s.flushOverrun b).stance = s.stance := by
  unfold State.flushOverrun
  split <;> simp
@[simp] theorem stance_cutOverrun (s : State) (b : Nat) :
    (s.cutOverrun b).stance = s.stance := by
  unfold State.cutOverrun
  split
  · rfl
  · split <;> simp
@[simp] theorem stance_noteStale (s : State) (b : Nat) :
    (s.noteStale b).stance = s.stance := by
  unfold State.noteStale
  split <;> simp
@[simp] theorem stance_closeJob (s : State) (j : Job) (result order : Nat) :
    (s.closeJob j result order).stance = s.stance := by
  unfold State.closeJob
  simp only [stance_raise]
  split <;> simp
@[simp] theorem stance_noteLeft (s : State) : s.noteLeft.stance = s.stance := by rfl
@[simp] theorem stance_jobAfterClose (s : State) (d : Doc) :
    (s.jobAfterClose d).stance = s.stance := by
  unfold State.jobAfterClose
  dsimp only
  split
  · rfl
  · split
    · rfl
    · split <;> simp
@[simp] theorem stance_updGauge (s : State) (g : Nat) (f : Gauge → Gauge) :
    (s.updGauge g f).stance = s.stance := by rfl
@[simp] theorem stance_writeSummaries (s : State) (d : Doc) :
    (s.writeSummaries d).stance = s.stance := by
  unfold State.writeSummaries
  split <;> simp
@[simp] theorem stance_closeFlags (s : State) (d : Doc) :
    (s.closeFlags d).stance = s.stance := by simp [State.closeFlags]
@[simp] theorem stance_tryErase (s : State) (c : Nat) : (s.tryErase c).stance = s.stance := by
  simp [State.tryErase]
@[simp] theorem stance_closeDoc (s : State) (acc : Nat) (halt : Option Nat) :
    (s.closeDoc acc halt).stance = s.stance := by
  unfold State.closeDoc
  split
  · rfl
  · split
    · rfl
    · simp

/-! Modes, halts and the device reset (Machine/Halt.lean). -/

@[simp] theorem stance_haltBed (s : State) (b : Nat) :
    (s.haltBed b).stance = s.stance := by
  have h : ∀ acc n (s : State), (forEach (List.range n) (fun _ s => s.dropLine b acc 2) s).stance =
      s.stance := fun acc n s => by simp
  simp [State.haltBed, h]
@[simp] theorem stance_countStop (s : State) (cause : Nat) :
    (s.countStop cause).stance = s.stance := by simp [State.countStop]
@[simp] theorem stance_breach (s : State) (condition : Nat) (p : Pos) :
    (s.breach condition p).stance = s.stance := by simp [State.breach]
@[simp] theorem stance_breachEnd (s : State) (condition : Nat) (p : Pos) :
    (s.breachEnd condition p).stance = s.stance := by rfl
@[simp] theorem stance_sourcesMissing (s : State) : s.sourcesMissing.stance = s.stance := by
  simp [State.sourcesMissing]
@[simp] theorem stance_holdChan (s : State) (c : Nat) : (s.holdChan c).stance = s.stance := by
  simp [State.holdChan]

/-! Clock domains (Machine/Clocks.lean). -/

@[simp] theorem stance_updPlot (s : State) (p : Nat) (f : Plot → Plot) :
    (s.updPlot p f).stance = s.stance := by rfl
@[simp] theorem stance_updPort (s : State) (n : Nat) (f : Port → Port) :
    (s.updPort n f).stance = s.stance := by rfl
@[simp] theorem stance_overrun (s : State) (c domain n : Nat) :
    (s.overrun c domain n).stance = s.stance := by simp [State.overrun]

/-! Gauge chains (Machine/Chain.lean). -/

@[simp] theorem stance_tellGauge (s : State) (g : Nat) :
    (s.tellGauge g).stance = s.stance := by simp [State.tellGauge]
@[simp] theorem stance_gaugeRestart (s : State) (g : Nat) :
    (s.gaugeRestart g).stance = s.stance := by simp [State.gaugeRestart]
@[simp] theorem stance_gaugesStart (s : State) : s.gaugesStart.stance = s.stance := by
  simp [State.gaugesStart]
@[simp] theorem stance_gaugesStop (s : State) : s.gaugesStop.stance = s.stance := by rfl

/-! Tines (Machine/Tine.lean). -/

@[simp] theorem stance_updTine (s : State) (t : Nat) (f : Tine → Tine) :
    (s.updTine t f).stance = s.stance := by rfl
@[simp] theorem stance_perform (s : State) (t : Nat) (st : Store) :
    (s.perform t st).stance = s.stance := by simp [State.perform]
@[simp] theorem stance_performAll (s : State) (t : Nat) :
    (s.performAll t).stance = s.stance := by simp [State.performAll]
@[simp] theorem stance_performLate (s : State) (t : Nat) (l : Late) :
    (s.performLate t l).stance = s.stance := by rfl
@[simp] theorem stance_performLoads (s : State) (t n : Nat) :
    (s.performLoads t n).stance = s.stance := by
  unfold State.performLoads
  split <;> simp
@[simp] theorem stance_allLoads (s : State) (t : Nat) : (s.allLoads t).stance = s.stance := by
  simp [State.allLoads]

/-! The Rake (Machine/Rake.lean). -/

@[simp] theorem stance_forgetPlace (s : State) (c b : Nat) :
    (s.forgetPlace c b).stance = s.stance := by rfl
@[simp] theorem stance_voidPlace (s : State) (c b cause : Nat) :
    (s.voidPlace c b cause).stance = s.stance := by
  unfold State.voidPlace
  split <;> simp
@[simp] theorem stance_recheckPlaces (s : State) (b cause : Nat) :
    (s.recheckPlaces b cause).stance = s.stance := by
  refine stance_forEach _ (fun _ s => ?_) _ s
  split <;> simp

/-! Turns of cabinets (Machine/Turns.lean). -/

@[simp] theorem stance_updJob (s : State) (c id : Nat) (f : Job → Job) :
    (s.updJob c id f).stance = s.stance := by rfl
@[simp] theorem stance_reBacklog (s : State) : s.reBacklog.stance = s.stance := by
  simp [State.reBacklog]

/-! Cuttings and plots (Machine/Cut.lean). -/

@[simp] theorem stance_scrubPlot (s : State) (p : Nat) (code : Tab (BitVec 32)) :
    (s.scrubPlot p code).stance = s.stance := by simp [State.scrubPlot]

/-! Lamps (Machine/Lamp.lean). -/

@[simp] theorem stance_updLed (s : State) (b c : Nat) (f : Led → Led) : (s.updLed b c f).stance = s.stance :=
  stance_updBed s b _ fun _ => rfl
@[simp] theorem stance_cutoffs (s : State) (b : Nat) : (s.cutoffs b).stance = s.stance := by
  simp [State.cutoffs]
@[simp] theorem darkHigh_recompute (x : Bed) : x.recompute.darkHigh = x.darkHigh := by
  unfold Bed.recompute
  dsimp only
@[simp] theorem stance_relight (s : State) (b : Nat) (f : Bed → Bed) (h : ∀ x, (f x).darkHigh = x.darkHigh) :
    (s.relight b f).stance = s.stance := by simp [State.relight, h]
@[simp] theorem stance_probesDue (s : State) (b : Nat) :
    (s.probesDue b).stance = s.stance := by simp [State.probesDue]
@[simp] theorem stance_stripStop (s : State) (b : Nat) :
    (s.stripStop b).stance = s.stance := by simp [State.stripStop]
@[simp] theorem stance_failRead (s : State) (b : Nat) (abandoned : Bool) :
    (s.failRead b abandoned).stance = s.stance := by
  unfold State.failRead
  dsimp only
  split
  · rfl
  · split
    · rfl
    · split <;> simp

/-! Protective stops and entry to P3 (Machine/Stop.lean). -/

@[simp] theorem stance_chooseRef (s : State) (b : Nat) :
    (s.chooseRef b).stance = s.stance := by simp [State.chooseRef]
@[simp] theorem stance_settingsChanged (s : State) (b : Nat) :
    (s.settingsChanged b).stance = s.stance := by simp [State.settingsChanged]
@[simp] theorem stance_restartBed (s : State) (b : Nat) : (s.restartBed b).stance = s.stance :=
  stance_updBed s b _ fun _ => rfl
@[simp] theorem stance_startTemp (s : State) (b : Nat) :
    (s.startTemp b).stance = s.stance := by simp [State.startTemp]
@[simp] theorem stance_applyCfg (s : State) (b : Nat) (c : BedCfg) :
    (s.applyCfg b c).stance = s.stance := by simp [State.applyCfg]
@[simp] theorem stance_resumeChans (s : State) : s.resumeChans.stance = s.stance := by
  simp [State.resumeChans]
@[simp] theorem stance_startBed (s : State) (b : Nat) : (s.startBed b).stance = s.stance := by
  unfold State.startBed
  split <;> simp
@[simp] theorem stance_startP3 (s : State) :
    (s.startP3).stance = s.stance := by simp [State.startP3]
@[simp] theorem stance_allOff (s : State) : s.allOff.stance = s.stance := by
  simp [State.allOff]
@[simp] theorem stance_leaveP3 (s : State) :
    (s.leaveP3).stance = s.stance := by simp [State.leaveP3]

/-! Beds and their lines (Machine/Beds.lean). -/

@[simp] theorem stance_updCourse (s : State) (b acc : Nat) (f : Course → Course) :
    (s.updCourse b acc f).stance = s.stance := stance_updBed s b _ fun _ => rfl

/-! Strip reads and calibration (Machine/Calibration.lean). -/

@[simp] theorem stance_kickRead (s : State) (b : Nat) : (s.kickRead b).stance = s.stance := by
  unfold State.kickRead
  dsimp only
  split
  · rfl
  · split
    all_goals
      split
      · rfl
      · split
        · simp
        · split
          · rfl
          · split <;> simp
@[simp] theorem stance_startRead (s : State) (b cab : Nat) (isRun full : Bool) (deadline : Option Nat)
    (fails : Nat) :
    (s.startRead b cab isRun full deadline fails).stance = s.stance := by simp [State.startRead]
@[simp] theorem stance_storeRef (s : State) (b : Nat) (r : RefSet) (segs : List Nat) (words : List (BitVec 32)) :
    (s.storeRef b r segs words).stance = s.stance := by simp [State.storeRef]
@[simp] theorem stance_endRead (s : State) (b : Nat) (r : StripRead) (pass : Bool) :
    (s.endRead b r pass).stance = s.stance := by
  unfold State.endRead
  dsimp only
  split <;> simp
@[simp] theorem stance_calibrate (s : State) (b : Nat) (r : StripRead) :
    (s.calibrate b r).stance = s.stance := by simp [State.calibrate]
@[simp] theorem stance_refStored (s : State) (b : Nat) (r : StripRead) :
    (s.refStored b r).stance = s.stance := by simp [State.refStored]

/-! Links of the Runner (Machine/Link.lean). -/

@[simp] theorem stance_updVc (s : State) (p v : Nat) (f : Vc → Vc) :
    (s.updVc p v f).stance = s.stance := by rfl
@[simp] theorem stance_portSend (s : State) (p : Nat) (k : Packet) :
    (s.portSend p k).stance = s.stance := by simp [State.portSend]
@[simp] theorem stance_control (s : State) (p type : Nat) (payload : List Byte) :
    (s.control p type payload).stance = s.stance := by simp [State.control]
@[simp] theorem stance_sendCredit (s : State) (p : Nat) :
    (s.sendCredit p).stance = s.stance := by simp [State.sendCredit]
@[simp] theorem stance_freeBuf (s : State) (o : Option (Nat × Nat)) :
    (s.freeBuf o).stance = s.stance := by
  unfold State.freeBuf
  split <;> simp
@[simp] theorem stance_pump (fuel p v : Nat) (s : State) :
    (State.pump fuel p v s).stance = s.stance := by
  induction fuel generalizing s with
  | zero => rfl
  | succ fuel ih =>
    unfold State.pump
    dsimp only
    split
    · rfl
    · split
      · split <;> simp [ih]
      · split
        · rfl
        · simp [ih]
@[simp] theorem stance_pumped (s : State) (p v : Nat) : (s.pumped p v).stance = s.stance := by
  simp [State.pumped]
@[simp] theorem stance_enqueue (s : State) (p : Nat) (o : Option (Nat × Nat)) (k : Packet) :
    (s.enqueue p o k).stance = s.stance := by simp [State.enqueue]
@[simp] theorem stance_broadcast (s : State) (k : Packet) :
    (s.broadcast k).stance = s.stance := by simp [State.broadcast]

/-! Timebase (Machine/Timebase.lean). -/

@[simp] theorem stance_holdChans (s : State) : s.holdChans.stance = s.stance := by
  simp [State.holdChans]

/-! Descriptors and DMA (Machine/Dma.lean). -/

@[simp] theorem stance_grantChannels (fuel : Nat) (s : State) :
    (State.grantChannels fuel s).stance = s.stance := by
  induction fuel generalizing s with
  | zero => rfl
  | succ fuel ih =>
    unfold State.grantChannels
    split
    · rfl
    · split <;> simp [ih]
@[simp] theorem stance_assignChannels (s : State) : s.assignChannels.stance = s.stance := by
  simp [State.assignChannels]
@[simp] theorem stance_noteGap (s : State) (c n status off len : Nat) :
    (s.noteGap c n status off len).stance = s.stance := by simp [State.noteGap]
@[simp] theorem stance_freeTo (s : State) (c n off : Nat) :
    (s.freeTo c n off).stance = s.stance := by simp [State.freeTo]
@[simp] theorem stance_countReturn (s : State) (c n code : Nat) :
    (s.countReturn c n code).stance = s.stance := by simp [State.countReturn]
@[simp] theorem stance_portWrite (s : State) (m : Nat) (a : BitVec 64) (data : List Byte) :
    (s.portWrite m a data).stance = s.stance := by simp [State.portWrite]
@[simp] theorem stance_forgetTags (s : State) (c n : Nat) :
    (s.forgetTags c n).stance = s.stance := by rfl
@[simp] theorem stance_giveBack (s : State) (c n code cause returned : Nat) :
    (s.giveBack c n code cause returned).stance = s.stance := by simp [State.giveBack]
@[simp] theorem stance_probe (s : State) (c n : Nat) (d : Desc) (i : Nat) :
    (s.probe c n d i).stance = s.stance := by simp [State.probe]
@[simp] theorem stance_issueProbes (fuel c n : Nat) (s : State) :
    (State.issueProbes fuel c n s).stance = s.stance := by
  induction fuel generalizing s with
  | zero => rfl
  | succ fuel ih =>
    unfold State.issueProbes
    split <;> simp [ih]
@[simp] theorem stance_tryReturn (s : State) (c n : Nat) :
    (s.tryReturn c n).stance = s.stance := by
  unfold State.tryReturn
  dsimp only
  split
  · rfl
  · split
    · simp
    · split <;> simp
@[simp] theorem stance_flushOne (s : State) (c n : Nat) :
    (s.flushOne c n).stance = s.stance := by simp [State.flushOne]
@[simp] theorem stance_closeNow (s : State) (c n : Nat) :
    (s.closeNow c n).stance = s.stance := by
  unfold State.closeNow
  dsimp only
  split
  · split <;> simp
  · simp
@[simp] theorem stance_serveHeld (s : State) : s.serveHeld.stance = s.stance := by
  simp [State.serveHeld]

/-! The Runner (Machine/Runner.lean). -/

@[simp] theorem stance_tellPort (s : State) (p : Nat) : (s.tellPort p).stance = s.stance := by
  simp [State.tellPort]
@[simp] theorem stance_setPort (s : State) (p st : Nat) :
    (s.setPort p st).stance = s.stance := by simp [State.setPort]
@[simp] theorem stance_sendCreditSync (s : State) (p : Nat) :
    (s.sendCreditSync p).stance = s.stance := by simp [State.sendCreditSync]
@[simp] theorem stance_sendAdvert (s : State) (p : Nat) :
    (s.sendAdvert p).stance = s.stance := by simp [State.sendAdvert]
@[simp] theorem stance_sendAdverts (s : State) : s.sendAdverts.stance = s.stance := by
  simp [State.sendAdverts]
@[simp] theorem stance_announce (s : State) (was : Option (BitVec 64) × Nat × Nat × Nat × Option Nat × Nat) :
    (s.announce was).stance = s.stance := by simp [State.announce]
@[simp] theorem stance_tellMember (s : State) (op : Nat) (e : List Byte) :
    (s.tellMember op e).stance = s.stance := by
  unfold State.tellMember
  split <;> simp
@[simp] theorem stance_joinSelf (s : State) : s.joinSelf.stance = s.stance := by
  simp [State.joinSelf]
@[simp] theorem stance_tellMaster (s : State) (aux : Nat) :
    (s.tellMaster aux).stance = s.stance := by simp [State.tellMaster]
@[simp] theorem stance_learnMaster (s : State) (uid : BitVec 64) :
    (s.learnMaster uid).stance = s.stance := by
  unfold State.learnMaster
  split <;> simp
@[simp] theorem stance_reanchor (s : State) (c : Nat) : (s.reanchor c).stance = s.stance := by
  simp [State.reanchor]
@[simp] theorem stance_forceAnchor (s : State) (c : Nat) :
    (s.forceAnchor c).stance = s.stance := by simp [State.forceAnchor]
@[simp] theorem stance_portRoles (s : State) : s.portRoles.stance = s.stance := by
  simp [State.portRoles]
@[simp] theorem stance_becomeRoot (s : State) : s.becomeRoot.stance = s.stance := by rfl
@[simp] theorem stance_tellElected (s : State) (hand : Bool) :
    (s.tellElected hand).stance = s.stance := by simp [State.tellElected]
@[simp] theorem stance_beginMerge (s : State) (p : Nat) (master : Bool) (old : Side) :
    (s.beginMerge p master old).stance = s.stance := by simp [State.beginMerge]
@[simp] theorem stance_follow (s : State) (p : Nat) (a : Advert) :
    (s.follow p a).stance = s.stance := by simp [State.follow]
@[simp] theorem stance_chooseRoot (s : State) : s.chooseRoot.stance = s.stance := by
  unfold State.chooseRoot
  dsimp only
  split
  all_goals
    split
    · simp
    · split <;> simp
@[simp] theorem stance_elect (s : State) : s.elect.stance = s.stance := by simp [State.elect]
@[simp] theorem stance_setRate (s : State) (p code : Nat) :
    (s.setRate p code).stance = s.stance := by simp [State.setRate]
@[simp] theorem stance_askRate (s : State) (p code : Nat) :
    (s.askRate p code).stance = s.stance := by simp [State.askRate]

/-! Boot, resets and the idle cycle (Machine/Boot.lean). -/

@[simp] theorem stance_writeCheckpoint (s : State) (closing : Bool) :
    (s.writeCheckpoint closing).stance = s.stance := by
  have keep : ∀ (u : State) (no : Nat) (cps : List Checkpoint) (bs : List Breach),
      ({ u with checkpointNo := no, checkpoints := cps, breaches := bs } : State).stance = u.stance :=
    fun _ _ _ _ => rfl
  unfold State.writeCheckpoint
  split
  · rfl
  · exact (keep _ _ _ _).trans
      ((stance_forEach _ (fun _ u => stance_freePage u _ _) _ _).trans (stance_beginRecord s _))

/-! Cabinets (Machine/Cabinets.lean). -/

/-- What is noted of a cabinet reset besides its cause. -/
@[simp] theorem stance_updResetting (s : State) (c : Nat) (f : Resetting → Resetting) (h : ∀ z, (f z).cause = z.cause) :
    (s.updCab c fun x => { x with resetting := x.resetting.map f }).stance = s.stance :=
  stance_updCab s c _ fun x => by simp [Function.comp_def, h]
@[simp] theorem stance_abandonReads (s : State) (c : Nat) :
    (s.abandonReads c).stance = s.stance := by
  refine stance_forEach _ (fun _ s => ?_) _ s
  split <;> simp
@[simp] theorem stance_cancelJobs (s : State) (c : Nat) :
    (s.cancelJobs c).stance = s.stance := by simp [State.cancelJobs]
@[simp] theorem stance_armDivert (s : State) (d : Doc) :
    (s.armDivert d).stance = s.stance := by
  unfold State.armDivert
  split
  · rfl
  · split <;> simp
@[simp] theorem stance_orphanDocs (s : State) (c : Nat) : (s.orphanDocs c).stance = s.stance := by
  unfold State.orphanDocs
  dsimp only
  refine Eq.trans (stance_updResetting _ _ _ ?_) ?_
  · exact fun _ => rfl
  refine stance_forEach _ (fun d s => ?_) _ s
  rw [stance_armDivert, stance_forEach, stance_updDoc]
  intro b s
  rw [stance_updCourse]
  split <;> simp
@[simp] theorem stance_resetRake (s : State) (c : Nat) :
    (s.resetRake c).stance = s.stance := by simp [State.resetRake]
@[simp] theorem stance_resetStreams (s : State) (c : Nat) :
    (s.resetStreams c).stance = s.stance := by simp [State.resetStreams]

/-! Mode changes (Machine/Modes.lean). -/

@[simp] theorem stance_endReads (s : State) :
    (s.endReads).stance = s.stance := by
  refine stance_forEach _ (fun _ s => ?_) _ s
  split <;> simp
@[simp] theorem stance_dropSyncs (s : State) (p : Nat) :
    (s.dropSyncs p).stance = s.stance := by simp [State.dropSyncs]

end Sys2Proof.Machine

end

section
/-! PROOFS. MODE_CHANGE_COMPLETE (R44): each row of Table MO-2 leaves the stance of the device as the mode entered alone
changes it. -/

namespace Sys2Proof.Machine

/-- The state that stands in another mode, with no change pending. -/
@[reducible, simp] def State.inMode (s : State) (m : Mode) : State := { s with mode := m, change := none }

@[simp] theorem stance_enterMode (s : State) (m : Mode) (cause : Nat) :
    (s.enterMode m cause).stance = (s.inMode m).stance := by
  simp [State.enterMode]

/-- No stop cause stands as a level: no open cover, no junction limit, no supply and no clock. -/
def Calm (s : State) : Prop :=
  s.coverOpen = 0 ∧ (∀ b, b < 4 → (s.bed b).darkHigh = false) ∧ s.limitUp = false ∧
    (∀ u, u < 10 → (s.supply u).outside = false) ∧ s.clocks = []

theorem Calm.of_stance {s t : State} (calm : Calm s) {m : Mode} (h : t.stance = (s.inMode m).stance) : Calm t := by
  obtain ⟨cover, dark, limit, supply, clocks⟩ := calm
  obtain ⟨-, -, -, -, -, -, -, -, supplies', limit', cover', clocks', -, -, -, -, -, -, -, -, dark'⟩ := stance_iff.1 h
  exact ⟨cover'.trans cover, fun b hb => (dark' b).trans (dark b hb), limit'.trans limit,
    fun u hu => by rw [supply_of_supplies supplies' u]; exact supply u hu, clocks'.trans clocks⟩

theorem levelCauses_calm {s : State} (calm : Calm s) : s.levelCauses = s := by
  obtain ⟨cover, dark, limit, supply, clocks⟩ := calm
  have covers : ((List.range 4).any fun b => s.bedCover b) = false := by
    simp only [List.any_eq_false, List.mem_range]
    intro b hb
    simp [State.bedCover, cover, dark b hb]
  have supplies : s.suppliesGood = true := by
    simp only [State.suppliesGood, List.all_eq_true, List.mem_range]
    intro u hu
    simp [supply u hu]
  simp [State.levelCauses, covers, limit, supplies, clocks]

theorem stance_enterP3 {s : State} (m : Mode) (cause : Nat) (calm : Calm s) :
    (s.enterP3 m cause).stance = (s.inMode m).stance := by
  have started : ((s.enterMode m cause).startP3).stance = (s.inMode m).stance := by simp
  rw [State.enterP3, levelCauses_calm (calm.of_stance started), started]

/-- The device entered a mode: no change is pending, and it keeps its charter, its epoch and the wakes latched. -/
def Entered (s : State) (m : Mode) (t : State) : Prop :=
  t.mode = m ∧ t.change = none ∧ t.charter = s.charter ∧ t.epoch = s.epoch ∧ t.wakeLatch = s.wakeLatch

/-- A state entered a mode when another of its stance did. -/
theorem Entered.of_stance {s t u : State} {m : Mode} (hu : Entered s m u) (h : t.stance = u.stance) : Entered s m t := by
  obtain ⟨mode, change, charter, epoch, latch⟩ := hu
  obtain ⟨mode', change', -, -, -, latch', epoch', charter', -⟩ := stance_iff.1 h
  exact ⟨mode'.trans mode, change'.trans change, charter'.trans charter, epoch'.trans epoch, latch'.trans latch⟩

theorem Entered.wakeKeep {s t : State} {m : Mode} (h : Entered s m t) (unlatched : s.wakeLatch = 0) :
    Entered s m t.wakeKeep := by
  obtain ⟨-, -, -, -, latch⟩ := id h
  rwa [State.wakeKeep, if_neg fun w => w.2.2 (latch.trans unlatched)]

theorem Entered.wakeDormant {s t : State} {m : Mode} (h : Entered s m t) (unlatched : s.wakeLatch = 0) :
    Entered s m t.wakeDormant := by
  obtain ⟨-, -, -, -, latch⟩ := id h
  simpa [State.wakeDormant, latch.trans unlatched] using h

theorem entered_inMode (s : State) (m : Mode) : Entered s m (s.inMode m) := ⟨rfl, rfl, rfl, rfl, rfl⟩

theorem entered_enterMode (s : State) (m : Mode) (cause : Nat) : Entered s m (s.enterMode m cause) :=
  (entered_inMode s m).of_stance (stance_enterMode s m cause)

/-- The causes of a halt are no part of what an entry is said to keep. -/
theorem Entered.clearHalt {s t : State} {m : Mode} {c : Prop} [Decidable c]
    (h : Entered (if c then s.clearHalt else s) m t) : Entered s m t := by
  by_cases hc : c
  · rwa [if_pos hc] at h
  · rwa [if_neg hc] at h

theorem entered_enterDrain (s : State) (cause : Nat) : Entered s .drain (s.enterDrain cause) := by
  refine (entered_enterMode s .drain cause).of_stance ?_
  refine (stance_forEach _ (fun b u => ?_) _ _).trans (stance_writeCheckpoint _ _)
  split
  · split
    · exact stance_updBed u b _ fun _ => rfl
    · split <;> simp
  · rfl

theorem Entered.suspend {s t : State} {m : Mode} (h : Entered s m t) :
    Entered s m { t with pins := [], usbSuspended := true } := h

theorem entered_enterKeep {s : State} (unlatched : s.wakeLatch = 0) : Entered s .keep s.enterKeep := by
  have held := ((entered_enterMode s .keep 0).of_stance (stance_holdChans _)).suspend
  refine (held.of_stance ?_).wakeKeep unlatched
  refine (stance_forEach _ (fun p u => ?_) _ _).trans (stance_forEach _ (fun p u => stance_dropSyncs u p) _ _)
  dsimp only
  split <;> simp

theorem Entered.of_before {s u t : State} {m : Mode} (h : Entered u m t) (hu : u.stance = s.stance) : Entered s m t := by
  obtain ⟨mode, change, charter, epoch, latch⟩ := h
  obtain ⟨-, -, -, -, -, latch', epoch', charter', -⟩ := stance_iff.1 hu
  exact ⟨mode, change, charter.trans charter', epoch.trans epoch', latch.trans latch'⟩

theorem Entered.portsDown {s t : State} {m : Mode} (h : Entered s m t) :
    Entered s m { t with pcieUp := false, usbUp := false, fwUp := false } := h

theorem entered_enterDormant {s : State} (unlatched : s.wakeLatch = 0) : Entered s .dormant s.enterDormant := by
  have closed : ({ s.writeCheckpoint true with pins := [], nvsWrites := [] } : State).stance = s.stance :=
    stance_writeCheckpoint s true
  have entered := (entered_enterMode _ .dormant 0).of_before closed
  exact (entered.of_stance (stance_forEach _ (fun p u => stance_setPort u p 0) _ _)).portsDown.wakeDormant unlatched

theorem entered_idle (s : State) (cause : Nat) :
    Entered s .idle (((s.endReads.leaveP3).enterMode .idle cause).coilTellAll) := by
  refine ((entered_enterMode _ .idle cause).of_before ?_).of_stance (stance_coilTellAll _)
  simp only [stance_leaveP3, stance_endReads]

theorem entered_leaveKeep (s : State) (cause : Nat) : Entered s .idle (s.leaveKeep cause) := by
  refine (entered_enterMode s .idle cause).of_stance ?_
  simp only [State.leaveKeep, stance_serveHeld, stance_elect]
  refine stance_forEach _ (fun p u => ?_) _ _
  split <;> simp

theorem entered_enterP3 {s : State} (m : Mode) (cause : Nat) (calm : Calm s) : Entered s m (s.enterP3 m cause) :=
  (entered_inMode s m).of_stance (stance_enterP3 m cause calm)

/-- IDLE is entered from P3, where the capture path ends, from KEEP and from the other P2 modes. -/
theorem entered_completeIdle (s : State) (cause : Nat) (off : Bool) :
    Entered s .idle (s.completeChange { target := .idle, cause, off }) := by
  dsimp only [State.completeChange]
  split
  · exact (entered_idle _ cause).clearHalt
  · split
    · exact entered_leaveKeep s cause
    · split
      · exact (entered_enterMode _ .idle cause).of_before rfl
      · exact entered_enterMode s .idle cause

/-- ARMED and CALIBRATE are entered from P3, or from a P2 mode in which no stop cause stands. -/
theorem entered_completeP3 {s : State} (cause : Nat) (off : Bool) {m : Mode} (target : m = .armed ∨ m = .calibrate)
    (h : s.mode.p3 = true ∨ Calm s) : Entered s m (s.completeChange { target := m, cause, off }) := by
  cases p3 : s.mode.p3 with
  | false =>
    have calm : Calm s := h.resolve_left (by simp [p3])
    rcases target with rfl | rfl <;> simpa [State.completeChange, p3] using entered_enterP3 _ cause calm
  | true =>
    rcases target with rfl | rfl
    · simpa [State.completeChange, p3] using (entered_enterMode _ .armed cause).clearHalt
    · simpa [State.completeChange, p3] using entered_enterMode s .calibrate cause

/-- Settles O21: every row of Table MO-2 leaves the stance of the device as the mode entered alone changes it. -/
theorem modeChangeCompletes : Obligations.ModeChangeCompletes := by
  unfold Obligations.ModeChangeCompletes
  rintro s ⟨target, cause, off⟩ change reached
  have entered : Entered s target (s.completeChange { target, cause, off }) := by
    rcases reached with rfl | rfl | rfl | rfl | rfl | ⟨isP3, calm⟩ | ⟨rfl | rfl, unlatched⟩
    · exact entered_completeIdle s cause off
    · exact entered_enterMode s .service cause
    · exact entered_enterMode s .update cause
    · exact entered_enterMode s .capture cause
    · exact entered_enterDrain s cause
    · exact entered_completeP3 cause off isP3 calm
    · exact entered_enterKeep unlatched
    · exact entered_enterDormant unlatched
  obtain ⟨mode, change', charter, epoch, -⟩ := entered
  exact ⟨s.completeChange { target, cause, off }, by simp [exec, execModeChangeComplete, change], mode, change', charter,
    epoch⟩

end Sys2Proof.Machine

end

section
/-! PROOFS. DEV.MODE (R39, R44, R49, R66): what follows its acceptance at once keeps the slots and the commands rung, so
that its answer stands. -/

namespace Sys2Proof.Machine

theorem inMode_keeps {s t : State} (h : s.stance = t.stance) (m : Mode) :
    (s.inMode m).stance = (t.inMode m).stance := by
  rw [stance_iff] at h ⊢
  obtain ⟨-, -, rest⟩ := h
  exact ⟨rfl, rfl, rest⟩

theorem noChange_keeps {s t : State} (h : s.stance = t.stance) (m : Mode) (hm : t.mode = m) :
    ({ s with change := none } : State).stance = (t.inMode m).stance := by
  rw [stance_iff] at h ⊢
  obtain ⟨mode, -, rest⟩ := h
  exact ⟨mode.trans hm, rfl, rest⟩

theorem stance_haltNoted (s : State) (cause : Nat) (off : Bool) :
    (s.haltNoted cause off).stance = ({ s with haltCauses := s.haltCauses ||| (1#16 <<< cause) } : State).stance := by
  simp [State.haltNoted]

/-- An entry to HALTED changes the mode, the change under way and the causes, and nothing else of the stance. -/
theorem stance_enterHalted (s : State) (cause : Nat) (off : Bool) :
    (s.enterHalted cause off).stance =
      (({ s with haltCauses := s.haltCauses ||| (1#16 <<< cause) } : State).inMode .halted).stance := by
  have entered := inMode_keeps (stance_haltNoted s cause off) .halted
  by_cases halted : s.mode = .halted
  · unfold State.enterHalted
    dsimp only
    rw [if_pos (by simp [halted, mode_countStop, apply_ite State.mode])]
    refine noChange_keeps ?_ .halted halted
    simp
  · refine Eq.trans ?_ entered
    have outside : (s.enterHalted cause off).stance =
      (if s.mode.p3 then (s.haltNoted cause off).enterMode .halted 3
       else ((s.haltNoted cause off).enterMode .halted 3).startP3).stance := by
      simp [State.enterHalted, State.haltNoted, halted, mode_stopAxes, mode_countStop, -stance_countStop]
    rw [outside]
    simp

/-- The commands rung and the slots are the same. -/
def Housed (s t : State) : Prop := t.rung = s.rung ∧ ∀ m n, t.slot m n = s.slot m n

theorem Housed.of_stance {s t : State} (h : t.stance = s.stance) : Housed s t := by
  obtain ⟨-, -, -, -, -, -, -, -, -, -, -, -, -, -, -, -, -, rung, boxes, -⟩ := stance_iff.1 h
  exact ⟨rung, fun m n => (congrArg (fun b : Mbx => tget ({} : Slot) b.slots n) (boxes m) :)⟩

@[simp] theorem stance_yieldMaster (s : State) : s.yieldMaster.stance = s.stance := by simp [State.yieldMaster]

theorem modeAccepted_halted {s : State} {q : Change} (h : s.change = some q) (target : q.target = .halted) :
    s.modeAccepted = { s.enterHalted 6 q.off with change := none } := by
  obtain ⟨t, cause, off⟩ := q
  cases target
  simp [State.modeAccepted, h]

/-- Only an owner stop acts at once on the stance. -/
theorem stance_modeAccepted {s : State} {q : Change} (h : s.change = some q) :
    s.modeAccepted.stance = if q.target = .halted then
      (({ s with haltCauses := s.haltCauses ||| (1#16 <<< 6) } : State).inMode .halted).stance else s.stance := by
  split
  · next halted =>
    rw [modeAccepted_halted h halted]
    exact noChange_keeps (stance_enterHalted s 6 q.off) .halted rfl
  · next others =>
    obtain ⟨t, cause, off⟩ := q
    unfold State.modeAccepted
    rw [h]
    split
    · next halted =>
      cases halted
      exact absurd rfl others
    all_goals simp

theorem Housed.modeAccepted (s : State) : Housed s s.modeAccepted := by
  cases h : s.change with
  | none =>
    have kept : s.modeAccepted = s := by simp [State.modeAccepted, h]
    exact .of_stance (congrArg State.stance kept)
  | some q =>
    have accepted := stance_modeAccepted h
    split at accepted
    · exact Housed.of_stance (s := ({ s with haltCauses := s.haltCauses ||| (1#16 <<< 6) } : State).inMode .halted) accepted
    · exact .of_stance accepted

/-- What a command leaves whose commit something follows at once that keeps the slots and the commands rung: its answer,
and what follows from a state that serves its commit. -/
theorem completes_of_after (cmd : Cmd) (i : Fin 257 → Fin 4 → Instr) (P : Req → State → State → List Byte → Prop)
    (row : ∀ m n s, exec (i m n) s = .next (runCommand cmd m n s)) (after : ∀ v, Housed v (cmd.after v))
    (h : ∀ (m : Fin 257) (n : Fin 4) (s : State) (c : Nat), Accepts cmd m n s c → ∀ v t : State,
      let r := s.reqOf m n c
      let d := cmd.commit (s.counted r) r
      Served d.s v → Served (cmd.after v) t → P r s t d.result) : Completes cmd i P := by
  intro m n s c accepted
  let r := s.reqOf m n c
  let d := cmd.commit (s.counted r) r
  let ws := (if 16 < d.result.length then [(r.result, d.result)] else []) ++ d.writes
  let u := (d.s.deliver r.m ws).1
  let flags := (if 16 < d.result.length then 1 else 0) + if (d.s.deliver r.m ws).2 then 0 else 2
  let v := u.answer r.m r.n (responseBytes r.tag cmd.op 0 flags 0 0 d.result)
  have committed : commitCmd cmd r s = cmd.after v := rfl
  have served : Served d.s v := (Served.deliver d.s r.m ws).trans (Served.answer u r.m r.n _)
  have lost : flags = (if 16 < d.result.length then 1 else 0) + if !(d.s.deliver r.m ws).2 then 2 else 0 := by
    cases ok : (d.s.deliver r.m ws).2 <;> simp [flags, ok]
  obtain ⟨rung, slots⟩ := after v
  have idle : 4 * r.m + r.n ∉ (cmd.after v).rung := by
    rw [rung, rung_answer]
    simp
  have slot : (cmd.after v).settled.slot r.m r.n = { u.slot r.m r.n with
      response := responseBytes r.tag cmd.op 0 flags 0 0 d.result, posted := false, done := true,
      parcel := .absent } := by
    unfold State.settled
    rw [slot_settle _ _ _ _ idle, slots, slot_answer, if_pos ⟨rfl, rfl⟩]
  refine ⟨(cmd.after v).settled, d.result, ?_, ⟨?_, ?_, !(d.s.deliver r.m ws).2, ?_⟩,
    h m n s c accepted v _ served (Served.settled _)⟩
  · rw [row, runCommand_accepts accepted, committed]
  · rw [slot]
  · rw [slot]
  · rw [slot]
    exact congrArg (fun f => responseBytes r.tag cmd.op 0 f 0 0 d.result) lost

theorem Served.haltCauses {s t : State} (h : Served s t) : t.haltCauses = s.haltCauses :=
  (congrArg State.haltCauses h.rest :)
theorem Served.change {s t : State} (h : Served s t) : t.change = s.change := (congrArg State.change h.rest :)
theorem Served.wakes {s t : State} (h : Served s t) :
    t.wakeMask = s.wakeMask ∧ t.wakeTimer = s.wakeTimer ∧ t.wakeLatch = s.wakeLatch :=
  ⟨(congrArg State.wakeMask h.rest :), (congrArg State.wakeTimer h.rest :), (congrArg State.wakeLatch h.rest :)⟩

/-- What the commit of a DEV.MODE leaves: the change it asks for, and the wakes of a change to KEEP or DORMANT. -/
theorem devMode_commit (s : State) (r : Req) :
    let d := (devMode.commit s r).s
    d.mode = s.mode ∧ d.change = some { target := r.target, off := r.u8 1 == 1 } ∧
      (r.u8 0 ≤ 1 → d.wakeMask = BitVec.ofNat 16 (r.u16 2) ∧ d.wakeTimer = r.u32 4 ∧ d.wakeLatch = 0) := by
  dsimp only [devMode]
  split
  · exact ⟨rfl, rfl, fun _ => ⟨rfl, rfl, rfl⟩⟩
  · next awake => exact ⟨rfl, rfl, fun h => absurd h awake⟩

/-- OFF is asked for with HALTED alone. -/
theorem devMode_off {m : Fin 257} {n : Fin 4} {s : State} {c : Nat} (h : Accepts devMode m n s c)
    (target : (s.reqOf m n c).target ≠ .halted) : ((s.reqOf m n c).u8 1 == 1) = false := by
  obtain ⟨value, -⟩ := h.checked
  have asked := need_none (value _ (List.mem_cons_of_mem _ (List.mem_cons_self ..)))
  have other : (s.reqOf m n c).u8 0 ≠ 11 := fun e => target (by simp [Req.target, e, modeOf])
  simp [other] at asked
  simp [asked]

/-- A change to DORMANT or KEEP is none to HALTED. -/
theorem target_of_sleep {r : Req} (h : r.u8 0 ≤ 1) : r.target ≠ .halted := by
  rcases Nat.le_one_iff_eq_zero_or_eq_one.1 h with e | e <;> simp [Req.target, e, modeOf]

/-- Settles O20: the answer keeps the stance the commit leaves, and only an owner stop acts on it at once. -/
theorem devModeBegins : Obligations.DevModeBegins := by
  unfold Obligations.DevModeBegins
  refine completes_of_after devMode .devMode _ (fun _ _ _ => rfl) Housed.modeAccepted ?_
  intro m n s c accepted v t r d answered served
  obtain ⟨mode, change, wakes⟩ := devMode_commit (s.counted r) r
  have began : v.change = some { target := r.target, off := r.u8 1 == 1 } := answered.change.trans change
  have acted := stance_modeAccepted began
  refine ⟨fun target => ?_, fun target => ?_, fun sleeps => ?_⟩
  · rw [if_neg target] at acted
    obtain ⟨mode', change', -⟩ := stance_iff.1 acted
    refine ⟨?_, ?_⟩
    · rw [served.mode]
      exact mode'.trans (answered.mode.trans (mode.trans (Served.counted s r).mode))
    · rw [served.change]
      exact change'.trans (began.trans (by rw [devMode_off accepted target]))
  · rw [if_pos target] at acted
    obtain ⟨mode', change', causes, -⟩ := stance_iff.1 acted
    refine ⟨served.mode.trans mode', served.change.trans change', ?_⟩
    rw [served.haltCauses]
    exact (congrArg (·.getLsbD 6) causes).trans (getLsbD_cause v.haltCauses 6 (by decide))
  · rw [if_neg (target_of_sleep sleeps)] at acted
    obtain ⟨-, -, -, mask', timer', latch', -⟩ := stance_iff.1 acted
    obtain ⟨mask, timer, latch⟩ := wakes sleeps
    obtain ⟨maskV, timerV, latchV⟩ := answered.wakes
    obtain ⟨maskT, timerT, latchT⟩ := served.wakes
    exact ⟨maskT.trans (mask'.trans (maskV.trans mask)), timerT.trans (timer'.trans (timerV.trans timer)),
      latchT.trans (latch'.trans (latchV.trans latch))⟩

end Sys2Proof.Machine

end

section
/-! PROOFS. The resets of cabinets that the host ports ask for (R438, R502, R510). -/

namespace Sys2Proof.Machine

/-- What a reset of cabinets keeps: the state of the ports, and what is noted of each cabinet's reset. -/
def Steady (s t : State) : Prop :=
  (t.perst = s.perst ∧ t.usbUp = s.usbUp) ∧ ∀ c, (t.cab c).resetFace = (s.cab c).resetFace

theorem Steady.of_stance {s t : State} (h : t.stance = s.stance) : Steady s t := by
  obtain ⟨-, -, -, -, -, -, -, -, -, -, -, -, perst, -, usbUp, -, -, -, -, resets, -⟩ := stance_iff.1 h
  exact ⟨⟨perst, usbUp⟩, resets⟩

theorem Steady.refl (s : State) : Steady s s := ⟨⟨rfl, rfl⟩, fun _ => rfl⟩

theorem Steady.trans {s t u : State} (h : Steady s t) (k : Steady t u) : Steady s u :=
  ⟨⟨k.1.1.trans h.1.1, k.1.2.trans h.1.2⟩, fun c => (k.2 c).trans (h.2 c)⟩

theorem Steady.forEach {α : Type} (f : α → State → State) (h : ∀ x s, Steady s (f x s)) (xs : List α) (s : State) :
    Steady s (Machine.forEach xs f s) :=
  forEach_keeps (P := Steady s) f (fun x t ht => ht.trans (h x t)) xs s (Steady.refl s)

theorem Steady.withRung (s : State) (r : List Nat) (ts : Tab (Option UsbTag)) :
    Steady s { s with rung := r, usbTags := ts } := ⟨⟨rfl, rfl⟩, fun _ => rfl⟩

theorem Steady.updSlot (s : State) (m n : Nat) (f : Slot → Slot) : Steady s (s.updSlot m n f) :=
  ⟨⟨rfl, rfl⟩, fun _ => rfl⟩

/-- The mailboxes of a cabinet that is reset lose their commands; the ports and the reset's own notes stay. -/
theorem Steady.resetMailboxes (s : State) (c : Nat) : Steady s (s.resetMailboxes c) := by
  unfold State.resetMailboxes
  refine Steady.trans ?_ (Steady.of_stance (stance_updResetting _ c _ fun _ => rfl))
  refine Steady.trans ?_ (Steady.of_stance (stance_updRing _ c _))
  refine Steady.trans ?_ (Steady.forEach _ (fun h u => ?_) _ _)
  · refine Steady.trans ?_ (Steady.of_stance (stance_forEach _ (fun _ u => stance_overflow u c 9) _ _))
    refine Steady.trans ?_ (Steady.of_stance (stance_inc _ _ _ _ _))
    exact (Steady.withRung s _ _).trans (Steady.forEach _ (fun k u => Steady.updSlot u _ _ _) _ _)
  · split
    · exact .of_stance (stance_overflow _ _ _)
    · exact .refl _

/-- A cabinet whose reset has begun (R438): its cause, its count and its window being scrubbed are noted. -/
def State.beginReset (s : State) (c cause : Nat) (erase : Bool) : State :=
  s.updCab c fun x =>
    { x with
      resets := x.resets + 1, summary := none, scrubbing := true, eraseRecord := x.eraseRecord || erase,
      eraseStream := x.eraseStream || erase,
      resetting := some { cause, start := s.now, eraseKeys := erase, aborted := 0, jobs := 0, flushed := 0, entries := [],
                          orphans := [], discarded := 0, acked := 0, undelivered := 0 } }

theorem resetFace_beginReset (s : State) (c cause : Nat) (erase : Bool) (d : Nat) :
    ((s.beginReset c cause erase).cab d).resetFace =
      if d = c then (some cause, (s.cab c).resets + 1, true) else (s.cab d).resetFace := by
  rw [State.beginReset, cab_updCab]
  split <;> rfl

theorem stance_withRequests (s : State) (qs : List Request) :
    ({ s with requests := qs } : State).stance = s.stance := rfl

/-- What follows the beginning of a reset keeps what is noted of the resets. -/
theorem startReset_steady (s : State) (c cause : Nat) (erase : Bool) (idle : (s.cab c).resetting = none) :
    Steady (s.beginReset c cause erase) (s.startReset c cause erase) := by
  unfold State.startReset
  rw [if_neg (by simp [idle])]
  have begun : Steady (s.beginReset c cause erase) (((s.beginReset c cause erase).inc 8 c 21 1).resetMailboxes c) :=
    (Steady.of_stance (stance_inc _ 8 c 21 1)).trans (Steady.resetMailboxes _ c)
  refine begun.trans (.of_stance ?_)
  simp only [stance_assignChannels, stance_reBacklog, stance_tryErase]
  rw [stance_withRequests, stance_resetStreams, stance_resetRake, stance_orphanDocs, stance_cancelJobs,
    stance_abandonReads]
  rfl

theorem startReset_idle {s : State} (c cause : Nat) (erase : Bool) (idle : (s.cab c).resetting = none) :
    ((s.startReset c cause erase).cab c).resetFace = (some cause, (s.cab c).resets + 1, true) := by
  rw [(startReset_steady s c cause erase idle).2, resetFace_beginReset, if_pos rfl]

theorem startReset_ports (s : State) (c cause : Nat) (erase : Bool) :
    (s.startReset c cause erase).perst = s.perst ∧ (s.startReset c cause erase).usbUp = s.usbUp := by
  by_cases idle : (s.cab c).resetting = none
  · exact (startReset_steady s c cause erase idle).1
  · unfold State.startReset
    rw [if_pos (Option.isSome_iff_ne_none.2 idle)]
    exact ⟨rfl, rfl⟩

/-- A reset leaves its cabinet being reset, and every cabinet that was. -/
theorem startReset_resetting (s : State) (c cause : Nat) (erase : Bool) (d : Nat)
    (h : d = c ∨ (s.cab d).resetting ≠ none) : ((s.startReset c cause erase).cab d).resetting ≠ none := by
  by_cases idle : (s.cab c).resetting = none
  · have face := (startReset_steady s c cause erase idle).2 d
    rw [resetFace_beginReset] at face
    intro none_
    split at face
    · simp [none_] at face
    · next other => simp [none_, h.resolve_left other] at face
  · unfold State.startReset
    rw [if_pos (Option.isSome_iff_ne_none.2 idle)]
    exact h.elim (fun e => e ▸ idle) id

/-- Every cabinet that a loss reaches is being reset. -/
theorem resetCabs_resetting (s : State) (cs : List Nat) (cause : Nat) :
    (s.resetCabs cs cause).perst = s.perst ∧
      ∀ c ∈ cs, ((s.resetCabs cs cause).cab c).resetting ≠ none := by
  refine forEach_reaches (Q := fun t : State => t.perst = s.perst) (P := fun c t => (t.cab c).resetting ≠ none) _
    (fun c t same => ⟨?_, ?_⟩) (fun c d t _ _ h => ?_) cs s rfl
  · exact (startReset_ports t c cause false).1.trans same
  · exact startReset_resetting t c cause false c (.inl rfl)
  · exact startReset_resetting t d cause false c (.inr h)

/-! The functions of a port that is down (R502). -/

theorem portDown_cab (s : State) (fs : List Nat) (c : Nat) : (s.portDown fs).cab c = s.cab c := by
  unfold State.portDown
  refine forEach_keeps (P := fun t : State => t.cab c = s.cab c) _ (fun _ _ h => ?_) fs s rfl
  exact h

theorem portDown_perst (s : State) (fs : List Nat) : (s.portDown fs).perst = s.perst := by
  unfold State.portDown
  refine forEach_keeps (P := fun t : State => t.perst = s.perst) _ (fun _ _ h => ?_) fs s rfl
  exact h

theorem portDown_mbx (s : State) (fs : List Nat) :
    ∀ f ∈ fs, ((s.portDown fs).mbx f).down = true ∧ ((s.portDown fs).mbx f).busMaster = false := by
  refine (forEach_reaches (Q := fun _ : State => True)
    (P := fun f t => (t.mbx f).down = true ∧ (t.mbx f).busMaster = false) _ (fun f t _ => ⟨trivial, ?_⟩)
    (fun f g t other _ h => ?_) fs s trivial).2
  · simp
  · simpa [other] using h

/-- A loss that resets cabinets and takes functions down. -/
theorem resetDown_leaves (s : State) (cs fs : List Nat) :
    ((s.resetCabs cs 2).portDown fs).perst = s.perst ∧
    (∀ f ∈ fs, (((s.resetCabs cs 2).portDown fs).mbx f).down = true ∧
      (((s.resetCabs cs 2).portDown fs).mbx f).busMaster = false) ∧
    ∀ c ∈ cs, (((s.resetCabs cs 2).portDown fs).cab c).resetting ≠ none := by
  obtain ⟨perst, resets⟩ := resetCabs_resetting s cs 2
  refine ⟨(portDown_perst _ fs).trans perst, portDown_mbx _ fs, fun c hc => ?_⟩
  rw [portDown_cab]
  exact resets c hc

theorem linkGone_leaves (s : State) : s.linkGone.pcieUp = false ∧ s.linkGone.perst = s.perst ∧
    (∀ f, f < 256 → (s.linkGone.mbx f).down = true ∧ (s.linkGone.mbx f).busMaster = false) ∧
    ∀ c ∈ s.pcieCabs, (s.linkGone.cab c).resetting ≠ none := by
  have gone (v : State) : ∃ cs, ({ v.inc 0x0B 0 0 1 with pcieUp := false } : State) =
      { v with counters := cs, pcieUp := false } := ⟨_, by rw [inc_eq]⟩
  obtain ⟨cs, gone⟩ := gone ((s.resetCabs s.pcieCabs 2).portDown (List.range 256))
  have leaves (v t : State) (h : t = { v with counters := cs, pcieUp := false }) : t.pcieUp = false ∧
      t.perst = v.perst ∧ (∀ f, t.mbx f = v.mbx f) ∧ ∀ c, t.cab c = v.cab c := by
    subst h
    exact ⟨rfl, rfl, fun _ => rfl, fun _ => rfl⟩
  obtain ⟨perst, functions, resets⟩ := resetDown_leaves s s.pcieCabs (List.range 256)
  obtain ⟨down, perst', mbx, cab⟩ := leaves _ s.linkGone gone
  refine ⟨down, perst'.trans perst, fun f hf => ?_, fun c hc => ?_⟩
  · rw [mbx]
    exact functions f (List.mem_range.2 hf)
  · rw [cab]
    exact resets c hc

theorem linkLoss_row (s : State) (k : LinkLossKind) (awake : s.mode ≠ .dormant) :
    ∃ t, exec (.linkLoss k) s = .next t ∧ t.pcieUp = false ∧
      (∀ f, f < 256 → (t.mbx f).down = true ∧ (t.mbx f).busMaster = false) ∧
      (∀ c ∈ s.pcieCabs, (t.cab c).resetting ≠ none) ∧ (k = LinkLossKind.perst → t.perst = true) := by
  let u := { s with perst := s.perst || decide (k = LinkLossKind.perst) }
  have row : exec (.linkLoss k) s = .next u.linkGone := by
    show execLinkLoss k s = _
    simp only [execLinkLoss]
    rw [if_neg awake]
  obtain ⟨down, perst, functions, resets⟩ := linkGone_leaves u
  exact ⟨u.linkGone, row, down, functions, resets, fun reset => perst.trans (by simp [u, reset])⟩

theorem vfEnableClear_row (s : State) :
    ∃ t, exec .vfEnableClear s = .next t ∧ t.vfEnabled = false ∧ (∀ f, 0 < f → f < 256 → (t.mbx f).down = true) ∧
      ∀ c ∈ s.vfCabs, (t.cab c).resetting ≠ none := by
  let fs := (List.range 255).map (· + 1)
  obtain ⟨-, functions, resets⟩ := resetDown_leaves s s.vfCabs fs
  have leaves (v t : State) (h : t = { v with vfEnabled := false }) : t.vfEnabled = false ∧
      (∀ f, t.mbx f = v.mbx f) ∧ ∀ c, t.cab c = v.cab c := by
    subst h
    exact ⟨rfl, fun _ => rfl, fun _ => rfl⟩
  obtain ⟨disabled, mbx, cab⟩ := leaves ((s.resetCabs s.vfCabs 2).portDown fs) _ rfl
  refine ⟨_, rfl, disabled, fun f pos hf => ?_, fun c hc => ?_⟩
  · exact (congrArg Mbx.down (mbx f)).trans
      (functions f (List.mem_map.2 ⟨f - 1, List.mem_range.2 (by omega), by omega⟩)).1
  · exact (congrArg Cab.resetting (cab c)).trans_ne (resets c hc)

theorem resetFace_eq {x : Cab} {cause n : Nat} {scrubbing : Bool} (h : x.resetFace = (some cause, n, scrubbing)) :
    (∃ z, x.resetting = some z ∧ z.cause = cause) ∧ x.resets = n ∧ x.scrubbing = scrubbing := by
  simp only [Cab.resetFace, Prod.mk.injEq, Option.map_eq_some_iff] at h
  exact h

theorem functionLevelReset_row (s : State) (f : Fin 256) (c : Nat) (bound : s.cabOfMbx f = some c)
    (idle : (s.cab c).resetting = none) :
    ∃ t z, exec (.functionLevelReset f) s = .next t ∧ (t.cab c).resetting = some z ∧ z.cause = 2 ∧
      (t.cab c).resets = (s.cab c).resets + 1 ∧ (t.cab c).scrubbing = true := by
  obtain ⟨⟨z, resetting, cause⟩, resets, scrubbing⟩ := resetFace_eq (startReset_idle c 2 false idle)
  refine ⟨s.startReset c 2 false, z, ?_, resetting, cause, resets, scrubbing⟩
  show execFunctionLevelReset f s = _
  simp only [execFunctionLevelReset, bound]

theorem usbReset_row (s : State) (c : Nat) (bound : s.cabOfMbx 256 = some c) (idle : (s.cab c).resetting = none) :
    ∃ t z, exec .usbReset s = .next t ∧ t.usbUp = false ∧ (t.cab c).resetting = some z ∧ z.cause = 3 := by
  let u := { s with usbUp := false, usbTags := [], usbSuspended := false, usbWait := [] }
  obtain ⟨⟨z, resetting, cause⟩, -⟩ := resetFace_eq (startReset_idle (s := u) c 3 false idle)
  refine ⟨u.startReset c 3 false, z, ?_, (startReset_ports u c 3 false).2, resetting, cause⟩
  have bound' : u.cabOfMbx 256 = some c := bound
  show execUsbReset s = _
  simp only [execUsbReset]
  rw [bound']

end Sys2Proof.Machine

end

section
/-! PROOFS. Port state, bus mastering and the resume of the USB port (R58, R497, R503, R562). -/

namespace Sys2Proof.Machine

theorem vfEnable_row (s : State) (f : Fin 256) (virtual : f.val ≠ 0) :
    ∃ t, exec (.vfEnable f) s = .next t ∧ t.vfEnabled = true ∧ t.mode = s.mode ∧ t.docs = s.docs := by
  have told := found_told { s with vfEnabled := true } 5 f 1 0
  refine ⟨_, congrArg Host.Outcome.next (if_neg virtual), ?_, told.mode, (congrArg State.docs told.rest :)⟩
  exact (congrArg State.vfEnabled told.rest :)

theorem portChanged_row (s : State) (usb up : Bool) (speed lanes : BitVec 8) (awake : s.mode ≠ .dormant) :
    ∃ t, exec (.portChanged usb up speed lanes) s = .next t ∧ t.pcieUp = (if usb then s.pcieUp else up) ∧
      t.usbUp = (if usb then up else s.usbUp) ∧ Told { s with pcieUp := t.pcieUp, usbUp := t.usbUp } t := by
  let u := if usb then { s with usbUp := up, usbNotes := if up then 0 else s.usbNotes } else { s with pcieUp := up }
  let cs := u.enabledCabs.filter fun c => c == 0 || (if usb then u.usbBound c else (u.fnOfCab c).isSome)
  let t := u.raiseTo cs (u.ev 0x0903 usb.toNat up.toNat (w2 (speed.toNat + lanes.toNat * 256)))
  have row : exec (.portChanged usb up speed lanes) s = .next t := by
    show execPortChanged usb up speed lanes s = _
    simp only [execPortChanged]
    rw [if_neg awake]
  have told : Told u t := Told.raiseTo u cs _
  have pcie : t.pcieUp = u.pcieUp := (congrArg State.pcieUp told.rest :)
  have usbUp : t.usbUp = u.usbUp := (congrArg State.usbUp told.rest :)
  have changed : Told { s with pcieUp := t.pcieUp, usbUp := t.usbUp } u := by
    rw [pcie, usbUp]
    cases usb <;> exact ⟨rfl, fun _ => rfl, fun _ => rfl, fun _ _ _ _ => rfl⟩
  refine ⟨t, row, ?_, ?_, changed.trans told⟩
  · rw [pcie]
    cases usb <;> rfl
  · rw [usbUp]
    cases usb <;> rfl

theorem perstDeassert_row (s : State) (clock : Bool) (awake : s.mode ≠ .dormant) :
    exec (.perstDeassert clock) s = .next { s with perst := false, extRefclk := clock } :=
  congrArg Host.Outcome.next (if_neg awake)

theorem busMasterEnableChange_row (s : State) (f : Fin 256) (enable d0 : Bool) :
    ∃ t, exec (.busMasterEnableChange f enable d0) s = .next t ∧
      (t.mbx f).busMaster = enable ∧ (t.mbx f).d0 = d0 ∧ (t.mbx f).down = ((s.mbx f).down && !(enable && d0)) ∧
      ∀ g, g ≠ f.val → t.canWrite g = s.canWrite g := by
  let u := s.updMbx f fun b => { b with busMaster := enable, d0, down := b.down && !(enable && d0) }
  obtain ⟨-, -, -, -, -, -, -, -, -, -, -, -, -, -, -, -, -, -, boxes, -⟩ := stance_iff.1 (stance_serveHeld u)
  have own : u.mbx f = { s.mbx f with busMaster := enable, d0, down := (s.mbx f).down && !(enable && d0) } := by simp [u]
  refine ⟨u.serveHeld, rfl, ?_, ?_, ?_, fun g other => ?_⟩
  · exact (congrArg Mbx.busMaster (boxes f)).trans (by simp [Mbx.unpended, own])
  · exact (congrArg Mbx.d0 (boxes f)).trans (by simp [Mbx.unpended, own])
  · exact (congrArg Mbx.down (boxes f)).trans (by simp [Mbx.unpended, own])
  · have box : u.mbx g = s.mbx g := by simp [u, other]
    have master : (u.serveHeld.mbx g).busMaster = (s.mbx g).busMaster :=
      (congrArg Mbx.busMaster (boxes g)).trans (by simp [Mbx.unpended, box])
    have d0' : (u.serveHeld.mbx g).d0 = (s.mbx g).d0 := 
      (congrArg Mbx.d0 (boxes g)).trans (by simp [Mbx.unpended, box])
    rw [State.canWrite, State.canWrite, master, d0']

/-! The events held for a suspended USB port (R58). -/

/-- Whether the USB port is suspended, and the events held for each cabinet. -/
def State.heldBack (s : State) : Bool × (Nat → List Held) := (s.usbSuspended, fun c => (s.cab c).ring.held)

theorem heldBack_iff {s t : State} : t.heldBack = s.heldBack ↔
    t.usbSuspended = s.usbSuspended ∧ ∀ c, (t.cab c).ring.held = (s.cab c).ring.held := by
  simp only [State.heldBack, Prod.mk.injEq, funext_iff]

@[simp] theorem heldBack_inc (s : State) (cls unit idx n : Nat) : (s.inc cls unit idx n).heldBack = s.heldBack := by
  rw [inc_eq]
  rfl

@[simp] theorem heldBack_forEach {α : Type} (f : α → State → State) (h : ∀ x s, (f x s).heldBack = s.heldBack)
    (xs : List α) (s : State) : (forEach xs f s).heldBack = s.heldBack :=
  forEach_keeps (P := fun t : State => t.heldBack = s.heldBack) f (fun x t ht => (h x t).trans ht) xs s rfl

@[simp] theorem heldBack_push (s : State) (o : Out) : (s.push o).heldBack = s.heldBack := rfl

@[simp] theorem heldBack_usbSend (s : State) (o : Out) : (s.usbSend o).heldBack = s.heldBack := by
  unfold State.usbSend
  split <;> rfl

@[simp] theorem heldBack_useSlots (s : State) (m n : Nat) : (s.useSlots m n).heldBack = s.heldBack := by
  unfold State.useSlots
  dsimp only
  split
  · exact heldBack_inc s _ _ _ _
  · exact heldBack_inc s _ _ _ _

@[simp] theorem heldBack_hostWrite (s : State) (m : Nat) (a : BitVec 64) (bs : List Byte) :
    (s.hostWrite m a bs).heldBack = s.heldBack := by
  unfold State.hostWrite
  split
  · rfl
  · split <;> simp

@[simp] theorem heldBack_signal (s : State) (m v : Nat) : (s.signal m v).heldBack = s.heldBack := by
  unfold State.signal
  split
  · exact heldBack_usbSend _ _
  · split
    · rfl
    · split <;> rfl

@[simp] theorem heldBack_updRing (s : State) (c : Nat) (f : EvRing → EvRing) (h : ∀ r, (f r).held = r.held) :
    (s.updRing c f).heldBack = s.heldBack := by
  refine heldBack_iff.2 ⟨rfl, fun d => ?_⟩
  rw [State.updRing, cab_updCab]
  split
  · next e => rw [e]; exact h _
  · rfl

@[simp] theorem heldBack_overflow (s : State) (c cls : Nat) : (s.overflow c cls).heldBack = s.heldBack := by
  simp [State.overflow]

@[simp] theorem heldBack_ringSignal (s : State) (c : Nat) : (s.ringSignal c).heldBack = s.heldBack := by
  unfold State.ringSignal
  dsimp only
  split
  · simp
  · split <;> simp

@[simp] theorem heldBack_writeEntry (s : State) (c : Nat) (e : Ev) : (s.writeEntry c e).heldBack = s.heldBack := by
  unfold State.writeEntry
  dsimp only
  split <;> simp

@[simp] theorem heldBack_drainWm (fuel c : Nat) (s : State) : (State.drainWm fuel c s).heldBack = s.heldBack := by
  induction fuel generalizing s with
  | zero => rfl
  | succ fuel ih =>
    unfold State.drainWm
    dsimp only
    split
    · rfl
    · split <;> simp [ih]

/-- An event raised while the USB port is not suspended is held for no cabinet. -/
theorem heldBack_raise (s : State) (c : Nat) (e : Ev) (resumed : s.usbSuspended = false) :
    (s.raise c e).heldBack = s.heldBack := by
  unfold State.raise
  dsimp only
  rw [if_neg (by simp [State.usbHolds, resumed])]
  split <;> simp

/-- What one cabinet's turn of the resume does: its list of held events is emptied, and each is written or counted. -/
theorem heldBack_resume (s : State) (c fuel : Nat) (hs : List Held) (resumed : s.usbSuspended = false) :
    (forEach hs (fun h s => match h with
      | .ev e => s.raise c e
      | .wm _ => State.drainWm 1 c s) (State.drainWm fuel c (s.updRing c fun r => { r with held := [] }))).heldBack =
      (s.updRing c fun r => { r with held := [] }).heldBack := by
  refine forEach_keeps (P := fun t : State => t.heldBack = (s.updRing c fun r => { r with held := [] }).heldBack) _
    (fun h t same => ?_) hs _ (heldBack_drainWm _ _ _)
  cases h with
  | ev e => exact (heldBack_raise t c e ((heldBack_iff.1 same).1.trans resumed)).trans same
  | wm _ => exact (heldBack_drainWm 1 c t).trans same

theorem usbResume_row (s : State) :
    ∃ t, exec .usbResume s = .next t ∧ t.usbSuspended = false ∧ ∀ c ∈ s.enabledCabs, (t.cab c).ring.held = [] := by
  refine ⟨s.flushUsb, rfl, ?_⟩
  unfold State.flushUsb
  refine forEach_reaches (Q := fun t : State => t.usbSuspended = false) (P := fun c t => (t.cab c).ring.held = []) _
    (fun c t resumed => ?_) (fun c d t other resumed empty => ?_) _ _ rfl
  · obtain ⟨same, helds⟩ := heldBack_iff.1 (heldBack_resume t c _ (t.cab c).ring.held resumed)
    exact ⟨same.trans resumed, (helds c).trans (by simp [State.updRing])⟩
  · obtain ⟨-, helds⟩ := heldBack_iff.1 (heldBack_resume t d _ (t.cab d).ring.held resumed)
    exact (helds c).trans (by simp [State.updRing, other, empty])

end Sys2Proof.Machine

end

section
/-! PROOFS. Pending interrupts (R452), and the rows of the host ports. -/

namespace Sys2Proof.Machine

/-! Pending interrupts (R452). -/

theorem getLsbD_cleared (p : BitVec 64) (v i : Nat) :
    (p &&& ~~~(1#64 <<< v)).getLsbD i = (p.getLsbD i && decide (i ≠ v)) := by
  by_cases hi : i < 64
  · by_cases e : i = v
    · subst e; simp [hi]
    · simp [hi, e]
      omega
  · simp [BitVec.getLsbD_of_ge p i (by omega)]

/-- A vector sent: its pending bit is cleared. -/
def State.vectorSent (s : State) (m v : Nat) : State :=
  (s.updMbx m fun b => { b with pba := b.pba &&& ~~~(1#64 <<< v) }).push (.msix m v)

theorem vectorSent_mbx (s : State) (m v : Nat) :
    (s.vectorSent m v).mbx m = { s.mbx m with pba := (s.mbx m).pba &&& ~~~(1#64 <<< v) } :=
  (mbx_updMbx s m m fun b => { b with pba := b.pba &&& ~~~(1#64 <<< v) }).trans (if_pos rfl)

theorem vectorSent_pba (s : State) (m v i : Nat) :
    ((s.vectorSent m v).mbx m).pba.getLsbD i = ((s.mbx m).pba.getLsbD i && decide (i ≠ v)) := by
  rw [vectorSent_mbx, getLsbD_cleared]

theorem vectorSent_frame (s : State) (m v : Nat) :
    ({ s.vectorSent m v with outbox := s.outbox, mbxs := s.mbxs } : State) = s := rfl

theorem sendPending_sends {s : State} {m v : Nat} (on : (s.mbx m).msixOn = true) (open_ : (s.mbx m).msixMasked = false)
    (unmasked : (s.mbx m).unmasked.getLsbD v = true) (pending : (s.mbx m).pba.getLsbD v = true) :
    s.sendPending m v = s.vectorSent m v := by
  unfold State.sendPending
  exact if_pos (by simp [on, open_, unmasked, pending])

theorem sendPending_rests {s : State} {m v : Nat}
    (h : (s.mbx m).unmasked.getLsbD v = false ∨ (s.mbx m).pba.getLsbD v = false) : s.sendPending m v = s := by
  unfold State.sendPending
  refine if_neg ?_
  rcases h with h | h <;> simp [h]

/-- A vector that is unmasked while it pends is sent. -/
theorem unmaskVector_row (s : State) (f : Fin 256) (v : Fin 64) (on : (s.mbx f).msixOn = true)
    (open_ : (s.mbx f).msixMasked = false) (pending : (s.mbx f).pba.getLsbD v = true) :
    ∃ t, exec (.msixUnmask f (some v)) s = .next t ∧ t.outbox = s.outbox ++ [.msix f v] ∧
      (t.mbx f).unmasked.getLsbD v = true ∧ (t.mbx f).pba.getLsbD v = false ∧
      (∀ i, i ≠ v.val → (t.mbx f).pba.getLsbD i = (s.mbx f).pba.getLsbD i) ∧
      ({ t with outbox := s.outbox, mbxs := s.mbxs } : State) = s := by
  let u := s.updMbx f fun b => { b with unmasked := b.unmasked ||| (1#64 <<< v.val) }
  have box : u.mbx f = { s.mbx f with unmasked := (s.mbx f).unmasked ||| (1#64 <<< v.val) } :=
    (mbx_updMbx s f f _).trans (if_pos rfl)
  have sent : u.sendPending f v = u.vectorSent f v :=
    sendPending_sends (by rw [box, on]) (by rw [box, open_]) (by simp [box]) (by rw [box, pending])
  have row : exec (.msixUnmask f (some v)) s = .next (u.vectorSent f v) := by
    show execMsixUnmask f (some v) s = _
    have place : (4 * v.val + 3) / 4 = v.val := by omega
    simp only [execMsixUnmask, State.msixWrite]
    rw [if_pos (by omega), place, ← sent]
    rfl
  refine ⟨u.vectorSent f v, row, rfl, ?_, ?_, fun i other => ?_, ?_⟩
  · simp [vectorSent_mbx, box]
  · rw [vectorSent_pba]
    simp
  · simp [vectorSent_pba, box, other]
  · exact (congrArg (fun t : State => { t with outbox := s.outbox, mbxs := s.mbxs }) (vectorSent_frame u f v) :)

/-- While the vectors of a function are sent in turn: only its mailbox and the outbox change, a masked vector pends on, and
one that pended unmasked pends or is sent. -/
structure Sending (f : Nat) (s t : State) : Prop where
  frame : ({ t with outbox := s.outbox, mbxs := s.mbxs } : State) = s
  on : (t.mbx f).msixOn = true
  open_ : (t.mbx f).msixMasked = false
  unmasked : (t.mbx f).unmasked = (s.mbx f).unmasked
  kept : ∀ i, (s.mbx f).unmasked.getLsbD i = false → (t.mbx f).pba.getLsbD i = (s.mbx f).pba.getLsbD i
  sent : ∀ i, (s.mbx f).pba.getLsbD i = true → (t.mbx f).pba.getLsbD i = true ∨ Out.msix f i ∈ t.outbox

theorem Sending.begin (f : Nat) (s : State) :
    Sending f s (s.updMbx f fun b => { b with msixOn := true, msixMasked := false }) where
  frame := rfl
  on := by simp
  open_ := by simp
  unmasked := by simp
  kept := by simp
  sent := by simp +contextual

/-- One vector's turn. -/
theorem Sending.step {f : Nat} {s t : State} (h : Sending f s t) (v : Nat) :
    Sending f s (t.sendPending f v) ∧
      ((s.mbx f).unmasked.getLsbD v = true → ((t.sendPending f v).mbx f).pba.getLsbD v = false) := by
  cases u : (t.mbx f).unmasked.getLsbD v with
  | false =>
    rw [sendPending_rests (.inl u)]
    exact ⟨h, fun open_ => by rw [h.unmasked, open_] at u; cases u⟩
  | true =>
    cases p : (t.mbx f).pba.getLsbD v with
    | false =>
      rw [sendPending_rests (.inr p)]
      exact ⟨h, fun _ => p⟩
    | true =>
      rw [sendPending_sends h.on h.open_ u p]
      have box := vectorSent_mbx t f v
      refine ⟨⟨h.frame, ?_, ?_, ?_, fun i masked => ?_, fun i pended => ?_⟩, fun _ => ?_⟩
      · exact (congrArg Mbx.msixOn box).trans h.on
      · exact (congrArg Mbx.msixMasked box).trans h.open_
      · exact (congrArg Mbx.unmasked box).trans h.unmasked
      · have other : i ≠ v := by
          rintro rfl
          rw [h.unmasked, masked] at u
          cases u
        rw [vectorSent_pba, h.kept i masked]
        simp [other]
      · by_cases e : i = v
        · exact .inr (e ▸ List.mem_append_right _ (List.mem_singleton_self _))
        · exact (h.sent i pended).imp (fun still => by simp [vectorSent_pba, still, e]) (List.mem_append_left _)
      · simp [vectorSent_pba]

/-- A vector that pends no longer stays so while others are sent. -/
theorem sendPending_clear {t : State} {f v : Nat} (w : Nat) (h : (t.mbx f).pba.getLsbD v = false) :
    ((t.sendPending f w).mbx f).pba.getLsbD v = false := by
  unfold State.sendPending
  dsimp only
  split
  · exact (vectorSent_pba t f w v).trans (by simp [h])
  · exact h

/-- MSI-X enabled and unmasked as a whole: every unmasked vector that pends is sent. -/
theorem unmaskFunction_row (s : State) (f : Fin 256) :
    ∃ t, exec (.msixUnmask f none) s = .next t ∧ (t.mbx f).msixOn = true ∧ (t.mbx f).msixMasked = false ∧
      (t.mbx f).unmasked = (s.mbx f).unmasked ∧
      (∀ i, i < 64 → (t.mbx f).pba.getLsbD i = ((s.mbx f).pba.getLsbD i && !(s.mbx f).unmasked.getLsbD i)) ∧
      (∀ v : Fin 64, (s.mbx f).unmasked.getLsbD v = true → (s.mbx f).pba.getLsbD v = true → Out.msix f v ∈ t.outbox) ∧
      ({ t with outbox := s.outbox, mbxs := s.mbxs } : State) = s := by
  obtain ⟨sending, cleared⟩ := forEach_reaches (Q := Sending f s)
    (P := fun v t => (s.mbx f).unmasked.getLsbD v = true → (t.mbx f).pba.getLsbD v = false)
    (fun v (t : State) => t.sendPending f v) (fun v t h => h.step v)
    (fun v w t _ _ clear open_ => sendPending_clear w (clear open_)) (List.range 64) _ (Sending.begin f s)
  refine ⟨_, rfl, sending.on, sending.open_, sending.unmasked, fun i hi => ?_, fun v open_ pended => ?_, sending.frame⟩
  · cases masked : (s.mbx f).unmasked.getLsbD i with
    | false => exact (sending.kept i masked).trans (by simp)
    | true => exact (cleared i (List.mem_range.2 hi) masked).trans (by simp)
  · refine (sending.sent v pended).resolve_left ?_
    have clear := cleared v (List.mem_range.2 v.isLt) open_
    rw [clear]
    decide

/-- Settles O41, from its rows: those that reset cabinets, and those that do not. -/
theorem hostPorts : Obligations.HostPorts := by
  unfold Obligations.HostPorts
  refine ⟨fun s => ⟨fun k => linkLoss_row s k, vfEnableClear_row s, functionLevelReset_row s, usbReset_row s⟩,
    fun s => ⟨vfEnable_row s, fun usb up speed lanes => portChanged_row s usb up speed lanes, perstDeassert_row s,
      busMasterEnableChange_row s, usbResume_row s, fun f v on open_ pending => ?_, unmaskFunction_row s⟩⟩
  exact unmaskVector_row s f v on open_ pending

end Sys2Proof.Machine

end

section
/-! PROOFS. What the return of a descriptor leaves (R484 to R487): its ring moves on by one, its return is counted and its
STATUS written; what follows keeps the rings but for their channels, and the counters of the returns. -/

namespace Sys2Proof.Machine

/-! The rings but for their channels. -/

@[simp] theorem ring_updRingOf (s : State) (c n c' n' : Nat) (f : Ring → Ring) :
    (s.updRingOf c n f).ring c' n' = if 16 * c' + n' = 16 * c + n then f (s.ring c n) else s.ring c' n' := by
  simp [State.updRingOf, State.ring]

/-- A ring without the channel it holds or waits for (R496). -/
def Ring.face (g : Ring) : Ring := { g with chan := none, lastChan := 0xFF, waitSince := none }

theorem Ring.of_face {g h : Ring} (e : g.face = h.face) : g.opened = h.opened ∧ g.ret = h.ret ∧ g.next = h.next ∧
    g.via = h.via ∧ g.fetchTried = h.fetchTried ∧ g.descAddr = h.descAddr := by
  have base : g.base = h.base := (congrArg Ring.base e :)
  have size : g.size = h.size := (congrArg Ring.size e :)
  refine ⟨(congrArg Ring.opened e :), (congrArg Ring.ret e :), (congrArg Ring.next e :), (congrArg Ring.via e :),
    (congrArg Ring.fetchTried e :), ?_⟩
  funext i
  simp only [Ring.descAddr, base, size]

/-- The counters of the returns of streams, and of failed probes and reads (R484, R492, R494). -/
def returnCtr (cls idx : Nat) : Prop := (cls = 9 ∧ 3 ≤ idx ∧ idx ≤ 6) ∨ (cls = 0x0B ∧ (idx = 3 ∨ idx = 4))

theorem not_reportCtr {cls idx : Nat} (h : returnCtr cls idx) : ¬ reportCtr cls idx := by
  unfold returnCtr at h
  unfold reportCtr
  omega

/-- `t` follows from `s` with no descriptor opened, filled or returned: the rings stand but for their channels, the counters
of the returns stand, and what was sent stays sent. -/
structure Undealt (s t : State) : Prop where
  ring : ∀ c n, (t.ring c n).face = (s.ring c n).face
  ctr : ∀ cls u i, returnCtr cls i → t.ctr cls u i = s.ctr cls u i
  sent : Sent s t

theorem Undealt.refl (s : State) : Undealt s s := ⟨fun _ _ => rfl, fun _ _ _ _ => rfl, .refl s⟩

theorem Undealt.trans {s t u : State} (h : Undealt s t) (k : Undealt t u) : Undealt s u :=
  ⟨fun c n => (k.ring c n).trans (h.ring c n), fun a b i r => (k.ctr a b i r).trans (h.ctr a b i r), h.sent.trans k.sent⟩

theorem Undealt.forEach {α : Type} (f : α → State → State) (h : ∀ x s, Undealt s (f x s)) (xs : List α) (s : State) :
    Undealt s (Machine.forEach xs f s) :=
  forEach_keeps (P := Undealt s) f (fun x t ht => ht.trans (h x t)) xs s (.refl s)

theorem Undealt.of_told {s t : State} (told : Told s t) (sent : Sent s t) : Undealt s t :=
  ⟨fun c n => (congrArg (fun u : State => (u.ring c n).face) told.rest :), fun a b i r => told.ctr a b i (not_reportCtr r),
    sent⟩

theorem Undealt.of_eq {s t : State} (rings : t.rings = s.rings) (counters : t.counters = s.counters)
    (outbox : t.outbox = s.outbox) : Undealt s t :=
  ⟨fun c n => by rw [State.ring, rings]; rfl, fun a b i _ => by rw [State.ctr, counters]; rfl, .of_eq outbox⟩

theorem Undealt.inc (s : State) (cls unit idx n : Nat) (h : ¬ returnCtr cls idx) : Undealt s (s.inc cls unit idx n) := by
  refine ⟨fun c n => by rw [inc_eq]; rfl, fun a b i r => ?_, Sent.inc s _ _ _ _⟩
  rw [ctr_inc, if_neg]
  rintro ⟨rfl, rfl, rfl, -⟩
  exact h r

/-- A ring whose channel alone changes. -/
theorem Undealt.updRingOf (s : State) (c n : Nat) (f : Ring → Ring) (h : ∀ g, (f g).face = g.face) :
    Undealt s (s.updRingOf c n f) := by
  refine ⟨fun c' n' => ?_, fun _ _ _ _ => rfl, .of_eq rfl⟩
  rw [ring_updRingOf]
  split
  · next e => rw [h, State.ring, State.ring, e]
  · rfl

/-! Events and streams. -/

theorem Sent.overflow (s : State) (c cls : Nat) : Sent s (s.overflow c cls) :=
  (Sent.of_eq (t := s.updRing c _) rfl).trans (Sent.inc _ _ _ _ _)

theorem Sent.ringSignal (s : State) (c : Nat) : Sent s (s.ringSignal c) := by
  unfold State.ringSignal
  dsimp only
  split
  · exact .of_eq rfl
  · split
    · exact (Sent.signal s _ _).trans (.of_eq rfl)
    · exact .of_eq rfl

theorem Sent.writeEntry (s : State) (c : Nat) (e : Ev) : Sent s (s.writeEntry c e) := by
  unfold State.writeEntry
  dsimp only
  split
  · refine Sent.trans ?_ (Sent.ringSignal _ c)
    refine Sent.trans ?_ (Sent.inc _ _ _ _ _)
    exact (Sent.hostWrite s _ _ _).trans (.of_eq rfl)
  · exact (Sent.of_eq (t := s.updRing c _) rfl).trans (Sent.overflow _ c _)

theorem Sent.raise (s : State) (c : Nat) (e : Ev) : Sent s (s.raise c e) := by
  unfold State.raise
  dsimp only
  split
  · split
    · exact .of_eq rfl
    · exact Sent.overflow s c _
  · split
    · exact Sent.overflow s c _
    · exact Sent.writeEntry s c e

theorem Undealt.raise (s : State) (c : Nat) (e : Ev) : Undealt s (s.raise c e) :=
  .of_told (Told.raise s c e) (Sent.raise s c e)

theorem Undealt.hostWrite (s : State) (m : Nat) (a : BitVec 64) (bs : List Byte) : Undealt s (s.hostWrite m a bs) :=
  .of_told (Told.hostWrite s m a bs) (Sent.hostWrite s m a bs)

theorem Undealt.portWrite (s : State) (m : Nat) (a : BitVec 64) (bs : List Byte) : Undealt s (s.portWrite m a bs) := by
  unfold State.portWrite
  split
  · exact .hostWrite s m a bs
  · exact .refl s

theorem Undealt.hostRead (s : State) (m : Nat) (a : BitVec 64) (l : Nat) : Undealt s (s.hostRead m a l) :=
  .of_told (Told.hostRead s m a l) ((Sent.useSlots s m _).trans fun _ ho => List.mem_append_left _ ho)

theorem Undealt.updStream (s : State) (c n : Nat) (f : Stream → Stream) : Undealt s (s.updStream c n f) :=
  .of_eq rfl rfl rfl

theorem Undealt.updRing (s : State) (c : Nat) (f : EvRing → EvRing) : Undealt s (s.updRing c f) :=
  .of_eq rfl rfl rfl

theorem Undealt.raiseWm (s : State) (c n : Nat) (above : Bool) : Undealt s (s.raiseWm c n above) := by
  have marked : Undealt s ((s.updRing c fun r => { r with raised := r.raised ||| (1#16 <<< n) }).updStream c n fun x =>
      { x with wmArmed := false }) := (Undealt.updRing s c _).trans (Undealt.updStream _ c n _)
  unfold State.raiseWm
  dsimp only
  generalize State.updStream _ c n _ = u at marked ⊢
  split
  · exact marked.trans (.updRing u c _)
  · split
    · exact marked.trans (.updRing u c _)
    · exact marked.trans (.of_told (Told.writeEntry u c _) (Sent.writeEntry u c _))

theorem Undealt.chgStream (s : State) (c n : Nat) (f : Stream → Stream) : Undealt s (s.chgStream c n f) := by
  unfold State.chgStream
  dsimp only
  split
  · split
    · exact (Undealt.updStream s c n f).trans ((Undealt.updStream _ c n _).trans (Undealt.raiseWm _ c n false))
    · exact (Undealt.updStream s c n f).trans (Undealt.updStream _ c n _)
  · exact Undealt.updStream s c n f

theorem Undealt.makeItem (s : State) (c n kind flags bed kernel acc : Nat) (payload : List Byte) :
    Undealt s (s.makeItem c n kind flags bed kernel acc payload).1 := by
  unfold State.makeItem
  dsimp only
  split
  · exact .of_eq rfl rfl rfl
  · exact .refl s

theorem Undealt.ringFed (s : State) (c n : Nat) : Undealt s (s.ringFed c n) := by
  unfold State.ringFed
  dsimp only
  split
  · exact .updRingOf s c n _ fun _ => rfl
  · exact .refl s

theorem Undealt.appendItem (s : State) (c n : Nat) (bs : List Byte) (kind acc res : Nat) (last : Bool) :
    Undealt s (s.appendItem c n bs kind acc res last) := by
  unfold State.appendItem
  have written : Undealt s (s.ringWrite c n (s.stream c n).written bs) := .of_eq rfl rfl rfl
  exact written.trans ((Undealt.chgStream _ c n _).trans ((Undealt.inc _ 9 _ 0 _ (by simp [returnCtr])).trans
    (Undealt.ringFed _ c n)))

theorem Undealt.flushHeld (fuel c n : Nat) : ∀ s : State, Undealt s (State.flushHeld fuel c n s) := by
  induction fuel with
  | zero => exact Undealt.refl
  | succ fuel ih =>
    intro s
    unfold State.flushHeld
    split
    · exact .refl s
    · split
      · exact (Undealt.updStream s c n _).trans ((Undealt.appendItem _ c n _ _ _ _ _).trans (ih _))
      · exact .refl s

theorem Undealt.withWaiting (s : State) (ws : Tab (List Waiting)) : Undealt s { s with waiting := ws } :=
  .of_eq rfl rfl rfl

/-- A note that is written lets its document go; a record that is written is noted in its document. -/
theorem Undealt.recorded (s : State) (c acc : Nat) (isNote : Bool) (d : Doc) :
    Undealt s (if isNote then
        ({ s with docs := s.docs.filter fun d => d.acc ≠ acc, windows := s.windows ++ [d] }.updCab c fun x =>
          { x with noted := x.noted + 1 }).inc 8 c 20 1
      else s.updDoc acc fun d => { d with recorded := true }) := by
  split
  · refine Undealt.trans (t := { s with docs := s.docs.filter fun d => d.acc ≠ acc, windows := s.windows ++ [d] }.updCab c
      fun x => { x with noted := x.noted + 1 }) (.of_eq rfl rfl rfl) (.inc _ 8 c 20 1 (by simp [returnCtr]))
  · exact .of_eq rfl rfl rfl

theorem Undealt.flushWaiting (fuel c : Nat) : ∀ s : State, Undealt s (State.flushWaiting fuel c s) := by
  induction fuel with
  | zero => exact Undealt.refl
  | succ fuel ih =>
    intro s
    unfold State.flushWaiting
    split
    · exact .refl s
    · split
      · exact (Undealt.withWaiting s _).trans (ih _)
      · extract_lets payload kind len
        split
        · refine Undealt.trans ?_ (ih _)
          refine Undealt.trans ?_ (Undealt.recorded _ c _ _ _)
          refine Undealt.trans ?_ (Undealt.appendItem _ c 0 _ _ _ _ _)
          exact (Undealt.withWaiting s _).trans (Undealt.makeItem _ c 0 _ 0 _ _ _ _)
        · exact .refl s

theorem Undealt.freeTo (s : State) (c n off : Nat) : Undealt s (s.freeTo c n off) := by
  have freed (k : Nat) (f : Stream → Stream) : Undealt s ((s.chgStream c n f).inc 9 (16 * c + n) 1 k) :=
    (Undealt.chgStream s c n f).trans (Undealt.inc _ 9 _ 1 k (by simp [returnCtr]))
  unfold State.freeTo
  dsimp only
  split
  · refine Undealt.trans ?_ (Undealt.flushWaiting _ c _)
    exact (freed _ _).trans (Undealt.flushHeld _ c n _)
  · exact (freed _ _).trans (Undealt.flushHeld _ c n _)

theorem Undealt.noteGap (s : State) (c n status off len : Nat) : Undealt s (s.noteGap c n status off len) := by
  unfold State.noteGap
  refine Undealt.forEach _ (fun i s => ?_) _ s
  dsimp only
  split
  · refine Undealt.trans ?_ (.inc _ 9 _ 2 _ (by simp [returnCtr]))
    exact .of_eq rfl rfl rfl
  · exact .refl s

/-! Channels (R496). -/

theorem Undealt.grantChannels (fuel : Nat) : ∀ s : State, Undealt s (State.grantChannels fuel s) := by
  induction fuel with
  | zero => exact Undealt.refl
  | succ fuel ih =>
    intro s
    unfold State.grantChannels
    split
    · exact .refl s
    · split
      · exact .refl s
      · refine Undealt.trans ?_ (ih _)
        exact .updRingOf s _ _ _ fun _ => rfl

theorem Undealt.assignChannels (s : State) : Undealt s s.assignChannels := by
  unfold State.assignChannels
  refine Undealt.trans (Undealt.forEach _ (fun cn s => ?_) _ s) (Undealt.grantChannels 32 _)
  dsimp only
  split
  · split
    · exact .updRingOf s _ _ _ fun _ => rfl
    · exact .refl s
  · split
    · exact .updRingOf s _ _ _ fun _ => rfl
    · split
      · exact .updRingOf s _ _ _ fun _ => rfl
      · exact .refl s

/-! Returns (R484 to R487). -/

theorem Told.canWrite {s t : State} (h : Told s t) (m : Nat) : t.canWrite m = s.canWrite m := by
  have box := h.mbx m
  have master : (t.mbx m).busMaster = (s.mbx m).busMaster := (congrArg Mbx.busMaster box :)
  have d0 : (t.mbx m).d0 = (s.mbx m).d0 := (congrArg Mbx.d0 box :)
  rw [State.canWrite, State.canWrite, master, d0]

theorem Told.portWrite (s : State) (m : Nat) (a : BitVec 64) (bs : List Byte) : Told s (s.portWrite m a bs) := by
  unfold State.portWrite
  split
  · exact .hostWrite s m a bs
  · exact .refl s

/-- A write of some bytes to a function's host memory is sent where the function can master the bus. -/
theorem mem_portWrite {s : State} {m : Nat} (a : BitVec 64) {bs : List Byte} (pcie : m ≠ 256) (can : s.canWrite m = true)
    (some_ : bs ≠ []) : Out.mem m a bs ∈ (s.portWrite m a bs).outbox := by
  have sent : s.portWrite m a bs = (s.useSlots m (ceilDiv bs.length 256)).push (.mem m a bs) := by
    rw [State.portWrite, if_pos can, State.hostWrite, if_neg (by simpa using some_), if_neg pcie]
  rw [sent]
  exact List.mem_append_right _ (List.mem_singleton_self _)

/-- A ring whose open descriptor has been returned with a code. -/
def Ring.returned (g : Ring) (code : Nat) : Ring :=
  { g with
    opened := none, fetchTried := false, ret := g.ret + 1,
    badCount := if code = 3 then g.badCount + 1 else g.badCount }

theorem face_returned {g h : Ring} (e : g.face = h.face) (code : Nat) : (g.returned code).face = (h.returned code).face :=
  (congrArg (fun x : Ring => x.returned code) e :)

/-- The STATUS of a return (Table DH-3). -/
def statusBytes (code cause returned : Nat) : List Byte := leBytes 4 (code * 2 ^ 28 + cause * 2 ^ 24 + returned)

/-- What the return of a descriptor leaves. -/
structure Returned (c n code cause returned : Nat) (s t : State) : Prop where
  ring : (t.ring c n).face = ((s.ring c n).returned code).face
  ctr : ∀ cls u i, returnCtr cls i → t.ctr cls u i = (s.inc 9 (16 * c + n) (2 + code) 1).ctr cls u i
  sent : Sent s t
  status : (s.ring c n).via ≠ 256 → s.canWrite (s.ring c n).via = true →
    Out.mem (s.ring c n).via ((s.ring c n).descAddr (s.ring c n).ret + 0x18) (statusBytes code cause returned) ∈ t.outbox

theorem giveBack_returned (s : State) (c n code cause returned : Nat) :
    Returned c n code cause returned s (s.giveBack c n code cause returned) := by
  unfold State.giveBack
  extract_lets g d first addr u v w x y z
  have soured : Undealt s u := .portWrite s _ _ _
  have statused : Undealt u v := .portWrite u _ _ _
  have told : Undealt v w := by
    unfold w
    split
    · exact .raise v c _
    · exact .refl v
  have before : Undealt s w := soured.trans (statused.trans told)
  have after : Undealt x ((z.freeTo c n g.next).assignChannels) := by
    refine Undealt.trans ?_ (.assignChannels _)
    refine Undealt.trans ?_ (.freeTo z c n _)
    have forgot : Undealt x y := .of_eq rfl rfl rfl
    unfold z
    split
    · exact forgot.trans (.noteGap y c n _ _ _)
    · exact forgot
  refine ⟨?_, fun cls u i r => ?_, ?_, fun pcie can => ?_⟩
  · refine (after.ring c n).trans ?_
    have moved : (x.ring c n).face = ((w.ring c n).returned code).face := by
      unfold x
      rw [ring_updRingOf, if_pos rfl, State.countReturn, inc_eq]
      rfl
    exact moved.trans (face_returned (before.ring c n) code)
  · refine (after.ctr cls u i r).trans ?_
    show (w.inc 9 (16 * c + n) (2 + code) 1).ctr cls u i = _
    rw [ctr_inc, ctr_inc, before.ctr cls u i r]
    split
    · next same =>
      obtain ⟨rfl, rfl, rfl, -⟩ := same
      rw [before.ctr _ _ _ r]
    · rfl
  · exact before.sent.trans ((Sent.inc w 9 _ _ 1).trans (Sent.trans (.of_eq rfl) after.sent))
  · have can' : u.canWrite g.via = true := (Told.canWrite (Told.portWrite s g.via _ _) g.via).trans can
    have written : Out.mem g.via (addr + 0x18) (statusBytes code cause returned) ∈ v.outbox :=
      mem_portWrite _ pcie can' (by simp [leBytes])
    exact after.sent _ ((Sent.inc w 9 _ _ 1) _ (told.sent _ written))

end Sys2Proof.Machine

end

section
/-! PROOFS. The rows that read descriptors (R481, R482, R485, R494). -/

namespace Sys2Proof.Machine

/-! What changes the rings alone. -/

/-- The assignment of channels changes the rings alone. -/
theorem grantChannels_frame (rs : Tab Ring) (fuel : Nat) : ∀ s : State,
    ({ State.grantChannels fuel s with rings := rs } : State) = { s with rings := rs } := by
  induction fuel with
  | zero => exact fun _ => rfl
  | succ fuel ih =>
    intro s
    unfold State.grantChannels
    split
    · rfl
    · split
      · rfl
      · exact (ih _).trans rfl

theorem assignChannels_frame (s : State) (rs : Tab Ring) :
    ({ s.assignChannels with rings := rs } : State) = { s with rings := rs } := by
  unfold State.assignChannels
  refine (grantChannels_frame rs 32 _).trans ?_
  refine forEach_keeps (P := fun t : State => ({ t with rings := rs } : State) = { s with rings := rs }) _
    (fun cn t same => ?_) _ s rfl
  rw [← same]
  dsimp only
  split
  · split <;> rfl
  · split
    · rfl
    · split <;> rfl

theorem Told.withRings {s t : State} (h : Told s t) (rs : Tab Ring) :
    Told { s with rings := rs } { t with rings := rs } :=
  ⟨(congrArg (fun x : State => { x with rings := rs }) h.rest :), h.cab, h.mbx, h.ctr⟩

/-- `t` is `s` but for the rings and for what telling may change. -/
def RingsTold (s t : State) : Prop := Told { s with rings := t.rings } t

theorem RingsTold.of_told {s t : State} (h : Told s t) : RingsTold s t := by
  have same : t.rings = s.rings := (congrArg State.rings h.rest :)
  unfold RingsTold
  rw [same]
  exact h

theorem RingsTold.trans {s t u : State} (h : RingsTold s t) (k : RingsTold t u) : RingsTold s u :=
  Told.trans (h.withRings u.rings) k

theorem RingsTold.assignChannels (s : State) : RingsTold s s.assignChannels := by
  have same := assignChannels_frame s s.assignChannels.rings
  unfold RingsTold
  rw [← same]
  exact .refl _

theorem RingsTold.updRingOf (s : State) (c n : Nat) (f : Ring → Ring) : RingsTold s (s.updRingOf c n f) := .refl _

/-! What is asked of a ring that reads a descriptor. -/

theorem wantsDesc_canWrite {s : State} {c n : Nat} (h : s.wantsDesc c n = true) : s.canWrite (s.ring c n).via = true := by
  simp only [State.wantsDesc, State.ringServed, State.ringBlocked, Bool.and_eq_true, Bool.not_not] at h
  obtain ⟨⟨⟨⟨⟨⟨-, can⟩, -⟩, -⟩, -⟩, -⟩, -⟩ := h
  exact can

/-- The read of the descriptor that a ring comes to next. -/
def State.readDesc (s : State) (c n : Nat) : State :=
  s.hostRead (s.ring c n).via ((s.ring c n).descAddr (s.ring c n).ret) 32

theorem readDesc_told (s : State) (c n : Nat) : Told s (s.readDesc c n) := Told.hostRead s _ _ _

theorem readDesc_undealt (s : State) (c n : Nat) : Undealt s (s.readDesc c n) := Undealt.hostRead s _ _ _

theorem readDesc_ring (s : State) (c n c' n' : Nat) : (s.readDesc c n).ring c' n' = s.ring c' n' :=
  (congrArg (fun u : State => u.ring c' n') (readDesc_told s c n).rest :)

/-- One read brings a descriptor of 32 bytes. -/
theorem mem_readDesc (s : State) (c n : Nat) :
    Out.memRead (s.ring c n).via ((s.ring c n).descAddr (s.ring c n).ret) 32 ∈ (s.readDesc c n).outbox := by
  unfold State.readDesc State.hostRead
  simp [ceilDiv]

theorem descriptorFetch_idle {s : State} {c : Fin 256} {n : Fin 16} (bytes : Option (List Byte))
    (idle : s.assignChannels.wantsDesc c n = false) : exec (.descriptorFetch c n bytes) s = .next s.assignChannels := by
  show execDescriptorFetch c n bytes s = _
  simp only [execDescriptorFetch, idle]
  rfl

theorem descriptorFetchFail_idle {s : State} {c : Fin 256} {n : Fin 16} (idle : s.assignChannels.wantsDesc c n = false) :
    exec (.descriptorFetchFail c n) s = .next s.assignChannels := by
  show execDescriptorFetchFail c n s = _
  simp only [execDescriptorFetchFail, idle]
  rfl

theorem descriptorFetch_reads {s : State} {c : Fin 256} {n : Fin 16} (bytes : Option (List Byte))
    (wants : s.assignChannels.wantsDesc c n = true) (pcie : (s.assignChannels.ring c n).via ≠ 256) :
    exec (.descriptorFetch c n bytes) s = .next (match bytes with
      | some b => (s.assignChannels.readDesc c n).openDesc c n b
      | none => (s.assignChannels.readDesc c n).descFailed c n) := by
  show execDescriptorFetch c n bytes s = _
  simp only [execDescriptorFetch, wants]
  rw [if_neg (by simp), if_neg pcie]
  rfl

theorem descriptorFetchFail_reads {s : State} {c : Fin 256} {n : Fin 16} (wants : s.assignChannels.wantsDesc c n = true)
    (pcie : (s.assignChannels.ring c n).via ≠ 256) :
    exec (.descriptorFetchFail c n) s = .next (
      if (s.assignChannels.ring c n).fetchTried then (s.assignChannels.readDesc c n).descFailed c n
      else (((s.assignChannels.readDesc c n).descFailed c n).hostRead (s.assignChannels.ring c n).via
        ((s.assignChannels.ring c n).descAddr (s.assignChannels.ring c n).ret) 32).descFailed c n) := by
  show execDescriptorFetchFail c n s = _
  simp only [execDescriptorFetchFail, wants]
  rw [if_pos ⟨trivial, pcie⟩]
  rfl

/-! Descriptors opened (R481, R482, R485). -/

/-- A ring whose descriptor has been read. -/
def State.opened (s : State) (c n : Nat) (bs : List Byte) : State :=
  s.updRingOf c n fun g =>
    { g with opened := some { descOf bs with first := (s.ring c n).next, lastByte := s.now }, fetchTried := false }

theorem openDesc_good {s : State} {c n : Nat} {bs : List Byte} (good : descCheck (padTo 32 bs) (s.ring c n).next = none) :
    s.openDesc c n bs = (s.opened c n (padTo 32 bs)).assignChannels := by
  simp only [State.openDesc, good]
  rfl

theorem openDesc_bad {s : State} {c n cause : Nat} {bs : List Byte}
    (bad : descCheck (padTo 32 bs) (s.ring c n).next = some cause) :
    s.openDesc c n bs = (s.opened c n (padTo 32 bs)).giveBack c n 3 cause 0 := by
  simp only [State.openDesc, bad]
  rfl

theorem opened_ring (s : State) (c n : Nat) (bs : List Byte) : (s.opened c n bs).ring c n =
    { s.ring c n with
      opened := some { descOf bs with first := (s.ring c n).next, lastByte := s.now }, fetchTried := false } :=
  (ring_updRingOf s c n c n _).trans (if_pos rfl)

/-! What a read leaves of a ring. -/

/-- The state in which a ring's descriptor has been read: nothing is dealt, and the rings alone and what telling changes
differ. -/
theorem read_leaves (s : State) (c n : Nat) :
    Undealt s (s.assignChannels.readDesc c n) ∧ RingsTold s (s.assignChannels.readDesc c n) ∧
      ((s.assignChannels.readDesc c n).ring c n).face = (s.ring c n).face := by
  have undealt := (Undealt.assignChannels s).trans (readDesc_undealt s.assignChannels c n)
  exact ⟨undealt, (RingsTold.assignChannels s).trans (.of_told (readDesc_told s.assignChannels c n)), undealt.ring c n⟩

theorem RingsTold.now {s t : State} (h : RingsTold s t) : t.now = s.now := (congrArg State.now h.rest :)

/-- The units of the streams have counters. -/
theorem ctrIn_stream (c : Fin 256) (n : Fin 16) {i : Nat} (h : i < 256) : ctrIn (16 * c + n) i = true := by
  have hc := c.isLt
  have hn := n.isLt
  simp only [ctrIn, Bool.and_eq_true, decide_eq_true_eq]
  omega

/-- A return counts itself. -/
theorem Returned.counted {c : Fin 256} {n : Fin 16} {code cause returned : Nat} {s t : State}
    (h : Returned c n code cause returned s t) (lo : 1 ≤ code) (hi : code ≤ 4) :
    t.ctr 9 (16 * c + n) (2 + code) = s.ctr 9 (16 * c + n) (2 + code) + 1 := by
  rw [h.ctr _ _ _ (.inl ⟨rfl, by omega, by omega⟩), ctr_inc, if_pos ⟨rfl, rfl, rfl, ctrIn_stream c n (by omega)⟩]
  rfl

/-- A return counts no failed probe and no failed read. -/
theorem Returned.port_ctr {c n code cause returned : Nat} {s t : State} (h : Returned c n code cause returned s t)
    {i : Nat} (hi : i = 3 ∨ i = 4) : t.ctr 0x0B 0 i = s.ctr 0x0B 0 i := by
  rw [h.ctr _ _ _ (.inr ⟨rfl, hi⟩), ctr_inc, if_neg (by simp)]

theorem Returned.of_face {c n code cause returned : Nat} {s t : State} (h : Returned c n code cause returned s t) :
    (t.ring c n).opened = none ∧ (t.ring c n).ret = (s.ring c n).ret + 1 ∧ (t.ring c n).next = (s.ring c n).next := by
  obtain ⟨opened, ret, next, -⟩ := Ring.of_face h.ring
  exact ⟨opened, ret, next⟩

theorem fetch_good (s : State) (c : Fin 256) (n : Fin 16) (bytes : List Byte)
    (wants : s.assignChannels.wantsDesc c n = true) (pcie : (s.ring c n).via ≠ 256)
    (good : descCheck (padTo 32 bytes) (s.ring c n).next = none) :
    ∃ t, exec (.descriptorFetch c n (some bytes)) s = .next t ∧
      Out.memRead (s.ring c n).via ((s.ring c n).descAddr (s.ring c n).ret) 32 ∈ t.outbox ∧
      (t.ring c n).opened = some { descOf (padTo 32 bytes) with first := (s.ring c n).next, lastByte := s.now } ∧
      (t.ring c n).ret = (s.ring c n).ret ∧ (t.ring c n).next = (s.ring c n).next ∧
      Told { s with rings := t.rings } t := by
  obtain ⟨-, ret, next, via, -, addr⟩ := Ring.of_face ((Undealt.assignChannels s).ring c n)
  have asked := mem_readDesc s.assignChannels c n
  rw [via, addr, ret] at asked
  obtain ⟨undealt, told, face⟩ := read_leaves s c n
  generalize hr : s.assignChannels.readDesc c n = r at asked undealt told face
  obtain ⟨-, ret', next', -⟩ := Ring.of_face face
  let x := r.opened c n (padTo 32 bytes)
  have row : exec (.descriptorFetch c n (some bytes)) s = .next x.assignChannels := by
    rw [descriptorFetch_reads (some bytes) wants (via ▸ pcie), hr]
    exact congrArg Host.Outcome.next (openDesc_good (next' ▸ good))
  have dealt := Undealt.assignChannels x
  obtain ⟨opened, retT, nextT, -⟩ := Ring.of_face (dealt.ring c n)
  have ring := opened_ring r c n (padTo 32 bytes)
  have toldT : RingsTold s x.assignChannels := told.trans ((RingsTold.updRingOf r c n _).trans (.assignChannels x))
  refine ⟨x.assignChannels, row, dealt.sent _ asked, ?_, ?_, ?_, toldT⟩
  · rw [opened, ring, next', told.now]
  · rw [retT, ring, ← ret']
  · rw [nextT, ring, ← next']

theorem fetch_bad (s : State) (c : Fin 256) (n : Fin 16) (bytes : List Byte)
    (wants : s.assignChannels.wantsDesc c n = true) (pcie : (s.ring c n).via ≠ 256) (cause : Nat)
    (bad : descCheck (padTo 32 bytes) (s.ring c n).next = some cause) :
    ∃ t, exec (.descriptorFetch c n (some bytes)) s = .next t ∧ (t.ring c n).opened = none ∧
      (t.ring c n).ret = (s.ring c n).ret + 1 ∧ (t.ring c n).next = (s.ring c n).next ∧
      t.ctr 9 (16 * c + n) 5 = s.ctr 9 (16 * c + n) 5 + 1 ∧
      Out.mem (s.ring c n).via ((s.ring c n).descAddr (s.ring c n).ret + 0x18)
        (leBytes 4 (3 * 2 ^ 28 + cause * 2 ^ 24)) ∈ t.outbox := by
  obtain ⟨-, ret, next, via, -, addr⟩ := Ring.of_face ((Undealt.assignChannels s).ring c n)
  have can : (s.assignChannels.readDesc c n).canWrite (s.ring c n).via = true := by
    rw [(readDesc_told s.assignChannels c n).canWrite, ← via]
    exact wantsDesc_canWrite wants
  obtain ⟨undealt, told, face⟩ := read_leaves s c n
  generalize hr : s.assignChannels.readDesc c n = r at can undealt told face
  obtain ⟨-, ret', next', via', -, addr'⟩ := Ring.of_face face
  let x := r.opened c n (padTo 32 bytes)
  have row : exec (.descriptorFetch c n (some bytes)) s = .next (x.giveBack c n 3 cause 0) := by
    rw [descriptorFetch_reads (some bytes) wants (via ▸ pcie), hr]
    exact congrArg Host.Outcome.next (openDesc_bad (next' ▸ bad))
  have returned := giveBack_returned x c n 3 cause 0
  obtain ⟨opened, retT, nextT⟩ := returned.of_face
  have ring := opened_ring r c n (padTo 32 bytes)
  have retX : (x.ring c n).ret = (s.ring c n).ret := (congrArg Ring.ret ring).trans ret'
  have nextX : (x.ring c n).next = (s.ring c n).next := (congrArg Ring.next ring).trans next'
  have viaX : (x.ring c n).via = (s.ring c n).via := (congrArg Ring.via ring).trans via'
  have addrX : (x.ring c n).descAddr = (s.ring c n).descAddr := (congrArg Ring.descAddr ring).trans addr'
  have status := returned.status
  rw [viaX, addrX, retX, statusBytes, Nat.add_zero] at status
  refine ⟨_, row, opened, ?_, ?_, ?_, status pcie can⟩
  · rw [retT, retX]
  · rw [nextT, nextX]
  · rw [returned.counted (by decide) (by decide)]
    exact congrArg (· + 1) (undealt.ctr 9 _ 5 (.inl ⟨rfl, by decide, by decide⟩))

/-! Reads that fail (R494). -/

/-- A ring whose descriptor has failed to be read once more. -/
def State.readFailed (s : State) (c n : Nat) : State :=
  (s.inc 0x0B (if (s.ring c n).via = 256 then 1 else 0) 4 1).updRingOf c n fun g =>
    { g with opened := some { control := 0, length := 0, dest := 0, tag := 0, first := g.next } }

/-- A ring whose descriptor is to be read once more. -/
def State.triedOnce (s : State) (c n : Nat) : State :=
  (s.inc 0x0B (if (s.ring c n).via = 256 then 1 else 0) 4 1).updRingOf c n fun g => { g with fetchTried := true }

theorem descFailed_first {s : State} {c n : Nat} (first : (s.ring c n).fetchTried = false) :
    s.descFailed c n = s.triedOnce c n := by
  simp [State.descFailed, State.triedOnce, first]

theorem triedOnce_ring (s : State) (c n : Nat) : (s.triedOnce c n).ring c n = { s.ring c n with fetchTried := true } := by
  rw [State.triedOnce, ring_updRingOf, if_pos rfl, inc_eq]
  rfl

theorem triedOnce_ctr {s : State} {c n : Nat} (pcie : (s.ring c n).via ≠ 256) (cls u i : Nat) :
    (s.triedOnce c n).ctr cls u i = (s.inc 0x0B 0 4 1).ctr cls u i := by
  rw [State.triedOnce, if_neg pcie]
  rfl

theorem triedOnce_fails {s : State} {c n : Nat} (pcie : (s.ring c n).via ≠ 256) :
    (s.triedOnce c n).ctr 0x0B 0 4 = s.ctr 0x0B 0 4 + 1 := by
  rw [triedOnce_ctr pcie, ctr_inc, if_pos (by simp [ctrIn])]
  rfl

theorem triedOnce_returns {s : State} {c n : Nat} (pcie : (s.ring c n).via ≠ 256) (u : Nat) :
    (s.triedOnce c n).ctr 9 u 5 = s.ctr 9 u 5 := by
  rw [triedOnce_ctr pcie, ctr_inc, if_neg (by simp)]

theorem triedOnce_frame (s : State) (c n : Nat) :
    ∃ rs cs, s.triedOnce c n = { s with rings := rs, counters := cs } :=
  ⟨_, _, by rw [State.triedOnce, inc_eq]; rfl⟩

/-- The second failure returns the descriptor. -/
theorem descFailed_again {s : State} {c : Fin 256} {n : Fin 16} (tried : (s.ring c n).fetchTried = true)
    (pcie : (s.ring c n).via ≠ 256) :
    ((s.descFailed c n).ring c n).opened = none ∧ ((s.descFailed c n).ring c n).ret = (s.ring c n).ret + 1 ∧
      (s.descFailed c n).ctr 9 (16 * c + n) 5 = s.ctr 9 (16 * c + n) 5 + 1 ∧
      (s.descFailed c n).ctr 0x0B 0 4 = s.ctr 0x0B 0 4 + 1 := by
  have returned := giveBack_returned (s.readFailed c n) c n 3 1 0
  have row : s.descFailed c n = (s.readFailed c n).giveBack c n 3 1 0 := by
    simp only [State.descFailed, tried]
    rfl
  have ret : ((s.readFailed c n).ring c n).ret = (s.ring c n).ret := by
    rw [State.readFailed, ring_updRingOf, if_pos rfl, inc_eq]
    rfl
  have ctr (cls u i : Nat) : (s.readFailed c n).ctr cls u i = (s.inc 0x0B 0 4 1).ctr cls u i := by
    rw [State.readFailed, if_neg pcie]
    rfl
  obtain ⟨opened, retT, -⟩ := returned.of_face
  rw [row]
  refine ⟨opened, retT.trans (by rw [ret]), ?_, ?_⟩
  · rw [returned.counted (by decide) (by decide), ctr, ctr_inc, if_neg (by simp)]
  · rw [returned.port_ctr (.inr rfl), ctr, ctr_inc, if_pos (by simp [ctrIn])]
    rfl

theorem fetchFail_row (s : State) (c : Fin 256) (n : Fin 16) (wants : s.assignChannels.wantsDesc c n = true)
    (pcie : (s.ring c n).via ≠ 256) :
    ∃ t, exec (.descriptorFetchFail c n) s = .next t ∧ (t.ring c n).opened = none ∧
      (t.ring c n).ret = (s.ring c n).ret + 1 ∧ t.ctr 9 (16 * c + n) 5 = s.ctr 9 (16 * c + n) 5 + 1 ∧
      t.ctr 0x0B 0 4 = s.ctr 0x0B 0 4 + (if (s.ring c n).fetchTried = true then 1 else 2) := by
  obtain ⟨-, -, -, via, tried, -⟩ := Ring.of_face ((Undealt.assignChannels s).ring c n)
  have row := descriptorFetchFail_reads wants (via ▸ pcie)
  obtain ⟨undealt, -, face⟩ := read_leaves s c n
  generalize s.assignChannels.readDesc c n = r at row undealt face
  obtain ⟨-, retR, -, viaR, triedR, -⟩ := Ring.of_face face
  have pcieR : (r.ring c n).via ≠ 256 := viaR ▸ pcie
  have returns := undealt.ctr 9 (16 * c + n) 5 (.inl ⟨rfl, by decide, by decide⟩)
  have fails := undealt.ctr 0x0B 0 4 (.inr ⟨rfl, .inr rfl⟩)
  cases again : (s.ring c n).fetchTried with
  | true =>
    obtain ⟨opened, ret, counted, failed⟩ := descFailed_again (triedR.trans again) pcieR
    refine ⟨_, row.trans (congrArg Host.Outcome.next (if_pos (tried.trans again))), opened, ?_, ?_, ?_⟩
    · rw [ret, retR]
    · rw [counted, returns]
    · rw [failed, fails, if_pos rfl]
  | false =>
    rw [descFailed_first (triedR.trans again), if_neg (by simp [tried, again])] at row
    have reread : Undealt (r.triedOnce c n) ((r.triedOnce c n).hostRead (s.assignChannels.ring c n).via
        ((s.assignChannels.ring c n).descAddr (s.assignChannels.ring c n).ret) 32) := .hostRead _ _ _ _
    generalize (r.triedOnce c n).hostRead _ _ 32 = u at row reread
    obtain ⟨-, retU, -, viaU, triedU, -⟩ := Ring.of_face (reread.ring c n)
    rw [triedOnce_ring] at retU viaU triedU
    have pcieU : (u.ring c n).via ≠ 256 := viaU ▸ pcieR
    obtain ⟨opened, ret, counted, failed⟩ := descFailed_again triedU pcieU
    refine ⟨_, row, opened, ?_, ?_, ?_⟩
    · rw [ret, retU, ← retR]
    · rw [counted, reread.ctr _ _ _ (.inl ⟨rfl, by decide, by decide⟩), triedOnce_returns pcieR, returns]
    · rw [failed, reread.ctr _ _ _ (.inr ⟨rfl, .inr rfl⟩), triedOnce_fails pcieR, fails, BitVec.add_assoc]
      rfl

theorem fetch_failsAgain (s : State) (c : Fin 256) (n : Fin 16) (wants : s.assignChannels.wantsDesc c n = true)
    (pcie : (s.ring c n).via ≠ 256) (again : (s.ring c n).fetchTried = true) :
    exec (.descriptorFetch c n none) s = exec (.descriptorFetchFail c n) s := by
  obtain ⟨-, -, -, via, tried, -⟩ := Ring.of_face ((Undealt.assignChannels s).ring c n)
  rw [descriptorFetch_reads none wants (via ▸ pcie), descriptorFetchFail_reads wants (via ▸ pcie),
    if_pos (tried.trans again)]

/-- What telling changes with the rings and the counters set aside. -/
theorem RingsTold.triedOnce {s r : State} (h : RingsTold s r) (c n : Nat) :
    Told { s with rings := (r.triedOnce c n).rings, counters := (r.triedOnce c n).counters } (r.triedOnce c n) := by
  obtain ⟨rs, cs, tried⟩ := triedOnce_frame r c n
  rw [tried]
  exact ⟨(congrArg (fun x : State => { x with rings := rs, counters := [] }) h.rest :), h.cab, h.mbx, fun _ _ _ _ => rfl⟩

theorem fetch_failsOnce (s : State) (c : Fin 256) (n : Fin 16) (wants : s.assignChannels.wantsDesc c n = true)
    (pcie : (s.ring c n).via ≠ 256) (first : (s.ring c n).fetchTried = false) :
    ∃ t, exec (.descriptorFetch c n none) s = .next t ∧
      t.ring c n = { s.assignChannels.ring c n with fetchTried := true } ∧ t.ctr 0x0B 0 4 = s.ctr 0x0B 0 4 + 1 ∧
      Told { s with rings := t.rings, counters := t.counters } t := by
  obtain ⟨-, -, -, via, tried, -⟩ := Ring.of_face ((Undealt.assignChannels s).ring c n)
  have row := descriptorFetch_reads none wants (via ▸ pcie)
  have same := readDesc_ring s.assignChannels c n c n
  obtain ⟨undealt, told, -⟩ := read_leaves s c n
  generalize s.assignChannels.readDesc c n = r at row undealt told same
  dsimp only at row
  rw [descFailed_first (by rw [same, tried, first])] at row
  refine ⟨_, row, ?_, ?_, told.triedOnce c n⟩
  · rw [triedOnce_ring, same]
  · rw [triedOnce_fails (by rw [same, via]; exact pcie), undealt.ctr 0x0B 0 4 (.inr ⟨rfl, .inr rfl⟩)]

end Sys2Proof.Machine

end

section
/-! PROOFS. Returns that fall due, timeouts and probes (R57, R486, R492). -/

namespace Sys2Proof.Machine

/-! A return, and what surrounds it. -/

theorem Returned.then {c n code cause returned : Nat} {s t u : State} (h : Returned c n code cause returned s t)
    (k : Undealt t u) : Returned c n code cause returned s u :=
  ⟨(k.ring c n).trans h.ring, fun cls v i r => (k.ctr cls v i r).trans (h.ctr cls v i r), h.sent.trans k.sent,
    fun pcie can => k.sent _ (h.status pcie can)⟩

/-- A ring whose open descriptor alone changes. -/
def State.withOpened (s : State) (c n : Nat) (o : Option Desc → Option Desc) : State :=
  s.updRingOf c n fun g => { g with opened := o g.opened }

theorem withOpened_ring (s : State) (c n : Nat) (o : Option Desc → Option Desc) :
    (s.withOpened c n o).ring c n = { s.ring c n with opened := o (s.ring c n).opened } :=
  (ring_updRingOf s c n c n _).trans (if_pos rfl)

/-- The return of a descriptor does not depend on what the descriptor has become since. -/
theorem Returned.of_withOpened {c n code cause returned : Nat} {s t : State} {o : Option Desc → Option Desc}
    (h : Returned c n code cause returned (s.withOpened c n o) t) : Returned c n code cause returned s t := by
  have ring := h.ring
  have status := h.status
  rw [withOpened_ring] at ring status
  refine ⟨ring, fun cls u i r => ?_, h.sent, status⟩
  rw [h.ctr cls u i r, ctr_inc, ctr_inc]
  rfl

/-! Probes that have fallen due (R492). -/

/-- A probe of the descriptor's next page has fallen due. -/
def Desc.due (d : Desc) : Prop :=
  d.pageStart (d.probed + 1) ≤ d.taken ∨ ((d.ending.isSome ∨ d.taken = d.length) ∧ d.pageStart d.probed < d.taken)

theorem issueProbes_idle {s : State} {c n : Nat} {d : Desc} (fuel : Nat) (opened : (s.ring c n).opened = some d)
    (idle : d.verify = true → ¬ d.due) : State.issueProbes fuel c n s = s := by
  cases fuel with
  | zero => rfl
  | succ fuel =>
    simp only [State.issueProbes, opened]
    refine if_neg ?_
    rintro ⟨verify, due, -⟩
    exact idle verify due

/-- The return that a descriptor awaits is made once its pages are confirmed. -/
theorem tryReturn_returns {s : State} {c n code cause returned : Nat} {d : Desc} (can : s.canWrite (s.ring c n).via = true)
    (opened : (s.ring c n).opened = some d) (ending : d.ending = some (code, cause, returned))
    (idle : d.verify = true → ¬ d.due) (confirmed : d.confirmed = true) :
    s.tryReturn c n = s.giveBack c n code cause returned := by
  unfold State.tryReturn
  rw [if_neg (by simp [State.ringBlocked, can]), issueProbes_idle 4 opened idle]
  simp [opened, ending, confirmed]

theorem tryReturn_waits {s : State} {c n : Nat} {d : Desc} (opened : (s.ring c n).opened = some d)
    (ending : d.ending = none) (idle : d.verify = true → ¬ d.due) : s.tryReturn c n = s := by
  unfold State.tryReturn
  split
  · rfl
  · simp [issueProbes_idle 4 opened idle, opened, ending]

/-- A descriptor that is not probed is returned when its end is settled. -/
theorem endDesc_returned {s : State} {c n : Nat} {d : Desc} (code cause returned : Nat)
    (can : s.canWrite (s.ring c n).via = true) (opened : (s.ring c n).opened = some d) (plain : d.verify = false) :
    Returned c n code cause returned s (s.endDesc c n code cause returned) := by
  let u := s.withOpened c n (Option.map fun d => { d with ending := some (code, cause, returned) })
  have ring := withOpened_ring s c n (Option.map fun d => { d with ending := some (code, cause, returned) })
  have ended : (u.ring c n).opened = some { d with ending := some (code, cause, returned) } := by
    rw [ring, opened]
    rfl
  have still : ({ d with ending := some (code, cause, returned) } : Desc).verify = false := plain
  have row : s.endDesc c n code cause returned = u.giveBack c n code cause returned := by
    refine tryReturn_returns (d := { d with ending := some (code, cause, returned) }) ?_ ended rfl ?_ ?_
    · exact (congrArg (fun g : Ring => s.canWrite g.via) ring).trans can
    · simp [still]
    · simp [Desc.confirmed, still]
  rw [row]
  exact (giveBack_returned u c n code cause returned).of_withOpened

/-! Timeouts (R486). -/

theorem ringServed_canWrite {s : State} {c n : Nat} (h : s.ringServed c n = true) :
    s.canWrite (s.ring c n).via = true := by
  simp only [State.ringServed, State.ringBlocked, Bool.and_eq_true, Bool.not_not] at h
  obtain ⟨⟨⟨-, can⟩, -⟩, -⟩ := h
  exact can

theorem timeout_due {s : State} {c : Fin 256} {n : Fin 16} {d : Desc} (opened : (s.ring c n).opened = some d)
    (ending : d.ending = none) (plain : d.verify = false) (served : s.ringServed c n = true)
    (timed : (s.ring c n).timeout ≠ 0) (some_ : 0 < d.taken) (due : d.lastByte + (s.ring c n).timeout * 1000 ≤ s.now) :
    ∃ t, exec (.descriptorTimeout c n) s = .next t ∧ (t.ring c n).opened = none ∧
      (t.ring c n).ret = (s.ring c n).ret + 1 ∧
      (t.ring c n).next = (s.ring c n).next ∧ t.ctr 9 (16 * c + n) 4 = s.ctr 9 (16 * c + n) 4 + 1 := by
  have returned := (endDesc_returned 2 3 d.taken (ringServed_canWrite served) opened plain).then (.assignChannels _)
  obtain ⟨closed, ret, next⟩ := returned.of_face
  refine ⟨_, ?_, closed, ret, next, returned.counted (by decide) (by decide)⟩
  show execDescriptorTimeout c n s = _
  simp only [execDescriptorTimeout, opened]
  rw [if_pos ⟨served, timed, some_, by simp [ending], due⟩]

theorem timeout_waits {s : State} {c : Fin 256} {n : Fin 16} {d : Desc} (opened : (s.ring c n).opened = some d)
    (early : s.now < d.lastByte + (s.ring c n).timeout * 1000) : exec (.descriptorTimeout c n) s = .next s := by
  show execDescriptorTimeout c n s = _
  simp only [execDescriptorTimeout, opened]
  rw [if_neg (by omega)]

/-! Probes answered (R57, R492). -/

theorem filter_ne_oldest {i : Nat} {rest : List Nat} (oldest : ∀ j ∈ rest, i < j) :
    (i :: rest).filter (· ≠ i) = rest := by
  rw [List.filter_cons_of_neg (by simp), List.filter_eq_self]
  intro j hj
  have later := oldest j hj
  simp only [decide_eq_true_eq]
  omega

theorem filter_lt_oldest {i : Nat} {rest : List Nat} (oldest : ∀ j ∈ rest, i < j) :
    (i :: rest).filter (· < i) = [] := by
  rw [List.filter_cons_of_neg (by simp), List.filter_eq_nil_iff]
  intro j hj
  have later := oldest j hj
  simp only [decide_eq_true_eq]
  omega

/-- The oldest probe of an open descriptor is the one answered. -/
theorem probeServed_oldest {s : State} {c n i : Nat} {rest : List Nat} {d : Desc} (enabled : (s.ring c n).enabled = true)
    (pcie : (s.ring c n).via ≠ 256) (awake : s.mode ≠ .dormant) (idle : (s.cab c).resetting = none)
    (opened : (s.ring c n).opened = some d) (probes : d.probes = i :: rest) : s.probeServed c n = some i := by
  simp [State.probeServed, enabled, pcie, awake, idle, opened, probes]

theorem probeComplete_answers {s : State} {c : Fin 256} {n : Fin 16} {i : Nat} (ok : Bool)
    (served : s.probeServed c n = some i) : exec (.probeComplete c n ok) s = .next (s.probeDone c n i ok) := by
  show execProbeComplete c n ok s = _
  simp only [execProbeComplete, served]

/-- A confirmed page is a probe outstanding no longer. -/
theorem probeSettled_confirmed {s : State} {c n i : Nat} {rest : List Nat} {d : Desc}
    (opened : (s.ring c n).opened = some d) (probes : d.probes = i :: rest) (oldest : ∀ j ∈ rest, i < j) :
    s.probeSettled c n i true = s.withOpened c n fun _ => some { d with probes := rest } := by
  simp only [State.probeSettled, opened, probes, if_true]
  rw [filter_ne_oldest oldest]
  rfl

/-- What a served ring is. -/
theorem ringServed_parts {s : State} {c n : Nat} (h : s.ringServed c n = true) :
    (s.ring c n).enabled = true ∧ s.dmaServes = true ∧ (s.cab c).resetting = none := by
  simp only [State.ringServed, Bool.and_eq_true, Option.isNone_iff_eq_none] at h
  obtain ⟨⟨⟨⟨enabled, -⟩, -⟩, serves⟩, idle⟩ := h
  exact ⟨enabled, serves, idle⟩

theorem dmaServes_awake {s : State} (h : s.dmaServes = true) : s.mode ≠ .dormant := by
  intro dormant
  simp [State.dmaServes, dormant] at h

theorem probe_confirmed {s : State} {c : Fin 256} {n : Fin 16} {d : Desc} {i : Nat} {rest : List Nat}
    (served : s.ringServed c n = true) (pcie : (s.ring c n).via ≠ 256) (opened : (s.ring c n).opened = some d)
    (probes : d.probes = i :: rest) (ending : d.ending = none) (oldest : ∀ j ∈ rest, i < j)
    (unwritten : d.taken < d.pageStart (d.probed + 1)) (unfilled : d.taken ≠ d.length) :
    ∃ t, exec (.probeComplete c n true) s = .next t ∧ (t.ring c n).opened = some { d with probes := rest } ∧
      (t.ring c n).ret = (s.ring c n).ret ∧ (t.ring c n).next = (s.ring c n).next := by
  obtain ⟨enabled, serves, idle⟩ := ringServed_parts served
  have answered := probeServed_oldest enabled pcie (dmaServes_awake serves) idle opened probes
  let u := s.withOpened c n fun _ => some { d with probes := rest }
  have ring := withOpened_ring s c n fun _ => some { d with probes := rest }
  have waits : u.tryReturn c n = u := by
    refine tryReturn_waits (congrArg Ring.opened ring) ending fun _ due => ?_
    rcases due with past | ⟨ends | full, -⟩
    · exact absurd past (Nat.not_le_of_lt unwritten)
    · simp [ending] at ends
    · exact unfilled full
  have done : s.probeDone c n i true = u.assignChannels := by
    have serves' : u.dmaServes = true := serves
    unfold State.probeDone
    rw [probeSettled_confirmed opened probes oldest]
    exact (if_pos serves').trans (congrArg State.assignChannels waits)
  obtain ⟨opened', ret, next, -⟩ := Ring.of_face ((Undealt.assignChannels u).ring c n)
  refine ⟨u.assignChannels, (probeComplete_answers true answered).trans (congrArg Host.Outcome.next done), ?_, ?_, ?_⟩
  · rw [opened', ring]
  · rw [ret, ring]
  · rw [next, ring]

/-! Probes that fail (R492). -/

/-- Where a failed probe ends a descriptor. -/
def Desc.probeEnd (d : Desc) (i : Nat) : Nat := d.pageStart i / d.group * d.group

theorem probeFailed_eq {d : Desc} {i : Nat} {rest : List Nat} (ending : d.ending = none) (probes : d.probes = i :: rest)
    (oldest : ∀ j ∈ rest, i < j) :
    d.probeFailed i = { d with ending := some (3, 4, d.probeEnd i), probes := [], probed := d.taken / 4096 + 2 } := by
  simp only [Desc.probeFailed, ending, probes, filter_lt_oldest oldest]
  rfl

/-- Two pages beyond the one being written nothing has been written. -/
theorem pageStart_beyond (d : Desc) (k : Nat) : d.taken < d.pageStart (d.taken / 4096 + 2 + k) := by
  unfold Desc.pageStart
  rw [if_neg (by omega)]
  omega

/-- Once a probe has failed no other falls due, and the descriptor is to be returned. -/
theorem probeFailed_idle {d : Desc} {i : Nat} {rest : List Nat} (ending : d.ending = none) (probes : d.probes = i :: rest)
    (oldest : ∀ j ∈ rest, i < j) : ¬ (d.probeFailed i).due ∧ (d.probeFailed i).confirmed = true := by
  rw [probeFailed_eq ending probes oldest]
  refine ⟨?_, ?_⟩
  · rintro (past | ⟨-, past⟩)
    · exact absurd past (Nat.not_le_of_lt (pageStart_beyond d 1))
    · exact absurd past (Nat.not_lt_of_lt (pageStart_beyond d 0))
  · have beyond : d.taken ≤ d.pageStart (d.taken / 4096 + 2) := Nat.le_of_lt (pageStart_beyond d 0)
    simp only [Desc.confirmed, List.isEmpty_nil, Bool.true_and, Bool.or_eq_true, decide_eq_true_eq]
    exact .inr beyond

/-- A ring whose open descriptor's probe has failed: counted, and the ring moved on by so many bytes. -/
def State.probeLost (s : State) (c n i more : Nat) (d : Desc) : State :=
  (s.inc 0x0B (if (s.ring c n).via = 256 then 1 else 0) 3 1).updRingOf c n fun g =>
    { g with next := g.next + more, opened := some (d.probeFailed i) }

theorem probeLost_ring (s : State) (c n i more : Nat) (d : Desc) : (s.probeLost c n i more d).ring c n =
    { s.ring c n with next := (s.ring c n).next + more, opened := some (d.probeFailed i) } := by
  rw [State.probeLost, ring_updRingOf, if_pos rfl, inc_eq]
  rfl

theorem probeLost_ctr {s : State} {c n : Nat} (i more : Nat) (d : Desc) (pcie : (s.ring c n).via ≠ 256)
    (cls u j : Nat) : (s.probeLost c n i more d).ctr cls u j = (s.inc 0x0B 0 3 1).ctr cls u j := by
  rw [State.probeLost, if_neg pcie]
  rfl

theorem probe_failed {s : State} {c : Fin 256} {n : Fin 16} {d : Desc} {i : Nat} {rest : List Nat}
    (served : s.ringServed c n = true) (pcie : (s.ring c n).via ≠ 256) (opened : (s.ring c n).opened = some d)
    (probes : d.probes = i :: rest) (ending : d.ending = none) (oldest : ∀ j ∈ rest, i < j) :
    ∃ t, exec (.probeComplete c n false) s = .next t ∧ (t.ring c n).opened = none ∧
      (t.ring c n).ret = (s.ring c n).ret + 1 ∧ t.ctr 9 (16 * c + n) 5 = s.ctr 9 (16 * c + n) 5 + 1 ∧
      t.ctr 0x0B 0 3 = s.ctr 0x0B 0 3 + 1 := by
  obtain ⟨enabled, serves, idle⟩ := ringServed_parts served
  have answered := probeServed_oldest enabled pcie (dmaServes_awake serves) idle opened probes
  obtain ⟨undue, confirmed⟩ := probeFailed_idle ending probes oldest
  let more := if d.failed then 0 else ceilDiv d.taken d.group * d.group - d.taken
  have settled : s.probeSettled c n i false = s.probeLost c n i more d := by
    simp only [State.probeSettled, opened]
    rfl
  have ring := probeLost_ring s c n i more d
  have ctr := probeLost_ctr i more d pcie
  have can : (s.probeLost c n i more d).canWrite ((s.probeLost c n i more d).ring c n).via = true := by
    rw [ring, State.probeLost, inc_eq]
    exact ringServed_canWrite served
  have serves' : (s.probeLost c n i more d).dmaServes = true := by
    rw [State.probeLost, inc_eq]
    exact serves
  generalize s.probeLost c n i more d = u at settled ring ctr can serves'
  have row : s.probeDone c n i false = (u.giveBack c n 3 4 (d.probeEnd i)).assignChannels := by
    unfold State.probeDone
    rw [settled]
    refine (if_pos serves').trans (congrArg State.assignChannels ?_)
    exact tryReturn_returns can (congrArg Ring.opened ring) (by rw [probeFailed_eq ending probes oldest])
      (fun _ => undue) confirmed
  have returned := (giveBack_returned u c n 3 4 (d.probeEnd i)).then (.assignChannels _)
  obtain ⟨closed, ret, -⟩ := returned.of_face
  refine ⟨_, (probeComplete_answers false answered).trans (congrArg Host.Outcome.next row), closed, ?_, ?_, ?_⟩
  · rw [ret, ring]
  · rw [returned.counted (by decide) (by decide), ctr, ctr_inc, if_neg (by simp)]
  · rw [returned.port_ctr (.inl rfl), ctr, ctr_inc, if_pos (by simp [ctrIn])]
    rfl

/-- In KEEP a page is confirmed, and nothing else changes. -/
theorem probe_confirmedInKeep {s : State} {c : Fin 256} {n : Fin 16} {d : Desc} {i : Nat} {rest : List Nat}
    (keep : s.mode = .keep) (enabled : (s.ring c n).enabled = true) (idle : (s.cab c).resetting = none)
    (pcie : (s.ring c n).via ≠ 256) (opened : (s.ring c n).opened = some d) (probes : d.probes = i :: rest)
    (oldest : ∀ j ∈ rest, i < j) :
    ∃ t, exec (.probeComplete c n true) s = .next t ∧
      t.ring c n = { s.ring c n with opened := some { d with probes := rest } } ∧
      ({ t with rings := s.rings } : State) = s := by
  have answered := probeServed_oldest enabled pcie (by simp [keep]) idle opened probes
  have done : s.probeDone c n i true = s.withOpened c n fun _ => some { d with probes := rest } := by
    unfold State.probeDone
    rw [probeSettled_confirmed opened probes oldest]
    exact if_neg (by simp [State.dmaServes, State.withOpened, State.updRingOf, keep])
  exact ⟨_, (probeComplete_answers true answered).trans (congrArg Host.Outcome.next done),
    withOpened_ring s c n fun _ => some { d with probes := rest }, rfl⟩

end Sys2Proof.Machine

end

section
/-! PROOFS. The filling of a descriptor (R433, R483, R489): while slots are left each piece takes at least one byte and at
most one slot, so a descriptor whose bytes are there and have slots is filled to its LENGTH. -/

namespace Sys2Proof.Machine

/-! Pieces (R489). -/

/-- The length of the next piece of a buffer that is to be filled to its end. -/
def pieceLength (via addr left : Nat) : Nat := if via = 256 then framePiece addr left else funnelPiece addr left true

theorem bodyPiece_bounds {addr left : Nat} (aligned : addr % 8 = 0) (room : 8 ≤ left) :
    1 ≤ bodyPiece addr left ∧ bodyPiece addr left ≤ left ∧ bodyPiece addr left ≤ 256 := by
  unfold bodyPiece
  dsimp only
  split
  · omega
  · split <;> omega

theorem funnelPiece_bounds {addr left : Nat} (some_ : 1 ≤ left) :
    1 ≤ funnelPiece addr left true ∧ funnelPiece addr left true ≤ left ∧ funnelPiece addr left true ≤ 256 := by
  unfold funnelPiece
  split
  · omega
  · split
    · omega
    · split
      · omega
      · split
        · next body => exact bodyPiece_bounds body.1 body.2
        · rw [if_neg (by decide)]
          split
          · omega
          · split <;> omega

theorem pieceLength_bounds {via addr left : Nat} (some_ : 1 ≤ left) :
    1 ≤ pieceLength via addr left ∧ pieceLength via addr left ≤ left ∧ pieceLength via addr left ≤ 256 ∧
      (via = 256 → pieceLength via addr left ≤ 4096 - addr % 4096) := by
  unfold pieceLength
  split
  · unfold framePiece
    omega
  · next pcie =>
    obtain ⟨lo, hi, most⟩ := funnelPiece_bounds (addr := addr) some_
    exact ⟨lo, hi, most, fun usb => absurd usb pcie⟩

theorem pieceLength_none (via addr : Nat) : pieceLength via addr 0 = 0 := by
  unfold pieceLength
  split
  · simp [framePiece]
  · simp [funnelPiece]

/-! Slots used (R433, R495). -/

theorem used_useSlots (s : State) (m n c : Nat) : tget 0 (s.useSlots m n).roundUsed c ≤ tget 0 s.roundUsed c + n := by
  unfold State.useSlots
  rw [inc_eq]
  dsimp only
  split
  · rw [tget_tupd]
    split
    · next e => rw [e]
    · omega
  · exact Nat.le_add_right _ _

theorem used_usbSend (s : State) (o : Out) : (s.usbSend o).roundUsed = s.roundUsed := by
  unfold State.usbSend
  split <;> rfl

/-- A write that stays within a page is one piece on USB. -/
theorem usbPieces_one {fuel addr : Nat} {data : List Byte} (some_ : data ≠ [])
    (fits : data.length ≤ 4096 - addr % 4096) : usbPieces (fuel + 2) addr data = [(addr, data)] := by
  obtain ⟨b, bs, rfl⟩ := List.exists_cons_of_ne_nil some_
  simp only [usbPieces, List.take_of_length_le fits, List.drop_of_length_le fits]

theorem used_hostWrite {s : State} {m : Nat} {a : BitVec 64} {data : List Byte} (short : data.length ≤ 256)
    (fits : m = 256 → data.length ≤ 4096 - a.toNat % 4096) (c : Nat) :
    tget 0 (s.hostWrite m a data).roundUsed c ≤ tget 0 s.roundUsed c + 1 := by
  have one : ceilDiv data.length 256 ≤ 1 := by
    unfold ceilDiv
    omega
  unfold State.hostWrite
  split
  · exact Nat.le_add_right _ _
  · next some_ =>
    split
    · next usb =>
      rw [usbPieces_one (by simpa using some_) (fits usb)]
      simp only [forEach, List.foldl, used_usbSend]
      exact (used_useSlots s m _ c).trans (Nat.add_le_add_left one _)
    · exact (used_useSlots s m _ c).trans (Nat.add_le_add_left one _)

/-! Slots left (R433). -/

theorem slotShare_congr {s t : State} (charter : t.charter = s.charter) (rounds : t.rounds = s.rounds)
    (ready : ∀ c n, n < 16 → t.ringReady c n = s.ringReady c n) (c : Nat) : t.slotShare c = s.slotShare c := by
  have cabs : t.enabledCabs = s.enabledCabs := by rw [State.enabledCabs, State.enabledCabs, charter]
  have entry (d : Nat) : t.entry d = s.entry d := by rw [State.entry, State.entry, charter]
  have waiting : t.dmaCabs = s.dmaCabs := by
    unfold State.dmaCabs
    rw [cabs]
    refine List.filter_congr fun d _ => ?_
    rw [Bool.eq_iff_iff, List.any_eq_true, List.any_eq_true]
    refine exists_congr fun n => and_congr_right fun hn => ?_
    rw [ready d n (List.mem_range.1 hn)]
  simp only [State.slotShare, cabs, entry, waiting, rounds]

theorem Told.ringReady {s t : State} (h : Told s t) (c n : Nat) : t.ringReady c n = s.ringReady c n := by
  have ring : t.ring c n = s.ring c n := (congrArg (fun u : State => u.ring c n) h.rest :)
  have stream : t.stream c n = s.stream c n := (congrArg (fun u : State => u.stream c n) h.rest :)
  have now : t.now = s.now := (congrArg State.now h.rest :)
  have resetting : (t.cab c).resetting = (s.cab c).resetting := (congrArg Cab.resetting (h.cab c) :)
  have can := h.canWrite (s.ring c n).via
  unfold State.ringReady State.ringBlocked State.readyBytes
  rw [ring, stream, now, resetting]
  dsimp only
  rw [can]

/-- A ring with bytes for its open descriptor is ready unless something stops it. -/
theorem ringReady_of_bytes {s : State} {c n : Nat} {d : Desc} (opened : (s.ring c n).opened = some d)
    (bytes : (s.ring c n).next < (s.stream c n).written) :
    s.ringReady c n = ((s.ring c n).enabled && !(s.ring c n).closing && s.canWrite (s.ring c n).via &&
      (s.cab c).resetting.isNone) := by
  have some_ : 0 < (s.stream c n).written - (s.ring c n).next := by omega
  simp [State.ringReady, State.ringBlocked, State.readyBytes, opened, some_]

/-! Pieces written (R483, R489). -/

/-- The bytes of the next piece of a descriptor's buffer. -/
def State.pieceBytes (s : State) (c n : Nat) (d : Desc) (k : Nat) : List Byte :=
  (List.range k).map fun i => ((s.ringRead c n (d.first + d.source (d.taken + i)) 1).headD 0)

/-- The write of the next piece to host memory. -/
def State.pieceSent (s : State) (c n : Nat) (d : Desc) (k : Nat) : State :=
  s.hostWrite (s.ring c n).via (BitVec.ofNat 64 (d.dest.toNat + d.taken)) (s.pieceBytes c n d k)

/-- A piece written: the ring and its descriptor stand so many bytes on. -/
def State.pieceWritten (s : State) (c n : Nat) (d : Desc) (k : Nat) : State :=
  (s.pieceSent c n d k).updRingOf c n fun g =>
    { g with
      next := g.next + k,
      opened := g.opened.map fun e => { e with taken := e.taken + k, lastByte := (s.pieceSent c n d k).now } }

theorem pieceSent_told (s : State) (c n : Nat) (d : Desc) (k : Nat) : Told s (s.pieceSent c n d k) := .hostWrite s _ _ _

theorem pieceWritten_ring {s : State} {c n : Nat} {d : Desc} (k : Nat) (opened : (s.ring c n).opened = some d) :
    (s.pieceWritten c n d k).ring c n =
      { s.ring c n with
        next := (s.ring c n).next + k,
        opened := some { d with taken := d.taken + k, lastByte := (s.pieceSent c n d k).now } } := by
  have same : (s.pieceSent c n d k).ring c n = s.ring c n :=
    (congrArg (fun u : State => u.ring c n) (pieceSent_told s c n d k).rest :)
  rw [State.pieceWritten, ring_updRingOf, if_pos rfl, same, opened]
  rfl

theorem pieceWritten_otherRing {s : State} {c n c' n' : Nat} {d : Desc} (k : Nat) (other : 16 * c' + n' ≠ 16 * c + n) :
    (s.pieceWritten c n d k).ring c' n' = s.ring c' n' := by
  rw [State.pieceWritten, ring_updRingOf, if_neg other]
  exact (congrArg (fun u : State => u.ring c' n') (pieceSent_told s c n d k).rest :)

/-- A piece that leaves bytes to be taken leaves every ring as ready as it was. -/
theorem pieceWritten_ready {s : State} {c n : Nat} {d : Desc} (k : Nat) (hn : n < 16)
    (opened : (s.ring c n).opened = some d) (more : (s.ring c n).next + k < (s.stream c n).written) (c' n' : Nat)
    (hn' : n' < 16) : (s.pieceWritten c n d k).ringReady c' n' = s.ringReady c' n' := by
  have told := pieceSent_told s c n d k
  by_cases same : 16 * c' + n' = 16 * c + n
  · obtain ⟨rfl, rfl⟩ : c' = c ∧ n' = n := by omega
    have ring := pieceWritten_ring k opened
    have resetting : ((s.pieceWritten c' n' d k).cab c').resetting = (s.cab c').resetting :=
      (congrArg Cab.resetting (told.cab c') :)
    have can : (s.pieceWritten c' n' d k).canWrite (s.ring c' n').via = s.canWrite (s.ring c' n').via := told.canWrite _
    have written : (s.pieceWritten c' n' d k).stream c' n' = s.stream c' n' :=
      (congrArg (fun u : State => u.stream c' n') told.rest :)
    have bytes : ((s.pieceWritten c' n' d k).ring c' n').next < ((s.pieceWritten c' n' d k).stream c' n').written := by
      rw [ring, written]
      exact more
    rw [ringReady_of_bytes opened (by omega), ringReady_of_bytes (congrArg Ring.opened ring) bytes, resetting, ring]
    exact congrArg (fun b => (s.ring c' n').enabled && !(s.ring c' n').closing && b && (s.cab c').resetting.isNone) can
  · refine Eq.trans ?_ (told.ringReady c' n')
    have ring := pieceWritten_otherRing (s := s) (d := d) k same
    have before : (s.pieceSent c n d k).ring c' n' = s.ring c' n' :=
      (congrArg (fun u : State => u.ring c' n') told.rest :)
    unfold State.ringReady State.ringBlocked State.readyBytes
    rw [ring, before]
    rfl

/-- A piece uses at most one slot. -/
theorem pieceWritten_slots {s : State} {c n : Nat} {d : Desc} (hn : n < 16) (opened : (s.ring c n).opened = some d)
    {left : Nat} (some_ : 1 ≤ left)
    (more : (s.ring c n).next + pieceLength (s.ring c n).via (d.dest.toNat + d.taken) left < (s.stream c n).written) :
    s.slotsLeft c ≤
      (s.pieceWritten c n d (pieceLength (s.ring c n).via (d.dest.toNat + d.taken) left)).slotsLeft c + 1 := by
  obtain ⟨-, -, short, fits⟩ :=
    pieceLength_bounds (via := (s.ring c n).via) (addr := d.dest.toNat + d.taken) some_
  generalize pieceLength (s.ring c n).via (d.dest.toNat + d.taken) left = k at more short fits
  have told := pieceSent_told s c n d k
  have charter : (s.pieceWritten c n d k).charter = s.charter := (congrArg State.charter told.rest :)
  have rounds : (s.pieceWritten c n d k).rounds = s.rounds := (congrArg State.rounds told.rest :)
  have share := slotShare_congr charter rounds (pieceWritten_ready k hn opened more) c
  have length : (s.pieceBytes c n d k).length = k := by simp [State.pieceBytes]
  have used : tget 0 (s.pieceWritten c n d k).roundUsed c ≤ tget 0 s.roundUsed c + 1 := by
    refine used_hostWrite (by rw [length]; exact short) (fun usb => ?_) c
    rw [length, BitVec.toNat_ofNat]
    have within := fits usb
    omega
  unfold State.slotsLeft
  rw [share]
  omega

theorem writePieces_step {s : State} {c n : Nat} {d : Desc} (fuel : Nat) {stop : Nat}
    (opened : (s.ring c n).opened = some d) (plain : d.verify = false) (some_ : 1 ≤ stop - (s.ring c n).next)
    (slots : s.slotsLeft c ≠ 0) :
    State.writePieces (fuel + 1) c n stop true s = State.writePieces fuel c n stop true
      (s.pieceWritten c n d (pieceLength (s.ring c n).via (d.dest.toNat + d.taken) (stop - (s.ring c n).next))) := by
  obtain ⟨pos, -⟩ := pieceLength_bounds (via := (s.ring c n).via) (addr := d.dest.toNat + d.taken) some_
  generalize hk : pieceLength (s.ring c n).via (d.dest.toNat + d.taken) (stop - (s.ring c n).next) = k at pos
  have unprobed : State.issueProbes 1 c n (s.pieceWritten c n d k) = s.pieceWritten c n d k :=
    issueProbes_idle 1 (congrArg Ring.opened (pieceWritten_ring k opened)) fun verify =>
      absurd (plain.symm.trans verify) (by decide)
  unfold pieceLength at hk
  simp only [State.writePieces, opened, plain, hk]
  rw [if_neg (by simp only [Bool.false_and, Bool.false_eq_true, or_false]; omega)]
  exact congrArg (State.writePieces fuel c n stop true) unprobed

theorem writePieces_done {s : State} {c n : Nat} {d : Desc} (fuel : Nat) (opened : (s.ring c n).opened = some d) :
    State.writePieces fuel c n (s.ring c n).next true s = s := by
  cases fuel with
  | zero => rfl
  | succ fuel =>
    have none_ := pieceLength_none (s.ring c n).via (d.dest.toNat + d.taken)
    unfold pieceLength at none_
    simp only [State.writePieces, opened, Nat.sub_self, none_]
    exact if_pos (.inl trivial)

/-- The open descriptor has been filled to its LENGTH. -/
structure Filled (c n : Nat) (d : Desc) (s t : State) : Prop where
  ring : ∃ l, t.ring c n =
    { s.ring c n with next := d.first + d.length, opened := some { d with taken := d.length, lastByte := l } }
  ctr : ∀ cls u i, returnCtr cls i → t.ctr cls u i = s.ctr cls u i
  can : ∀ m, t.canWrite m = s.canWrite m

theorem full_self {d : Desc} (full : d.taken = d.length) : { d with taken := d.length, lastByte := d.lastByte } = d := by
  obtain ⟨⟩ := d
  dsimp only at full
  subst full
  rfl

/-- A descriptor whose bytes are there and have slots is filled. -/
theorem writePieces_fills {c n : Nat} (hn : n < 16) (fuel : Nat) : ∀ {s : State} {d : Desc},
    (s.ring c n).opened = some d → d.verify = false → (s.ring c n).next = d.first + d.taken → d.taken ≤ d.length →
    d.first + d.length ≤ (s.stream c n).written → d.length - d.taken ≤ s.slotsLeft c → d.length - d.taken < fuel →
    Filled c n d s (State.writePieces fuel c n (d.first + d.length) true s) := by
  induction fuel with
  | zero => intro s d _ _ _ _ _ _ short; omega
  | succ fuel ih =>
    intro s d opened plain here within bytes slots short
    by_cases full : d.taken = d.length
    · have stop : d.first + d.length = (s.ring c n).next := by omega
      rw [stop, writePieces_done _ opened]
      refine ⟨⟨d.lastByte, ?_⟩, fun _ _ _ _ => rfl, fun _ => rfl⟩
      rw [full_self full, stop, ← opened]
    · have some_ : 1 ≤ d.first + d.length - (s.ring c n).next := by omega
      rw [writePieces_step fuel opened plain some_ (by omega)]
      obtain ⟨pos, most, -⟩ := pieceLength_bounds (via := (s.ring c n).via) (addr := d.dest.toNat + d.taken) some_
      have slot := pieceWritten_slots hn opened some_
      generalize pieceLength (s.ring c n).via (d.dest.toNat + d.taken) (d.first + d.length - (s.ring c n).next) = k
        at pos most slot
      have told := pieceSent_told s c n d k
      have ring := pieceWritten_ring k opened
      have stream : (s.pieceWritten c n d k).stream c n = s.stream c n :=
        (congrArg (fun u : State => u.stream c n) told.rest :)
      generalize (s.pieceSent c n d k).now = l at ring
      have room : d.length - (d.taken + k) ≤ (s.pieceWritten c n d k).slotsLeft c := by
        by_cases last : d.length = d.taken + k
        · omega
        · have used := slot (by omega)
          omega
      have filled := ih (congrArg Ring.opened ring) plain
        ((congrArg Ring.next ring).trans (by dsimp only; omega)) (by dsimp only; omega)
        (by dsimp only; rw [stream]; exact bytes) room (by dsimp only; omega)
      obtain ⟨⟨l', after⟩, ctr, can⟩ := filled
      refine ⟨⟨l', after.trans (by rw [ring])⟩, fun cls u i r => (ctr cls u i r).trans ?_, fun m => (can m).trans ?_⟩
      · exact told.ctr cls u i (not_reportCtr r)
      · exact told.canWrite m

/-! The row (R483, R486). -/

/-- A round that ends changes what is left of it alone. -/
theorem round_leaves (s : State) : Undealt s s.round ∧ (∀ c n, s.round.ring c n = s.ring c n) ∧
    (∀ c n, s.round.stream c n = s.stream c n) ∧ ∀ m, s.round.canWrite m = s.canWrite m := by
  unfold State.round
  split
  · exact ⟨.of_eq rfl rfl rfl, fun _ _ => rfl, fun _ _ => rfl, fun _ => rfl⟩
  · exact ⟨.refl s, fun _ _ => rfl, fun _ _ => rfl, fun _ => rfl⟩

/-- With neither ITEM nor DOC set, and every block readable, a descriptor whose bytes are there is filled to its LENGTH. -/
theorem fillEnd_full {s : State} {c n : Nat} {d : Desc} (item : d.item = false) (doc : d.doc = false)
    (good : (s.stream c n).badBlocks = []) (bytes : d.first + d.length ≤ (s.stream c n).written) :
    s.fillEnd c n d = (d.first + d.length, some (1, 0)) := by
  have readable : s.badBlock c n = none := by simp [State.badBlock, good]
  have whole : (s.stream c n).items.find? (fun _ => false) = none := List.find?_eq_none.2 (by simp)
  simp [State.fillEnd, item, doc, bytes, readable, whole]

theorem descFill_full {s : State} {c n : Nat} {d : Desc} {t : Nat} {u : State} {d' : Desc}
    (opened : (s.ring c n).opened = some d) (ending : d.ending = none)
    (stop : s.round.fillEnd c n d = (t, some (1, 0)))
    (filled : State.writePieces (t - (s.round.ring c n).next + 1) c n t true s.round = u)
    (opened' : (u.ring c n).opened = some d') (next : (u.ring c n).next = t) :
    s.descFill c n = u.endDesc c n 1 0 d'.taken := by
  simp only [State.descFill, opened, ending, Option.isSome_none, stop, Option.isSome_some, filled, opened', next]
  simp

/-- A descriptor that may be filled to its LENGTH is returned DONE. -/
theorem descFill_returned {s : State} {c n : Nat} {d : Desc} (hn : n < 16) (opened : (s.ring c n).opened = some d)
    (ending : d.ending = none) (plain : d.verify = false) (item : d.item = false) (doc : d.doc = false)
    (can : s.canWrite (s.ring c n).via = true) (good : (s.stream c n).badBlocks = [])
    (here : (s.ring c n).next = d.first + d.taken) (within : d.taken ≤ d.length)
    (bytes : d.first + d.length ≤ (s.stream c n).written) (slots : d.length - d.taken ≤ s.round.slotsLeft c) :
    ∃ u, Filled c n d s u ∧ Returned c n 1 0 d.length u (s.descFill c n) := by
  obtain ⟨undealt, ring, stream, write⟩ := round_leaves s
  have stop : s.round.fillEnd c n d = (d.first + d.length, some (1, 0)) :=
    fillEnd_full item doc (by rw [stream, good]) (by rw [stream]; exact bytes)
  have filled := writePieces_fills hn (d.first + d.length - (s.round.ring c n).next + 1) (s := s.round) (d := d)
    (by rw [ring, opened]) plain (by rw [ring, here]) within (by rw [stream]; exact bytes) slots
    (by rw [ring, here]; omega)
  generalize hu : State.writePieces _ c n (d.first + d.length) true s.round = u at filled
  obtain ⟨⟨l, after⟩, ctr, can'⟩ := filled
  rw [ring] at after
  have ended := descFill_full opened ending stop hu (congrArg Ring.opened after) (congrArg Ring.next after)
  refine ⟨u, ⟨⟨l, after⟩, fun cls v i r => (ctr cls v i r).trans (undealt.ctr cls v i r),
    fun m => (can' m).trans (write m)⟩, ?_⟩
  rw [ended]
  refine endDesc_returned 1 0 d.length ?_ (congrArg Ring.opened after) plain
  rw [after, can', write]
  exact can

theorem fill_full (s : State) (c : Fin 256) (n : Fin 16) (d : Desc) (opened : (s.ring c n).opened = some d)
    (ending : d.ending = none) (plain : d.verify = false) (item : d.item = false) (doc : d.doc = false)
    (served : s.assignChannels.ringServed c n = true) (chan : (s.assignChannels.ring c n).chan ≠ none)
    (good : (s.stream c n).badBlocks = []) (here : (s.ring c n).next = d.first + d.taken) (within : d.taken ≤ d.length)
    (bytes : d.first + d.length ≤ (s.stream c n).written)
    (slots : d.length - d.taken ≤ s.assignChannels.round.slotsLeft c) :
    ∃ t, exec (.descriptorFill c n) s = .next t ∧ (t.ring c n).opened = none ∧ (t.ring c n).ret = (s.ring c n).ret + 1 ∧
      (t.ring c n).next = d.first + d.length ∧ t.ctr 9 (16 * c + n) 3 = s.ctr 9 (16 * c + n) 3 + 1 ∧
      ((s.ring c n).via ≠ 256 →
        Out.mem (s.ring c n).via ((s.ring c n).descAddr (s.ring c n).ret + 0x18) (leBytes 4 (2 ^ 28 + d.length)) ∈
          t.outbox) := by
  have row : exec (.descriptorFill c n) s = .next ((s.assignChannels.descFill c n).assignChannels) := by
    show execDescriptorFill c n s = _
    simp only [execDescriptorFill]
    rw [if_pos ⟨served, Option.isSome_iff_ne_none.2 chan⟩]
  have assigned := Undealt.assignChannels s
  have stream : s.assignChannels.stream c n = s.stream c n :=
    (congrArg (fun u : State => u.stream c n) (RingsTold.assignChannels s).rest :)
  generalize s.assignChannels = a at assigned row served slots stream
  obtain ⟨openedA, retA, nextA, viaA, -, addrA⟩ := Ring.of_face (assigned.ring c n)
  obtain ⟨u, ⟨⟨l, ring⟩, ctr, can⟩, done⟩ := descFill_returned n.isLt (openedA.trans opened) ending plain item doc
    (ringServed_canWrite served) (by rw [stream, good]) (nextA.trans here) within (by rw [stream]; exact bytes) slots
  have returned := done.then (.assignChannels _)
  obtain ⟨closed, ret, next⟩ := returned.of_face
  have status := returned.status
  have can' : u.canWrite (s.ring c n).via = true := by
    rw [can, ← viaA]
    exact ringServed_canWrite served
  have retU : (u.ring c n).ret = (s.ring c n).ret := (congrArg Ring.ret ring).trans retA
  have viaU : (u.ring c n).via = (s.ring c n).via := (congrArg Ring.via ring).trans viaA
  have addrU : (u.ring c n).descAddr = (s.ring c n).descAddr := (congrArg Ring.descAddr ring).trans addrA
  rw [retU, viaU, addrU, statusBytes, Nat.zero_mul, Nat.add_zero, Nat.one_mul] at status
  refine ⟨_, row, closed, ?_, ?_, ?_, fun pcie => status pcie can'⟩
  · rw [ret, retU]
  · rw [next, ring]
  · rw [returned.counted (by decide) (by decide), ctr _ _ _ (.inl ⟨rfl, by decide, by decide⟩),
      assigned.ctr _ _ _ (.inl ⟨rfl, by decide, by decide⟩)]

/-- Settles O56, from the rows that read descriptors, fill them, return them late and answer their probes. -/
theorem descriptorsServed : Obligations.DescriptorsServed := by
  unfold Obligations.DescriptorsServed
  refine ⟨fun s c n bytes => ⟨fun idle => ?_, fun wants pcie => ?_⟩, fun s c n d => ?_, fun s c n d i rest => ?_,
    fun s c n d i rest => ?_⟩
  · exact ⟨descriptorFetch_idle none idle, descriptorFetch_idle (some bytes) idle, descriptorFetchFail_idle idle⟩
  · exact ⟨fetch_good s c n bytes wants pcie, fetch_bad s c n bytes wants pcie, fetchFail_row s c n wants pcie,
      fetch_failsAgain s c n wants pcie, fetch_failsOnce s c n wants pcie⟩
  · intro a g opened ending plain item doc
    exact ⟨fill_full s c n d opened ending plain item doc, fun served timed some_ =>
      ⟨timeout_due opened ending plain served timed some_, timeout_waits opened⟩⟩
  · intro g served pcie opened probes ending oldest
    exact ⟨probe_confirmed served pcie opened probes ending oldest, probe_failed served pcie opened probes ending oldest⟩
  · intro g keep enabled idle pcie opened probes oldest
    exact probe_confirmedInKeep keep enabled idle pcie opened probes oldest

end Sys2Proof.Machine

end

section
/-! PROOFS. What the rows of the timebase, of the beds and of the lines watch: settings and sources of the channels,
the configuration and the slots of the beds, and counters of both; and the operations that keep them, an entry to
HALTED among them. -/

namespace Sys2Proof.Machine

/-- A channel but for what its position is reckoned from. -/
@[reducible, simp] def Chan.face (k : Chan) : Chan :=
  { k with
    jobRates := [], base := 0, vel := 0, t0 := 0, axis0 := 0, held := false, interval := 0, intervalValid := false,
    fresh := false, lastTick := 0 }

/-- The configuration in force on a bed (Table BD-7). -/
@[reducible, simp] def Bed.cfg (x : Bed) : BedCfg :=
  { segMask := x.segMask, seqLen := x.seqLen, coverMask := x.coverMask, slotCycles := x.slotCycles,
    spWidth := x.spWidth,
    lead := x.lead, tapMap := x.tapMap, clkInvert := x.clkInvert, darkCount := x.darkCount, darkLimit := x.darkLimit,
    phase := x.phase, seq := x.seq }

/-- A bed's configuration, the one that waits for the next entry to a P3 mode, and its slots counted. -/
@[reducible, simp] def Bed.face (x : Bed) : BedCfg × Option BedCfg × Nat := (x.cfg, x.cfgNext, x.slotNo)

/-- What the rows of the timebase, of the beds and of the lines watch. -/
structure Watch where
  now : Nat
  clocks : Tab Clock
  chans : Nat → Chan
  /-- ILLEGAL, INDEX_ERRORS and LOSSES of the channels. -/
  ticks : Nat → Nat → BitVec 48
  /-- The counters of the beds above those of R585. -/
  slots : Nat → Nat → BitVec 48
  held : Nat → Bool
  beds : Nat → BedCfg × Option BedCfg × Nat

/-- The watch of those fields, its definition closed so that a lemma about it reads the fields as they stand. An entry
to a P3 mode takes held channels up and starts the beds anew: it keeps the watch without them, `whole` being false. -/
@[irreducible] def watchOf (whole : Bool) (now : Nat) (clocks : Tab Clock) (chans : Tab Chan)
    (counters : Tab (BitVec 48)) (beds : Tab Bed) : Watch :=
  { now
    clocks
    chans := fun c => (tget {} chans c).face
    ticks := fun c i => if ctrIn c i && decide (1 ≤ i ∧ i ≤ 3) then tget 0 counters (ctrKey 6 c i) else 0
    slots := fun b i => if ctrIn b i && decide (8 ≤ i) then tget 0 counters (ctrKey 1 b i) else 0
    held := fun c => whole && (tget {} chans c).held
    beds := fun b => if whole then (tget {} beds b).face else ({} : Bed).face }

@[reducible, simp] def State.watch (s : State) (whole : Bool) : Watch :=
  watchOf whole s.now s.clocks s.chans s.counters s.beds

theorem watch_iff {s t : State} {q : Bool} : s.watch q = t.watch q ↔
    s.now = t.now ∧ s.clocks = t.clocks ∧ (∀ c, (s.chan c).face = (t.chan c).face) ∧
      (∀ c i, 1 ≤ i → i ≤ 3 → s.ctr 6 c i = t.ctr 6 c i) ∧ (∀ b i, 8 ≤ i → s.ctr 1 b i = t.ctr 1 b i) ∧
      (q = true → ∀ c, (s.chan c).held = (t.chan c).held) ∧ (q = true → ∀ b, (s.bed b).face = (t.bed b).face) := by
  have ticks : ∀ s : State, (fun c i => if ctrIn c i && decide (1 ≤ i ∧ i ≤ 3)
      then tget 0 s.counters (ctrKey 6 c i) else 0) =
      fun c i => if 1 ≤ i ∧ i ≤ 3 then s.ctr 6 c i else 0 := by
    intro s
    funext c i
    by_cases h : 1 ≤ i ∧ i ≤ 3 <;> simp [State.ctr, h]
  have slots : ∀ s : State, (fun c i => if ctrIn c i && decide (8 ≤ i) then tget 0 s.counters (ctrKey 1 c i) else 0) =
      fun c i => if 8 ≤ i then s.ctr 1 c i else 0 := by
    intro s
    funext c i
    by_cases h : 8 ≤ i <;> simp [State.ctr, h]
  simp only [State.watch, watchOf, ticks, slots, Watch.mk.injEq, funext_iff]
  refine and_congr Iff.rfl (and_congr Iff.rfl (and_congr Iff.rfl (and_congr ⟨fun h c i lo hi => ?_, fun h c i => ?_⟩
    (and_congr ⟨fun h c i lo => ?_, fun h c i => ?_⟩ ?_))))
  · simpa [lo, hi] using h c i
  · split
    · next r => exact h c i r.1 r.2
    · rfl
  · simpa [lo] using h c i
  · split
    · next r => exact h c i r
    · rfl
  · cases q
    · simp
    · simp [State.chan, State.bed]

theorem watch_false {s t : State} {q : Bool} (h : s.watch q = t.watch q) : s.watch false = t.watch false := by
  rw [watch_iff] at h ⊢
  obtain ⟨now, clocks, chans, ticks, slots, -, -⟩ := h
  exact ⟨now, clocks, chans, ticks, slots, by simp, by simp⟩

theorem watch_inc_other (s : State) (q : Bool) (cls unit idx n : Nat)
    (h6 : cls ≠ 6 ∨ idx = 0 ∨ 3 < idx) (h1 : cls ≠ 1 ∨ idx < 8) : (s.inc cls unit idx n).watch q = s.watch q := by
  have fields := inc_eq s cls unit idx n
  refine watch_iff.2 ⟨by rw [fields], by rw [fields], fun _ => by rw [fields]; rfl, fun c i lo hi => ?_,
      fun b i lo => ?_,
    fun _ _ => by rw [fields]; rfl, fun _ _ => by rw [fields]; rfl⟩
  · rw [ctr_inc, if_neg]
    rintro ⟨rfl, -, rfl, -⟩
    omega
  · rw [ctr_inc, if_neg]
    rintro ⟨rfl, -, rfl, -⟩
    omega

@[simp] theorem watch_inc_class (s : State) (q : Bool) (cls unit idx n : Nat) (h6 : cls ≠ 6) (h1 : cls ≠ 1) :
    (s.inc cls unit idx n).watch q = s.watch q := watch_inc_other s q cls unit idx n (.inl h6) (.inl h1)
@[simp] theorem watch_inc_tick (s : State) (q : Bool) (unit idx n : Nat) (h : 3 < idx) :
    (s.inc 6 unit idx n).watch q = s.watch q := watch_inc_other s q 6 unit idx n (.inr (.inr h)) (.inl (by decide))
@[simp] theorem watch_inc_ticks (s : State) (q : Bool) (unit n : Nat) :
    (s.inc 6 unit 0 n).watch q = s.watch q := watch_inc_other s q 6 unit 0 n (.inr (.inl rfl)) (.inl (by decide))
@[simp] theorem watch_inc_line (s : State) (q : Bool) (unit idx n : Nat) (h : idx < 8) :
    (s.inc 1 unit idx n).watch q = s.watch q := watch_inc_other s q 1 unit idx n (.inl (by decide)) (.inr h)
@[simp] theorem watch_ite (c : Prop) [Decidable c] (s t : State) (q : Bool) :
    (if c then s else t).watch q = if c then s.watch q else t.watch q := by
  split <;> rfl
@[simp] theorem watch_forEach {α : Type} (q : Bool) (f : α → State → State)
    (h : ∀ x s, (f x s).watch q = s.watch q) (xs : List α) (s : State) :
    (forEach xs f s).watch q = s.watch q :=
  forEach_keeps (P := fun t : State => t.watch q = s.watch q) f
    (fun x t ht => (h x t).trans ht) xs s rfl
@[simp] theorem watch_dropLine (s : State) (q : Bool) (b acc cause : Nat) (h : cause < 8) :
    (s.dropLine b acc cause).watch q = s.watch q :=
  (watch_inc_line _ q b cause 1 h).trans (watch_inc_line s q b 0 1 (by decide))

/-- A change of a channel that what is watched of it does not show. -/
@[simp] theorem watch_updChan (s : State) (q : Bool) (c : Nat) (f : Chan → Chan) (h : ∀ k, (f k).face = k.face)
    (hh : q = true → ∀ k, (f k).held = k.held) : (s.updChan c f).watch q = s.watch q := by
  refine watch_iff.2 ⟨rfl, rfl, fun d => ?_, fun _ _ _ _ => rfl, fun _ _ _ => rfl, fun hq d => ?_, fun _ _ => rfl⟩
  · rw [chan_updChan]
    split
    · next e => rw [h, e]
    · rfl
  · rw [chan_updChan]
    split
    · next e => rw [hh hq, e]
    · rfl

@[simp] theorem watch_updBed (s : State) (q : Bool) (b : Nat) (f : Bed → Bed)
    (h : q = true → ∀ x, (f x).face = x.face) : (s.updBed b f).watch q = s.watch q := by
  refine watch_iff.2 ⟨rfl, rfl, fun _ => rfl, fun _ _ _ _ => rfl, fun _ _ _ => rfl, fun _ _ => rfl, fun hq d => ?_⟩
  rw [bed_updBed]
  split
  · next e => rw [h hq, e]
  · rfl

/-! The shared operations (Machine/Ops.lean). -/

@[simp] theorem watch_draw (s : State) (q : Bool) : s.draw.watch q = s.watch q := by rfl
@[simp] theorem watch_updCab (s : State) (q : Bool) (c : Nat) (f : Cab → Cab) :
    (s.updCab c f).watch q = s.watch q := by rfl
@[simp] theorem watch_updMbx (s : State) (q : Bool) (m : Nat) (f : Mbx → Mbx) :
    (s.updMbx m f).watch q = s.watch q := by rfl
@[simp] theorem watch_setComp (s : State) (q : Bool) (k : Nat) (v : Option Cmp) :
    (s.setComp k v).watch q = s.watch q := by rfl
@[simp] theorem watch_updAxis (s : State) (q : Bool) (a : Nat) (f : Axis → Axis) :
    (s.updAxis a f).watch q = s.watch q := by rfl
@[simp] theorem watch_updSnap (s : State) (q : Bool) (k : Nat) (f : Snap → Snap) :
    (s.updSnap k f).watch q = s.watch q := by rfl
@[simp] theorem watch_updRing (s : State) (q : Bool) (c : Nat) (f : EvRing → EvRing) :
    (s.updRing c f).watch q = s.watch q := by rfl
@[simp] theorem watch_push (s : State) (q : Bool) (o : Out) : (s.push o).watch q = s.watch q := by rfl
@[simp] theorem watch_usbSend (s : State) (q : Bool) (o : Out) : (s.usbSend o).watch q = s.watch q := by
  simp [State.usbSend]
@[simp] theorem watch_useSlots (s : State) (q : Bool) (m n : Nat) :
    (s.useSlots m n).watch q = s.watch q := by
  unfold State.useSlots
  dsimp only
  split <;> simp
@[simp] theorem watch_hostWrite (s : State) (q : Bool) (m : Nat) (addr : BitVec 64) (data : List Byte) :
    (s.hostWrite m addr data).watch q = s.watch q := by simp [State.hostWrite]
@[simp] theorem watch_signal (s : State) (q : Bool) (m vector : Nat) :
    (s.signal m vector).watch q = s.watch q := by simp [State.signal]
@[simp] theorem watch_overflow (s : State) (q : Bool) (c cls : Nat) :
    (s.overflow c cls).watch q = s.watch q := by simp [State.overflow]
@[simp] theorem watch_ringSignal (s : State) (q : Bool) (c : Nat) :
    (s.ringSignal c).watch q = s.watch q := by simp [State.ringSignal]
@[simp] theorem watch_writeEntry (s : State) (q : Bool) (c : Nat) (e : Ev) :
    (s.writeEntry c e).watch q = s.watch q := by simp [State.writeEntry]
@[simp] theorem watch_raise (s : State) (q : Bool) (c : Nat) (e : Ev) :
    (s.raise c e).watch q = s.watch q := by simp [State.raise]
@[simp] theorem watch_raiseTo (s : State) (q : Bool) (cs : List Nat) (e : Ev) :
    (s.raiseTo cs e).watch q = s.watch q := by simp [State.raiseTo]

/-! The Herbarium's records and pages (Machine/Nvs.lean). -/

@[simp] theorem watch_beginRecord (s : State) (q : Bool) (r : NvsRecord) :
    (s.beginRecord r).watch q = s.watch q := by rfl
@[simp] theorem watch_setNvs (s : State) (q : Bool) (page w : Nat) (v : BitVec 64) :
    (s.setNvs page w v).watch q = s.watch q := by simp [State.setNvs]

@[simp] theorem watch_writePage (s : State) (q : Bool) (page : Nat) (bytes : List Byte) (gen : Nat) :
    (s.writePage page bytes gen).watch q = s.watch q := by simp [State.writePage]
@[simp] theorem watch_freePage (s : State) (q : Bool) (page gen : Nat) :
    (s.freePage page gen).watch q = s.watch q := by simp [State.freePage]
@[simp] theorem watch_freeRecord (s : State) (q : Bool) (pageA : Nat) :
    (s.freeRecord pageA).watch q = s.watch q := by simp [State.freeRecord]

/-! Beds, streams, axes and records. -/

@[simp] theorem watch_updStream (s : State) (q : Bool) (c n : Nat) (f : Stream → Stream) :
    (s.updStream c n f).watch q = s.watch q := by rfl
@[simp] theorem watch_updRingOf (s : State) (q : Bool) (c n : Nat) (f : Ring → Ring) :
    (s.updRingOf c n f).watch q = s.watch q := by rfl
@[simp] theorem watch_rebase (s : State) (q : Bool) (c : Nat) : (s.rebase c).watch q = s.watch q := by
  simp [State.rebase]
@[simp] theorem watch_dropRate (s : State) (q : Bool) (j : Job) : (s.dropRate j).watch q = s.watch q := by
  simp [State.dropRate]
@[simp] theorem watch_missSnap (s : State) (q : Bool) (slot cause : Nat) :
    (s.missSnap slot cause).watch q = s.watch q := by simp [State.missSnap]
@[simp] theorem watch_disarm (s : State) (q : Bool) (k : Nat) : (s.disarm k).watch q = s.watch q := by
  unfold State.disarm
  split
  · rfl
  · split <;> simp
@[simp] theorem watch_ringWrite (s : State) (q : Bool) (c n off : Nat) (bs : List Byte) :
    (s.ringWrite c n off bs).watch q = s.watch q := by rfl
@[simp] theorem watch_raiseWm (s : State) (q : Bool) (c n : Nat) (above : Bool) :
    (s.raiseWm c n above).watch q = s.watch q := by simp [State.raiseWm]
@[simp] theorem watch_chgStream (s : State) (q : Bool) (c n : Nat) (f : Stream → Stream) :
    (s.chgStream c n f).watch q = s.watch q := by simp [State.chgStream]
@[simp] theorem watch_makeItem (s : State) (q : Bool) (c n kind flags bed kernel acc : Nat) (payload : List Byte) :
    (s.makeItem c n kind flags bed kernel acc payload).1.watch q = s.watch q := by
  unfold State.makeItem
  split <;> simp
@[simp] theorem watch_ringFed (s : State) (q : Bool) (c n : Nat) :
    (s.ringFed c n).watch q = s.watch q := by simp [State.ringFed]
@[simp] theorem watch_appendItem (s : State) (q : Bool) (c n : Nat) (bs : List Byte) (kind acc res : Nat)
    (last : Bool) :
    (s.appendItem c n bs kind acc res last).watch q = s.watch q := by simp [State.appendItem]
@[simp] theorem watch_putItem (s : State) (q : Bool) (c n : Nat) (bs : List Byte) (kind acc res : Nat) (last : Bool) :
    (s.putItem c n bs kind acc res last).watch q = s.watch q := by simp [State.putItem]
@[simp] theorem watch_updDoc (s : State) (q : Bool) (acc : Nat) (f : Doc → Doc) :
    (s.updDoc acc f).watch q = s.watch q := by rfl
@[simp] theorem watch_flushWaiting (fuel c : Nat) (s : State) (q : Bool) :
    (State.flushWaiting fuel c s).watch q = s.watch q := by
  induction fuel generalizing s with
  | zero => rfl
  | succ fuel ih =>
    unfold State.flushWaiting
    split
    · rfl
    · split <;> simp [ih]
@[simp] theorem watch_queueRecord (s : State) (q : Bool) (c acc : Nat) (isNote : Bool) :
    (s.queueRecord c acc isNote).watch q = s.watch q := by simp [State.queueRecord]
@[simp] theorem watch_axisEvent (s : State) (q : Bool) (a : Nat) (e : Ev) :
    (s.axisEvent a e).watch q = s.watch q := by simp [State.axisEvent]
@[simp] theorem watch_setLost (s : State) (q : Bool) (a : Nat) : (s.setLost a).watch q = s.watch q := by
  simp [State.setLost]
@[simp] theorem watch_confirmsMissed (s : State) (q : Bool) :
    (s.confirmsMissed).watch q = s.watch q := by
  refine watch_forEach q _ (fun _ s => ?_) _ s
  split
  · split <;> simp
  · rfl
@[simp] theorem watch_lose (s : State) (q : Bool) (a : Nat) : (s.lose a).watch q = s.watch q := by
  simp [State.lose]
@[simp] theorem watch_coilTell (s : State) (q : Bool) (a : Nat) : (s.coilTell a).watch q = s.watch q := by
  simp [State.coilTell]
@[simp] theorem watch_disarmSlots (s : State) (q : Bool) (a : Nat) :
    (s.disarmSlots a).watch q = s.watch q := by simp [State.disarmSlots]
@[simp] theorem watch_freeze (s : State) (q : Bool) (a : Nat) (off on : Bool) :
    (s.freeze a off on).watch q = s.watch q := by simp [State.freeze]
@[simp] theorem watch_gearChanged (s : State) (q : Bool) (a : Nat) (r : Ratio) (slave : Int) (master : Pos) :
    (s.gearChanged a r slave master).watch q = s.watch q := by simp [State.gearChanged]
@[simp] theorem watch_unGear (s : State) (q : Bool) (a : Nat) (p : Int) :
    (s.unGear a p).watch q = s.watch q := by simp [State.unGear]
@[simp] theorem watch_regear (s : State) (q : Bool) (c : Nat) (m : Pos) :
    (s.regear c m).watch q = s.watch q := by
  refine watch_forEach q _ (fun _ s => ?_) _ s
  split
  · rfl
  · dsimp only
    split
    · rfl
    · split <;> simp
@[simp] theorem watch_discontinuity (s : State) (q : Bool) (c aux : Nat) :
    (s.discontinuity c aux).watch q = s.watch q := by simp [State.discontinuity]
@[simp] theorem watch_stopAxis (s : State) (q : Bool) (a : Nat) (off : Bool) :
    (s.stopAxis a off).watch q = s.watch q := by simp [State.stopAxis]
@[simp] theorem watch_bedFlag (s : State) (q : Bool) (b acc : Nat) (bits : BitVec 16) :
    (s.bedFlag b acc bits).watch q = s.watch q := by rfl
@[simp] theorem watch_flushOverrun (s : State) (q : Bool) (b : Nat) :
    (s.flushOverrun b).watch q = s.watch q := by
  unfold State.flushOverrun
  split <;> simp
@[simp] theorem watch_cutOverrun (s : State) (q : Bool) (b : Nat) :
    (s.cutOverrun b).watch q = s.watch q := by
  unfold State.cutOverrun
  split
  · rfl
  · split <;> simp
@[simp] theorem watch_noteStale (s : State) (q : Bool) (b : Nat) :
    (s.noteStale b).watch q = s.watch q := by
  unfold State.noteStale
  split <;> simp
@[simp] theorem watch_closeJob (s : State) (q : Bool) (j : Job) (result order : Nat) :
    (s.closeJob j result order).watch q = s.watch q := by
  unfold State.closeJob
  simp only [watch_raise]
  split <;> simp
@[simp] theorem watch_noteLeft (s : State) (q : Bool) : s.noteLeft.watch q = s.watch q := by rfl
@[simp] theorem watch_jobAfterClose (s : State) (q : Bool) (d : Doc) :
    (s.jobAfterClose d).watch q = s.watch q := by
  unfold State.jobAfterClose
  dsimp only
  split
  · rfl
  · split
    · rfl
    · split <;> simp
@[simp] theorem watch_updGauge (s : State) (q : Bool) (g : Nat) (f : Gauge → Gauge) :
    (s.updGauge g f).watch q = s.watch q := by rfl
@[simp] theorem watch_writeSummaries (s : State) (q : Bool) (d : Doc) :
    (s.writeSummaries d).watch q = s.watch q := by
  unfold State.writeSummaries
  split <;> simp
@[simp] theorem watch_closeFlags (s : State) (q : Bool) (d : Doc) :
    (s.closeFlags d).watch q = s.watch q := by simp [State.closeFlags]
@[simp] theorem watch_tryErase (s : State) (q : Bool) (c : Nat) : (s.tryErase c).watch q = s.watch q := by
  simp [State.tryErase]
@[simp] theorem watch_closeDoc (s : State) (q : Bool) (acc : Nat) (halt : Option Nat) :
    (s.closeDoc acc halt).watch q = s.watch q := by
  unfold State.closeDoc
  split
  · rfl
  · split
    · rfl
    · simp

/-! Plots, gauges, lamps and the beds' start. -/

@[simp] theorem watch_updPlot (s : State) (q : Bool) (p : Nat) (f : Plot → Plot) :
    (s.updPlot p f).watch q = s.watch q := by rfl
@[simp] theorem watch_overrun (s : State) (q : Bool) (c domain n : Nat) :
    (s.overrun c domain n).watch q = s.watch q := by simp [State.overrun]
@[simp] theorem watch_tellGauge (s : State) (q : Bool) (g : Nat) :
    (s.tellGauge g).watch q = s.watch q := by simp [State.tellGauge]
@[simp] theorem watch_gaugeRestart (s : State) (q : Bool) (g : Nat) :
    (s.gaugeRestart g).watch q = s.watch q := by simp [State.gaugeRestart]
@[simp] theorem watch_gaugesStart (s : State) (q : Bool) : s.gaugesStart.watch q = s.watch q := by
  simp [State.gaugesStart]
@[simp] theorem watch_forgetPlace (s : State) (q : Bool) (c b : Nat) :
    (s.forgetPlace c b).watch q = s.watch q := by rfl
@[simp] theorem watch_voidPlace (s : State) (q : Bool) (c b cause : Nat) :
    (s.voidPlace c b cause).watch q = s.watch q := by
  unfold State.voidPlace
  split <;> simp
@[simp] theorem watch_recheckPlaces (s : State) (q : Bool) (b cause : Nat) :
    (s.recheckPlaces b cause).watch q = s.watch q := by
  refine watch_forEach q _ (fun _ s => ?_) _ s
  split <;> simp
@[simp] theorem watch_updLed (s : State) (q : Bool) (b c : Nat) (f : Led → Led) :
    (s.updLed b c f).watch q = s.watch q := by simp [State.updLed]
@[simp] theorem watch_cutoffs (s : State) (q : Bool) (b : Nat) : (s.cutoffs b).watch q = s.watch q := by
  simp [State.cutoffs]
theorem face_recompute (x : Bed) : x.recompute.face = x.face := by simp [Bed.recompute]

/-- Two changes of a bed that leave the same to watch of it. -/
theorem watch_updBed_congr (s : State) (q : Bool) (b : Nat) (f g : Bed → Bed) (h : ∀ x, (f x).face = (g x).face) :
    (s.updBed b f).watch q = (s.updBed b g).watch q := by
  refine watch_iff.2 ⟨rfl, rfl, fun _ => rfl, fun _ _ _ _ => rfl, fun _ _ _ => rfl, fun _ _ => rfl, fun _ d => ?_⟩
  rw [bed_updBed, bed_updBed]
  split
  · exact h _
  · rfl

/-- New codes or a new window of a bed leave no more to watch than what was changed of it. -/
theorem watch_relight (s : State) (q : Bool) (b : Nat) (f : Bed → Bed) :
    (s.relight b f).watch q = (s.updBed b f).watch q :=
  Eq.trans (by simp [State.relight, -State.watch])
    (watch_updBed_congr s q b (fun x => (f x).recompute) f fun x => face_recompute (f x))
@[simp] theorem watch_probesDue (s : State) (q : Bool) (b : Nat) :
    (s.probesDue b).watch q = s.watch q := by simp [State.probesDue]
@[simp] theorem watch_chooseRef (s : State) (q : Bool) (b : Nat) :
    (s.chooseRef b).watch q = s.watch q := by simp [State.chooseRef]
@[simp] theorem watch_settingsChanged (s : State) (q : Bool) (b : Nat) :
    (s.settingsChanged b).watch q = s.watch q := by simp [State.settingsChanged]
@[simp] theorem watch_restartBed (s : State) (b : Nat) : (s.restartBed b).watch false = s.watch false :=
  watch_updBed s false b _ (by simp)
@[simp] theorem watch_startTemp (s : State) (q : Bool) (b : Nat) :
    (s.startTemp b).watch q = s.watch q := by
  simp [State.startTemp, Bed.recompute]
@[simp] theorem watch_applyCfg (s : State) (b : Nat) (c : BedCfg) :
    (s.applyCfg b c).watch false = s.watch false := by simp [State.applyCfg, watch_relight]
@[simp] theorem watch_resumeChans (s : State) : s.resumeChans.watch false = s.watch false := by
  simp [State.resumeChans]
@[simp] theorem watch_startBed (s : State) (b : Nat) : (s.startBed b).watch false = s.watch false := by
  unfold State.startBed
  split <;> simp

/-! Modes and halts (R66, R68). -/

@[simp] theorem watch_enterMode (s : State) (q : Bool) (m : Mode) (cause : Nat) :
    (s.enterMode m cause).watch q = s.watch q := by simp [State.enterMode]
@[simp] theorem watch_haltBed (s : State) (q : Bool) (b : Nat) : (s.haltBed b).watch q = s.watch q := by
  have h : ∀ acc n (s : State), (forEach (List.range n) (fun _ s => s.dropLine b acc 2) s).watch q = s.watch q :=
    fun acc n s => by simp
  simp [State.haltBed, h]
@[simp] theorem watch_countStop (s : State) (q : Bool) (cause : Nat) : (s.countStop cause).watch q = s.watch q := by
  simp [State.countStop]
@[simp] theorem watch_breach (s : State) (q : Bool) (condition : Nat) (p : Pos) :
    (s.breach condition p).watch q = s.watch q := by rw [breach_frame]
@[simp] theorem watch_sourcesMissing (s : State) (q : Bool) : s.sourcesMissing.watch q = s.watch q := by
  obtain ⟨bs, missing⟩ := sourcesMissing_frame s
  rw [missing]
@[simp] theorem watch_startP3 (s : State) : s.startP3.watch false = s.watch false := by
  simp [State.startP3, -State.watch]
@[simp] theorem watch_allOff (s : State) (q : Bool) : s.allOff.watch q = s.watch q := by simp [State.allOff]
@[simp] theorem watch_haltNoted (s : State) (q : Bool) (cause : Nat) (off : Bool) :
    (s.haltNoted cause off).watch q = s.watch q := by simp [State.haltNoted]

/-- Entry to HALTED (R66, R68) keeps what is watched; from outside P3 only what an entry to a P3 mode keeps of it. -/
theorem watch_enterHalted (s : State) (q : Bool) (cause : Nat) (off : Bool) (h : q = true → s.mode.p3 = true) :
    (s.enterHalted cause off).watch q = s.watch q := by
  by_cases hm : s.mode = .halted
  · unfold State.enterHalted
    dsimp only
    rw [if_pos (by simp [hm, mode_countStop, apply_ite State.mode])]
    simp
  · have entered : (s.enterHalted cause off).watch q =
        (if s.mode.p3 then (s.haltNoted cause off).enterMode .halted 3
         else ((s.haltNoted cause off).enterMode .halted 3).startP3).watch q := by
      simp [State.enterHalted, State.haltNoted, hm, mode_stopAxes, mode_countStop, -watch_countStop]
    rw [entered]
    cases q
    · simp [-State.watch]
    · simp [h rfl]

theorem watch_protect (s : State) (q : Bool) (cause : Nat) (off : Bool) (h : q = true → s.mode.p3 = true) :
    (s.protect cause off).watch q = s.watch q := by
  unfold State.protect
  split
  · exact watch_enterHalted s q cause off h
  · rfl

end Sys2Proof.Machine
end

section
/-! PROOFS. A step: the command at the front, or one cycle of TB (R76). -/

namespace Sys2Proof.Machine

@[simp] theorem watch_stripStop (s : State) (q : Bool) (b : Nat) : (s.stripStop b).watch q = s.watch q := by
  simp [State.stripStop]
@[simp] theorem watch_failRead (s : State) (q : Bool) (b : Nat) (abandoned : Bool) :
    (s.failRead b abandoned).watch q = s.watch q := by
  unfold State.failRead
  dsimp only
  split
  · rfl
  · split
    · rfl
    · split <;> simp
@[simp] theorem watch_arm (s : State) (q : Bool) (k : Nat) (x : Cmp) : (s.arm k x).watch q = s.watch q := by rfl
@[simp] theorem watch_kickRead (s : State) (q : Bool) (b : Nat) : (s.kickRead b).watch q = s.watch q := by
  unfold State.kickRead
  dsimp only
  split
  · rfl
  · split
    all_goals
      split
      · rfl
      · split
        · simp
        · split
          · rfl
          · split <;> simp
@[simp] theorem watch_strobeCentres (s : State) (q : Bool) : s.strobeCentres.watch q = s.watch q := by
  refine watch_forEach q _ (fun _ s => ?_) _ s
  dsimp only
  split <;> simp
@[simp] theorem watch_strobeEnds (s : State) (q : Bool) : s.strobeEnds.watch q = s.watch q := by
  simp [State.strobeEnds]
@[simp] theorem watch_noteTrack (s : State) (q : Bool) : s.noteTrack.watch q = s.watch q := by
  unfold State.noteTrack
  split <;> simp
@[simp] theorem watch_countTicks (s : State) (q : Bool) (c : Nat) : (s.countTicks c).watch q = s.watch q := by
  simp [State.countTicks]
@[simp] theorem watch_writeBootControl (s : State) (q : Bool) (was : Tab FwSlot) :
    (s.writeBootControl was).watch q = s.watch q := by
  unfold State.writeBootControl
  split
  · rfl
  · simp
@[simp] theorem watch_setMark (s : State) (q : Bool) (k mark : Nat) : (s.setMark k mark).watch q = s.watch q := by
  simp [State.setMark]
@[simp] theorem watch_chooseSlot (s : State) (q : Bool) : s.chooseSlot.1.watch q = s.watch q := by
  unfold State.chooseSlot State.firstSlot
  dsimp only
  split <;> split <;> simp
@[simp] theorem watch_dropBadCopies (s : State) (q : Bool) : s.dropBadCopies.watch q = s.watch q := by
  unfold State.dropBadCopies
  split <;> simp
@[simp] theorem watch_romBoot (s : State) (q : Bool) : s.romBoot.watch q = s.watch q := by
  unfold State.romBoot
  dsimp only
  split
  · rfl
  · split <;> simp [State.beginEpoch, State.breachEnd, State.becomeRoot, State.tellMaster]

/-- A cycle of TB takes 5 ns. -/
theorem tick_now (s : State) (awake : s.mode ≠ .dormant) : s.tick.now = s.now + 5 := by
  have kept : s.tick.watch true = ({ s with now := s.now + 5 } : State).watch true := by
    simp [State.tick, awake, State.stampCross, State.cross]
  exact (watch_iff.1 kept).1

/-- Settles O28: a step with a command in front is that command's, and an idle one a cycle of TB. -/
theorem stepTakesFront : Obligations.StepTakesFront := by
  unfold Obligations.StepTakesFront
  refine ⟨fun _ _ => rfl, fun s idle => ⟨s.tick, ?_, fun dormant => ?_, tick_now s⟩⟩
  · simp only [step, idle]
  · simp [State.tick, dormant]

end Sys2Proof.Machine
end

section
/-! PROOFS. Comparators that fire, and the pins they drive (R96, R99 to R102). -/

namespace Sys2Proof.Machine

/-- A change of some pins, each changed once. -/
theorem forEach_updPin (g : Nat → Pin → Pin) (xs : List Nat) (once : xs.Nodup) (s : State) :
    (∀ q, (forEach xs (fun p s => s.updPin p (g s.now)) s).pin q =
      if q ∈ xs then g s.now (s.pin q) else s.pin q) ∧
    { forEach xs (fun p s => s.updPin p (g s.now)) s with pins := s.pins } = s := by
  induction xs generalizing s with
  | nil => simp [forEach]
  | cons x xs ih =>
    obtain ⟨fresh, once⟩ := List.nodup_cons.1 once
    obtain ⟨pins, rest⟩ := ih once (s.updPin x (g s.now))
    refine ⟨fun q => (pins q).trans ?_, congrArg (fun t : State => { t with pins := s.pins }) rest⟩
    rw [pin_updPin]
    by_cases h : q = x
    · subst h
      simp [fresh]
    · simp [h, State.updPin]

/-- What the actions NONE, SET, CLEAR and PULSE make of a pin (Table TB-5). -/
def Cmp.drives (x : Cmp) (now p : Nat) (was : Pin) : Pin :=
  if x.action = 0 ∨ x.arg.getLsbD p = false then was
  else if x.action = 1 then { output := true, level := true, pulses := [] }
  else if x.action = 2 then { output := true, level := false, pulses := [] }
  else { output := true, level := true, pulses := was.pulses ++ [now + x.arg.toNat / 65536 * 1000] }

/-- An action of a host's comparator on pins changes those of its mask and nothing else. -/
theorem act_pins (s : State) (k : Nat) (x : Cmp) (host : x.use = .host) (pins : x.action ≤ 3) :
    (∀ p, p < 16 → (s.act k x).pin p = x.drives s.now p (s.pin p)) ∧ { s.act k x with pins := s.pins } = s := by
  have once : ((List.range 16).filter fun p => (x.arg.extractLsb' 0 16).getLsbD p).Nodup :=
    List.nodup_range.filter _
  have masked : ∀ p, p < 16 → (p ∈ (List.range 16).filter (fun p => (x.arg.extractLsb' 0 16).getLsbD p) ↔
      x.arg.getLsbD p = true) := fun p hp => by simp [hp]
  obtain h | h | h | h : x.action = 0 ∨ x.action = 1 ∨ x.action = 2 ∨ x.action = 3 := by omega
  · have none_ : s.act k x = s := by simp [State.act, host, h]
    rw [none_]
    exact ⟨fun p _ => by simp [Cmp.drives, h], rfl⟩
  · have set : s.act k x = s.drivePins (x.arg.extractLsb' 0 16) true := by simp [State.act, host, h]
    obtain ⟨changed, rest⟩ := forEach_updPin (fun _ _ => { output := true, level := true, pulses := [] }) _ once s
    rw [set]
    refine ⟨fun p hp => (changed p).trans ?_, rest⟩
    simp only [masked p hp]
    cases bit : x.arg.getLsbD p <;> simp [Cmp.drives, h, bit]
  · have clear : s.act k x = s.drivePins (x.arg.extractLsb' 0 16) false := by simp [State.act, host, h]
    obtain ⟨changed, rest⟩ := forEach_updPin (fun _ _ => { output := true, level := false, pulses := [] }) _ once s
    rw [clear]
    refine ⟨fun p hp => (changed p).trans ?_, rest⟩
    simp only [masked p hp]
    cases bit : x.arg.getLsbD p <;> simp [Cmp.drives, h, bit]
  · have pulse : s.act k x = s.pulsePins (x.arg.extractLsb' 0 16) (x.arg.toNat / 65536) := by
      simp [State.act, host, h]
    obtain ⟨changed, rest⟩ := forEach_updPin (fun now x' =>
      { output := true, level := true, pulses := x'.pulses ++ [now + x.arg.toNat / 65536 * 1000] }) _ once s
    rw [pulse]
    refine ⟨fun p hp => (changed p).trans ?_, rest⟩
    simp only [masked p hp]
    cases bit : x.arg.getLsbD p <;> simp [Cmp.drives, h, bit]

/-- The comparator that stands after one has fired: none, or the same a period further in its direction (R96). -/
def Cmp.again (x : Cmp) : Option Cmp :=
  if x.period = 0 then none
  else some { x with target := if x.dir = 1 then x.target - x.period else x.target + x.period }

/-- A firing: counted, armed again or disarmed, acted, and told. -/
theorem fire_told (s : State) (k : Nat) (x : Cmp) (late : Bool) :
    Told (((s.inc 6 x.chan 5 1).setComp k x.again).act k x) (s.fire k x late) := by
  have again : (if x.period = 0 then none else
      some { x with target := if x.dir = 1 then x.target - x.period else x.target + x.period }) = x.again := rfl
  unfold State.fire
  dsimp only
  rw [again]
  split
  · exact Told.raise _ _ _
  · exact Told.refl _

/-- Telling from a state that differs in comparators, pins and counters. -/
theorem Told.comparators {s u t : State} (h : Told u t)
    (rest : { u with comps := s.comps, pins := s.pins, counters := s.counters } = s) :
    Told { s with comps := t.comps, pins := t.pins, counters := t.counters } t where
  rest := by
    have comps : t.comps = u.comps := (congrArg State.comps h.rest :)
    have pins : t.pins = u.pins := (congrArg State.pins h.rest :)
    rw [h.rest, comps, pins]
    exact congrArg (fun v : State => { v with comps := u.comps, pins := u.pins }.untold) rest
  cab c := (h.cab c).trans (congrArg (fun cabs => (tget {} cabs c).unrung) (congrArg State.cabs rest))
  mbx m := (h.mbx m).trans (congrArg (fun mbxs => (tget {} mbxs m).unpended) (congrArg State.mbxs rest))
  ctr _ _ _ _ := rfl

/-- The firing of a host's comparator on pins: it is counted, it goes on or is disarmed, its pins are driven, and all
else is what telling the hosts changes. -/
theorem fire_pins (s : State) (k : Nat) (x : Cmp) (late : Bool) (host : x.use = .host) (pins : x.action ≤ 3) :
    (s.fire k x late).ctr 6 x.chan 5 = (s.inc 6 x.chan 5 1).ctr 6 x.chan 5 ∧
    (∀ j, (s.fire k x late).comp j = if j = k then x.again else s.comp j) ∧
    (∀ p, p < 16 → (s.fire k x late).pin p = x.drives s.now p (s.pin p)) ∧
    Told { s with
      comps := (s.fire k x late).comps, pins := (s.fire k x late).pins, counters := (s.fire k x late).counters }
      (s.fire k x late) := by
  have fields := inc_eq s 6 x.chan 5 1
  obtain ⟨driven, rest⟩ := act_pins ((s.inc 6 x.chan 5 1).setComp k x.again) k x host pins
  have told := fire_told s k x late
  have comps : (s.fire k x late).comps = ((s.inc 6 x.chan 5 1).setComp k x.again).comps :=
    (congrArg State.comps told.rest :).trans (congrArg State.comps rest :)
  have pinned : (s.fire k x late).pins = (((s.inc 6 x.chan 5 1).setComp k x.again).act k x).pins :=
    (congrArg State.pins told.rest :)
  refine ⟨?_, fun j => ?_, fun p hp => ?_, told.comparators ?_⟩
  · rw [told.ctr 6 x.chan 5 (by simp [reportCtr])]
    exact congrArg (fun counters => if ctrIn x.chan 5 then tget 0 counters (ctrKey 6 x.chan 5) else 0)
      (congrArg State.counters rest :)
  · calc (s.fire k x late).comp j = ((s.inc 6 x.chan 5 1).setComp k x.again).comp j :=
          congrArg (fun comps => tget none comps j) comps
      _ = if j = k then x.again else s.comp j := by rw [comp_setComp, fields]; rfl
  · calc (s.fire k x late).pin p = (((s.inc 6 x.chan 5 1).setComp k x.again).act k x).pin p :=
        congrArg (fun pins => (tget {} pins p : Pin)) pinned
      _ = x.drives s.now p (s.pin p) := by
        refine (driven p hp).trans ?_
        rw [fields]
        rfl
  · calc { ((s.inc 6 x.chan 5 1).setComp k x.again).act k x with
          comps := s.comps, pins := s.pins, counters := s.counters } =
        { s.inc 6 x.chan 5 1 with comps := s.comps, pins := s.pins, counters := s.counters } :=
          congrArg (fun v : State => { v with comps := s.comps, pins := s.pins, counters := s.counters }) rest
      _ = s := by rw [fields]

/-- Settles O32: a firing on pins is `fire_pins`, and the end of a pulse changes its own pin alone. -/
theorem comparatorsFire : Obligations.ComparatorsFire := by
  unfold Obligations.ComparatorsFire
  refine ⟨fun s k x armed first host pins chan => ?_, fun s p => ⟨fun ended => ?_, fun running => ?_⟩⟩
  · obtain ⟨counted, comps, pinned, told⟩ := fire_pins s k x false host pins
    refine ⟨s.fire k x false, by simp [exec, execCompareFired, armed, first], ?_, ?_, ?_, told, pinned⟩
    · rw [counted, ctr_inc, if_pos ⟨rfl, rfl, rfl, by simp [ctrIn]; omega⟩]
      rfl
    · rw [comps, if_pos rfl]
      rfl
    · intro j other
      rw [comps, if_neg other]
  · have some_ : ((s.pin p).pulses.any fun e => decide (e ≤ s.now)) = true := by simpa using ended
    refine ⟨s.updPin p fun x => { x with level := false, pulses := x.pulses.filter fun e => decide (s.now < e) }, ?_,
        rfl,
      ?_, ?_, ?_, ?_⟩
    · show Host.Outcome.next _ = _
      rw [if_pos some_]
    · simp
    · simp
    · simp
    · intro q other
      simp [other]
  · have none_ : ((s.pin p).pulses.any fun e => decide (e ≤ s.now)) = false := by
      simpa only [List.any_eq_false, decide_eq_true_eq, Nat.not_le] using running
    show Host.Outcome.next _ = _
    rw [none_]
    rfl

end Sys2Proof.Machine
end

section
/-! PROOFS. Channels: what the loss and the return of a source, a discontinuity, and DEV.TBSET leave of them (R77 to
R80, R87). -/

namespace Sys2Proof.Machine

theorem chan_of_chans {s t : State} (h : t.chans = s.chans) : t.chan = s.chan :=
  funext fun c => congrArg (fun chans => (tget {} chans c : Chan)) h

theorem Told.chans {s t : State} (h : Told s t) : t.chans = s.chans := (congrArg State.chans h.rest :)

theorem chans_inc (s : State) (cls unit idx n : Nat) : (s.inc cls unit idx n).chans = s.chans := by rw [inc_eq]
theorem chans_raiseTo (s : State) (cs : List Nat) (e : Ev) : (s.raiseTo cs e).chans = s.chans :=
  (Told.raiseTo s cs e).chans
theorem chans_forEach {α : Type} (f : α → State → State) (h : ∀ x s, (f x s).chans = s.chans) (xs : List α)
    (s : State) : (forEach xs f s).chans = s.chans :=
  forEach_keeps (P := fun t : State => t.chans = s.chans) f (fun x t ht => (h x t).trans ht) xs s rfl
theorem chans_missSnap (s : State) (slot cause : Nat) : (s.missSnap slot cause).chans = s.chans := by
  simp [State.missSnap, State.updSnap, chans_raiseTo, chans_inc]
theorem chans_disarm (s : State) (k : Nat) : (s.disarm k).chans = s.chans := by
  unfold State.disarm
  split
  · rfl
  · dsimp only
    split
    all_goals simp [State.setComp, State.updAxis, State.updBed, chans_missSnap]
theorem chans_axisEvent (s : State) (a : Nat) (e : Ev) : (s.axisEvent a e).chans = s.chans := by
  simp [State.axisEvent, chans_raiseTo]
theorem chans_disarmSlots (s : State) (a : Nat) : (s.disarmSlots a).chans = s.chans := by
  simp [State.disarmSlots, State.updAxis, State.setComp, chans_forEach]
theorem chans_unGear (s : State) (a : Nat) (p : Int) : (s.unGear a p).chans = s.chans := by
  simp [State.unGear, State.updAxis, chans_disarmSlots]
theorem chans_regear (s : State) (c : Nat) (m : Pos) : (s.regear c m).chans = s.chans := by
  refine chans_forEach _ (fun _ s => ?_) _ s
  split
  · rfl
  · dsimp only
    split
    · rfl
    · split
      · rfl
      · split <;> simp [State.updAxis, State.gearChanged, chans_unGear, chans_axisEvent]

/-- What follows a step of a channel's position changes of the channels only where its ticks are counted from (R80). -/
theorem chan_discontinuity (s : State) (c aux : Nat) :
    ∃ tick, ∀ d, (s.discontinuity c aux).chan d = if d = c then { s.chan c with lastTick := tick } else s.chan d := by
  unfold State.discontinuity
  extract_lets gone mask dest disarmed waiting geared counted
  have same : geared.chans = s.chans := by simp [geared, waiting, disarmed, State.updBed, apply_ite State.chans,
      chans_regear, chans_forEach, chans_disarm]
  clear_value geared
  have kept : geared.chan = s.chan := chan_of_chans same
  refine ⟨(geared.chanPos c).toInt / 65536, fun d => ?_⟩
  have told : ((counted.inc 0x06 c 4 1).raiseTo dest (counted.evChan 0x0105 c aux c mask)).chan = counted.chan :=
    chan_of_chans (by simp [chans_raiseTo, chans_inc])
  rw [told, chan_updChan, kept]

/-- Telling leaves a channel in use or not (R75). -/
theorem Told.chanInUse {s t : State} (h : Told s t) (c : Nat) : t.chanInUse c = s.chanInUse c := by
  have comps : t.comps = s.comps := (congrArg State.comps h.rest :)
  unfold State.chanInUse State.configured State.bed State.axis
  rw [h.beds, h.axes, comps]

theorem Told.clkOk {s t : State} (h : Told s t) (d : Nat) : t.clkOk d = s.clkOk d :=
  (congrArg (fun v : State => v.clkOk d) h.rest :)

/-- The loss of a source (R24, R75): absent, counted and told, and what a protective stop on a channel in use makes of
that. -/
theorem loseSource_eq (s : State) (c : Nat) :
    ∃ u : State, u.chans = (s.updChan c fun k => { k with present := false }).chans ∧
      u.watch true = ((s.updChan c fun k => { k with present := false }).inc 6 c 3 1).watch true ∧
      u.mode = s.mode ∧ u.change = s.change ∧ (∀ d, u.clkOk d = s.clkOk d) ∧
      s.loseSource c = if s.chanInUse c = true ∧ s.stops = true then u.enterHalted 1 false else u := by
  unfold State.loseSource
  extract_lets lost told stopped
  have telling : Told lost told := Told.raiseTo _ _ _
  have core : told.core = s.core := by simp [told, lost]
  have used : told.chanInUse c = s.chanInUse c := by
    rw [telling.chanInUse]
    simp only [lost]
    rw [inc_eq]
    rfl
  have chans : told.chans = (s.updChan c fun k => { k with present := false }).chans := by
    simp [told, lost, chans_raiseTo, chans_inc]
  have watched : told.watch true = lost.watch true := watch_raiseTo _ _ _ _
  have clk : ∀ d, told.clkOk d = s.clkOk d := fun d => by
    rw [telling.clkOk]
    simp only [lost]
    rw [inc_eq]
    rfl
  clear_value told
  obtain ⟨mode, change, -⟩ := core_iff.1 core
  have same : stopped.chans = told.chans ∧ stopped.watch true = told.watch true ∧ stopped.mode = told.mode ∧
      stopped.change = told.change ∧ ∀ d, stopped.clkOk d = told.clkOk d := by
    simp only [stopped]
    split
    · rw [breach_frame]
      exact ⟨rfl, rfl, rfl, rfl, fun _ => rfl⟩
    · exact ⟨rfl, rfl, rfl, rfl, fun _ => rfl⟩
  obtain ⟨chans', watched', mode', change', clk'⟩ := same
  clear_value stopped
  have stops : stopped.stops = s.stops := by unfold State.stops; rw [mode', change', mode, change]
  rw [used]
  by_cases inUse : s.chanInUse c = true
  · refine ⟨if s.stops then { stopped with haltSource := stopped.haltSource ||| (1#4 <<< c) } else stopped,
      ?_, ?_, ?_, ?_, fun d => ?_, ?_⟩
    · rw [← chans, ← chans']
      split <;> rfl
    · rw [← watched, ← watched']
      split <;> rfl
    · rw [← mode, ← mode']
      split <;> rfl
    · rw [← change, ← change']
      split <;> rfl
    · rw [← clk, ← clk']
      split <;> rfl
    · rw [if_pos inUse]
      unfold State.sourceStop
      rw [stops]
      by_cases h : s.stops = true <;> simp [h, inUse]
  · exact ⟨told, chans, watched, mode, change, clk, by simp [inUse]⟩

theorem watch_loseSource (s : State) (q : Bool) (c : Nat) (h : q = true → s.stops = true → s.mode.p3 = true) :
    (s.loseSource c).watch q = ((s.updChan c fun k => { k with present := false }).inc 6 c 3 1).watch q := by
  obtain ⟨u, -, watched, mode, -, -, lost⟩ := loseSource_eq s c
  have kept : u.watch q = ((s.updChan c fun k => { k with present := false }).inc 6 c 3 1).watch q := by
    cases q
    · exact watch_false watched
    · exact watched
  rw [lost, ← kept]
  split
  · next stopping => exact watch_enterHalted u q 1 false fun hq => mode ▸ h hq stopping.2
  · rfl

/-- The loss of a source that drives nothing. -/
theorem loseSource_unused (s : State) (c : Nat) (unused : s.chanInUse c = false) :
    (s.loseSource c).chans = (s.updChan c fun k => { k with present := false }).chans ∧
      (s.loseSource c).mode = s.mode := by
  obtain ⟨u, chans, -, mode, -, -, lost⟩ := loseSource_eq s c
  rw [lost, if_neg (by simp [unused])]
  exact ⟨chans, mode⟩

/-- The loss of a source in use halts the P3 modes (R24). -/
theorem loseSource_halts (s : State) (c : Nat) (used : s.chanInUse c = true) (p3 : s.mode.p3 = true) :
    (s.loseSource c).mode = .halted ∧ (s.loseSource c).haltCauses.getLsbD 1 = true := by
  obtain ⟨u, -, -, -, -, -, lost⟩ := loseSource_eq s c
  obtain ⟨bs, halted, -⟩ := core_enterHalted u 1 false (by decide)
  obtain ⟨mode, -, causes, -⟩ := core_iff.1 halted
  rw [lost, if_pos ⟨used, by simp [State.stops, p3]⟩]
  exact ⟨mode, by rw [causes]; simp⟩

/-- The settings of a channel that DEV.TBSET gives it (R77, R78). -/
def Chan.setup (k : Chan) : Source × Nat × Bool × Bool × Nat × Bool × Nat × Nat :=
  (k.source, k.unit, k.invert, k.indexCheck, k.filter, k.exported, k.indexPeriod, k.freeRate)

theorem setup_of_face {k l : Chan} (h : k.face = l.face) : k.setup = l.setup ∧ k.present = l.present := by
  simp only [Chan.face, Chan.mk.injEq] at h
  simp [Chan.setup, h]

/-- The source of a code of Table TB-2. -/
theorem srcOf_eq (n : Nat) {x : Source} (some_ : x ≠ .none) : srcOf n = x ↔ n = x.code := by
  obtain h | h | h | h | h : n = 1 ∨ n = 2 ∨ n = 3 ∨ n = 4 ∨ (n ≠ 1 ∧ n ≠ 2 ∧ n ≠ 3 ∧ n ≠ 4) := by omega
  all_goals cases x <;> simp_all [srcOf, Source.code]

/-- The position from which DEV.TBSET has a channel go on (R79, R80). -/
def State.goesOnFrom (s : State) (r : Req) : Pos :=
  let k := s.chan (r.u8 0)
  if bit (r.u8 3) 1 then r.pos 8
  else if r.u8 1 = 1 ∧ k.source = .enc ∧ k.unit = r.u8 2 ∧ k.invert = bit (r.u8 3) 0 then k.base
  else s.chanPos (r.u8 0)

/-- The channel that DEV.TBSET leaves before a missing source is told: its settings and its position (R77 to R80). -/
theorem tbset_eq (s : State) (r : Req) :
    ∃ u : State, (∀ c, c ≠ r.u8 0 → u.chan c = s.chan c) ∧
      (u.chan (r.u8 0)).setup = (srcOf (r.u8 1), r.u8 2, bit (r.u8 3) 0, bit (r.u8 3) 2, r.u8 4, decide (r.u8 5 = 1),
        r.u32 0x10, r.u32 0x14) ∧
      (u.chan (r.u8 0)).base = s.goesOnFrom r ∧
      ((r.u8 1 = 3 → s.tbset r = u.loseSource (r.u8 0)) ∧
       (r.u8 1 ≠ 3 → (r.u8 1 = 2 → (s.axis (r.u8 2)).role ≠ 0) → s.tbset r = u.sourcesAgain (r.u8 0))) ∧
      (s.tbset r = u.loseSource (r.u8 0) ∨ s.tbset r = u.sourcesAgain (r.u8 0)) := by
  unfold State.tbset
  extract_lets c src k load same kept pos set begun stepped
  have goes : pos = s.goesOnFrom r := by
    have enc : src = .enc ↔ r.u8 1 = 1 := srcOf_eq (r.u8 1) (by decide)
    by_cases l : bit (r.u8 3) 1 = true
    · simp [pos, load, l, State.goesOnFrom]
    · have new : kept = true ↔ r.u8 1 = 1 ∧ k.source = .enc ∧ k.unit = r.u8 2 ∧ k.invert = bit (r.u8 3) 0 := by
        simp only [kept, same, load, l, Bool.and_eq_true, decide_eq_true_eq, beq_iff_eq, Bool.not_false]
        constructor
        · rintro ⟨⟨⟨⟨source, unit⟩, -⟩, src⟩, invert⟩
          exact ⟨enc.1 src, source.trans src, unit, invert⟩
        · rintro ⟨one, source, unit, invert⟩
          exact ⟨⟨⟨⟨source.trans (enc.2 one).symm, unit⟩, trivial⟩, enc.2 one⟩, invert⟩
      simp only [pos, load, l, new, State.goesOnFrom]
      rfl
  have others : ∀ d, d ≠ c → begun.chan d = s.chan d := by
    intro d other
    simp only [begun]
    split <;> simp [set, other]
  have setup : (begun.chan c).setup = (src, r.u8 2, bit (r.u8 3) 0, bit (r.u8 3) 2, r.u8 4, decide (r.u8 5 = 1),
        r.u32 0x10, r.u32 0x14) := by
    simp only [begun]
    split <;> simp [set, Chan.setup, beq_eq_decide]
  have base : (begun.chan c).base = pos := by
    simp only [begun]
    split <;> simp [set]
  have found : src = .axis → ¬ same = true → (s.axis (r.u8 2)).role ≠ 0 → (begun.chan c).present = true := by
    intro axis new role
    have kept : (set.axis (r.u8 2)).role ≠ 0 := role
    simp only [begun, new]
    simp [axis, kept]
  have after : (∀ d, d ≠ c → stepped.chan d = begun.chan d) ∧ (stepped.chan c).setup = (begun.chan c).setup ∧
      (stepped.chan c).base = (begun.chan c).base ∧ (stepped.chan c).present = (begun.chan c).present := by
    obtain ⟨tick, chans⟩ := chan_discontinuity begun c 0
    simp only [stepped]
    split
    · refine ⟨fun d other => by rw [chans, if_neg other], ?_⟩
      rw [chans, if_pos rfl]
      exact ⟨rfl, rfl, rfl⟩
    · exact ⟨fun _ _ => rfl, rfl, rfl, rfl⟩
  obtain ⟨others', setup', base', present'⟩ := after
  refine ⟨stepped, fun d other => (others' d other).trans (others d other), setup'.trans setup,
    base'.trans (base.trans goes), ⟨fun remote => ?_, fun here present => ?_⟩, ?_⟩
  · exact if_pos ((srcOf_eq _ (by decide)).2 remote)
  · have there : ¬ src = .remote := fun e => here ((srcOf_eq _ (by decide)).1 e)
    have missing : ¬ (src = .axis ∧ ¬ (stepped.chan c).present = true ∧ ¬ same = true) := by
      rintro ⟨axis, absent, new⟩
      exact absent (present'.trans (found axis new (present ((srcOf_eq _ (by decide)).1 axis))))
    rw [if_neg there, if_neg missing]
  · split
    · exact .inl rfl
    · split
      · exact .inl rfl
      · exact .inr rfl

theorem Served.chan {s t : State} (h : Served s t) : t.chan = s.chan :=
  chan_of_chans (congrArg State.chans h.rest :)
theorem Served.comp {s t : State} (h : Served s t) (k : Nat) : t.comp k = s.comp k :=
  congrArg (fun comps => (tget none comps k : Option Cmp)) (congrArg State.comps h.rest :)

/-- Counting a command leaves the channels' positions. -/
theorem chanPos_counted (s : State) (r : Req) (c : Nat) : (s.counted r).chanPos c = s.chanPos c := by
  obtain ⟨cs, counted⟩ := counted_eq s r
  rw [counted]
  rfl

/-- The return of sources is told in the breaches alone. -/
theorem chans_sourcesAgain (s : State) (c : Nat) : (s.sourcesAgain c).chans = s.chans := by
  unfold State.sourcesAgain
  split <;> rfl

/-- DEV.TBSET gives a channel its settings (R77, R78). -/
theorem setup_tbset (s : State) (r : Req) :
    ((s.tbset r).chan (r.u8 0)).setup = (srcOf (r.u8 1), r.u8 2, bit (r.u8 3) 0, bit (r.u8 3) 2, r.u8 4,
      decide (r.u8 5 = 1), r.u32 0x10, r.u32 0x14) ∧
    (r.u8 1 = 3 → ((s.tbset r).chan (r.u8 0)).present = false) := by
  obtain ⟨u, -, setup, -, ⟨remote, -⟩, ends⟩ := tbset_eq s r
  have lost : ((u.loseSource (r.u8 0)).chan (r.u8 0)).setup = (u.chan (r.u8 0)).setup ∧
      ((u.loseSource (r.u8 0)).chan (r.u8 0)).present = false := by
    obtain ⟨-, -, faces, -⟩ := watch_iff.1 (watch_loseSource u false (r.u8 0) (by simp))
    have face := setup_of_face (faces (r.u8 0))
    rw [inc_eq] at face
    simpa [State.updChan, State.chan, Chan.setup] using face
  refine ⟨?_, fun h => by rw [remote h, lost.2]⟩
  rw [← setup]
  rcases ends with ended | ended
  · rw [ended, lost.1]
  · rw [ended, chan_of_chans (chans_sourcesAgain u _)]

end Sys2Proof.Machine
end

section
/-! PROOFS. DEV.TBREAD, DEV.COMPARE and DEV.DISARM (R96 to R98, R467), and the commands of the timebase settled. -/

namespace Sys2Proof.Machine

theorem leNat_lt (bs : List Byte) : leNat bs < 256 ^ bs.length := by
  induction bs with
  | nil => decide
  | cons b bs ih =>
    have byte := b.isLt
    simp only [leNat, List.length_cons, Nat.pow_succ]
    omega

/-- A field of n bytes. -/
theorem fieldU_lt (bs : List Byte) (off n : Nat) : fieldU bs off n < 256 ^ n :=
  (leNat_lt _).trans_le (Nat.pow_le_pow_right (by decide) (by simp))

/-- The lowest free comparator of the hosts' pool is free, and none below it is. -/
theorem freeHost_spec {s : State} {k : Nat} (h : s.freeHost = some k) :
    k < 48 ∧ s.comp k = none ∧ ∀ j, j < k → s.comp j ≠ none := by
  unfold State.freeHost at h
  obtain ⟨free, below⟩ := List.find?_range_eq_some.1 h
  exact ⟨List.mem_range.1 below.1, by simpa using free,
      fun j hj => by simpa [Option.isSome_iff_ne_none] using below.2 j hj⟩

/-- Disarming touches no other comparator. -/
theorem comp_disarm (s : State) (k j : Nat) : (s.disarm k).comp j = if j = k then none else s.comp j := by
  have missed : ∀ (u : State) (slot cause : Nat), (u.missSnap slot cause).comp = u.comp := fun u slot cause => by
    have told : ∀ (v : State) (cs : List Nat) (e : Ev), (v.raiseTo cs e).comps = v.comps :=
      fun v cs e => (congrArg State.comps (Told.raiseTo v cs e).rest :)
    have comps : (u.missSnap slot cause).comps = u.comps := by
      unfold State.missSnap
      rw [told, inc_eq]
      rfl
    exact funext fun j => congrArg (fun comps => (tget none comps j : Option Cmp)) comps
  unfold State.disarm
  split
  · next free =>
    by_cases same : j = k
    · rw [if_pos same, same, free]
    · rw [if_neg same]
  · dsimp only
    split
    · rw [missed, comp_setComp]
    all_goals exact comp_setComp s k j none

/-- What an accepted command has passed of the mode and of the state. -/
theorem Accepts.stated {cmd : Cmd} {m : Fin 257} {n : Fin 4} {s : State} {c : Nat} (h : Accepts cmd m n s c) :
    (if s.bootFailed then cmd.bootFail else cmd.legal s.mode (s.reqOf m n c)) = true ∧
      ∀ e ∈ cmd.state s (s.reqOf m n c), e = none := by
  obtain ⟨-, -, passed, -⟩ := h
  have all := firstErr_none _ passed
  exact ⟨need_none (all (need _ { code := 0x04, detail := cmd.modeErr }) (by simp)), fun e he => all e (by simp [he])⟩

/-- What DEV.COMPARE of a target not yet reached has passed: the comparator it takes is free (R95, R96). -/
theorem compare_takes {m : Fin 257} {n : Fin 4} {s : State} {c : Nat} (h : Accepts devCompare m n s c) :
    let r := s.reqOf m n c
    let k := if r.u8 0 = 0xFF then s.freeHost.getD 0 else r.u8 0
    k < 48 ∧ s.comp k = none ∧ (if r.u8 0 = 0xFF then ∀ j, j < k → s.comp j ≠ none else k = r.u8 0) := by
  intro r k
  obtain ⟨value, resource⟩ := h.checked
  by_cases any : r.u8 0 = 0xFF
  · have found : s.freeHost.isSome = true := by
      simpa [any, r] using need_none (resource _ (List.mem_singleton.2 rfl))
    obtain ⟨f, free⟩ := Option.isSome_iff_exists.1 found
    obtain ⟨below, none_, lowest⟩ := freeHost_spec free
    have k_eq : k = f := by simp [k, any, free]
    rw [if_pos any, k_eq]
    exact ⟨below, none_, lowest⟩
  · have k_eq : k = r.u8 0 := if_neg any
    have inPool := need_none (value _ (List.mem_cons_self ..))
    have free := need_none (h.stated.2 _ (List.mem_cons_self ..))
    rw [if_neg any, k_eq]
    refine ⟨?_, ?_, rfl⟩
    · have : r.u8 0 ≤ 47 := by simpa [any, r] using inPool
      omega
    · simpa [any, r] using free

/-- A command counted in a state with other comparators. -/
theorem counted_withComps (s : State) (r : Req) (comps : Tab (Option Cmp)) :
    ({ s with comps } : State).counted r = { s.counted r with comps } := by
  unfold State.counted State.inc
  split <;> rfl

/-- What DEV.TBSET leaves (R77 to R80). -/
theorem tbset_leaves (s t : State) (r : Req) (served : Served ((s.counted r).tbset r) t) :
    let k := t.chan (r.u8 0)
    k.source = srcOf (r.u8 1) ∧ k.unit = r.u8 2 ∧ k.invert = bit (r.u8 3) 0 ∧ k.indexCheck = bit (r.u8 3) 2 ∧
      k.filter = r.u8 4 ∧ k.exported = decide (r.u8 5 = 1) ∧ k.indexPeriod = r.u32 0x10 ∧ k.freeRate = r.u32 0x14 ∧
      (r.u8 1 = 3 → k.present = false) ∧
      (r.u8 1 ≠ 3 → (r.u8 1 = 2 → (s.axis (r.u8 2)).role ≠ 0) →
        k.base = s.goesOnFrom r ∧ ∀ c, c ≠ r.u8 0 → t.chan c = s.chan c) := by
  have before := Served.counted s r
  have goes : (s.counted r).goesOnFrom r = s.goesOnFrom r := by
    unfold State.goesOnFrom
    rw [before.chan, chanPos_counted]
  have axis := before.axis (r.u8 2)
  have chan := before.chan
  generalize s.counted r = u at *
  obtain ⟨setup, absent⟩ := setup_tbset u r
  obtain ⟨v, others, -, base, ⟨-, ends⟩, -⟩ := tbset_eq u r
  rw [← served.chan] at setup absent
  simp only [Chan.setup, Prod.mk.injEq] at setup
  obtain ⟨source, unit, invert, indexCheck, filter, exported, indexPeriod, freeRate⟩ := setup
  refine ⟨source, unit, invert, indexCheck, filter, exported, indexPeriod, freeRate, absent, fun here present => ?_⟩
  have kept : t.chan = v.chan := by
    rw [served.chan, ends here (axis.symm ▸ present), chan_of_chans (chans_sourcesAgain v _)]
  rw [kept]
  exact ⟨base.trans goes, fun d other => (others d other).trans (congrFun chan d)⟩

theorem devTbread_row : Completes devTbread .devTbread fun r s t res =>
    Served s t ∧ res.take 16 = leBytes 8 (s.chanPos (r.u8 0)).toNat ++ leBytes 8 s.now ∧
      res.length = 32 ∧ fieldU res 24 1 = (s.chan (r.u8 0)).source.code := by
  refine completes_of_commit _ _ _ (fun _ _ _ => rfl) rfl fun m n s c _ t served _ => ?_
  let r := s.reqOf m n c
  have before := Served.counted s r
  have small (x : Source) : leNat (leBytes 1 x.code) = x.code := by cases x <;> rfl
  refine ⟨before.trans served, ?_, ?_, ?_⟩
  · rw [← chanPos_counted s r, ← before.now]
    simp [devTbread, r, List.take_append]
  · simp [devTbread, length_leInt]
  · show fieldU (_ ++ leBytes 1 ((s.counted r).chan (r.u8 0)).source.code ++ leBytes 1 _ ++ leBytes 6 0) 24 1 = _
    rw [List.append_assoc, fieldU_append _ _ _ 24 1 (by simp [length_leInt]) (by simp), before.chan, small]

/-- The comparator that DEV.COMPARE asks for (Table TB-5). -/
def Req.cmp (r : Req) : Cmp :=
  { owner := r.cab, chan := r.u8 1, action := r.u8 2, arg := BitVec.ofNat 32 (r.u32 4), dir := r.u8 3 % 4,
    notify := bit (r.u8 3) 3, target := r.pos 8, period := BitVec.ofNat 64 (r.u64 0x10), below := false, use := .host }

theorem compare_commit (s : State) (r : Req) (ahead : reachedIn (r.u8 3 % 4) (s.chanPos (r.u8 1)) (r.pos 8) = false) :
    let k := if r.u8 0 = 0xFF then s.freeHost.getD 0 else r.u8 0
    devCompare.commit s r = { s := s.arm k r.cmp, result := leBytes 1 k } := by
  have unreached : ∀ k x, reachedIn (r.u8 3 % 4) ((s.arm k x).chanPos (r.u8 1)) (r.pos 8) = false := fun _ _ => ahead
  simp [devCompare, Req.cmp, unreached]

theorem freeHost_counted (s : State) (r : Req) : (s.counted r).freeHost = s.freeHost := by
  unfold State.freeHost
  simp only [(Served.counted s r).comp]

/-- Arming in a state with a command counted leaves the comparators changed and nothing else to serve. -/
theorem arm_serves {s t : State} {r : Req} {k : Nat} {x : Cmp} (served : Served ((s.counted r).arm k x) t) :
    (∀ j, t.comp j = ((s.counted r).arm k x).comp j) ∧ Served { s with comps := t.comps } t := by
  have comps : t.comps = ((s.counted r).arm k x).comps := (congrArg State.comps served.rest :)
  refine ⟨served.comp, (Served.counted _ r).trans ?_⟩
  rw [counted_withComps, comps]
  exact served

theorem devCompare_row : Completes devCompare .devCompare fun r s t res =>
    reachedIn (r.u8 3 % 4) (s.chanPos (r.u8 1)) (r.pos 8) = false →
      ∃ k x, res = leBytes 1 k ∧ k < 48 ∧ s.comp k = none ∧
        (if r.u8 0 = 0xFF then ∀ j, j < k → s.comp j ≠ none else k = r.u8 0) ∧
        t.comp k = some x ∧ x.owner = r.cab ∧ x.chan = r.u8 1 ∧ x.action = r.u8 2 ∧ x.arg.toNat = r.u32 4 ∧
        x.dir = r.u8 3 % 4 ∧ x.target = r.pos 8 ∧ x.period.toNat = r.u64 0x10 ∧ x.use = .host ∧
        (∀ j, j ≠ k → t.comp j = s.comp j) ∧ Served { s with comps := t.comps } t := by
  refine completes_of_commit _ _ _ (fun _ _ _ => rfl) rfl fun m n s c accepted t served _ ahead => ?_
  let r := s.reqOf m n c
  let k := if r.u8 0 = 0xFF then s.freeHost.getD 0 else r.u8 0
  have before := Served.counted s r
  obtain ⟨pool, free, lowest⟩ := compare_takes accepted
  have commit : devCompare.commit (s.counted r) r =
      { s := (s.counted r).arm k r.cmp, result := leBytes 1 k } := by
    rw [compare_commit _ _ (by rw [chanPos_counted]; exact ahead), freeHost_counted]
  rw [commit] at served ⊢
  obtain ⟨comp, kept⟩ := arm_serves served
  let armed : Cmp := { r.cmp with below := decide (((s.counted r).chanPos r.cmp.chan - r.cmp.target).toInt < 0) }
  refine ⟨k, armed, rfl, pool, free, lowest, ?_, rfl, rfl, rfl, ?_, rfl, rfl, ?_, rfl, ?_, kept⟩
  · rw [comp]
    exact (comp_setComp _ _ _ _).trans (if_pos rfl)
  · exact BitVec.toNat_ofNat _ _ |>.trans (Nat.mod_eq_of_lt (fieldU_lt r.p 4 4))
  · exact BitVec.toNat_ofNat _ _ |>.trans (Nat.mod_eq_of_lt (fieldU_lt r.p 0x10 8))
  · intro j other
    rw [comp, ← before.comp]
    exact (comp_setComp _ _ _ _).trans (if_neg other)

theorem devDisarm_row : Completes devDisarm .devDisarm fun r s t _ =>
    t.comp (r.u8 0) = none ∧ ∀ j, j ≠ r.u8 0 → t.comp j = s.comp j := by
  refine completes_of_commit _ _ _ (fun _ _ _ => rfl) rfl fun m n s c _ t served _ => ?_
  let r := s.reqOf m n c
  have comp : ∀ j, t.comp j = ((s.counted r).disarm (r.u8 0)).comp j := served.comp
  refine ⟨?_, fun j other => ?_⟩
  · rw [comp, comp_disarm, if_pos rfl]
  · rw [comp, comp_disarm, if_neg other, (Served.counted s r).comp]

/-- Settles O31: what DEV.TBSET leaves, and the rows of DEV.TBREAD, DEV.COMPARE and DEV.DISARM. -/
theorem timebaseCommands : Obligations.TimebaseCommands :=
  ⟨completes_of_commit _ _ _ (fun _ _ _ => rfl) rfl fun _ _ s _ _ t served _ => tbset_leaves s t _ served,
    devTbread_row, devCompare_row, devDisarm_row⟩

end Sys2Proof.Machine
end

section
/-! PROOFS. ENC_EDGE: an edge of an encoder, on the channels that follow it (R82, R83, R549, R622). -/

namespace Sys2Proof.Machine

/-- What the sight of an edge leaves of a channel: its settings, and whether it is held. -/
def Chan.stays (k : Chan) : (Source × Nat × Bool × Bool × Nat × Bool × Nat × Nat) × Bool := (k.setup, k.held)

/-- `u` is `s` but for other channels than `c`, their crossings to TB, and counters. -/
structure Beside (c : Nat) (s u : State) : Prop where
  rest : ({ u with chans := s.chans, counters := s.counters, crossings := s.crossings } : State) = s
  chan : u.chan c = s.chan c
  crossing : ∀ fwd, tget ({} : Crossing) u.crossings (edgeCrossing c fwd) = tget {} s.crossings (edgeCrossing c fwd)

theorem Beside.refl (c : Nat) (s : State) : Beside c s s := ⟨rfl, rfl, fun _ => rfl⟩

theorem Beside.trans {c : Nat} {s u v : State} (h : Beside c s u) (k : Beside c u v) : Beside c s v where
  rest := (congrArg (fun w : State =>
    { w with chans := s.chans, counters := s.counters, crossings := s.crossings }) k.rest).trans h.rest
  chan := k.chan.trans h.chan
  crossing fwd := (k.crossing fwd).trans (h.crossing fwd)

theorem Beside.now {c : Nat} {s u : State} (h : Beside c s u) : u.now = s.now := (congrArg State.now h.rest :)
theorem Beside.clkOk {c : Nat} {s u : State} (h : Beside c s u) (d : Nat) : u.clkOk d = s.clkOk d :=
  (congrArg (fun w : State => w.clkOk d) h.rest :)
theorem Beside.encRuns {c : Nat} {s u : State} (h : Beside c s u) : u.encRuns c = s.encRuns c := by
  unfold State.encRuns
  simp only [h.chan, h.clkOk]
theorem Beside.edgeCarried {c : Nat} {s u : State} (h : Beside c s u) (fwd : Bool) :
    u.edgeCarried c fwd = s.edgeCarried c fwd := by
  unfold State.edgeCarried State.carries
  rw [h.crossing, h.now]

/-! An edge offered to its crossing. -/

theorem pulseGap_tb (s : State) : s.pulseGap 95 = 960 := by simp [State.pulseGap, State.clkHz]

theorem crossing_overrun (s : State) (c domain d : Nat) :
    tget ({} : Crossing) (s.overrun c domain 1).crossings d =
      if d = c then { tget ({} : Crossing) s.crossings c with
        ovr := true, overrun := BitVec.ofNat 16 (min 65535 ((tget ({} : Crossing) s.crossings c).overrun.toNat + 1)) }
      else tget {} s.crossings d := by
  unfold State.overrun
  rw [if_neg (by decide), inc_eq]
  simp

/-- A crossing offered an event leaves the others. -/
theorem crossing_pulse_ne (s : State) (c src dst d : Nat) (h : d ≠ c) :
    tget ({} : Crossing) (s.pulse c src dst).1.crossings d = tget {} s.crossings d := by
  have launched : tget ({} : Crossing) (s.launch c src dst).crossings d = tget {} s.crossings d := by
    simp [State.launch, h]
  unfold State.pulse
  split
  · rw [crossing_overrun, if_neg h]
  · split
    · rw [crossing_deliveredNow, if_neg h, launched]
    · rw [crossing_overrun, if_neg h, launched]

/-- An event that its crossing does not carry is marked and counted there. -/
theorem pulse_missed (s : State) (c src dst : Nat) (h : s.carries c (s.pulseGap dst) = false) (known : dst < 65536) :
    (tget ({} : Crossing) (s.pulse c src dst).1.crossings c).ovr = true ∧
      (s.pulse c src dst).1.ctr 0x0C dst 0 = s.ctr 0x0C dst 0 + 1 := by
  have missed : ∀ u : State, (tget ({} : Crossing) (u.overrun c dst 1).crossings c).ovr = true ∧
      (u.overrun c dst 1).ctr 0x0C dst 0 = u.ctr 0x0C dst 0 + 1 := fun u => by
    refine ⟨by rw [crossing_overrun, if_pos rfl], ?_⟩
    unfold State.overrun
    rw [if_neg (by decide), ctr_inc, if_pos ⟨rfl, rfl, rfl, by simp [ctrIn, known]⟩]
    rfl
  unfold State.pulse
  split
  · exact missed s
  · rw [h]
    exact missed (s.launch c src dst)

/-- The ticks counted of a channel change its last one, and a counter. -/
theorem countTicks_frame (s : State) (c : Nat) :
    ({ s.countTicks c with chans := s.chans, counters := s.counters } : State) = s ∧
      ∃ tick, ∀ d, (s.countTicks c).chan d = if d = c then { s.chan c with lastTick := tick } else s.chan d := by
  let tick := (s.chanPos c).toInt / 65536
  let ticked := s.updChan c fun k => { k with lastTick := tick }
  let n := (Int.bmod (tick - (s.chan c).lastTick) (2 ^ 48)).natAbs
  by_cases still : n = 0
  · have none_ : s.countTicks c = s := if_pos still
    rw [none_]
    refine ⟨rfl, (s.chan c).lastTick, fun d => ?_⟩
    split
    · next h => rw [h]
    · rfl
  · have counted : s.countTicks c = ticked.inc 6 c 0 n := if_neg still
    rw [counted]
    refine ⟨(congrArg (fun u : State => { u with chans := s.chans, counters := s.counters }) (inc_eq ticked 6 c 0 n) :),
      tick, fun d => ?_⟩
    rw [chan_of_chans (chans_inc ticked 6 c 0 n), chan_updChan]

/-- What qualifying an edge does: its input flips, and the edge is counted where the crossing carries it. -/
theorem qualify_eq (s : State) (c : Nat) (ofB : Bool) (age : Nat) :
    let k := s.chan c
    let fwd := forwardEdge k.a k.b ofB != k.invert
    let flipped := s.updChan c fun k => { k with a := if ofB then k.a else !k.a, b := if ofB then !k.b else k.b }
    let offered := (flipped.pulse (edgeCrossing c fwd) (91 + k.unit) 95).1
    s.qualify c ofB age = if s.edgeCarried c fwd
      then (offered.updChan c fun k => k.edge fwd (s.samples - age)).countTicks c else offered := by
  intro k fwd flipped offered
  have carried : (flipped.pulse (edgeCrossing c fwd) (91 + k.unit) 95).2 = s.edgeCarried c fwd := by
    rw [pulse_delivers, pulseGap_tb]
    rfl
  unfold State.qualify
  dsimp only
  rw [show (flipped.pulse (edgeCrossing c fwd) (91 + k.unit) 95).2 = s.edgeCarried c fwd from carried]

/-- An input of a channel takes its other level. -/
def Chan.flip (k : Chan) (ofB : Bool) : Chan :=
  { k with a := if ofB then k.a else !k.a, b := if ofB then !k.b else k.b }

theorem edge_base (k : Chan) (fwd : Bool) (t : Nat) :
    (k.edge fwd t).base = if fwd then k.base + 65536 else k.base - 65536 := by
  unfold Chan.edge
  dsimp only
  split <;> rfl
theorem edge_edges (k : Chan) (fwd : Bool) (t : Nat) : (k.edge fwd t).edges = k.edges + 1 := by
  unfold Chan.edge
  dsimp only
  split <;> rfl
theorem edge_inputs (k : Chan) (fwd : Bool) (t : Nat) : (k.edge fwd t).a = k.a ∧ (k.edge fwd t).b = k.b := by
  unfold Chan.edge
  dsimp only
  split <;> exact ⟨rfl, rfl⟩
theorem edge_stays (k : Chan) (fwd : Bool) (t : Nat) : (k.edge fwd t).stays = k.stays := by
  unfold Chan.edge
  dsimp only
  split <;> rfl

/-- What a qualified edge leaves of all channels, and of the crossings that are not its own. -/
theorem qualify_leaves (s : State) (c : Nat) (ofB : Bool) (age : Nat) :
    let k := s.chan c
    let fwd := forwardEdge k.a k.b ofB != k.invert
    let v := s.qualify c ofB age
    ({ v with chans := s.chans, counters := s.counters, crossings := s.crossings } : State) = s ∧
    (∀ d, d ≠ edgeCrossing c fwd → tget ({} : Crossing) v.crossings d = tget {} s.crossings d) ∧
    (∀ d, d ≠ c → v.chan d = s.chan d) ∧
    (s.edgeCarried c fwd = false → v.chan c = k.flip ofB ∧
      (tget ({} : Crossing) v.crossings (edgeCrossing c fwd)).ovr = true ∧ v.ctr 0x0C 95 0 = s.ctr 0x0C 95 0 + 1) ∧
    (s.edgeCarried c fwd = true → ∃ t tick, v.chan c = { (k.flip ofB).edge fwd t with lastTick := tick }) := by
  intro k fwd v
  let flipped := s.updChan c fun k => k.flip ofB
  let offered := (flipped.pulse (edgeCrossing c fwd) (91 + k.unit) 95).1
  have frame : ({ offered with crossings := s.crossings, counters := s.counters } : State) = flipped :=
    pulse_frame flipped (edgeCrossing c fwd) (91 + k.unit) 95
  have chans : offered.chan = flipped.chan := chan_of_chans (congrArg State.chans frame :)
  have others : ∀ d, d ≠ edgeCrossing c fwd →
      tget ({} : Crossing) offered.crossings d = tget {} s.crossings d :=
    fun d h => crossing_pulse_ne flipped (edgeCrossing c fwd) (91 + k.unit) 95 d h
  have missed : s.edgeCarried c fwd = false → (tget ({} : Crossing) offered.crossings (edgeCrossing c fwd)).ovr = true ∧
      offered.ctr 0x0C 95 0 = s.ctr 0x0C 95 0 + 1 := fun h =>
    pulse_missed flipped (edgeCrossing c fwd) (91 + k.unit) 95 (by rw [pulseGap_tb]; exact h) (by decide)
  have eq : v = if s.edgeCarried c fwd
      then (offered.updChan c fun k => k.edge fwd (s.samples - age)).countTicks c else offered :=
    qualify_eq s c ofB age
  clear_value v offered
  cases carried : s.edgeCarried c fwd
  · rw [carried] at eq
    simp only [Bool.false_eq_true, if_false] at eq
    subst eq
    refine ⟨?_, others, fun d h => ?_, fun _ => ⟨?_, missed carried⟩, nofun⟩
    · exact (congrArg (fun u : State => { u with chans := s.chans }) frame :)
    · rw [chans, chan_updChan, if_neg h]
    · rw [chans, chan_updChan, if_pos rfl]
  · rw [carried, if_pos rfl] at eq
    obtain ⟨rest, tick, ticked⟩ := countTicks_frame (offered.updChan c fun k => k.edge fwd (s.samples - age)) c
    rw [← eq] at rest ticked
    refine ⟨?_, fun d h => ?_, fun d h => ?_, nofun, fun _ => ⟨s.samples - age, tick, ?_⟩⟩
    · exact ((congrArg (fun u : State => { u with chans := s.chans, counters := s.counters, crossings := s.crossings })
        rest).trans (congrArg (fun u : State => { u with chans := s.chans }) frame) :)
    · exact (congrArg (fun crossings => (tget {} crossings d : Crossing)) (congrArg State.crossings rest)).trans
        (others d h)
    · rw [ticked, if_neg h, chan_updChan, if_neg h, chans, chan_updChan, if_neg h]
    · rw [ticked, if_pos rfl, chan_updChan, if_pos rfl, chans, chan_updChan, if_pos rfl]

/-- The sense of a level an input has come to (R622). -/
def Chan.sense (k : Chan) (ofB level : Bool) : Bool := (if ofB then k.a == level else level != k.b) != k.invert

/-- A channel with one input at a level. -/
def Chan.atLevel (k : Chan) (ofB level : Bool) : Chan :=
  { k with a := if ofB then k.a else level, b := if ofB then level else k.b }

/-- The level of an input of a channel. -/
def Chan.input (k : Chan) (ofB : Bool) : Bool := if ofB then k.b else k.a

theorem flip_eq (k : Chan) (ofB level : Bool) (h : k.input ofB ≠ level) : k.flip ofB = k.atLevel ofB level := by
  cases ofB <;> simp_all [Chan.flip, Chan.atLevel, Chan.input] <;> cases level <;> simp_all

theorem sense_eq (k : Chan) (ofB level : Bool) (h : k.input ofB ≠ level) :
    (forwardEdge k.a k.b ofB != k.invert) = k.sense ofB level := by
  have other : level = !k.input ofB := by cases level <;> simp_all
  subst other
  cases ofB <;> simp [forwardEdge, Chan.sense, Chan.input, Bool.beq_comm]

/-- What the sight of a level leaves of a channel and its crossings (R82, R83, R549). -/
structure Sighted (s v : State) (c : Nat) (ofB level : Bool) (age : Nat) : Prop where
  rest : ({ v with chans := s.chans, counters := s.counters, crossings := s.crossings } : State) = s
  others : ∀ d, d ≠ c → v.chan d = s.chan d
  crossing : ∀ d, d ≠ edgeCrossing c ((s.chan c).sense ofB level) →
    tget ({} : Crossing) v.crossings d = tget {} s.crossings d
  stopped : s.encRuns c = false → v.chan c = (s.chan c).atLevel ofB level
  unmoved : s.encRuns c = true → (s.chan c).input ofB = level ∨ age + 1 < (s.chan c).filter → v.chan c = s.chan c
  missed : s.encRuns c = true → (s.chan c).input ofB ≠ level → (s.chan c).filter ≤ age + 1 →
    s.edgeCarried c ((s.chan c).sense ofB level) = false →
    v.chan c = (s.chan c).atLevel ofB level ∧
      (tget ({} : Crossing) v.crossings (edgeCrossing c ((s.chan c).sense ofB level))).ovr = true ∧
      v.ctr 0x0C 95 0 = s.ctr 0x0C 95 0 + 1
  counted : s.encRuns c = true → (s.chan c).input ofB ≠ level → (s.chan c).filter ≤ age + 1 →
    s.edgeCarried c ((s.chan c).sense ofB level) = true →
    ∃ t tick, v.chan c =
      { ((s.chan c).atLevel ofB level).edge ((s.chan c).sense ofB level) t with lastTick := tick }

/-- An edge is qualified where the level is a change that has persisted. -/
theorem encSeen_runs (s : State) (c : Nat) (ofB level : Bool) (age : Nat) (runs : s.encRuns c = true) :
    s.encSeen c ofB level age =
      if (s.chan c).input ofB ≠ level ∧ (s.chan c).filter ≤ age + 1 then s.qualify c ofB age else s := by
  unfold State.encSeen
  simp only [runs, Bool.not_true, Bool.false_eq_true, if_false]
  exact if_congr (by simp [Chan.persisted, Chan.input, and_comm]) rfl rfl

theorem encSeen_sighted (s : State) (c : Nat) (ofB level : Bool) (age : Nat) :
    Sighted s (s.encSeen c ofB level age) c ofB level age := by
  cases runs : s.encRuns c
  · have eq : s.encSeen c ofB level age = s.updChan c fun k => k.atLevel ofB level := by
      simp only [State.encSeen, runs]
      rfl
    rw [eq]
    exact { rest := rfl, others := fun d h => by simp [h], crossing := fun _ _ => rfl, stopped := fun _ => by simp,
            unmoved := by simp [runs], missed := by simp [runs], counted := by simp [runs] }
  · by_cases edge : (s.chan c).input ofB ≠ level ∧ (s.chan c).filter ≤ age + 1
    · obtain ⟨change, persisted⟩ := edge
      have eq : s.encSeen c ofB level age = s.qualify c ofB age :=
        (encSeen_runs s c ofB level age runs).trans (if_pos ⟨change, persisted⟩)
      have leaves := qualify_leaves s c ofB age
      dsimp only at leaves
      rw [sense_eq _ _ _ change, flip_eq _ _ _ change, ← eq] at leaves
      obtain ⟨rest, crossing, others, missed, counted⟩ := leaves
      exact { rest, others, crossing, stopped := by simp [runs],
              unmoved := fun _ h => absurd h (by
                rintro (same | early)
                · exact change same
                · omega),
              missed := fun _ _ _ => missed, counted := fun _ _ _ => counted }
    · have eq : s.encSeen c ofB level age = s := (encSeen_runs s c ofB level age runs).trans (if_neg edge)
      rw [eq]
      exact { rest := rfl, others := fun _ _ => rfl, crossing := fun _ _ => rfl, stopped := by simp [runs],
              unmoved := fun _ _ => rfl, missed := fun _ h k => absurd ⟨h, k⟩ edge,
              counted := fun _ h k => absurd ⟨h, k⟩ edge }

theorem edgeCrossing_inj {c d : Nat} {f g : Bool} (h : edgeCrossing c f = edgeCrossing d g) : c = d ∧ f = g := by
  unfold edgeCrossing at h
  cases f <;> cases g <;> simp_all <;> omega

/-- The sight of a level by another channel leaves a channel alone. -/
theorem Sighted.beside {s v : State} {c d : Nat} {ofB level : Bool} {age : Nat} (h : Sighted s v d ofB level age)
    (other : c ≠ d) : Beside c s v :=
  ⟨h.rest, h.others c other, fun _ => h.crossing _ fun same => other (edgeCrossing_inj same).1⟩

/-- Of steps for several channels, those of the others lie before and after one's own. -/
theorem forEach_once {σ : Type} (R : σ → σ → Prop) (refl : ∀ s, R s s) (trans : ∀ {s u v}, R s u → R u v → R s v)
    (f : Nat → σ → σ) (c : Nat) (h : ∀ x s, c ≠ x → R s (f x s)) (xs : List Nat) (once : xs.Nodup) (s : σ) :
    (c ∉ xs → R s (forEach xs f s)) ∧ (c ∈ xs → ∃ u, R s u ∧ R (f c u) (forEach xs f s)) := by
  induction xs generalizing s with
  | nil => exact ⟨fun _ => refl s, nofun⟩
  | cons x xs ih =>
    obtain ⟨fresh, once⟩ := List.nodup_cons.1 once
    obtain ⟨out, seen⟩ := ih once (f x s)
    refine ⟨fun not => ?_, fun mem => ?_⟩
    · obtain ⟨other, not⟩ := not_or.1 (mt List.mem_cons.2 not)
      exact trans (h x s other) (out not)
    · rcases List.mem_cons.1 mem with rfl | mem
      · exact ⟨s, refl s, out fresh⟩
      · have other : c ≠ x := fun e => fresh (e ▸ mem)
        obtain ⟨u, before, after⟩ := seen mem
        exact ⟨u, trans (h x s other) before, after⟩

theorem mem_encChans (s : State) (u c : Nat) :
    c ∈ s.encChans u ↔ (s.chan c).source = .enc ∧ (s.chan c).unit = u ∧ c < 4 := by
  simp [State.encChans]
  tauto
theorem nodup_encChans (s : State) (u : Nat) : (s.encChans u).Nodup := List.nodup_range.filter _

/-- What an edge of an encoder's input leaves of a channel. -/
theorem encEdge_chan (s : State) (u : Fin 4) (ofB level : Bool) (age : Nat) (c : Nat) :
    let t := forEach (s.encChans u) (fun c s => s.encSeen c ofB level age) s
    (¬ ((s.chan c).source = .enc ∧ (s.chan c).unit = u ∧ c < 4) → Beside c s t) ∧
    ((s.chan c).source = .enc → (s.chan c).unit = u → c < 4 → ∃ v, Beside c s v ∧
      Beside c (v.encSeen c ofB level age) t) := by
  have mem := mem_encChans s u c
  obtain ⟨out, seen⟩ := forEach_once (Beside c) (Beside.refl c) Beside.trans _ c
    (fun d s other => (encSeen_sighted s d ofB level age).beside other) (s.encChans u) (nodup_encChans s u) s
  exact ⟨fun not => out (mem.not.2 not), fun source unit below => seen (mem.2 ⟨source, unit, below⟩)⟩

/-- A channel has seen a level after the inputs of its encoder were set, other channels before and after it. -/
structure EdgeSeen (s t : State) (c : Nat) (ofB level : Bool) (age : Nat) : Prop where
  stopped : s.encRuns c = false → t.chan c = (s.chan c).atLevel ofB level
  unmoved : s.encRuns c = true → (s.chan c).input ofB = level ∨ age + 1 < (s.chan c).filter → t.chan c = s.chan c
  missed : s.encRuns c = true → (s.chan c).input ofB ≠ level → (s.chan c).filter ≤ age + 1 →
    s.edgeCarried c ((s.chan c).sense ofB level) = false →
    t.chan c = (s.chan c).atLevel ofB level ∧
      (tget ({} : Crossing) t.crossings (edgeCrossing c ((s.chan c).sense ofB level))).ovr = true
  counted : s.encRuns c = true → (s.chan c).input ofB ≠ level → (s.chan c).filter ≤ age + 1 →
    s.edgeCarried c ((s.chan c).sense ofB level) = true →
    ∃ n tick, t.chan c =
      { ((s.chan c).atLevel ofB level).edge ((s.chan c).sense ofB level) n with lastTick := tick }
  opposite : t.edgeCarried c (!(s.chan c).sense ofB level) = s.edgeCarried c (!(s.chan c).sense ofB level)
  runs : t.encRuns c = s.encRuns c

theorem atLevel_stays (k : Chan) (ofB level : Bool) : (k.atLevel ofB level).stays = k.stays := rfl

theorem Sighted.stays {s v : State} {c : Nat} {ofB level : Bool} {age : Nat} (h : Sighted s v c ofB level age) :
    (v.chan c).stays = (s.chan c).stays := by
  cases runs : s.encRuns c
  · rw [h.stopped runs, atLevel_stays]
  · by_cases edge : (s.chan c).input ofB ≠ level ∧ (s.chan c).filter ≤ age + 1
    · obtain ⟨change, persisted⟩ := edge
      cases carried : s.edgeCarried c ((s.chan c).sense ofB level)
      · rw [(h.missed runs change persisted carried).1, atLevel_stays]
      · obtain ⟨n, tick, counted⟩ := h.counted runs change persisted carried
        rw [counted]
        exact (edge_stays _ _ n).trans (atLevel_stays _ ofB level)
    · rw [h.unmoved runs]
      by_cases change : (s.chan c).input ofB = level
      · exact .inl change
      · have late : ¬ (s.chan c).filter ≤ age + 1 := fun persisted => edge ⟨change, persisted⟩
        exact .inr (by omega)

theorem stays_iff {k l : Chan} : k.stays = l.stays ↔ k.setup = l.setup ∧ k.held = l.held := by
  simp [Chan.stays]

/-- Whether a channel counts is told by what an edge leaves of it. -/
theorem encRuns_of_stays {s v : State} {c : Nat} (h : (v.chan c).stays = (s.chan c).stays)
    (ok : ∀ d, v.clkOk d = s.clkOk d) : v.encRuns c = s.encRuns c := by
  obtain ⟨setup, held⟩ := stays_iff.1 h
  simp only [Chan.setup, Prod.mk.injEq] at setup
  obtain ⟨source, unit, -⟩ := setup
  unfold State.encRuns
  simp only [source, unit, held, ok]

/-- A channel that follows the encoder has seen its edge once. -/
theorem edgeSeen (s : State) (u : Fin 4) (ofB level : Bool) (age : Nat) (c : Nat)
    (source : (s.chan c).source = .enc) (unit : (s.chan c).unit = u) (below : c < 4) :
    EdgeSeen s (forEach (s.encChans u) (fun c s => s.encSeen c ofB level age) s) c ofB level age := by
  obtain ⟨-, seen⟩ := encEdge_chan s u ofB level age c
  obtain ⟨v, before, after⟩ := seen source unit below
  have sighted := encSeen_sighted v c ofB level age
  generalize forEach (s.encChans u) (fun c s => s.encSeen c ofB level age) s = t at *
  generalize v.encSeen c ofB level age = w at *
  have clkOk : ∀ d, w.clkOk d = v.clkOk d := fun d => (congrArg (fun w : State => w.clkOk d) sighted.rest :)
  have now : w.now = v.now := (congrArg State.now sighted.rest :)
  have runs : w.encRuns c = v.encRuns c := encRuns_of_stays sighted.stays clkOk
  have opposite : w.edgeCarried c (!(v.chan c).sense ofB level) = v.edgeCarried c (!(v.chan c).sense ofB level) := by
    have other : edgeCrossing c (!(v.chan c).sense ofB level) ≠ edgeCrossing c ((v.chan c).sense ofB level) :=
      fun same => by simpa using (edgeCrossing_inj same).2
    unfold State.edgeCarried State.carries
    rw [sighted.crossing _ other, now]
  refine { stopped := ?_, unmoved := ?_, missed := ?_, counted := ?_, opposite := ?_, runs := ?_ }
  · rw [after.chan, ← before.chan, ← before.encRuns]
    exact sighted.stopped
  · rw [after.chan, ← before.chan, ← before.encRuns]
    exact sighted.unmoved
  · rw [after.chan, after.crossing, ← before.edgeCarried, ← before.chan, ← before.encRuns]
    exact fun r h p n => ⟨(sighted.missed r h p n).1, (sighted.missed r h p n).2.1⟩
  · rw [after.chan, ← before.edgeCarried, ← before.chan, ← before.encRuns]
    exact sighted.counted
  · rw [after.edgeCarried, ← before.edgeCarried, ← before.chan]
    exact opposite
  · rw [after.encRuns, runs, before.encRuns]

/-- The one channel that follows an encoder. -/
theorem encChans_sole (s : State) (u c : Nat) (source : (s.chan c).source = .enc) (unit : (s.chan c).unit = u)
    (below : c < 4) (sole : ∀ d, d < 4 → d ≠ c → (s.chan d).source ≠ .enc ∨ (s.chan d).unit ≠ u) :
    s.encChans u = [c] := by
  have mem : ∀ d, d ∈ s.encChans u ↔ d = c := by
    intro d
    rw [mem_encChans]
    constructor
    · rintro ⟨follows, same, low⟩
      by_contra other
      exact (sole d low other).elim (· follows) (· same)
    · rintro rfl
      exact ⟨source, unit, below⟩
  exact List.perm_singleton.1 ((List.perm_ext_iff_of_nodup (nodup_encChans s u) (List.nodup_singleton c)).2
      (by simp [mem]))

/-- A channel after an edge of an input. -/
def Chan.after (k : Chan) (ofB level : Bool) (n : Nat) (tick : Int) : Chan :=
  { (k.atLevel ofB level).edge (k.sense ofB level) n with lastTick := tick }

theorem after_inputs (k : Chan) (ofB level : Bool) (n : Nat) (tick : Int) :
    (k.after ofB level n tick).a = (if ofB then k.a else level) ∧
      (k.after ofB level n tick).b = (if ofB then level else k.b) := edge_inputs _ _ _

theorem after_count (k : Chan) (ofB level : Bool) (n : Nat) (tick : Int) :
    (k.after ofB level n tick).base = (if k.sense ofB level then k.base + 65536 else k.base - 65536) ∧
      (k.after ofB level n tick).edges = k.edges + 1 := ⟨edge_base _ _ _, edge_edges _ _ _⟩

theorem after_stays (k : Chan) (ofB level : Bool) (n : Nat) (tick : Int) :
    (k.after ofB level n tick).stays = k.stays := edge_stays _ _ _

/-- The input changing back is a change, of the other sense (R622). -/
theorem after_opposite (k : Chan) (ofB level : Bool) (n : Nat) (tick : Int) (change : k.input ofB ≠ level) :
    (k.after ofB level n tick).input ofB ≠ (!level) ∧
      (k.after ofB level n tick).sense ofB (!level) = !k.sense ofB level := by
  obtain ⟨a, b⟩ := after_inputs k ofB level n tick
  obtain ⟨setup, -⟩ := stays_iff.1 (after_stays k ofB level n tick)
  simp only [Chan.setup, Prod.mk.injEq] at setup
  obtain ⟨-, -, invert, -⟩ := setup
  cases ofB
  · simp [Chan.input, Chan.sense, a, b, invert]
  · cases level <;> simp [Chan.input, Chan.sense, a, b, invert]

/-- A channel that has counted an edge of an input, and then the input changing back, is where it was (R622). -/
theorem after_back (k : Chan) (ofB level : Bool) (n n' : Nat) (tick tick' : Int) (change : k.input ofB ≠ level) :
    let v := (k.after ofB level n tick).after ofB (!level) n' tick'
    v.base = k.base ∧ v.edges = k.edges + 2 ∧ v.a = k.a ∧ v.b = k.b := by
  obtain ⟨-, sense⟩ := after_opposite k ofB level n tick change
  obtain ⟨base, edges⟩ := after_count k ofB level n tick
  obtain ⟨base', edges'⟩ := after_count (k.after ofB level n tick) ofB (!level) n' tick'
  obtain ⟨a, b⟩ := after_inputs k ofB level n tick
  obtain ⟨a', b'⟩ := after_inputs (k.after ofB level n tick) ofB (!level) n' tick'
  have was : level = !k.input ofB := by cases level <;> simp_all
  refine ⟨?_, ?_, ?_, ?_⟩
  · rw [base', sense, base]
    cases k.sense ofB level <;> simp
  · rw [edges', edges]
  · rw [a', a, was]
    cases ofB <;> simp [Chan.input]
  · rw [b', b, was]
    cases ofB <;> simp [Chan.input]

/-- An input of an encoder at a level (Table TB-3). -/
def State.inputAt (s : State) (u : Fin 4) (ofB level : Bool) : State :=
  s.setInputs u (if ofB then (tget 0 s.encs u).getLsbD 0 else level)
      (if ofB then level else (tget 0 s.encs u).getLsbD 1)

/-- Every channel that follows an encoder sees an input at a level. -/
def State.sees (s : State) (u : Fin 4) (ofB level : Bool) (age : Nat) : State :=
  forEach (s.encChans u) (fun c s => s.encSeen c ofB level age) s

theorem encEdge_eq (s : State) (u : Fin 4) (ofB level : Bool) (age : Nat) :
    exec (.encEdge u ofB ⟨level, age⟩) s = .next ((s.inputAt u ofB level).sees u ofB level age) := rfl

/-- An edge carried to TB, and the input changing back (R82, R83, R622). -/
theorem encEdge_back (s : State) (u : Fin 4) (ofB level : Bool) (age c : Nat) (source : (s.chan c).source = .enc)
    (unit : (s.chan c).unit = u) (below : c < 4) (runs : s.encRuns c = true) (change : (s.chan c).input ofB ≠ level)
    (persisted : (s.chan c).filter ≤ age + 1) (carried : s.edgeCarried c ((s.chan c).sense ofB level) = true) :
    let k := s.chan c
    let t := s.sees u ofB level age
    (∃ n tick, t.chan c = k.after ofB level n tick) ∧
    ∀ later, k.filter ≤ later + 1 → s.edgeCarried c (!k.sense ofB level) = true →
      ∃ v, exec (.encEdge u ofB ⟨!level, later⟩) t = .next v ∧ (v.chan c).base = k.base ∧
        (v.chan c).edges = k.edges + 2 ∧ (v.chan c).a = k.a ∧ (v.chan c).b = k.b := by
  intro k t
  have seen : EdgeSeen s t c ofB level age := edgeSeen s u ofB level age c source unit below
  obtain ⟨n, tick, counted⟩ := seen.counted runs change persisted carried
  have after : t.chan c = k.after ofB level n tick := counted
  clear_value t
  refine ⟨⟨n, tick, after⟩, fun later filtered carries => ⟨_, encEdge_eq t u ofB (!level) later, ?_⟩⟩
  have setup := (stays_iff.1 (after_stays k ofB level n tick)).1
  simp only [Chan.setup, Prod.mk.injEq] at setup
  obtain ⟨source', unit', -, -, filter', -⟩ := setup
  obtain ⟨change', sense'⟩ := after_opposite k ofB level n tick change
  have back := edgeSeen (t.inputAt u ofB (!level)) u ofB (!level) later c
    ((congrArg Chan.source after).trans (source'.trans source))
        ((congrArg Chan.unit after).trans (unit'.trans unit)) below
  have chan : (t.inputAt u ofB (!level)).chan c = k.after ofB level n tick := after
  have runs' : (t.inputAt u ofB (!level)).encRuns c = true := seen.runs.trans runs
  have carried' : (t.inputAt u ofB (!level)).edgeCarried c (!k.sense ofB level) = true := seen.opposite.trans carries
  obtain ⟨n', tick', counted'⟩ := back.counted runs' (by rw [chan]; exact change')
      (by rw [chan, filter']; exact filtered)
    (by rw [chan, sense']; exact carried')
  rw [chan] at counted'
  have twice : ((t.inputAt u ofB (!level)).sees u ofB (!level) later).chan c =
      (k.after ofB level n tick).after ofB (!level) n' tick' := counted'
  rw [twice]
  exact after_back k ofB level n n' tick tick' change

/-- ENC_EDGE (R82, R83, R549, R622). -/
theorem encEdge_row (s : State) (u : Fin 4) (ofB level : Bool) (age : Nat) :
    ∃ t, exec (.encEdge u ofB ⟨level, age⟩) s = .next t ∧
     ({ t with chans := s.chans, counters := s.counters, encs := s.encs, crossings := s.crossings } : State) = s ∧
     ∀ c : Fin 4,
       let k := s.chan c
       let was := if ofB then k.b else k.a
       let forward := (if ofB then k.a == level else level != k.b) != k.invert
       (k.source ≠ .enc ∨ k.unit ≠ u → t.chan c = k) ∧
       (k.source = .enc → k.unit = u →
         (s.encRuns c = false → t.chan c =
           { k with a := if ofB then k.a else level, b := if ofB then level else k.b }) ∧
         (s.encRuns c = true → was = level ∨ age + 1 < k.filter → t.chan c = k) ∧
         (s.encRuns c = true → was ≠ level → k.filter ≤ age + 1 →
           (t.chan c).a = (if ofB then k.a else level) ∧ (t.chan c).b = (if ofB then level else k.b) ∧
           (s.edgeCarried c forward = false → (t.chan c).base = k.base ∧ (t.chan c).edges = k.edges ∧
             (tget {} t.crossings (edgeCrossing c forward)).ovr = true ∧
             ((∀ d : Fin 4, d ≠ c → (s.chan d).source ≠ .enc ∨ (s.chan d).unit ≠ u) →
               t.ctr 0x0C 95 0 = s.ctr 0x0C 95 0 + 1)) ∧
           (s.edgeCarried c forward = true →
             (t.chan c).base = (if forward then k.base + 0x10000 else k.base - 0x10000) ∧
             (t.chan c).edges = k.edges + 1 ∧
             ∀ later : Nat, k.filter ≤ later + 1 → s.edgeCarried c (!forward) = true →
               ∃ v, exec (.encEdge u ofB ⟨!level, later⟩) t = .next v ∧ (v.chan c).base = k.base ∧
                 (v.chan c).edges = k.edges + 2 ∧ (v.chan c).a = k.a ∧ (v.chan c).b = k.b))) := by
  let s1 := s.inputAt u ofB level
  refine ⟨s1.sees u ofB level age, encEdge_eq s u ofB level age, ?_, fun c => ?_⟩
  · have frame := ((encEdge_chan s1 u ofB level age 4).1 (by simp)).rest
    exact (congrArg (fun v : State => { v with encs := s.encs }) frame :)
  · intro k was forward
    refine ⟨fun elsewhere => ?_, fun source unit => ?_⟩
    · refine ((encEdge_chan s1 u ofB level age c).1 ?_).chan
      rintro ⟨source, unit, -⟩
      exact elsewhere.elim (· source) (· unit)
    · have seen : EdgeSeen s1 (s1.sees u ofB level age) c ofB level age :=
        edgeSeen s1 u ofB level age c source unit c.isLt
      refine ⟨seen.stopped, seen.unmoved, fun runs change persisted => ?_⟩
      cases carried : s.edgeCarried c forward
      · obtain ⟨chan, ovr⟩ := seen.missed runs change persisted carried
        rw [chan]
        refine ⟨rfl, rfl, fun _ => ⟨rfl, rfl, ovr, fun sole => ?_⟩, nofun⟩
        have alone : s1.encChans u = [c.val] := encChans_sole s1 u c source unit c.isLt fun d low other =>
          sole ⟨d, low⟩ fun same => other (congrArg Fin.val same)
        have once : s1.sees u ofB level age = s1.encSeen c ofB level age := by
          unfold State.sees
          rw [alone]
          rfl
        rw [once]
        exact ((encSeen_sighted s1 c ofB level age).missed runs change persisted carried).2.2
      · obtain ⟨⟨n, tick, after⟩, back⟩ :=
          encEdge_back s1 u ofB level age c source unit c.isLt runs change persisted carried
        obtain ⟨a, b⟩ := after_inputs k ofB level n tick
        obtain ⟨base, edges⟩ := after_count k ofB level n tick
        refine ⟨?_, ?_, nofun, fun _ => ⟨?_, ?_, back⟩⟩
        · rw [after]
          exact a
        · rw [after]
          exact b
        · rw [after]
          exact base
        · rw [after]
          exact edges

end Sys2Proof.Machine
end

section
/-! PROOFS. ENC_ERROR: both inputs of an encoder change in one sample (R84). -/

namespace Sys2Proof.Machine

/-- No protective stop leads through an entry to a P3 mode. -/
def State.settledMode (s : State) : Prop := s.stops = true → s.mode.p3 = true

/-- In the P3 modes the clock of an encoder runs unless it has failed (Table CK-1). -/
theorem clkOk_encoder (s : State) (d : Nat) (lo : 91 ≤ d) (hi : d ≤ 94) (p3 : s.mode.p3 = true) :
    s.clkOk d = (!(s.clock d).failed && !(s.clock d).held) := by
  have runs : s.clkStopped d = false := by
    obtain rfl | rfl | rfl | rfl : d = 91 ∨ d = 92 ∨ d = 93 ∨ d = 94 := by omega
    all_goals simp [State.clkStopped, p3]
  simp [State.clkOk, runs]

/-- The loss of a source where no stop leads through an entry to a P3 mode: what it leaves of the channels and their
clocks. -/
theorem loseSource_leaves (s : State) (c : Nat) (settled : s.settledMode) :
    (s.loseSource c).settledMode ∧
    (∀ d, ((s.loseSource c).chan d).face = ((s.updChan c fun k => { k with present := false }).chan d).face ∧
      ((s.loseSource c).chan d).held = (s.chan d).held ∧ (s.loseSource c).ctr 6 d 1 = s.ctr 6 d 1) ∧
    ∀ d, 91 ≤ d → d ≤ 94 → (s.loseSource c).clkOk d = s.clkOk d := by
  obtain ⟨-, clocks, faces, ticks, -, held, -⟩ := watch_iff.1 (watch_loseSource s true c fun _ => settled)
  have modes : (s.loseSource c).settledMode ∧ ∀ d, 91 ≤ d → d ≤ 94 → (s.loseSource c).clkOk d = s.clkOk d := by
    obtain ⟨u, -, -, mode, change, clk, lost⟩ := loseSource_eq s c
    by_cases stopping : s.chanInUse c = true ∧ s.stops = true
    · have p3 : s.mode.p3 = true := settled stopping.2
      have halted : (s.loseSource c).mode.p3 = true := by
        rw [(loseSource_halts s c stopping.1 p3).1]
        rfl
      refine ⟨fun _ => halted, fun d lo hi => ?_⟩
      rw [clkOk_encoder _ d lo hi halted, clkOk_encoder s d lo hi p3]
      unfold State.clock
      rw [clocks, inc_eq]
      rfl
    · rw [lost, if_neg stopping]
      have same : u.stops = s.stops := by unfold State.stops; rw [mode, change]
      exact ⟨fun stops => mode ▸ settled (same ▸ stops), fun d _ _ => clk d⟩
  refine ⟨modes.1, fun d => ⟨?_, ?_, ?_⟩, modes.2⟩
  · rw [faces, inc_eq]
    rfl
  · rw [held rfl, chan_of_chans (chans_inc _ 6 c 3 1), chan_updChan]
    split
    · next same => rw [same]
    · rfl
  · rw [ticks d 1 (by decide) (by decide), ctr_inc, if_neg (by simp)]
    rfl

/-- The illegal transitions of a channel within its last 1,024 edges (R84). -/
def Chan.illegals (k : Chan) : List Nat := k.illegal.filter fun e => decide (k.edges - e < 1024)

/-- A channel whose inputs have both changed: where it counts, the transition is noted. -/
def Chan.erred (k : Chan) (counts : Bool) : Chan :=
  { k with a := !k.a, b := !k.b, illegal := if counts then k.illegals ++ [k.edges] else k.illegal }

/-- An illegal transition (R84): its channel, its counter, and the loss of the source at the 16th. -/
theorem illegalStep_eq (s : State) (c : Nat) :
    ∃ u : State, (∀ d, u.chan d = if d = c then (s.chan c).erred (s.encRuns c) else s.chan d) ∧
      (∀ d, u.ctr 6 d 1 = if s.encRuns c then (s.inc 6 c 1 1).ctr 6 d 1 else s.ctr 6 d 1) ∧
      u.mode = s.mode ∧ u.change = s.change ∧ (∀ d, u.clkOk d = s.clkOk d) ∧
      s.illegalStep c = if s.encRuns c = true ∧ 15 ≤ (s.chan c).illegals.length ∧ (s.chan c).present = true
        then (u.updChan c fun k => { k with lostIllegal := true }).loseSource c else u := by
  unfold State.illegalStep
  extract_lets flipped counted k ill noted told
  cases runs : s.encRuns c
  · refine ⟨flipped, fun d => ?_, fun d => rfl, rfl, rfl, fun d => rfl, by simp⟩
    exact chan_updChan s c d _
  · have telling : Told noted told := Told.raiseTo _ _ _
    have flips : counted.chan = flipped.chan := chan_of_chans (chans_inc flipped 6 c 1 1)
    have ill_eq : ill = (s.chan c).illegals ++ [(s.chan c).edges] := by
      simp only [ill, k, flips, flipped, chan_updChan, if_true]
      simp [Chan.illegals]
    have chan : ∀ d, told.chan d = if d = c then (s.chan c).erred true else s.chan d := fun d => by
      rw [chan_of_chans telling.chans, chan_updChan, flips]
      by_cases same : d = c
      · simp [same, flipped, ill_eq, Chan.erred]
      · simp [same, flipped]
    have core : told.core = s.core := by simp [told, noted, counted, flipped]
    obtain ⟨mode, change, -⟩ := core_iff.1 core
    have clk : ∀ d, told.clkOk d = s.clkOk d := fun d => by
      rw [telling.clkOk]
      simp only [noted, counted]
      rw [inc_eq]
      rfl
    have ctr : ∀ d, told.ctr 6 d 1 = (s.inc 6 c 1 1).ctr 6 d 1 := fun d => by
      rw [telling.ctr 6 d 1 (by simp [reportCtr])]
      show counted.ctr 6 d 1 = _
      rw [ctr_inc, ctr_inc]
      rfl
    have present : (told.chan c).present = (s.chan c).present := by
      rw [chan, if_pos rfl]
      rfl
    refine ⟨told, chan, ctr, mode, change, clk, ?_⟩
    rw [if_pos rfl]
    exact if_congr (by rw [present, ill_eq]; simp) rfl rfl

/-- `u` is `s` after illegal transitions of other channels than `c`. -/
structure Past (c : Nat) (s u : State) : Prop where
  settled : u.settledMode
  face : (u.chan c).face = (s.chan c).face
  held : (u.chan c).held = (s.chan c).held
  ctr : u.ctr 6 c 1 = s.ctr 6 c 1
  clk : ∀ d, 91 ≤ d → d ≤ 94 → u.clkOk d = s.clkOk d

theorem inputs_of_face {k l : Chan} (h : k.face = l.face) :
    k.a = l.a ∧ k.b = l.b ∧ k.edges = l.edges ∧ k.present = l.present ∧ k.illegal = l.illegal ∧ k.source = l.source ∧
      k.unit = l.unit := by
  simp only [Chan.face, Chan.mk.injEq] at h
  simp [h]

/-- What an illegal transition leaves of the other channels, and of its own (R84). -/
theorem illegalStep_leaves (s : State) (c : Nat) (settled : s.settledMode) :
    (∀ d, d ≠ c → Past d s (s.illegalStep c)) ∧
    (let v := s.illegalStep c
     let k := s.chan c
     let lost := s.encRuns c = true ∧ 15 ≤ k.illegals.length
     v.settledMode ∧ (v.chan c).a = (!k.a) ∧ (v.chan c).b = (!k.b) ∧ (v.chan c).edges = k.edges ∧
       (v.chan c).present = (if lost then false else k.present) ∧
       v.ctr 6 c 1 = if s.encRuns c then (s.inc 6 c 1 1).ctr 6 c 1 else s.ctr 6 c 1) := by
  obtain ⟨u, chan, ctr, mode, change, clk, eq⟩ := illegalStep_eq s c
  have settled' : u.settledMode := by
    unfold State.settledMode State.stops
    rw [mode, change]
    exact settled
  have others : ∀ d, d ≠ c → u.chan d = s.chan d ∧ u.ctr 6 d 1 = s.ctr 6 d 1 := fun d h => by
    refine ⟨by rw [chan, if_neg h], ?_⟩
    rw [ctr]
    split
    · rw [ctr_inc, if_neg fun same => h same.2.1]
    · rfl
  have own : u.chan c = (s.chan c).erred (s.encRuns c) := by rw [chan, if_pos rfl]
  rw [eq]
  clear eq
  by_cases losing : s.encRuns c = true ∧ 15 ≤ (s.chan c).illegals.length ∧ (s.chan c).present = true
  · rw [if_pos losing]
    obtain ⟨runs, many, present⟩ := losing
    obtain ⟨settledAfter, left, clkAfter⟩ :=
      loseSource_leaves (u.updChan c fun k => { k with lostIllegal := true }) c settled'
    refine ⟨fun d h => ?_, ?_⟩
    · obtain ⟨face, held, ctrs⟩ := left d
      refine ⟨settledAfter, ?_, ?_, ?_, fun d lo hi => (clkAfter d lo hi).trans (clk d)⟩
      · rw [face, chan_updChan, if_neg h, chan_updChan, if_neg h, (others d h).1]
      · rw [held, chan_updChan, if_neg h, (others d h).1]
      · exact ctrs.trans (others d h).2
    · obtain ⟨face, -, ctrs⟩ := left c
      rw [chan_updChan, if_pos rfl, chan_updChan, if_pos rfl, own] at face
      obtain ⟨a, b, edges, present', -⟩ := inputs_of_face face
      exact ⟨settledAfter, a, b, edges, present'.trans (if_pos ⟨runs, many⟩).symm, ctrs.trans (ctr c)⟩
  · rw [if_neg losing]
    refine ⟨fun d h => ?_, settled', ?_, ?_, ?_, ?_, ctr c⟩
    · obtain ⟨chan, ctr⟩ := others d h
      exact ⟨settled', by rw [chan], by rw [chan], ctr, fun d _ _ => clk d⟩
    · rw [own]
      rfl
    · rw [own]
      rfl
    · rw [own]
      rfl
    · rw [own]
      split
      · next lost => exact Bool.eq_false_iff.2 fun present => losing ⟨lost.1, lost.2, present⟩
      · rfl

/-- A channel with fewer than 15 illegal transitions keeps the mode. -/
theorem illegalStep_mode (s : State) (c : Nat) (few : (s.chan c).illegals.length < 15) :
    (s.illegalStep c).mode = s.mode ∧ ∀ d, d ≠ c → (s.illegalStep c).chan d = s.chan d := by
  obtain ⟨u, chan, -, mode, -, -, eq⟩ := illegalStep_eq s c
  rw [eq, if_neg fun losing => by omega]
  exact ⟨mode, fun d h => by rw [chan, if_neg h]⟩

/-- Channels with fewer than 15 illegal transitions each keep the mode. -/
theorem forEach_illegalStep_mode (xs : List Nat) (once : xs.Nodup) (s : State)
    (few : ∀ c ∈ xs, (s.chan c).illegals.length < 15) : (forEach xs (fun c s => s.illegalStep c) s).mode = s.mode := by
  induction xs generalizing s with
  | nil => rfl
  | cons x xs ih =>
    obtain ⟨fresh, once⟩ := List.nodup_cons.1 once
    obtain ⟨mode, others⟩ := illegalStep_mode s x (few x (List.mem_cons_self ..))
    refine (ih once _ fun c mem => ?_).trans mode
    rw [others c fun same => fresh (same ▸ mem)]
    exact few c (List.mem_cons_of_mem x mem)

/-- Illegal transitions keep a state without a stop through an entry to a P3 mode; of another channel's, all that
one's own turns on. -/
def Passes (c : Nat) (s u : State) : Prop := s.settledMode → Past c s u

theorem Passes.refl (c : Nat) (s : State) : Passes c s s := fun settled => ⟨settled, rfl, rfl, rfl, fun _ _ _ => rfl⟩
theorem Passes.trans {c : Nat} {s u v : State} (h : Passes c s u) (k : Passes c u v) : Passes c s v := fun settled => by
  have past := h settled
  have then_ := k past.settled
  exact ⟨then_.settled, then_.face.trans past.face, then_.held.trans past.held, then_.ctr.trans past.ctr,
    fun d lo hi => (then_.clk d lo hi).trans (past.clk d lo hi)⟩

theorem Past.encRuns {c : Nat} {s u : State} (h : Past c s u) (unit : (s.chan c).unit < 4) :
    u.encRuns c = s.encRuns c := by
  obtain ⟨-, -, -, -, -, source', unit'⟩ := inputs_of_face h.face
  unfold State.encRuns
  simp only [source', unit', h.held, h.clk (91 + (s.chan c).unit) (by omega) (by omega)]

theorem Past.illegals {c : Nat} {s u : State} (h : Past c s u) : (u.chan c).illegals = (s.chan c).illegals := by
  obtain ⟨-, -, edges, -, illegal, -⟩ := inputs_of_face h.face
  unfold Chan.illegals
  rw [edges, illegal]

/-- ENC_ERROR (R84). -/
theorem encError_row (s : State) (u : Fin 4) (settled : s.settledMode) : ∃ t, exec (.encError u) s = .next t ∧
     (∀ c : Fin 4, (s.chan c).source = .enc → (s.chan c).unit = u →
       (t.chan c).a = !(s.chan c).a ∧ (t.chan c).b = !(s.chan c).b ∧ (t.chan c).edges = (s.chan c).edges ∧
       (s.encRuns c = true → t.ctr 6 c 1 = s.ctr 6 c 1 + 1 ∧
         (((s.chan c).illegal.filter fun e => decide ((s.chan c).edges - e < 1024)).length < 15 →
           (t.chan c).present = (s.chan c).present) ∧
         (15 ≤ ((s.chan c).illegal.filter fun e => decide ((s.chan c).edges - e < 1024)).length →
           (t.chan c).present = false)) ∧
       (s.encRuns c = false → t.ctr 6 c 1 = s.ctr 6 c 1)) ∧
     ((∀ c : Fin 4, (s.chan c).source = .enc → (s.chan c).unit = u →
         ((s.chan c).illegal.filter fun e => decide ((s.chan c).edges - e < 1024)).length < 15) → t.mode = s.mode) := by
  let s1 := s.setInputs u (!(tget 0 s.encs u).getLsbD 0) (!(tget 0 s.encs u).getLsbD 1)
  refine ⟨forEach (s1.encChans u) (fun c s => s.illegalStep c) s1, rfl, fun c source unit => ?_, fun few => ?_⟩
  · obtain ⟨-, once⟩ := forEach_once (Passes c) (Passes.refl c) Passes.trans (fun c s => s.illegalStep c) c
      (fun d v other settled => (illegalStep_leaves v d settled).1 c other) (s1.encChans u) (nodup_encChans s1 u) s1
    obtain ⟨v, before, after⟩ := once ((mem_encChans s1 u c).2 ⟨source, unit, c.isLt⟩)
    have was : Past c s1 v := before settled
    obtain ⟨-, left, a, b, edges, present, ctr⟩ := illegalStep_leaves v c was.settled
    have now := after left
    generalize forEach (s1.encChans u) (fun c s => s.illegalStep c) s1 = t at *
    obtain ⟨a1, b1, edges1, present1, -⟩ := inputs_of_face was.face
    obtain ⟨a2, b2, edges2, present2, -⟩ := inputs_of_face now.face
    have runs := was.encRuns (unit ▸ u.isLt)
    have many := was.illegals
    rw [runs, many, present1] at present
    rw [runs] at ctr
    refine ⟨?_, ?_, ?_, fun counts => ⟨?_, fun few => ?_, fun lost => ?_⟩, fun stopped => ?_⟩
    · rw [a2, a, a1]
      rfl
    · rw [b2, b, b1]
      rfl
    · rw [edges2, edges, edges1]
      rfl
    · have counts : s1.encRuns c = true := counts
      rw [now.ctr, ctr, if_pos counts, ctr_inc, if_pos ⟨rfl, rfl, rfl, by simp [ctrIn]; omega⟩, was.ctr]
      rfl
    · rw [present2, present, if_neg fun lost => by exact absurd lost.2 (Nat.not_le.2 few)]
      rfl
    · rw [present2, present, if_pos ⟨counts, lost⟩]
    · have stopped : s1.encRuns c = false := stopped
      rw [now.ctr, ctr, if_neg (by simp [stopped]), was.ctr]
      rfl
  · exact forEach_illegalStep_mode _ (nodup_encChans s1 u) s1 fun c mem => by
      obtain ⟨source, unit, below⟩ := (mem_encChans s1 u c).1 mem
      exact few ⟨c, below⟩ source unit

/-! The loss and return of a source (R85 to R87, R108). -/

theorem Told.haltSource {s t : State} (h : Told s t) : t.haltSource = s.haltSource :=
  (congrArg State.haltSource h.rest :)

/-- A lost source is absent and counted. -/
theorem loseSource_counted (s : State) (c : Fin 4) :
    ((s.loseSource c).chan c).present = false ∧ (s.loseSource c).ctr 6 c 3 = s.ctr 6 c 3 + 1 := by
  obtain ⟨-, -, faces, ticks, -⟩ := watch_iff.1 (watch_loseSource s false c nofun)
  obtain ⟨-, -, -, present, -⟩ := inputs_of_face (faces c)
  refine ⟨?_, ?_⟩
  · rw [present, chan_of_chans (chans_inc _ 6 c 3 1), chan_updChan, if_pos rfl]
  · rw [ticks c 3 (by decide) (by decide), ctr_inc, if_pos ⟨rfl, rfl, rfl, by simp [ctrIn]; omega⟩]
    rfl

theorem encSignalLoss_row (s : State) (c : Fin 4) (z : Bool) (runs : s.encRuns c = true)
    (present : (s.chan c).present = true) (checked : z = false ∨ (s.chan c).indexCheck = true) :
    ∃ t, exec (.encSignalLoss c z) s = .next t ∧ (t.chan c).present = false ∧ t.ctr 6 c 3 = s.ctr 6 c 3 + 1 ∧
      (s.chanInUse c = true → s.mode.p3 = true → t.mode = .halted ∧ t.haltCauses.getLsbD 1 = true) ∧
      (s.chanInUse c = false → t.mode = s.mode) := by
  have lost : exec (.encSignalLoss c z) s = .next (s.loseSource c) :=
    congrArg Host.Outcome.next (if_pos ⟨runs, present, checked.imp_left fun h => by simp [h]⟩)
  obtain ⟨absent, counted⟩ := loseSource_counted s c
  exact ⟨_, lost, absent, counted, loseSource_halts s c, fun unused => (loseSource_unused s c unused).2⟩

theorem tbSourceBack_row (s : State) (c : Fin 4) (runs : s.encRuns c = true) (absent : (s.chan c).present = false)
    (signal : (s.chan c).lostIllegal = false) :
    ∃ t, exec (.tbSourceBack c) s = .next t ∧ (t.chan c).present = true ∧ t.haltSource.getLsbD c = false ∧
      t.mode = s.mode ∧ (t.chan c).base = (s.chan c).base := by
  have back : exec (.tbSourceBack c) s = .next (s.sourceBack c) :=
    congrArg Host.Outcome.next (if_pos ⟨runs, by simp [absent], by simp [signal]⟩)
  refine ⟨_, back, ?_⟩
  unfold State.sourceBack
  extract_lets present cleared again
  have same : again.chan = present.chan ∧ again.mode = s.mode ∧ again.haltSource = cleared.haltSource := by
    simp only [again]
    unfold State.sourcesAgain
    split <;> exact ⟨rfl, rfl, rfl⟩
  obtain ⟨chan, mode, halt⟩ := same
  clear_value again
  have telling := Told.raiseTo again (again.chanCabs c []) (again.evChan 0x0104 c (again.chan c).source.code c 0)
  generalize again.raiseTo (again.chanCabs c []) (again.evChan 0x0104 c (again.chan c).source.code c 0) = t at *
  rw [chan_of_chans telling.chans, chan, chan_updChan, if_pos rfl]
  refine ⟨rfl, ?_, telling.mode.trans mode, rfl⟩
  refine (congrArg (fun causes : BitVec 4 => causes.getLsbD c) (telling.haltSource.trans halt)).trans ?_
  simp [cleared]

theorem encIndex_row (s : State) (c : Fin 4) (runs : s.encRuns c = true) :
    ∃ t, exec (.encIndex c) s = .next t ∧ (t.chan c).zSeen = true ∧ (t.chan c).edgesAtZ = (s.chan c).edges ∧
      (t.chan c).base = (s.chan c).base ∧ t.mode = s.mode ∧
      t.ctr 6 c 2 = s.ctr 6 c 2 + (if (s.chan c).indexCheck = true ∧ (s.chan c).zSeen = true ∧
        (s.chan c).edges - (s.chan c).edgesAtZ ≠ (s.chan c).indexPeriod then 1 else 0) := by
  let marked := s.updChan c fun k => { k with zSeen := true, edgesAtZ := k.edges }
  let n := (s.chan c).edges - (s.chan c).edgesAtZ
  have telling := Told.raiseTo (marked.inc 6 c 2 1) (marked.chanCabs c [])
    (marked.evChan 0x0107 c 0 c (w2 n))
  have seen : exec (.encIndex c) s = .next (if (s.chan c).indexCheck = true ∧ (s.chan c).zSeen = true ∧
      n ≠ (s.chan c).indexPeriod then (marked.inc 6 c 2 1).raiseTo (marked.chanCabs c [])
        (marked.evChan 0x0107 c 0 c (w2 n)) else marked) :=
    congrArg Host.Outcome.next (if_neg (by simp [runs]))
  have chan : marked.chan c = { s.chan c with zSeen := true, edgesAtZ := (s.chan c).edges } := by simp [marked]
  refine ⟨_, seen, ?_⟩
  by_cases wrong : (s.chan c).indexCheck = true ∧ (s.chan c).zSeen = true ∧ n ≠ (s.chan c).indexPeriod
  · rw [if_pos wrong, if_pos wrong, chan_of_chans telling.chans, chan_of_chans (chans_inc marked 6 c 2 1), chan]
    refine ⟨rfl, rfl, rfl, telling.mode.trans (by rw [inc_eq]; rfl), ?_⟩
    rw [telling.ctr 6 c 2 (by simp [reportCtr]), ctr_inc, if_pos ⟨rfl, rfl, rfl, by simp [ctrIn]; omega⟩]
    rfl
  · rw [if_neg wrong, if_neg wrong, chan]
    exact ⟨rfl, rfl, rfl, rfl, (BitVec.add_zero _).symm⟩

theorem syncLoss_row (s : State) (c : Fin 4) (remote : (s.chan c).source = .remote)
    (present : (s.chan c).present = true)
    (runs : s.clkOk 95 = true) (late : 100000 ≤ s.now - (s.chan c).syncAt) :
    ∃ t, exec (.syncLoss c) s = .next t ∧ (t.chan c).present = false ∧ t.ctr 6 c 3 = s.ctr 6 c 3 + 1 ∧
      (s.chanInUse c = false → t.chanPos c = s.chanPos c ∧ t.mode = s.mode) := by
  have lost : exec (.syncLoss c) s = .next ((s.rebase c).loseSource c) :=
    congrArg Host.Outcome.next (if_pos ⟨remote, present, runs, late⟩)
  obtain ⟨absent, counted⟩ := loseSource_counted (s.rebase c) c
  refine ⟨_, lost, absent, counted, fun unused => ?_⟩
  obtain ⟨chans, mode⟩ := loseSource_unused (s.rebase c) c unused
  refine ⟨?_, mode⟩
  have chan : ((s.rebase c).loseSource c).chan c =
      { s.chan c with base := s.chanPos c, t0 := s.now, axis0 := s.axisAt (s.chan c).unit, present := false } := by
    rw [chan_of_chans chans]
    simp [State.rebase]
  have stands : ∀ v : State, (v.chan c).source = .remote → (v.chan c).present = false →
      v.chanPos c = (v.chan c).base := by
    intro v source gone
    simp [State.chanPos, source, gone]
  rw [stands _ (by rw [chan]; exact remote) (by rw [chan]), chan]

/-- Settles O33: an edge by `encEdge_row`, an illegal transition by `encError_row`, then the loss and return of a
source. -/
theorem encoderEvents : Obligations.EncoderEvents := by
  unfold Obligations.EncoderEvents
  refine ⟨encEdge_row, fun s u outside => encError_row s u fun stops => ?_, fun s c =>
    ⟨encSignalLoss_row s c, tbSourceBack_row s c, encIndex_row s c, syncLoss_row s c⟩⟩
  rcases outside with p3 | still
  · exact p3
  · simpa [State.stops, still] using stops

end Sys2Proof.Machine
end

section
/-! PROOFS. The BED commands: a configuration, front ends, the pitch, the graft table (R93, R115, R117, R134, R136,
R143). -/

namespace Sys2Proof.Machine

theorem bed_of_beds {s t : State} (h : t.beds = s.beds) : t.bed = s.bed :=
  funext fun b => congrArg (fun beds => (tget {} beds b : Bed)) h
theorem Served.bed {s t : State} (h : Served s t) : t.bed = s.bed := bed_of_beds (congrArg State.beds h.rest :)

/-! BED.CONFIG (R134 to R136). -/

/-- What is watched of a bed. -/
theorem bed_of_watch {s t : State} (h : s.watch true = t.watch true) (b : Nat) :
    (s.bed b).cfg = (t.bed b).cfg ∧ (s.bed b).cfgNext = (t.bed b).cfgNext ∧ (s.bed b).slotNo = (t.bed b).slotNo := by
  obtain ⟨-, -, -, -, -, -, beds⟩ := watch_iff.1 h
  simpa only [Bed.face, Prod.mk.injEq] using beds rfl b

/-- A configuration that takes effect is the one in force, and none waits (R134). -/
theorem bed_applyCfg (s : State) (b : Nat) (c : BedCfg) :
    ((s.applyCfg b c).bed b).cfg = c ∧ ((s.applyCfg b c).bed b).cfgNext = none := by
  unfold State.applyCfg
  extract_lets old lit grafted settled started
  have kept : started.watch true = lit.watch true := by
    have grafting : grafted.watch true = lit.watch true := by
      simp only [grafted]
      split
      · rfl
      · exact watch_updBed _ _ _ _ fun _ _ => rfl
    have settling : settled.watch true = grafted.watch true :=
      (watch_settingsChanged _ _ _).trans (watch_chooseRef _ _ _)
    refine Eq.trans ?_ (settling.trans grafting)
    simp only [started]
    split
    · exact watch_startTemp _ _ _
    · rfl
  have lighting : lit.watch true = _ := watch_relight s true b _
  obtain ⟨cfg, next, -⟩ := bed_of_watch (watch_recheckPlaces (started.restartBed b) true b 2) b
  obtain ⟨cfg', next', -⟩ := bed_of_watch (kept.trans lighting) b
  clear_value started
  have restart : ((started.restartBed b).bed b).cfg = (started.bed b).cfg ∧
      ((started.restartBed b).bed b).cfgNext = (started.bed b).cfgNext := by
    simp [State.restartBed]
  rw [cfg, next, restart.1, restart.2, cfg', next', bed_updBed, if_pos rfl]
  exact ⟨rfl, rfl⟩

/-- BED.CONFIG in a P3 mode: the halt of an open cover or of a supply leaves the configuration. -/
theorem bedConfig_commit (s : State) (r : Req) (p3 : s.mode.p3 = true) :
    ((bedConfig.commit s r).s.bed (r.u8 0)).cfg = r.bedCfg ∧
      ((bedConfig.commit s r).s.bed (r.u8 0)).cfgNext = none := by
  have applied := bed_applyCfg s (r.u8 0) r.bedCfg
  have mode : (s.applyCfg (r.u8 0) r.bedCfg).mode.p3 = true := by
    rw [mode_of_core (core_applyCfg s (r.u8 0) r.bedCfg)]
    exact p3
  have commit : (bedConfig.commit s r).s = (let u := s.applyCfg (r.u8 0) r.bedCfg
      if u.bedCover (r.u8 0) then u.protect 0 true
      else if !u.suppliesGood then (u.breach 0 (u.chanPos 0)).protect 5 true else u) := if_pos p3
  dsimp only at commit
  generalize s.applyCfg (r.u8 0) r.bedCfg = u at *
  have kept : (bedConfig.commit s r).s.watch true = u.watch true := by
    rw [commit]
    split
    · exact watch_protect u true 0 true fun _ => mode
    · split
      · refine (watch_protect _ true 5 true fun _ => ?_).trans (watch_breach u true 0 _)
        rw [breach_frame]
        exact mode
      · rfl
  obtain ⟨cfg, next, -⟩ := bed_of_watch kept (r.u8 0)
  rw [cfg, next]
  exact applied

/-- A command counted in a state with other beds and comparators. -/
theorem served_beds {s t : State} {r : Req} {beds : Tab Bed} {comps : Tab (Option Cmp)}
    (served : Served { s.counted r with beds, comps } t) : Served { s with beds := t.beds, comps := t.comps } t := by
  have counted : ({ s with beds, comps } : State).counted r = { s.counted r with beds, comps } := by
    unfold State.counted State.inc
    split <;> rfl
  have beds' : t.beds = beds := (congrArg State.beds served.rest :)
  have comps' : t.comps = comps := (congrArg State.comps served.rest :)
  rw [beds', comps']
  exact (Served.counted _ r).trans (counted ▸ served)

theorem beds_counted (s : State) (r : Req) : (s.counted r).beds = s.beds := by
  obtain ⟨cs, counted⟩ := counted_eq s r
  rw [counted]

theorem comps_counted (s : State) (r : Req) : (s.counted r).comps = s.comps := by
  obtain ⟨cs, counted⟩ := counted_eq s r
  rw [counted]

/-- The cover of a bed's own number, as a mask (Table BD-7). -/
theorem ownCover_eq (b : Nat) (h : b ≤ 3) : 1#4 <<< b = BitVec.ofNat 4 (2 ^ b) := by
  obtain rfl | rfl | rfl | rfl : b = 0 ∨ b = 1 ∨ b = 2 ∨ b = 3 := by omega
  all_goals decide

theorem bedConfig_row : Completes bedConfig .bedConfig fun r s t _ =>
    (s.mode = .idle → Served { s with beds := t.beds } t ∧ (∀ b, b ≠ r.u8 0 → t.bed b = s.bed b) ∧
      t.bed (r.u8 0) = { s.bed (r.u8 0) with cfgNext := some r.bedCfg }) ∧
    (s.mode ≠ .idle →
    let x := t.bed (r.u8 0)
    x.cfgNext = none ∧ x.segMask = BitVec.ofNat 8 (r.u8 1) ∧ x.seqLen = r.u8 2 ∧
      t.coverMask (r.u8 0) = BitVec.ofNat 4 (r.u8 3) ∧
      x.slotCycles = r.u16 4 ∧ x.spWidth = r.u8 6 ∧ x.lead = r.u8 7 ∧ x.tapMap = bit (r.u8 8) 0 ∧
      x.clkInvert = bit (r.u8 8) 1 ∧ x.darkCount = r.u8 9 ∧ x.darkLimit = r.u16 0x0A ∧
      (∀ i, i < 4 → x.phase.getD i 0 = r.u8 (0x0C + i)) ∧
      ∀ e, e < 8 → x.seq.getD e 0 = BitVec.ofNat 8 (r.u8 (0x10 + e))) := by
  refine completes_of_commit _ _ _ (fun _ _ _ => rfl) rfl fun m n s c accepted t served _ => ?_
  let r := s.reqOf m n c
  have before := Served.counted s r
  refine ⟨fun idle => ?_, fun busy => ?_⟩
  · have commit : (bedConfig.commit (s.counted r) r).s =
        (s.counted r).updBed (r.u8 0) fun x => { x with cfgNext := some r.bedCfg } :=
      if_neg (by rw [before.mode, idle]; decide)
    rw [commit] at served
    have comps : t.comps = s.comps := (congrArg State.comps served.rest :).trans (comps_counted s r)
    refine ⟨?_, fun b other => ?_, ?_⟩
    · have kept := served_beds (comps := (s.counted r).comps) served
      rw [comps] at kept
      exact kept
    · rw [served.bed, bed_updBed, if_neg other, before.bed]
    · rw [served.bed, bed_updBed, if_pos rfl, before.bed]
  · obtain ⟨legal, -⟩ := accepted.stated
    have set : mSet s.mode = true := by
      cases failed : s.bootFailed
      · simpa [failed, bedConfig] using legal
      · simp [failed, bedConfig] at legal
    have p3 : (s.counted r).mode.p3 = true := by
      rw [before.mode]
      revert set busy
      cases s.mode <;> decide
    obtain ⟨cfg, next⟩ := bedConfig_commit (s.counted r) r p3
    rw [← served.bed] at cfg next
    have bed : r.u8 0 ≤ 3 := by
      have ok := need_none (accepted.checked.1 _ (List.mem_cons_self ..))
      simpa using ok
    simp only [Bed.cfg, Req.bedCfg, BedCfg.mk.injEq] at cfg
    obtain ⟨segMask, seqLen, coverMask, slotCycles, spWidth, lead, tapMap, clkInvert, darkCount, darkLimit, phase,
        seq⟩ := cfg
    refine ⟨next, segMask, seqLen, ?_, slotCycles, spWidth, lead, tapMap, clkInvert, darkCount, darkLimit, ?_, ?_⟩
    · unfold State.coverMask
      rw [coverMask]
      split
      · next own => rw [own]; exact ownCover_eq _ bed
      · rfl
    · intro i hi
      rw [phase]
      simp [hi, r]
    · intro e he
      rw [seq]
      simp [bedSeq, he, r]

/-! BED.AFE (R115 to R118). -/

/-- An entry set is the one of its key, and the others were there. -/
theorem mem_tset {α : Type} [DecidableEq α] {d : α} {t : Tab α} {i : Nat} {v : α} {e : Nat × α} (h : e ∈ tset d t i v) :
    e = (i, v) ∨ e ∈ t ∧ e.1 ≠ i := by
  have kept : ∀ {u : Tab α}, e ∈ tins i v u → e = (i, v) ∨ e ∈ u := by
    intro u
    induction u with
    | nil => simp [tins]
    | cons x u ih =>
      unfold tins
      split
      · simp
      · simp only [List.mem_cons]
        rintro (rfl | mem)
        · exact .inr (.inl rfl)
        · exact (ih mem).imp_right .inr
  unfold tset at h
  split at h
  · exact .inr (by simpa using h)
  · exact (kept h).imp_right fun mem => by simpa using mem

/-- A table lists a value for a key, and no other for it. -/
def Lists {α : Type} (t : Tab (Option α)) (k : Nat) (a : α) : Prop :=
  tget none t k = some a ∧ ∀ e ∈ t, e.1 = k → e.2 = some a

theorem mem_of_tget {α : Type} {t : Tab (Option α)} {k : Nat} {a : α} (h : tget none t k = some a) :
    (k, some a) ∈ t := by
  induction t with
  | nil => cases h
  | cons e t ih =>
    obtain ⟨i, v⟩ := e
    by_cases same : i = k
    · simp only [tget, same, if_true] at h
      simp [same, h]
    · simp only [tget, same, if_false] at h
      exact List.mem_cons_of_mem _ (ih h)

/-- Settings accepted for some taps, each given its own, are listed for each of them. -/
theorem lists_foldl {α : Type} [DecidableEq α] (base : Nat) (val : Nat → α) (tap : Nat) (xs : List Nat)
    (m : Tab (Option α))
    (h : tap ∈ xs ∨ Lists m (base + tap) (val tap)) :
    Lists (xs.foldl (fun m t => tset none m (base + t) (some (val t))) m) (base + tap) (val tap) := by
  induction xs generalizing m with
  | nil => simpa using h
  | cons x xs ih =>
    refine ih _ ?_
    by_cases same : x = tap
    · subst same
      refine .inr ⟨by simp, fun e mem key => ?_⟩
      rcases mem_tset mem with rfl | ⟨-, other⟩
      · rfl
      · exact absurd key other
    · rcases h with mem | ⟨read, only⟩
      · exact .inl ((List.mem_cons.1 mem).resolve_left (Ne.symm same))
      · have other : base + tap ≠ base + x := by omega
        refine .inr ⟨by rw [tget_tset, if_neg other, read], fun e mem key => ?_⟩
        rcases mem_tset mem with rfl | ⟨mem, -⟩
        · exact absurd key.symm other
        · exact only e mem key

/-- Settings that a slot takes: the one listed for a key is in force there. -/
theorem afe_taken (k : Nat) (a : Afe) (m : Tab (Option Afe)) (base : Tab Afe) (only : ∀ e ∈ m, e.1 = k → e.2 = some a)
    (h : (k, some a) ∈ m ∨ tget {} base k = a) :
    tget {} (m.foldl (fun (m : Tab Afe) (x : Nat × Option Afe) => match x.2 with
      | some a => tset {} m x.1 a
      | none => m) base) k = a := by
  induction m generalizing base with
  | nil => simpa using h
  | cons e m ih =>
    refine ih _ (fun x mem => only x (List.mem_cons_of_mem _ mem)) ?_
    obtain ⟨i, v⟩ := e
    by_cases same : i = k
    · have v_eq : v = some a := only (i, v) (List.mem_cons_self ..) same
      exact .inr (by simp [v_eq, same])
    · refine h.imp (fun mem => (List.mem_cons.1 mem).resolve_left fun e => same (congrArg Prod.fst e).symm)
          fun was => ?_
      cases v with
      | none => exact was
      | some b => simp [Ne.symm same, was]

/-- The front ends of a bed, in force and accepted, are kept by a check of its settings. -/
theorem afe_settingsChanged (s : State) (b : Nat) (d : Nat) :
    ((s.settingsChanged b).bed d).afe = (s.bed d).afe ∧ ((s.settingsChanged b).bed d).afeNext = (s.bed d).afeNext := by
  have stale : (s.noteStale b).bed = s.bed := bed_of_beds (by
    unfold State.noteStale
    split
    · exact forEach_keeps (P := fun t : State => t.beds = s.beds) (fun (d : Doc) s => s.bedFlag b d.acc 0x10)
        (fun _ _ kept => kept) _ s rfl
    · rfl)
  unfold State.settingsChanged
  rw [bed_updBed, stale]
  split
  · next same => rw [same]; exact ⟨rfl, rfl⟩
  · exact ⟨rfl, rfl⟩

/-- The settings that BED.AFE gives a tap (Table BD-8). -/
def Req.afe (r : Req) (tap : Nat) : Afe := { gain := r.u16 (4 + 2 * tap), offset := r.s16 (0x0C + 2 * tap) }

/-- BED.AFE: accepted settings wait for a slot, or are taken at once where the bed's clocks stand (R117). -/
theorem bedAfe_commit (s : State) (r : Req) (tap : Nat) (inMask : bit (r.u8 2) tap = true) (h : tap < 4) :
    let x := (bedAfe.commit s r).s.bed (r.u8 0)
    (s.bedClock (r.u8 0) = true → tget none x.afeNext (4 * r.u8 1 + tap) = some (r.afe tap) ∧
      x.afe = (s.bed (r.u8 0)).afe) ∧
    (s.bedClock (r.u8 0) = false → x.afeOf (r.u8 1) tap = r.afe tap) := by
  let next := (List.range 4).filter fun t => bit (r.u8 2) t
  let accepted := s.updBed (r.u8 0) fun x =>
    { x with afeNext := next.foldl (fun m t => tset none m (4 * r.u8 1 + t) (some (r.afe t))) x.afeNext }
  have commit : (bedAfe.commit s r).s =
      (if accepted.bedClock (r.u8 0) then accepted else accepted.takeAfe (r.u8 0)).settingsChanged (r.u8 0) := rfl
  have bed : accepted.bed (r.u8 0) = { s.bed (r.u8 0) with
      afeNext := next.foldl (fun m t => tset none m (4 * r.u8 1 + t) (some (r.afe t))) (s.bed (r.u8 0)).afeNext } := by
    simp [accepted]
  have listed : Lists (accepted.bed (r.u8 0)).afeNext (4 * r.u8 1 + tap) (r.afe tap) := by
    rw [bed]
    exact lists_foldl (4 * r.u8 1) r.afe tap next _ (.inl (by simp [next, h, inMask]))
  have clock : accepted.bedClock (r.u8 0) = s.bedClock (r.u8 0) := by
    unfold State.bedClock State.configured
    rw [bed]
    rfl
  have afe : (accepted.bed (r.u8 0)).afe = (s.bed (r.u8 0)).afe := by rw [bed]
  clear_value accepted
  obtain ⟨read, only⟩ := listed
  rw [commit, clock]
  refine ⟨fun runs => ?_, fun stands => ?_⟩
  · obtain ⟨kept, waits⟩ := afe_settingsChanged accepted (r.u8 0) (r.u8 0)
    rw [runs, if_pos rfl, kept, waits]
    exact ⟨read, afe⟩
  · obtain ⟨kept, -⟩ := afe_settingsChanged (accepted.takeAfe (r.u8 0)) (r.u8 0) (r.u8 0)
    unfold Bed.afeOf
    rw [stands, if_neg (by decide), kept]
    unfold State.takeAfe
    rw [bed_updBed, if_pos rfl]
    exact afe_taken _ _ _ _ only (.inl (mem_of_tget read))

theorem bedAfe_row : Completes bedAfe .bedAfe fun r s t _ => ∀ tap, tap < 4 → bit (r.u8 2) tap = true →
    let a : Afe := { gain := r.u16 (4 + 2 * tap), offset := r.s16 (0x0C + 2 * tap) }
    (s.bedClock (r.u8 0) = true → tget none (t.bed (r.u8 0)).afeNext (4 * r.u8 1 + tap) = some a ∧
      (t.bed (r.u8 0)).afe = (s.bed (r.u8 0)).afe) ∧
    (s.bedClock (r.u8 0) = false → (t.bed (r.u8 0)).afeOf (r.u8 1) tap = a) := by
  refine completes_of_commit _ _ _ (fun _ _ _ => rfl) rfl fun m n s c _ t served _ tap below inMask => ?_
  let r := s.reqOf m n c
  have before := Served.counted s r
  have clock : (s.counted r).bedClock (r.u8 0) = s.bedClock (r.u8 0) := by
    unfold State.bedClock State.configured
    rw [before.mode, before.bed]
  rw [served.bed, ← before.bed, ← clock]
  exact bedAfe_commit (s.counted r) r tap inMask below

/-! BED.PITCH (R93, R94). -/

/-- The comparator at which BED.PITCH has a pitch taken (R93). -/
def Req.pitchCmp (r : Req) : Cmp :=
  { owner := r.cab, chan := r.u8 1, action := 6, arg := BitVec.ofNat 32 (r.u8 0), dir := 0, notify := false,
    target := r.pos 0x10, period := 0, below := false, use := .pitch (BitVec.ofNat 64 (r.u64 8)) }

theorem bedPitch_row : Completes bedPitch .bedPitch fun r s t _ =>
    Served { s with beds := t.beds, comps := t.comps } t ∧
    (bit (r.u8 2) 0 = false → (t.bed (r.u8 0)) = { s.bed (r.u8 0) with
      chan := r.u8 1, pitch := BitVec.ofNat 64 (r.u64 8) } ∧ t.comps = s.comps) ∧
    (bit (r.u8 2) 0 = true → t.beds = s.beds ∧ ∃ k x, k < 48 ∧ s.comp k = none ∧ t.comp k = some x ∧ x.action = 6 ∧
      x.owner = r.cab ∧ x.chan = r.u8 1 ∧ x.target = r.pos 0x10 ∧ x.use = .pitch (BitVec.ofNat 64 (r.u64 8)) ∧
      ∀ j, j ≠ k → t.comp j = s.comp j) := by
  refine completes_of_commit _ _ _ (fun _ _ _ => rfl) rfl fun m n s c accepted t served _ => ?_
  let r := s.reqOf m n c
  have before := Served.counted s r
  cases at_ : bit (r.u8 2) 0
  · have commit : (bedPitch.commit (s.counted r) r).s =
        (s.counted r).updBed (r.u8 0) fun x => { x with chan := r.u8 1, pitch := BitVec.ofNat 64 (r.u64 8) } :=
      if_neg (by simp [at_])
    rw [commit] at served
    have comps : t.comps = s.comps := (congrArg State.comps served.rest :).trans (comps_counted s r)
    refine ⟨served_beds (comps := (s.counted r).comps) served, fun _ => ⟨?_, comps⟩, nofun⟩
    rw [served.bed, bed_updBed, if_pos rfl, before.bed]
  · have free : s.freeHost.isSome = true := by
      have ok := need_none (accepted.checked.2 _ (List.mem_singleton.2 rfl))
      simpa [at_, r] using ok
    obtain ⟨k, found⟩ := Option.isSome_iff_exists.1 free
    obtain ⟨pool, unarmed, -⟩ := freeHost_spec found
    have commit : (bedPitch.commit (s.counted r) r).s = (s.counted r).arm k r.pitchCmp := by
      have later : bit (r.u8 2) 0 = true := at_
      simp [bedPitch, later, freeHost_counted, found, Req.pitchCmp]
    rw [commit] at served
    have beds : t.beds = s.beds := (congrArg State.beds served.rest :).trans (beds_counted s r)
    refine ⟨served_beds (beds := (s.counted r).beds) served, nofun, fun _ => ⟨beds, k, _, pool, unarmed,
      (served.comp k).trans ((comp_setComp _ _ _ _).trans (if_pos rfl)), rfl, rfl, rfl, rfl, rfl, fun j other => ?_⟩⟩
    rw [served.comp, ← before.comp]
    exact (comp_setComp _ _ _ _).trans (if_neg other)

/-! BED.GRAFT (R141, R143). -/

theorem writePage_keeps (s : State) (page : Nat) (bytes : List Byte) (gen : Nat) :
    (s.writePage page bytes gen).beds = s.beds ∧ (s.writePage page bytes gen).jobs = s.jobs := by
  have frame := writePage_frame s page bytes gen
  generalize s.writePage page bytes gen = t at *
  exact ⟨(congrArg State.beds frame :), (congrArg State.jobs frame :)⟩

/-- Storing a table writes the Herbarium, and keeps the beds and the jobs. -/
theorem stored_keeps (s : State) (record : NvsRecord) (page : Nat) :
    ((s.beginRecord record).freeRecord page).beds = s.beds ∧
      ((s.beginRecord record).freeRecord page).jobs = s.jobs := by
  unfold State.freeRecord State.freePage
  exact writePage_keeps { s.beginRecord record with free := (s.beginRecord record).free + 63 } _ _ _

/-- The state in which BED.GRAFT stores its table where it is asked to and VIN12 lies within its limits (R143). -/
def State.graftStoring (s : State) (r : Req) : State :=
  if bit (r.u8 2) 0 && !(s.supply 0).outside then
    ((s.beginRecord (.graft (r.u8 0) (s.bed (r.u8 0)).graftStored)).freeRecord (21408 + 2 * r.u8 0)).updBed
        (r.u8 0) fun x =>
      { x with graftStored := x.graftStored.drop (x.graftStored.length - 1) ++ [graftOf r] }
  else s

theorem graftStoring_leaves (s : State) (r : Req) :
    (s.graftStoring r).jobs = s.jobs ∧ ((s.graftStoring r).bed (r.u8 0)).graft = (s.bed (r.u8 0)).graft ∧
    (bit (r.u8 2) 0 = true → (s.supply 0).outside = false →
      ((s.graftStoring r).bed (r.u8 0)).graftStored.getLast? = some (graftOf r)) ∧
    (bit (r.u8 2) 0 = false ∨ (s.supply 0).outside = true → s.graftStoring r = s) := by
  by_cases stores : (bit (r.u8 2) 0 && !(s.supply 0).outside) = true
  · obtain ⟨beds, jobs⟩ := stored_keeps s (.graft (r.u8 0) (s.bed (r.u8 0)).graftStored) (21408 + 2 * r.u8 0)
    unfold State.graftStoring
    generalize (s.beginRecord (.graft (r.u8 0) (s.bed (r.u8 0)).graftStored)).freeRecord (21408 + 2 * r.u8 0) = u at *
    rw [if_pos stores, bed_updBed, if_pos rfl, bed_of_beds beds]
    refine ⟨jobs, rfl, fun _ _ => by simp, fun not => ?_⟩
    rcases not with not | not <;> simp [not] at stores
  · have eq : s.graftStoring r = s := if_neg stores
    rw [eq]
    refine ⟨rfl, rfl, fun asked inside => absurd (by simp [asked, inside]) stores, fun _ => rfl⟩

theorem bedGraft_row : Completes bedGraft .bedGraft fun r s t _ => ∃ g : Graft, g.outFirst = r.u16 4 ∧
    g.outWidth = r.u16 6 ∧
    g.entries.length = r.u8 1 ∧ (∀ i, i < r.u8 1 → g.entries[i]? = some (graftEntryOf r i)) ∧
    ((∀ j ∈ s.jobs, j.current = false) → (t.bed (r.u8 0)).graft = some g ∧ (t.bed (r.u8 0)).graftNext = none) ∧
    ((∃ j ∈ s.jobs, j.current = true) → (t.bed (r.u8 0)).graft = (s.bed (r.u8 0)).graft ∧
      (t.bed (r.u8 0)).graftNext = some g) ∧
    (bit (r.u8 2) 0 = true → (s.supply 0).outside = false → (t.bed (r.u8 0)).graftStored.getLast? = some g) ∧
    (bit (r.u8 2) 0 = false ∨ (s.supply 0).outside = true →
      t.nvs = s.nvs ∧ (t.bed (r.u8 0)).graftStored = (s.bed (r.u8 0)).graftStored) := by
  refine completes_of_commit _ _ _ (fun _ _ _ => rfl) rfl fun m n s c _ t served _ => ?_
  let r := s.reqOf m n c
  have before := Served.counted s r
  have commit : (bedGraft.commit (s.counted r) r).s =
      if ((s.counted r).graftStoring r).jobs.any fun j => j.current
      then ((s.counted r).graftStoring r).updBed (r.u8 0) fun x => { x with graftNext := some (graftOf r) }
      else ((s.counted r).graftStoring r).updBed (r.u8 0) fun x =>
        { x with graft := some (graftOf r), graftNext := none } := rfl
  obtain ⟨jobs, graft, stored, still⟩ := graftStoring_leaves (s.counted r) r
  have jobs' : ((s.counted r).graftStoring r).jobs = s.jobs := jobs.trans (congrArg State.jobs before.rest :)
  rw [commit, jobs'] at served
  rw [before.bed] at graft
  rw [before.supply] at stored still
  refine ⟨graftOf r, rfl, rfl, by simp [graftOf, r], fun i hi => by simp [graftOf, r, hi], fun none_ => ?_,
      fun some_ => ?_,
    fun asked inside => ?_, fun not => ?_⟩
  · have idle : (s.jobs.any fun j => j.current) = false := by simpa using none_
    rw [idle, if_neg (by decide)] at served
    rw [served.bed, bed_updBed, if_pos rfl]
    exact ⟨rfl, rfl⟩
  · have busy : (s.jobs.any fun j => j.current) = true := by simpa using some_
    rw [busy, if_pos rfl] at served
    rw [served.bed, bed_updBed, if_pos rfl]
    exact ⟨graft, rfl⟩
  · rw [← stored asked inside, served.bed]
    split
    · rw [bed_updBed, if_pos rfl]
    · rw [bed_updBed, if_pos rfl]
  · rw [still not] at served
    have nvs : (s.counted r).nvs = s.nvs := (congrArg State.nvs before.rest :)
    rw [served.bed, ← before.bed, ← nvs]
    refine ⟨(congrArg State.nvs served.rest :).trans ?_, ?_⟩
    · split <;> rfl
    · split
      · rw [bed_updBed, if_pos rfl]
      · rw [bed_updBed, if_pos rfl]

/-- Settles O43: a configuration, front ends, the pitch, the graft table. -/
theorem bedCommands : Obligations.BedCommands := ⟨bedConfig_row, bedAfe_row, bedPitch_row, bedGraft_row⟩

end Sys2Proof.Machine
end

section
/-! PROOFS. LINE_TRIGGER: a trigger of a bed, its crossing, the line it fits (R90, R122, R126, R184, R549). -/

namespace Sys2Proof.Machine

/-- `t` is `s` but for beds, documents, counters, crossings and what telling changes. -/
def Lined (s t : State) : Prop :=
  Told { s with beds := t.beds, docs := t.docs, counters := t.counters, crossings := t.crossings } t

theorem Lined.of_eq {s t : State}
    (h : { t with beds := s.beds, docs := s.docs, counters := s.counters, crossings := s.crossings } = s) :
        Lined s t := by
  have same : { s with beds := t.beds, docs := t.docs, counters := t.counters, crossings := t.crossings } = t :=
    (congrArg (fun v : State =>
      { v with beds := t.beds, docs := t.docs, counters := t.counters, crossings := t.crossings }) h).symm
  unfold Lined
  rw [same]
  exact Told.refl t

theorem Told.docs {s t : State} (h : Told s t) : t.docs = s.docs := (congrArg State.docs h.rest :)
theorem Told.crossings {s t : State} (h : Told s t) : t.crossings = s.crossings := (congrArg State.crossings h.rest :)

theorem Lined.of_told {s t : State} (h : Told s t) : Lined s t where
  rest := by
    rw [h.beds, h.docs, h.crossings]
    exact h.rest
  cab := h.cab
  mbx := h.mbx
  ctr _ _ _ _ := rfl

theorem Lined.trans {s u t : State} (h : Lined s u) (k : Lined u t) : Lined s t where
  rest := by
    have rest := congrArg (fun v : State => { v with beds := t.beds, docs := t.docs, crossings := t.crossings }) h.rest
    exact k.rest.trans rest
  cab c := (k.cab c).trans (h.cab c)
  mbx m := (k.mbx m).trans (h.mbx m)
  ctr _ _ _ _ := rfl

/-- What ends a run of overruns: told, and the bed learns it (R124). -/
theorem flushOverrun_leaves (s : State) (b : Nat) :
    (∀ k, (s.flushOverrun b).bed k = if k = b then { s.bed b with overrun := none } else s.bed k) ∧
    (s.flushOverrun b).docs = s.docs ∧ (s.flushOverrun b).crossings = s.crossings ∧
    (∀ cls unit i, ¬ reportCtr cls i → (s.flushOverrun b).ctr cls unit i = s.ctr cls unit i) ∧
    Lined s (s.flushOverrun b) := by
  unfold State.flushOverrun
  split
  · next none_ =>
    refine ⟨fun k => ?_, rfl, rfl, fun _ _ _ _ => rfl, .of_eq rfl⟩
    split
    · next same => rw [same, ← none_]
    · rfl
  · next o run =>
    extract_lets e
    have told := Told.raiseTo (s.updBed b fun x => { x with overrun := none }) (if o.cab = 0 then [0] else [0, o.cab]) e
    generalize (s.updBed b fun x => { x with overrun := none }).raiseTo
        (if o.cab = 0 then [0] else [0, o.cab]) e = t at *
    have ended : Lined s (s.updBed b fun x => { x with overrun := none }) := .of_eq rfl
    refine ⟨fun k => ?_, told.docs, told.crossings, fun cls unit i h => told.ctr cls unit i h,
      ended.trans (.of_told told)⟩
    rw [bed_of_beds told.beds, bed_updBed]

/-- What a trigger leaves but its bed's line and its own count. -/
structure Taken (b : Nat) (s t : State) : Prop where
  others : ∀ k, k ≠ b → t.bed k = s.bed k
  acc : (t.bed b).acc = (s.bed b).acc
  zero : t.ctr 1 b 0 = s.ctr 1 b 0
  missed : ∀ d, t.ctr 0x0C d 0 = s.ctr 0x0C d 0
  crossings : t.crossings = s.crossings
  lined : Lined s t

theorem Taken.trans {b : Nat} {s u t : State} (h : Taken b s u) (k : Taken b u t) : Taken b s t where
  others c other := (k.others c other).trans (h.others c other)
  acc := k.acc.trans h.acc
  zero := k.zero.trans h.zero
  missed d := (k.missed d).trans (h.missed d)
  crossings := k.crossings.trans h.crossings
  lined := h.lined.trans k.lined

theorem Taken.updBed (s : State) (b : Nat) (f : Bed → Bed) (h : ∀ x, (f x).acc = x.acc) : Taken b s (s.updBed b f) where
  others k other := by rw [bed_updBed, if_neg other]
  acc := by rw [bed_updBed, if_pos rfl, h]
  zero := rfl
  missed _ := rfl
  crossings := rfl
  lined := .of_eq rfl

theorem Taken.updDoc (s : State) (b acc : Nat) (f : Doc → Doc) : Taken b s (s.updDoc acc f) :=
  ⟨fun _ _ => rfl, rfl, rfl, fun _ => rfl, rfl, .of_eq rfl⟩

theorem Taken.inc (s : State) (b i n : Nat) (h : i ≠ 0) : Taken b s (s.inc 1 b i n) where
  others k _ := by rw [inc_eq]; rfl
  acc := by rw [inc_eq]; rfl
  zero := by rw [ctr_inc, if_neg fun same => h same.2.2.1.symm]
  missed d := by rw [ctr_inc, if_neg fun same => absurd same.1 (by decide)]
  crossings := by rw [inc_eq]
  lined := .of_eq (by rw [inc_eq])

theorem Taken.flushOverrun (s : State) (b : Nat) : Taken b s (s.flushOverrun b) := by
  obtain ⟨beds, -, crossings, ctr, lined⟩ := flushOverrun_leaves s b
  exact ⟨fun k other => by rw [beds, if_neg other], by rw [beds, if_pos rfl], ctr _ _ _ (by simp [reportCtr]),
    fun d => ctr _ _ _ (by simp [reportCtr]), crossings, lined⟩

theorem Taken.fitLine (s : State) (b : Nat) (e : Exposing) : Taken b s (s.fitLine b e) :=
  (Taken.flushOverrun s b).trans (Taken.updBed _ b _ fun _ => rfl)

/-- A line fitted to the next slot ends a run of overruns. -/
theorem bed_fitLine (s : State) (b : Nat) (e : Exposing) :
    (s.fitLine b e).bed b = { s.bed b with overrun := none, fit := some e } := by
  obtain ⟨beds, -⟩ := flushOverrun_leaves s b
  unfold State.fitLine
  rw [bed_updBed, if_pos rfl, beds, if_pos rfl]

theorem ctr_fitLine (s : State) (b : Nat) (e : Exposing) (i : Nat) : (s.fitLine b e).ctr 1 b i = s.ctr 1 b i :=
  (flushOverrun_leaves s b).2.2.2.1 1 b i (by simp [reportCtr])

/-- A line of a document not fitted waits, and the bed's runs of overruns go on (R122). -/
structure Waits (b : Nat) (s t : State) (line : RawLine) : Prop where
  taken : Taken b s t
  count : t.ctr 1 b 11 = s.ctr 1 b 11 + 1
  fit : (t.bed b).fit = (s.bed b).fit
  delay : (t.bed b).delay = (s.bed b).delay ++ [line]

theorem Waits.flushOverrun {b : Nat} {s t : State} {line : RawLine} (h : Waits b s t line) :
    Waits b s (t.flushOverrun b) line := by
  obtain ⟨beds, -, -, ctr, -⟩ := flushOverrun_leaves t b
  exact ⟨h.taken.trans (.flushOverrun t b), (ctr 1 b 11 (by simp [reportCtr])).trans h.count,
    by rw [beds, if_pos rfl]; exact h.fit, by rw [beds, if_pos rfl]; exact h.delay⟩

theorem Waits.overrun {b : Nat} {s t : State} {line : RawLine} (h : Waits b s t line) (f : Bed → Option Overrun) :
    Waits b s (t.updBed b fun x => { x with overrun := f x }) line :=
  ⟨h.taken.trans (.updBed t b _ fun _ => rfl), h.count, by rw [bed_updBed, if_pos rfl]; exact h.fit,
    by rw [bed_updBed, if_pos rfl]; exact h.delay⟩

/-- A trigger of a document (R122, R124, R126). -/
theorem docTrigger_leaves (s : State) (b : Fin 4) (c : Course) (t : Pos) (reaches : Bool) :
    let v := s.docTrigger b c t reaches
    let x := s.bed b
    Taken b s v ∧ v.ctr 1 b 11 = s.ctr 1 b 11 + 1 ∧
    (reaches = true → x.fits = true → (v.bed b).fit = some { kind := 0, acc := c.acc, num := c.triggers + 1 } ∧
      (v.bed b).delay = x.delay) ∧
    (reaches = false ∨ x.fits = false → (v.bed b).fit = x.fit ∧
      (v.bed b).delay = x.delay ++ [{ num := c.triggers + 1, acc := c.acc }]) := by
  unfold State.docTrigger
  extract_lets isTail n coursed noted counted base waiting cab pos flushed v x
  have course : coursed.bed b = { s.bed b with courses := (coursed.bed b).courses } := by
    simp [coursed, State.updCourse]
  have coursing : Taken b s coursed := Taken.updBed s b _ fun _ => rfl
  have counting : Taken b s counted :=
    (coursing.trans (Taken.updDoc coursed b c.acc _)).trans (Taken.inc noted b 11 1 (by decide))
  have counted_bed : counted.bed b = coursed.bed b := by
    simp only [counted]
    rw [inc_eq]
    rfl
  have counted_ctr : counted.ctr 1 b 11 = s.ctr 1 b 11 + 1 := by
    simp only [counted]
    rw [ctr_inc, if_pos ⟨rfl, rfl, rfl, by simp [ctrIn]; omega⟩]
    rfl
  clear_value counted
  have bed : base.bed b = { s.bed b with courses := (coursed.bed b).courses } := by
    rw [← course, ← counted_bed]
    simp only [base]
    split
    · rw [inc_eq]
      rfl
    · rfl
  have taken : Taken b s base := by
    simp only [base]
    split
    · exact counting.trans (Taken.inc counted b 8 1 (by decide))
    · exact counting
  have count : base.ctr 1 b 11 = s.ctr 1 b 11 + 1 := by
    rw [← counted_ctr]
    simp only [base]
    split
    · rw [ctr_inc, if_neg (by simp)]
    · rfl
  have fits : (base.bed b).fits = (s.bed b).fits := by
    rw [bed]
    rfl
  clear_value base
  by_cases fit : (reaches && (base.bed b).fits) = true
  · have fitted : v = base.fitLine b { kind := 0, acc := c.acc, num := n } := if_pos fit
    rw [fits] at fit
    obtain ⟨reached, free⟩ := Bool.and_eq_true_iff.1 fit
    rw [fitted, bed_fitLine, ctr_fitLine, bed]
    refine ⟨taken.trans (Taken.fitLine base b _), count, fun _ _ => ⟨rfl, rfl⟩, fun not => ?_⟩
    simp [x, reached, free] at not
  · have waits : Waits b s waiting { num := n, acc := c.acc } := by
      refine ⟨taken.trans (.updBed base b _ fun _ => rfl), count, ?_, ?_⟩
      all_goals
        rw [bed_updBed, if_pos rfl, bed]
    have flushes : Waits b s flushed { num := n, acc := c.acc } := by
      simp only [flushed]
      split
      · split
        · exact waits
        · exact waits.flushOverrun
      · exact waits
    have ends : Waits b s v { num := n, acc := c.acc } := by
      simp only [v]
      rw [if_neg fit]
      split
      · exact waits
      · exact flushes.overrun _
    refine ⟨ends.taken, ends.count, fun reached free => absurd (by rw [reached, fits]; exact free) fit, fun _ =>
      ⟨ends.fit, ends.delay⟩⟩

/-- A trigger of a strip read (R184, R185). -/
theorem stripTrigger_leaves (s : State) (b : Fin 4) (r : StripRead) (reaches : Bool) :
    let v := s.stripTrigger b r reaches
    let x := s.bed b
    Taken b s v ∧ v.docs = s.docs ∧
    (s.stripBlocked b = false →
      (v.bed b).read = some { r with turn := r.turn + 1 } ∧ v.ctr 1 b 10 = s.ctr 1 b 10 + 1 ∧
      (reaches = true → x.fits = true → (v.bed b).fit = some { kind := 2, cab := s.stripCab r, num := r.turn }) ∧
      (reaches = false ∨ x.fits = false → (v.bed b).fit = x.fit)) ∧
    (s.stripBlocked b = true →
      (v.bed b).read = some { r with turn := (r.turn + 3) / 4 * 4, cycle := [], bad := false } ∧
      v.ctr 1 b 10 = s.ctr 1 b 10 ∧ (v.bed b).fit = x.fit) := by
  intro v x
  cases blocked : s.stripBlocked b
  · let turned := s.updBed b fun x => { x with read := some { r with turn := r.turn + 1 } }
    let counted := turned.inc 1 b 10 1
    have bed : counted.bed b = { s.bed b with read := some { r with turn := r.turn + 1 } } := by
      have kept : counted.bed b = turned.bed b := by
        simp only [counted]
        rw [inc_eq]
        rfl
      rw [kept, bed_updBed, if_pos rfl]
    have turning : Taken b s turned := Taken.updBed s b _ fun _ => rfl
    have taken : Taken b s counted := turning.trans (Taken.inc turned b 10 1 (by decide))
    have docs : counted.docs = s.docs := by
      simp only [counted]
      rw [inc_eq]
      rfl
    have count : counted.ctr 1 b 10 = s.ctr 1 b 10 + 1 := by
      simp only [counted]
      rw [ctr_inc, if_pos ⟨rfl, rfl, rfl, by simp [ctrIn]; omega⟩]
      rfl
    have cab : counted.stripCab r = s.stripCab r := by
      simp only [counted]
      rw [inc_eq]
      rfl
    have eq : v = if reaches && (counted.bed b).fits
        then counted.fitLine b { kind := 2, cab := counted.stripCab r, num := r.turn } else counted := by
      simp only [v]
      unfold State.stripTrigger
      rw [blocked]
      rfl
    have fits : (counted.bed b).fits = x.fits := by
      rw [bed]
      rfl
    clear_value counted
    rw [fits, cab] at eq
    rw [eq]
    by_cases fit : (reaches && x.fits) = true
    · obtain ⟨reached, free⟩ := Bool.and_eq_true_iff.1 fit
      rw [if_pos fit, bed_fitLine, ctr_fitLine, bed]
      exact ⟨taken.trans (Taken.fitLine counted b _), (flushOverrun_leaves counted b).2.1.trans docs,
        fun _ => ⟨rfl, count, fun _ _ => rfl, fun not => by simp [reached, free] at not⟩, nofun⟩
    · rw [if_neg fit, bed]
      exact ⟨taken, docs, fun _ => ⟨rfl, count, fun reached free => absurd (by simp [reached, free]) fit, fun _ => rfl⟩,
        nofun⟩
  · have eq : v = s.updBed b fun x =>
        { x with read := some { r with turn := (r.turn + 3) / 4 * 4, cycle := [], bad := false } } := if_pos blocked
    rw [eq, bed_updBed, if_pos rfl]
    exact ⟨Taken.updBed s b _ fun _ => rfl, rfl, nofun, fun _ => ⟨rfl, rfl, rfl⟩⟩

/-- An event that its crossing carries is delivered now, and none is counted. -/
theorem pulse_carried (s : State) (c src dst : Nat) (h : s.carries c (s.pulseGap dst) = true) :
    (tget ({} : Crossing) (s.pulse c src dst).1.crossings c).last = some s.now ∧
      (s.pulse c src dst).1.counters = s.counters := by
  have room : (tget ({} : Crossing) s.crossings c).full s.now = false := by
    unfold State.carries at h
    simp only [Bool.and_eq_true, Bool.not_eq_true'] at h
    exact h.1
  have delivered : (s.pulse c src dst).1 = (s.launch c src dst).deliveredNow c := by
    unfold State.pulse
    rw [room, h]
    rfl
  rw [delivered]
  refine ⟨?_, rfl⟩
  rw [crossing_deliveredNow, if_pos rfl]
  rfl

/-- A pulse crossing counts in the counters of the domains alone. -/
theorem ctr_pulse (s : State) (c src dst cls unit idx : Nat) (h : cls ≠ 0x0C) :
    (s.pulse c src dst).1.ctr cls unit idx = s.ctr cls unit idx := by
  have missed : ∀ u : State, (u.overrun c dst 1).ctr cls unit idx = u.ctr cls unit idx := fun u => by
    unfold State.overrun
    rw [if_neg (by decide), ctr_inc, if_neg fun same => h same.1]
    rfl
  unfold State.pulse
  split
  · exact missed s
  · split
    · rfl
    · exact missed (s.launch c src dst)

theorem pulseGap_bed (s : State) (b : Fin 4) : s.pulseGap (66 + b) = 960 := by
  have hz : s.clkHz (66 + b) = 200000000 := by
    obtain ⟨b, h⟩ := b
    obtain rfl | rfl | rfl | rfl : b = 0 ∨ b = 1 ∨ b = 2 ∨ b = 3 := by omega
    all_goals simp [State.clkHz]
  simp [State.pulseGap, hz]

/-- What a trigger's crossing leaves (R549). -/
theorem lineCross_leaves (s : State) (b : Fin 4) :
    let u := (s.lineCross b).1
    let carried := s.carries (lineCrossing b) 960
    (s.lineCross b).2 = carried ∧ { u with crossings := s.crossings, counters := s.counters } = s ∧
    (∀ i, u.ctr 1 b i = s.ctr 1 b i) ∧
    u.ctr 0x0C (66 + b) 0 = s.ctr 0x0C (66 + b) 0 + (if carried = true then 0 else 1) ∧
    (carried = true → (tget {} u.crossings (lineCrossing b)).last = some s.now) ∧
    (carried = false → (tget {} u.crossings (lineCrossing b)).ovr = true) := by
  intro u carried
  have frame := pulse_frame s (lineCrossing b) 95 (66 + b)
  have delivers := pulse_delivers s (lineCrossing b) 95 (66 + b)
  have ctr : ∀ i, u.ctr 1 b i = s.ctr 1 b i := fun i => ctr_pulse s _ _ _ 1 b i (by decide)
  rw [pulseGap_bed] at delivers
  refine ⟨delivers, frame, ctr, ?_⟩
  cases h : s.carries (lineCrossing b) 960
  · obtain ⟨ovr, count⟩ := pulse_missed s (lineCrossing b) 95 (66 + b) (by rw [pulseGap_bed]; exact h) (by omega)
    have missed : carried = false := h
    rw [missed]
    exact ⟨count, nofun, fun _ => ovr⟩
  · obtain ⟨last, counters⟩ := pulse_carried s (lineCrossing b) 95 (66 + b) (by rw [pulseGap_bed]; exact h)
    have through : carried = true := h
    have counts : u.ctr 0x0C (66 + b) 0 = s.ctr 0x0C (66 + b) 0 :=
      congrArg (fun cs => if ctrIn (66 + b) 0 then (tget 0 cs (ctrKey 0x0C (66 + b) 0) : BitVec 48) else 0) counters
    rw [through]
    exact ⟨by rw [counts]; simp, fun _ => last, nofun⟩

/-- A trigger that is due: the accumulator moves on, the trigger is offered to its crossing, and what the bed serves
takes it (R90, R549). -/
theorem lineTrigger_due (s : State) (b : Fin 4) (due : s.triggerDue b = true) (clock : s.bedClock b = true)
    (first : ∀ kc ∈ s.dueComps, 4 ≤ actionRank kc.2.action) :
    let x := s.bed b
    let carried := s.carries (lineCrossing b) 960
    ∃ u : State, { u with beds := s.beds, crossings := s.crossings, counters := s.counters } = s ∧
      u.bed b = { x with acc := x.acc + x.pitch.setWidth 80 } ∧ (∀ k, k ≠ b.val → u.bed k = s.bed k) ∧
      (∀ i, u.ctr 1 b i = s.ctr 1 b i) ∧
      u.ctr 0x0C (66 + b) 0 = s.ctr 0x0C (66 + b) 0 + (if carried = true then 0 else 1) ∧
      (carried = true → (tget {} u.crossings (lineCrossing b)).last = some s.now) ∧
      (carried = false → (tget {} u.crossings (lineCrossing b)).ovr = true) ∧
      (∀ c, x.course = some c →
        exec (.lineTrigger b) s = .next (u.docTrigger b c (x.acc.extractLsb' 16 64) carried)) ∧
      ∀ r, x.course = none → x.read = some r → r.phase = 0 →
        exec (.lineTrigger b) s = .next (u.stripTrigger b r carried) := by
  intro x carried
  let moved := s.updBed b fun x => { x with acc := x.acc + x.pitch.setWidth 80 }
  obtain ⟨delivers, frame, ctr, count, last, ovr⟩ := lineCross_leaves moved b
  have bed : (moved.lineCross b).1.bed = moved.bed := bed_of_beds (congrArg State.beds frame :)
  have none_ : (s.dueComps.any fun kc => decide (actionRank kc.2.action < 4)) = false := by
    simpa only [List.any_eq_false, decide_eq_true_eq, Nat.not_lt] using first
  have trigger : exec (.lineTrigger b) s = .next (s.bedTrigger b) :=
    congrArg Host.Outcome.next (if_neg (by simp [none_]))
  have idle : ¬ (!s.bedClock b || !s.triggerDue b) = true := by simp [clock, due]
  have reaches : carried = (moved.lineCross b).2 := delivers.symm
  refine ⟨(moved.lineCross b).1, ?_, ?_, fun k other => ?_, ctr, count, last, ovr, fun c course => ?_,
    fun r none_ read phase => ?_⟩
  · exact (congrArg (fun u : State => { u with beds := s.beds }) frame :)
  · rw [bed, bed_updBed, if_pos rfl]
  · rw [bed, bed_updBed, if_neg other]
  · rw [trigger, reaches]
    unfold State.bedTrigger
    rw [if_neg idle]
    simp only [x] at course
    simp only [course]
    rfl
  · rw [trigger, reaches]
    unfold State.bedTrigger
    rw [if_neg idle]
    simp only [x] at none_ read
    simp only [none_, read, phase]
    rfl

/-- What keeps a bed from taking strip lines is not where its accumulator stands (R185). -/
theorem stripBlocked_moved {s u : State} {b : Nat} {a : BitVec 80}
    (frame : { u with beds := s.beds, crossings := s.crossings, counters := s.counters } = s)
    (bed : u.bed b = { s.bed b with acc := a }) : u.stripBlocked b = s.stripBlocked b := by
  have docs : u.docs = s.docs := (congrArg State.docs frame :)
  have pos : u.chanPos = s.chanPos := (congrArg State.chanPos frame :)
  have covers : u.covers b = s.covers b := by
    funext d
    unfold State.covers
    rw [bed, pos]
    rfl
  unfold State.stripBlocked
  rw [bed, docs, covers]
  have opened : u.docOpenOn b = s.docOpenOn b := (congrArg (fun v : State => v.docOpenOn b) frame :)
  rw [opened]

/-- LINE_TRIGGER of a document's course (R90, R122, R126, R549). -/
theorem lineTrigger_course (s : State) (b : Fin 4) (first : ∀ kc ∈ s.dueComps, 4 ≤ actionRank kc.2.action)
    (clock : s.bedClock b = true) (due : s.triggerDue b = true) :
    let x := s.bed b
    let carried := s.carries (lineCrossing b) 960
    let ov := if carried = true then 0 else 1
    ∀ c : Course, x.course = some c →
      ∃ t, exec (.lineTrigger b) s = .next t ∧ (t.bed b).acc = x.acc + x.pitch.setWidth 80 ∧
        t.ctr 1 b 11 = s.ctr 1 b 11 + 1 ∧ t.ctr 1 b 0 = s.ctr 1 b 0 ∧ (∀ k, k ≠ b.val → t.bed k = s.bed k) ∧
        Told { s with beds := t.beds, docs := t.docs, counters := t.counters, crossings := t.crossings } t ∧
        t.ctr 0x0C (66 + b) 0 = s.ctr 0x0C (66 + b) 0 + ov ∧
        (carried = true → (tget {} t.crossings (lineCrossing b)).last = some s.now) ∧
        (carried = false → (tget {} t.crossings (lineCrossing b)).ovr = true) ∧
        (carried = true → x.fits = true → (t.bed b).fit = some { kind := 0, acc := c.acc, num := c.triggers + 1 } ∧
          (t.bed b).delay = x.delay) ∧
        (carried = false ∨ x.fits = false → (t.bed b).fit = x.fit ∧
          (t.bed b).delay = x.delay ++ [{ num := c.triggers + 1, acc := c.acc }]) := by
  intro x carried ov c course
  obtain ⟨u, frame, bed, others, ctr, count, last, ovr, serves, -⟩ := lineTrigger_due s b due clock first
  obtain ⟨taken, counted, fits, waits⟩ := docTrigger_leaves u b c (x.acc.extractLsb' 16 64) carried
  have offered : Lined s u := .of_eq (congrArg (fun v : State => { v with docs := s.docs }) frame :)
  have fits_ : (u.bed b).fits = x.fits := by rw [bed]; rfl
  rw [fits_, bed] at fits waits
  refine ⟨_, serves c course, ?_, ?_, ?_, fun k other => ?_, offered.trans taken.lined, ?_, ?_, ?_, fits, waits⟩
  · rw [taken.acc, bed]
  · rw [counted, ctr]
  · rw [taken.zero, ctr]
  · rw [taken.others k other, others k other]
  · rw [taken.missed, count]
  · rw [taken.crossings]
    exact last
  · rw [taken.crossings]
    exact ovr

/-- LINE_TRIGGER of a strip read (R184, R185, R549). -/
theorem lineTrigger_strip (s : State) (b : Fin 4) (first : ∀ kc ∈ s.dueComps, 4 ≤ actionRank kc.2.action)
    (clock : s.bedClock b = true) (due : s.triggerDue b = true) :
    let x := s.bed b
    let carried := s.carries (lineCrossing b) 960
    let ov := if carried = true then 0 else 1
    ∀ r : StripRead, x.course = none → x.read = some r → r.phase = 0 →
      ∃ t, exec (.lineTrigger b) s = .next t ∧ (t.bed b).acc = x.acc + x.pitch.setWidth 80 ∧
        (∀ k, k ≠ b.val → t.bed k = s.bed k) ∧
        Told { s with beds := t.beds, counters := t.counters, crossings := t.crossings } t ∧
        t.ctr 0x0C (66 + b) 0 = s.ctr 0x0C (66 + b) 0 + ov ∧
        ((if x.method = 2 then s.docOpenOn b else s.docs.any fun d => s.covers b d) = false →
          (t.bed b).read = some { r with turn := r.turn + 1 } ∧ t.ctr 1 b 10 = s.ctr 1 b 10 + 1 ∧
          (carried = true → x.fits = true →
            (t.bed b).fit = some { kind := 2, cab := if s.jobs = [] then 0 else r.cab, num := r.turn }) ∧
          (carried = false ∨ x.fits = false → (t.bed b).fit = x.fit)) ∧
        ((if x.method = 2 then s.docOpenOn b else s.docs.any fun d => s.covers b d) = true →
          (t.bed b).read = some { r with turn := (r.turn + 3) / 4 * 4, cycle := [], bad := false } ∧
          t.ctr 1 b 10 = s.ctr 1 b 10 ∧ (t.bed b).fit = x.fit) := by
  intro x carried ov r none_ read phase
  obtain ⟨u, frame, bed, others, ctr, count, -, -, -, serves⟩ := lineTrigger_due s b due clock first
  obtain ⟨taken, docs, takes, blocked⟩ := stripTrigger_leaves u b r carried
  have offered : Lined s u := .of_eq (congrArg (fun v : State => { v with docs := s.docs }) frame :)
  have docs' : u.docs = s.docs := (congrArg State.docs frame :)
  have lined := offered.trans taken.lined
  unfold Lined at lined
  rw [docs, docs'] at lined
  have fits_ : (u.bed b).fits = x.fits := by rw [bed]; rfl
  have jobs : u.jobs = s.jobs := (congrArg State.jobs frame :)
  have cab : u.stripCab r = if s.jobs = [] then 0 else r.cab := by
    unfold State.stripCab
    rw [jobs]
    cases s.jobs <;> rfl
  rw [stripBlocked_moved frame bed, fits_, cab, ctr, bed] at takes
  rw [stripBlocked_moved frame bed, ctr, bed] at blocked
  refine ⟨_, serves r none_ read phase, ?_, fun k other => ?_, lined, ?_, takes, blocked⟩
  · rw [taken.acc, bed]
  · rw [taken.others k other, others k other]
  · rw [taken.missed, count]

/-- A trigger that is not due does nothing. -/
theorem lineTrigger_early (s : State) (b : Fin 4) (early : s.triggerDue b = false) :
    exec (.lineTrigger b) s = .next s := by
  have idle : s.bedTrigger b = s := if_pos (by simp [early])
  show Host.Outcome.next (if _ then s else s.bedTrigger b) = _
  rw [idle, ite_self]

end Sys2Proof.Machine
end

section
/-! PROOFS. SLOT_START: the slot that ends and the one that begins (R113, R120, R121). -/

namespace Sys2Proof.Machine

/-! The strobes of a line keep the mode. -/

@[simp] theorem core_stripStop (s : State) (b : Nat) : (s.stripStop b).core = s.core := by simp [State.stripStop]
@[simp] theorem core_failRead (s : State) (b : Nat) (abandoned : Bool) : (s.failRead b abandoned).core = s.core := by
  unfold State.failRead
  dsimp only
  split
  · rfl
  · split
    · rfl
    · split <;> simp
@[simp] theorem core_lampCheck (s : State) (b c : Nat) (reg short : Bool) :
    (s.lampCheck b c reg short).core = s.core := by simp [State.lampCheck]
@[simp] theorem core_strobes (s : State) (b : Nat) (e : Exposing) (reg : BitVec 8) (ball : List Nat) :
    (s.strobes b e reg ball).core = s.core := by
  refine core_forEach _ (fun _ s => ?_) _ s
  split <;> simp

/-! What is watched of the beds while a slot ends. -/

@[simp] theorem watch_lampCheck (s : State) (q : Bool) (b c : Nat) (reg short : Bool) :
    (s.lampCheck b c reg short).watch q = s.watch q := by simp [State.lampCheck]
@[simp] theorem watch_strobes (s : State) (q : Bool) (b : Nat) (e : Exposing) (reg : BitVec 8) (ball : List Nat) :
    (s.strobes b e reg ball).watch q = s.watch q := by
  refine watch_forEach q _ (fun _ s => ?_) _ s
  split <;> simp
/-- A strip read that is no longer exposing gives up its comparator and stops the bed. -/
theorem watch_stripStop_unless (u : State) (q : Bool) (b : Nat) (r : StripRead) :
    (if r.phase = 0 then u else
      (match r.comp with
        | some k => u.setComp k none
        | none => u).stripStop b).watch q = u.watch q := by
  rw [watch_ite, watch_stripStop]
  split
  · rfl
  · split <;> simp
@[simp] theorem watch_stripLine (s : State) (q : Bool) (b : Nat) (e : Exposing) :
    (s.stripLine b e).watch q = s.watch q := by
  unfold State.stripLine
  dsimp only
  split
  · rfl
  · rw [watch_ite]
    refine ite_eq_left_iff.2 fun _ => (watch_stripStop_unless _ q b _).trans ?_
    simp
@[simp] theorem watch_lineDone (s : State) (q : Bool) (b : Nat) (e : Exposing) :
    (s.lineDone b e).watch q = s.watch q := by simp [State.lineDone]
@[simp] theorem watch_countLine (s : State) (q : Bool) (b : Nat) : (s.countLine b).watch q = s.watch q := by
  simp [State.countLine]
@[simp] theorem watch_takeAfe (s : State) (q : Bool) (b : Nat) : (s.takeAfe b).watch q = s.watch q := by
  simp [State.takeAfe]
@[simp] theorem watch_startLine (s : State) (q : Bool) (b : Nat) (e : Exposing) :
    (s.startLine b e).watch q = s.watch q := by simp [State.startLine]

/-- What the end of a slot leaves: the time, the slots counted, and in a P3 mode the mode a protective stop needs. -/
structure Ended (b : Nat) (s t : State) : Prop where
  now : t.now = s.now
  slotNo : (t.bed b).slotNo = (s.bed b).slotNo
  slots : t.ctr 1 b 12 = s.ctr 1 b 12

theorem Ended.of_watch {b : Nat} {s t : State} (h : t.watch true = s.watch true) : Ended b s t := by
  obtain ⟨now, -, -, -, slots, -⟩ := watch_iff.1 h
  exact ⟨now, (bed_of_watch h b).2.2, slots b 12 (by decide)⟩

theorem Ended.trans {b : Nat} {s u t : State} (h : Ended b s u) (k : Ended b u t) : Ended b s t :=
  ⟨k.now.trans h.now, k.slotNo.trans h.slotNo, k.slots.trans h.slots⟩

theorem Ended.inc (s : State) (b : Nat) : Ended b s (s.inc 1 b 13 1) :=
  ⟨by rw [inc_eq], by rw [inc_eq]; rfl, by rw [ctr_inc, if_neg fun same => absurd same.2.2.1 (by decide)]⟩

/-- A dark slot is counted and checked (R129, R130). -/
theorem Ended.darkSlot (s : State) (b : Nat) (smp : List (List Nat)) (p3 : s.mode.p3 = true) :
    Ended b s (s.darkSlot b smp) := by
  have counted : Ended b s (s.inc 1 b 13 1) := .inc s b
  have mode : (s.inc 1 b 13 1).mode.p3 = true := by rw [inc_eq]; exact p3
  unfold State.darkSlot
  extract_lets x sum noted high run checked
  have noting : noted.watch true = (s.inc 1 b 13 1).watch true := watch_updBed _ true b _ fun _ _ => rfl
  have mode' : noted.mode.p3 = true := mode
  clear_value noted
  have checking : checked.watch true = noted.watch true := watch_updBed noted true b _ fun _ _ => rfl
  have mode' : checked.mode.p3 = true := mode'
  clear_value checked
  refine counted.trans (.of_watch ?_)
  split
  · exact (watch_protect checked true 0 true fun _ => mode').trans (checking.trans noting)
  · exact checking.trans noting

/-- A slot ends (R113, R160). -/
theorem finishSlot_ended (s : State) (b : Nat) (vin : List (List Int)) (reg : BitVec 8) (ball : List Nat)
    (p3 : s.mode.p3 = true) : Ended b s (s.finishSlot b vin reg ball) := by
  unfold State.finishSlot
  extract_lets x smp
  split
  · exact .of_watch rfl
  · exact .of_watch (by simp)
  · refine Ended.trans (.of_watch (watch_updBed s true b _ ?_)) (Ended.darkSlot _ b smp p3)
    exact fun _ _ => rfl
  · split
    · exact .of_watch rfl
    · extract_lets e strobed dark e' live whole
      have strobes : Ended b s strobed := .of_watch (watch_strobes s true b e reg ball)
      have mode : strobed.mode.p3 = true := by
        rw [mode_of_core (core_strobes s b e reg ball)]
        exact p3
      have darkened : Ended b s dark := by
        simp only [dark]
        split
        · exact strobes.trans (.darkSlot strobed b smp mode)
        · exact strobes
      clear_value dark
      split
      · exact darkened.trans (.of_watch (watch_updBed dark true b _ fun _ _ => rfl))
      · have cleared : Ended b s whole := darkened.trans (.of_watch (watch_updBed dark true b _ fun _ _ => rfl))
        split
        · exact cleared.trans (.of_watch (watch_lineDone whole true b e'))
        · exact cleared

/-- The first slot of a line begins now. -/
theorem curAt_startLine (s : State) (b : Nat) (e : Exposing) : ((s.startLine b e).bed b).curAt = s.now := by
  unfold State.startLine
  extract_lets x bad invalid flux segs lit begun
  have now : lit.now = s.now := by
    have watched : lit.watch true = s.watch true := by simp [lit, segs]
    exact (watch_iff.1 watched).1
  clear_value lit
  have at_ : (begun.bed b).curAt = s.now := by
    rw [bed_updBed, if_pos rfl]
    exact now
  exact forEach_keeps (P := fun t : State => (t.bed b).curAt = s.now) _ (fun c t kept => by
    unfold State.updLed
    rw [bed_updBed, if_pos rfl]
    exact kept) _ begun at_

/-- A slot begins: it is counted, it begins now, and a line in progress goes on. -/
theorem beginSlot_leaves (s : State) (b : Fin 4) :
    let v := s.beginSlot b
    v.ctr 1 b 12 = s.ctr 1 b 12 + 1 ∧ (v.bed b).slotNo = (s.bed b).slotNo + 1 ∧ (v.bed b).curAt = s.now ∧
    ((s.bed b).expo.isSome = true → (v.bed b).cur = .line ∧ (v.bed b).expo = (s.bed b).expo) := by
  let counted := (s.inc 1 b 12 1).updBed b fun x => { x with slotNo := x.slotNo + 1, checks := [] }
  have inced : (s.inc 1 b 12 1).bed b = s.bed b := by rw [inc_eq]; rfl
  have bed : counted.bed b = { s.bed b with slotNo := (s.bed b).slotNo + 1, checks := [] } := by
    rw [bed_updBed, if_pos rfl, inced]
  have count : counted.ctr 1 b 12 = s.ctr 1 b 12 + 1 := by
    refine (ctr_inc s 1 b 12 1 1 b 12).trans ?_
    rw [if_pos ⟨rfl, rfl, rfl, by simp [ctrIn]; omega⟩]
    rfl
  have now : counted.now = s.now := by
    have same : (s.inc 1 b 12 1).now = s.now := by rw [inc_eq]
    exact same
  unfold State.beginSlot
  extract_lets taken mask probed v
  have took : taken.watch true = counted.watch true := by
    simp only [taken]
    split
    · rfl
    · exact (watch_settingsChanged _ true b).trans (watch_takeAfe counted true b)
  have now' : taken.now = s.now := ((watch_iff.1 took).1).trans now
  clear_value counted taken
  have begun : v.watch true = counted.watch true ∧ (v.bed b).curAt = s.now ∧
      ((s.bed b).expo.isSome = true → (v.bed b).cur = .line ∧ (v.bed b).expo = (s.bed b).expo) := by
    simp only [v]
    split
    · rw [bed_updBed, if_pos rfl]
      exact ⟨watch_updBed counted true b _ fun _ _ => rfl, now, fun _ => ⟨rfl, by rw [bed]⟩⟩
    · next ended =>
      have none_ : (s.bed b).expo.isSome = true → False := fun some_ => ended (by rw [bed]; exact some_)
      split
      · next e _ =>
        exact ⟨(watch_startLine taken true b e).trans took, (curAt_startLine taken b e).trans now',
          fun h => (none_ h).elim⟩
      · split
        · rw [bed_updBed, if_pos rfl]
          refine ⟨Eq.trans ?_ took, now', fun h => (none_ h).elim⟩
          exact watch_updBed taken true b _ fun _ _ => rfl
        · have kept := forEach_keeps (P := fun t : State => t.watch true = taken.watch true ∧ t.bed = probed.bed)
            (fun c s => s.inc 3 (8 * b + c) 2 1) (fun c t ⟨watch, beds⟩ =>
              ⟨(watch_inc_class t true 3 _ 2 1 (by decide) (by decide)).trans watch, by rw [inc_eq]; exact beds⟩)
            ((List.range 8).filter fun c => mask.getLsbD c) probed
            ⟨watch_updBed taken true b _ fun _ _ => rfl, rfl⟩
          obtain ⟨watch, beds⟩ := kept
          rw [beds, bed_updBed, if_pos rfl]
          exact ⟨watch.trans took, now', fun h => (none_ h).elim⟩
  obtain ⟨watch, curAt, goes⟩ := begun
  obtain ⟨-, slotNo, slots⟩ := Ended.of_watch (b := b) watch
  exact ⟨slots.trans count, by rw [slotNo, bed], curAt, goes⟩

/-! The line in progress. -/

/-- What of a bed the strobes of a line leave: all but its lamps, its strip read and the accumulator that runs for it.
-/
def Bed.scan (x : Bed) : Bed := { x with leds := [], accOn := false, running := false, lastRead := 0, read := none }

/-- The strobes of a line leave the scan of every bed. -/
def KeepsScan (s t : State) : Prop := ∀ k, (t.bed k).scan = (s.bed k).scan

theorem KeepsScan.of_eq {s t : State} (h : t.beds = s.beds) : KeepsScan s t := fun k => by rw [bed_of_beds h]

theorem KeepsScan.trans {s u t : State} (h : KeepsScan s u) (k : KeepsScan u t) : KeepsScan s t :=
  fun b => (k b).trans (h b)

theorem KeepsScan.inc (s : State) (cls unit idx n : Nat) : KeepsScan s (s.inc cls unit idx n) := .of_eq (by rw [inc_eq])

theorem KeepsScan.updBed (s : State) (b : Nat) (f : Bed → Bed) (h : ∀ x, (f x).scan = x.scan) :
    KeepsScan s (s.updBed b f) := by
  intro k
  rw [bed_updBed]
  split
  · next same => rw [h, same]
  · rfl

theorem KeepsScan.forEach {α : Type} (f : α → State → State) (h : ∀ x s, KeepsScan s (f x s)) (xs : List α)
    (s : State) :
    KeepsScan s (forEach xs f s) :=
  forEach_keeps (P := KeepsScan s) f (fun x t kept => kept.trans (h x t)) xs s fun _ => rfl

theorem KeepsScan.updLed (s : State) (b c : Nat) (f : Led → Led) : KeepsScan s (s.updLed b c f) :=
  .updBed s b _ fun _ => rfl

theorem KeepsScan.stripStop (s : State) (b : Nat) : KeepsScan s (s.stripStop b) := by
  unfold State.stripStop
  dsimp only
  split
  · exact fun _ => rfl
  · refine KeepsScan.trans (u := s.updBed b fun x => { x with accOn := false, running := false }) ?_ ?_
    · exact .updBed s b _ fun _ => rfl
    · exact .forEach _ (fun c t => .updLed t b c _) _ _

theorem KeepsScan.failRead (s : State) (b : Nat) (abandoned : Bool) : KeepsScan s (s.failRead b abandoned) := by
  unfold State.failRead
  dsimp only
  split
  · exact fun _ => rfl
  · split
    · exact fun _ => rfl
    · split
      · next k _ =>
        refine KeepsScan.trans (KeepsScan.stripStop (s.setComp k none) b) ?_
        exact .updBed _ b _ fun _ => rfl
      · refine KeepsScan.trans (KeepsScan.stripStop s b) ?_
        exact .updBed _ b _ fun _ => rfl

theorem KeepsScan.lampCheck (s : State) (b c : Nat) (reg short : Bool) : KeepsScan s (s.lampCheck b c reg short) := by
  unfold State.lampCheck
  split
  · exact fun _ => rfl
  · extract_lets new l
    split
    extract_lets checked counted failed e
    have checks : KeepsScan s checked := KeepsScan.trans (.updLed s b c _) (.inc _ 3 _ 1 1)
    have counts : KeepsScan s counted := by
      simp only [counted]
      split
      · exact checks.trans (.inc _ _ _ _ _)
      · split
        · exact checks.trans (.inc _ _ _ _ _)
        · exact checks
    clear_value counted
    have fails : KeepsScan s failed := by
      simp only [failed]
      split
      · refine (counts.trans (.forEach _ (fun d t => ?_) _ _)).trans (.failRead _ b false)
        split
        · exact fun _ => rfl
        · exact fun _ => rfl
      · exact counts
    clear_value failed
    split
    · exact fails
    · exact fails.trans (.of_eq (Told.raiseTo _ _ _).beds)

theorem KeepsScan.strobes (s : State) (b : Nat) (e : Exposing) (reg : BitVec 8) (ball : List Nat) :
    KeepsScan s (s.strobes b e reg ball) := by
  refine .forEach _ (fun c t => ?_) _ s
  split
  · dsimp only
    split
    · exact KeepsScan.trans (.inc t 3 _ 0 1) (.lampCheck _ b c _ _)
    · exact .inc t 3 _ 0 1
  · exact fun _ => rfl

/-- The end of a slot of a line in progress takes it to its next entry, with the slot's samples (R113, R121). -/
theorem finishSlot_line (s : State) (b : Nat) (vin : List (List Int)) (reg : BitVec 8) (ball : List Nat)
    (e : Exposing) :
    let x := s.bed b
    x.cur = .line → x.expo = some e → e.entry + 1 < x.seqLen → x.seq.getD e.entry 0 ≠ 0 ∨ e.dLine = true →
    ((s.finishSlot b vin reg ball).bed b).expo = some { e with
      entry := e.entry + 1, samples := e.samples ++ [x.slotSamples vin], posTaken := true,
      pos := if e.posTaken then e.pos else s.chanPos x.chan, time := if e.posTaken then e.time else s.now } := by
  intro x line expo more lit
  let taken : Exposing := if e.posTaken then e else { e with pos := s.chanPos x.chan, time := s.now, posTaken := true }
  have same : taken.entry = e.entry ∧ taken.dLine = e.dLine := by
    simp only [taken]
    split <;> exact ⟨rfl, rfl⟩
  obtain ⟨entry, dLine⟩ := same
  let strobed := s.strobes b taken reg ball
  have going : (strobed.bed b).expo = some e :=
    (congrArg Bed.expo (KeepsScan.strobes s b taken reg ball b) :).trans expo
  have undark : (decide (x.seq.getD taken.entry 0 = 0) && !taken.dLine) = false := by
    rw [entry, dLine]
    rcases lit with lit | lit
    · rw [decide_eq_false lit]
      rfl
    · simp [lit]
  have finished : s.finishSlot b vin reg ball = strobed.updBed b fun y =>
      { y with expo := if y.expo.isSome
              then some { taken with
                samples := taken.samples ++ [x.slotSamples vin], entry := taken.entry + 1 }
              else none } := by
    unfold State.finishSlot
    simp only [x] at line expo
    simp only [line, expo]
    refine (if_pos ?_).trans ?_
    · rw [← entry] at more
      exact more
    · refine congrArg (fun u : State => u.updBed b fun y =>
        { y with expo := if y.expo.isSome
                then some { taken with
                  samples := taken.samples ++ [x.slotSamples vin], entry := taken.entry + 1 }
                else none }) ?_
      exact if_neg (by rw [undark]; decide)
  rw [finished, bed_updBed, if_pos rfl, going, entry]
  simp only [taken]
  cases was : e.posTaken <;> simp [was]

/-- SLOT_START (R113, R120, R121). -/
theorem slotStart_row (s : State) (b : Fin 4) (vin : List (List Int)) (reg : BitVec 8) (ball : List Nat) :
   let x := s.bed b
   (s.bedClock b = true → s.clkOk (66 + b) = true →
     ∃ t, exec (.slotStart b vin reg ball) s = .next t ∧ t.ctr 1 b 12 = s.ctr 1 b 12 + 1 ∧
       (t.bed b).slotNo = x.slotNo + 1 ∧ (t.bed b).curAt = s.now ∧
       (∀ e : Exposing, x.cur = .line → x.expo = some e → e.entry + 1 < x.seqLen →
         x.seq.getD e.entry 0 ≠ 0 ∨ e.dLine = true →
         (t.bed b).cur = .line ∧ (t.bed b).expo = some { e with
           entry := e.entry + 1, samples := e.samples ++ [x.slotSamples vin], posTaken := true,
           pos := if e.posTaken then e.pos else s.chanPos x.chan, time := if e.posTaken then e.time else s.now })) ∧
   (s.bedClock b = false → exec (.slotStart b vin reg ball) s = .next s) := by
  intro x
  refine ⟨fun clock runs => ?_, fun stands => congrArg Host.Outcome.next (if_neg (by simp [stands]))⟩
  have p3 : s.mode.p3 = true := by
    unfold State.bedClock at clock
    exact (Bool.and_eq_true_iff.1 clock).1
  have begins : exec (.slotStart b vin reg ball) s = .next ((s.finishSlot b vin reg ball).beginSlot b) :=
    congrArg Host.Outcome.next (if_pos (by simp [clock, runs]))
  obtain ⟨now, slotNo, slots⟩ := finishSlot_ended s b vin reg ball p3
  have line := finishSlot_line s b vin reg ball
  generalize s.finishSlot b vin reg ball = u at *
  obtain ⟨counted, begun, curAt, goes⟩ := beginSlot_leaves u b
  refine ⟨_, begins, by rw [counted, slots], by rw [begun, slotNo], by rw [curAt, now], fun e cur expo more lit => ?_⟩
  have next := line e cur expo more lit
  obtain ⟨cur', expo'⟩ := goes (by rw [next]; rfl)
  exact ⟨cur', expo'.trans next⟩

end Sys2Proof.Machine
end

section
/-! PROOFS. LINE_RELEASE: a grafted line is captured or dropped under one cause (R125, R585). -/

namespace Sys2Proof.Machine

/-- What a release leaves but its line: the counters of R585 of a bed, the mode, the axes, the channels and the jobs. -/
structure Aside (b : Nat) (s t : State) : Prop where
  lines : ∀ j, j ≤ 7 → t.ctr 1 b j = s.ctr 1 b j
  mode : t.mode = s.mode
  axes : t.axes = s.axes
  chans : t.chans = s.chans
  jobs : t.jobs = s.jobs

theorem Aside.refl (b : Nat) (s : State) : Aside b s s := ⟨fun _ _ => rfl, rfl, rfl, rfl, rfl⟩
theorem Aside.trans {b : Nat} {s u t : State} (h : Aside b s u) (k : Aside b u t) : Aside b s t :=
  ⟨fun j hj => (k.lines j hj).trans (h.lines j hj), k.mode.trans h.mode, k.axes.trans h.axes, k.chans.trans h.chans,
    k.jobs.trans h.jobs⟩
theorem Aside.inc (b : Nat) (s : State) (cls unit idx n : Nat) (h : cls ≠ 1 ∨ 7 < idx) :
    Aside b s (s.inc cls unit idx n) where
  lines j hj := by
    rw [ctr_inc, if_neg]
    rintro ⟨rfl, -, rfl, -⟩
    omega
  mode := by rw [inc_eq]
  axes := by rw [inc_eq]
  chans := by rw [inc_eq]
  jobs := by rw [inc_eq]
theorem Aside.of_told {b : Nat} {s t : State} (h : Told s t) : Aside b s t :=
  ⟨fun j _ => h.ctr 1 b j (by simp [reportCtr]), h.mode, h.axes, h.chans, (congrArg State.jobs h.rest :)⟩
theorem Aside.updBed (b : Nat) (s : State) (k : Nat) (f : Bed → Bed) : Aside b s (s.updBed k f) :=
  ⟨fun _ _ => rfl, rfl, rfl, rfl, rfl⟩
theorem Aside.forEach {α : Type} (b : Nat) (f : α → State → State) (h : ∀ x s, Aside b s (f x s)) (xs : List α)
    (s : State) :
    Aside b s (forEach xs f s) :=
  forEach_keeps (P := Aside b s) f (fun x t kept => kept.trans (h x t)) xs s (.refl b s)

theorem Aside.raiseWm (b : Nat) (s : State) (c n : Nat) (above : Bool) : Aside b s (s.raiseWm c n above) := by
  unfold State.raiseWm
  extract_lets raised ring
  have raising : Aside b s raised :=
    (Aside.of_told (Told.updRing s c fun r => { r with raised := r.raised ||| (1#16 <<< n) })).trans
      ⟨fun _ _ => rfl, rfl, rfl, rfl, rfl⟩
  clear_value raised
  split
  · exact raising.trans (.of_told (Told.updRing raised c _))
  · split
    · exact raising.trans (.of_told (Told.updRing raised c _))
    · exact raising.trans (.of_told (Told.writeEntry raised c _))

theorem Aside.chgStream (b : Nat) (s : State) (c n : Nat) (f : Stream → Stream) : Aside b s (s.chgStream c n f) := by
  unfold State.chgStream
  extract_lets fill changed mark crossed
  have begun : Aside b s changed := ⟨fun _ _ => rfl, rfl, rfl, rfl, rfl⟩
  split
  · have crossing : Aside b s crossed := ⟨fun _ _ => rfl, rfl, rfl, rfl, rfl⟩
    split
    · exact crossing.trans (.raiseWm b crossed c n false)
    · exact crossing
  · exact begun

theorem Aside.enterLine (b : Nat) (s : State) (l : GLine) : Aside b s (s.enterLine b l) := by
  unfold State.enterLine
  extract_lets p rs reserved counted ts turn
  have reserving : Aside b s reserved := .forEach b _ (fun _ t => .chgStream b t _ _ _) _ s
  have counting : Aside b reserved counted := .forEach b _ (fun _ t => .inc b t 9 _ 7 1 (.inl (by decide))) _ reserved
  exact (reserving.trans counting).trans (.updBed b counted b _)

/-- A line is decided: triggered, and counted under one cause, or captured. -/
structure Decides (b i : Nat) (s t : State) : Prop where
  triggered : t.ctr 1 b 0 = s.ctr 1 b 0 + 1
  cause : t.ctr 1 b i = s.ctr 1 b i + 1
  others : ∀ j, 1 ≤ j → j ≤ 7 → j ≠ i → t.ctr 1 b j = s.ctr 1 b j
  mode : t.mode = s.mode
  axes : t.axes = s.axes
  chans : t.chans = s.chans
  jobs : t.jobs = s.jobs

theorem Decides.of_incs (s : State) (b i : Nat) (known : b < 65536) (lo : 1 ≤ i) (hi : i ≤ 7) :
    Decides b i s ((s.inc 1 b 0 1).inc 1 b i 1) where
  triggered := by
    rw [ctr_inc, if_neg (by omega), ctr_inc, if_pos ⟨rfl, rfl, rfl, by simp [ctrIn, known]⟩]
    rfl
  cause := by
    rw [ctr_inc, if_pos ⟨rfl, rfl, rfl, by simp [ctrIn, known]; omega⟩, ctr_inc, if_neg (by omega)]
    rfl
  others j _ _ other := by
    rw [ctr_inc, if_neg (by omega), ctr_inc, if_neg (by omega)]
  mode := by rw [inc_eq, inc_eq s]
  axes := by rw [inc_eq, inc_eq s]
  chans := by rw [inc_eq, inc_eq s]
  jobs := by rw [inc_eq, inc_eq s]

theorem Decides.after {b i : Nat} {s u t : State} (h : Decides b i s u) (k : Aside b u t) (hi : i ≤ 7) :
    Decides b i s t where
  triggered := (k.lines 0 (by decide)).trans h.triggered
  cause := (k.lines i hi).trans h.cause
  others j lo le other := (k.lines j le).trans (h.others j lo le other)
  mode := k.mode.trans h.mode
  axes := k.axes.trans h.axes
  chans := k.chans.trans h.chans
  jobs := k.jobs.trans h.jobs

theorem Decides.before {b i : Nat} {s u t : State} (h : Aside b s u) (k : Decides b i u t) (hi : i ≤ 7) :
    Decides b i s t where
  triggered := by rw [k.triggered, h.lines 0 (by decide)]
  cause := by rw [k.cause, h.lines i hi]
  others j lo le other := (k.others j lo le other).trans (h.lines j le)
  mode := k.mode.trans h.mode
  axes := k.axes.trans h.axes
  chans := k.chans.trans h.chans
  jobs := k.jobs.trans h.jobs

/-- A document's line dropped under a cause of Table BD-4. -/
theorem Decides.dropLine (s : State) (b : Fin 4) (acc i : Nat) (lo : 1 ≤ i) (hi : i ≤ 7) :
    Decides b i s (s.dropLine b acc i) :=
  (Decides.of_incs s b i (by omega) lo hi).after ⟨fun _ _ => rfl, rfl, rfl, rfl, rfl⟩ hi

/-- A document's line captured. -/
theorem Decides.captureLine (s : State) (b : Fin 4) (acc : Nat) : Decides b 1 s (s.captureLine b acc) :=
  (Decides.of_incs s b 1 (by omega) (by decide) (by decide)).after ⟨fun _ _ => rfl, rfl, rfl, rfl, rfl⟩ (by decide)

/-- The next line of a course is decided, under DISCARD where the course is discarded (R125). -/
theorem releaseLine_decides (s : State) (b : Fin 4) (c : Course) :
    ∃ i, 1 ≤ i ∧ i ≤ 7 ∧ (c.discard = true → i = 3) ∧ Decides b i s (s.releaseLine b c) := by
  unfold State.releaseLine
  extract_lets x n coursed t doc cab decided
  have decides : ∃ i, 1 ≤ i ∧ i ≤ 7 ∧ (c.discard = true → i = 3) ∧ Decides b i coursed decided := by
    have drops : ∀ u, Aside b coursed u → ∀ i, 1 ≤ i → i ≤ 7 → Decides b i coursed (u.dropLine b c.acc i) :=
      fun u before i lo hi => .before before (.dropLine u b c.acc i lo hi) hi
    have still := Aside.refl b coursed
    simp only [decided]
    generalize (!(match x.raw c.acc n with | some r => r.fitted | none => false)) = unfitted
    generalize (!((n :: t.reads n).all fun m => x.usable c.acc m)) = unusable
    by_cases discarded : c.discard = true
    · rw [if_pos discarded]
      exact ⟨3, by decide, by decide, fun _ => rfl, drops _ still 3 (by decide) (by decide)⟩
    · rw [if_neg discarded]
      split
      · exact ⟨5, by decide, by decide, fun h => absurd h discarded, drops _ still 5 (by decide) (by decide)⟩
      · split
        · exact ⟨6, by decide, by decide, fun h => absurd h discarded, drops _ still 6 (by decide) (by decide)⟩
        · split
          · exact ⟨7, by decide, by decide, fun h => absurd h discarded, drops _ still 7 (by decide) (by decide)⟩
          · split
            · refine ⟨7, by decide, by decide, fun h => absurd h discarded, drops _ ?_ 7 (by decide) (by decide)⟩
              exact .inc b coursed 1 b 14 1 (.inr (by decide))
            · split
              · exact ⟨7, by decide, by decide, fun h => absurd h discarded, drops _ still 7 (by decide) (by decide)⟩
              · refine ⟨1, by decide, by decide, fun h => absurd h discarded, ?_⟩
                refine (Decides.captureLine coursed b c.acc).after (Aside.trans ?_ (.enterLine b _ _)) (by decide)
                exact ⟨fun _ _ => rfl, rfl, rfl, rfl, rfl⟩
  obtain ⟨i, lo, hi, discard, decides⟩ := decides
  exact ⟨i, lo, hi, discard, (Decides.before (.updBed b s b _) decides hi).after (.updBed b decided b _) hi⟩

/-- LINE_RELEASE (R125, R585). -/
theorem lineRelease_row (s : State) (b : Fin 4) (c : Course) :
   let x := s.bed b
   s.mode.p3 = true → (x.delay.find? fun r => r.acc = 0) = none →
   (x.courses.find? fun c => decide (c.decided < c.lines)) = some c →
   (c.discard = true ∨ x.ready c x.graftTable (c.decided + 1) = true →
     ∃ t i, exec (.lineRelease b) s = .next t ∧ 1 ≤ i ∧ i ≤ 7 ∧ t.ctr 1 b 0 = s.ctr 1 b 0 + 1 ∧
       t.ctr 1 b i = s.ctr 1 b i + 1 ∧ (∀ j, 1 ≤ j → j ≤ 7 → j ≠ i → t.ctr 1 b j = s.ctr 1 b j) ∧
       (c.discard = true → i = 3) ∧ t.mode = s.mode ∧ t.axes = s.axes ∧ t.chans = s.chans ∧ t.jobs = s.jobs) ∧
   (c.discard = false → x.ready c x.graftTable (c.decided + 1) = false → exec (.lineRelease b) s = .next s) := by
  intro x p3 documents next
  have releases : exec (.lineRelease b) s = .next
      (if c.discard || x.ready c x.graftTable (c.decided + 1) then s.releaseLine b c else s) := by
    simp only [x] at documents next
    simp only [exec, execLineRelease, p3, documents, next]
    rfl
  obtain ⟨i, lo, hi, discard, triggered, cause, others, mode, axes, chans, jobs⟩ := releaseLine_decides s b c
  refine ⟨fun ready => ⟨s.releaseLine b c, i, ?_, lo, hi, triggered, cause, others, discard, mode, axes, chans, jobs⟩,
    fun kept waits => ?_⟩
  · rw [releases, if_pos (by simpa using ready)]
  · rw [releases, if_neg (by simp [kept, waits])]

/-- Settles O50: triggers, slots and releases. -/
theorem linesScanned : Obligations.LinesScanned :=
  ⟨fun s b first clock => ⟨fun due => ⟨lineTrigger_course s b first clock due, lineTrigger_strip s b first clock due⟩,
    lineTrigger_early s b⟩, slotStart_row, lineRelease_row⟩

end Sys2Proof.Machine
end

section
/-! PROOFS. Sending on the Runner: what it leaves of the state, and of the channels it goes over (R516 to R519, R526,
R527). -/

namespace Sys2Proof.Machine

/-- What sending leaves of a virtual channel: the side that receives, and what the partner has reported. -/
def Vc.hop (x : Vc) : Nat × Bool × Nat × Nat := (x.received, x.naked, x.buffers, x.freed)

/-- The state without the fields that sending changes. -/
def State.unsent (s : State) : State := { s with ports := [], outbox := [], counters := [] }

/-- The counters of a port that sending moves: packets sent, sent again, given up by their hops, and responses lost. -/
def sendCtr (cls idx : Nat) : Prop := cls = 0x0A ∧ (idx = 0 ∨ idx = 4 ∨ idx = 5 ∨ idx = 7)

/-- `t` is `s` but for what was sent on the Runner. -/
structure Wired (s t : State) : Prop where
  rest : t.unsent = s.unsent
  hop : ∀ p v, (t.vc p v).hop = (s.vc p v).hop
  sent : s.outbox <+: t.outbox
  ctr : ∀ cls unit i, ¬ sendCtr cls i → t.ctr cls unit i = s.ctr cls unit i

theorem Wired.refl (s : State) : Wired s s := ⟨rfl, fun _ _ => rfl, List.prefix_rfl, fun _ _ _ _ => rfl⟩

theorem Wired.trans {s t u : State} (h : Wired s t) (k : Wired t u) : Wired s u where
  rest := k.rest.trans h.rest
  hop p v := (k.hop p v).trans (h.hop p v)
  sent := h.sent.trans k.sent
  ctr cls unit i other := (k.ctr cls unit i other).trans (h.ctr cls unit i other)

theorem Wired.forEach {α : Type} (f : α → State → State) (h : ∀ x s, Wired s (f x s)) (xs : List α) (s : State) :
    Wired s (forEach xs f s) :=
  forEach_keeps (P := Wired s) f (fun x _ kept => kept.trans (h x _)) xs s (.refl s)

theorem vc_updVc (s : State) (p v q w : Nat) (f : Vc → Vc) :
    (s.updVc p v f).vc q w = if q = p ∧ w = v then f (s.vc p v) else s.vc q w := by
  by_cases h : q = p
  · subst h
    simp [State.updVc, State.vc]
  · simp [State.updVc, State.vc, h]

theorem Wired.push (s : State) (o : Out) : Wired s (s.push o) :=
  ⟨rfl, fun _ _ => rfl, List.prefix_append _ _, fun _ _ _ _ => rfl⟩

theorem Wired.inc (s : State) (p i n : Nat) (h : sendCtr 0x0A i) : Wired s (s.inc 0x0A p i n) where
  rest := by rw [inc_eq]; rfl
  hop _ _ := by rw [inc_eq]; rfl
  sent := by rw [inc_eq]
  ctr cls unit j other := by
    rw [ctr_inc, if_neg]
    rintro ⟨rfl, -, rfl, -⟩
    exact other h

theorem Wired.updVc (s : State) (p v : Nat) (f : Vc → Vc) (h : ∀ x, (f x).hop = x.hop) : Wired s (s.updVc p v f) where
  rest := rfl
  hop q w := by
    rw [vc_updVc]
    split
    · next e => rw [h, e.1, e.2]
    · rfl
  sent := List.prefix_rfl
  ctr _ _ _ _ := rfl

theorem Wired.portSend (s : State) (p : Nat) (k : Packet) : Wired s (s.portSend p k) :=
  (Wired.push s _).trans (.inc _ p 0 1 (by simp [sendCtr]))
theorem Wired.control (s : State) (p type : Nat) (payload : List Byte) : Wired s (s.control p type payload) :=
  .portSend s p _
theorem Wired.sendCredit (s : State) (p : Nat) : Wired s (s.sendCredit p) := by
  unfold State.sendCredit
  split
  · exact .control s p _ _
  · exact .refl s
theorem Wired.sendAck (s : State) (p : Nat) : Wired s (s.sendAck p) := by
  unfold State.sendAck
  split
  · exact .control s p _ _
  · exact .refl s
theorem Wired.freeBuf (s : State) (o : Option (Nat × Nat)) : Wired s (s.freeBuf o) := by
  unfold State.freeBuf
  split
  · exact .refl s
  · refine Wired.trans ?_ (.sendCredit _ _)
    exact .updVc s _ _ _ fun _ => rfl

theorem Wired.pump (fuel p v : Nat) (s : State) : Wired s (State.pump fuel p v s) := by
  induction fuel generalizing s with
  | zero => exact .refl s
  | succ fuel ih =>
    unfold State.pump
    extract_lets x
    split
    · exact .refl s
    · split
      · split
        · exact .updVc s _ _ _ fun _ => rfl
        · refine Wired.trans ?_ (ih _)
          refine Wired.trans (Wired.trans ?_ (.portSend _ p _)) (.inc _ p 4 1 (by simp [sendCtr]))
          exact .updVc s p v _ fun _ => rfl
      · split
        · exact .refl s
        · refine Wired.trans (Wired.trans (Wired.trans ?_ (.portSend _ p _)) (.freeBuf _ _)) (ih _)
          exact .updVc s p v _ fun _ => rfl
theorem Wired.pumped (s : State) (p v : Nat) : Wired s (s.pumped p v) := .pump _ p v s

theorem Wired.enqueue (s : State) (p : Nat) (o : Option (Nat × Nat)) (k : Packet) : Wired s (s.enqueue p o k) := by
  have waits : ∀ (t : State) (w : Option (Nat × Nat)),
      Wired t (t.updVc p k.vc fun x => { x with waiting := x.waiting ++ [(w, k)] }) :=
    fun t w => .updVc t _ _ _ fun _ => rfl
  unfold State.enqueue
  extract_lets v add t
  split
  · split
    · exact .freeBuf s o
    · exact (waits s o).trans (.pumped _ _ _)
  · split
    · split
      · exact (waits s none).trans (.freeBuf _ o)
      · exact (Wired.inc s p 7 1 (by simp [sendCtr])).trans (.freeBuf _ o)
    · split
      · exact waits s o
      · exact .freeBuf s o
theorem Wired.forward (s : State) (arr : Nat) (o : Option (Nat × Nat)) (p : Nat) (k : Packet) :
    Wired s (s.forward arr o p k) := by
  unfold State.forward
  split
  · exact (Wired.inc s arr 5 1 (by simp [sendCtr])).trans (.freeBuf _ o)
  · exact .enqueue s p o _
theorem Wired.discard (s : State) (o : Option (Nat × Nat)) (k : Packet) : Wired s (s.discard o k) := by
  unfold State.discard
  split
  · split
    · exact (Wired.inc s _ 7 1 (by simp [sendCtr])).trans (.freeBuf _ _)
    · exact .freeBuf s _
  · exact .freeBuf s _
theorem Wired.sendPkt (s : State) (o : Option (Nat × Nat)) (k : Packet) : Wired s (s.sendPkt o k) := by
  unfold State.sendPkt
  split
  · exact .enqueue s _ o _
  · exact .discard s o k
theorem Wired.rebroadcast (s : State) (arr : Nat) (o : Option (Nat × Nat)) (ps : List Nat) (k : Packet) :
    Wired s (s.rebroadcast arr o ps k) := by
  unfold State.rebroadcast
  extract_lets passed
  refine Wired.trans ?_ (.freeBuf passed o)
  simp only [passed]
  split
  · exact .refl s
  · split
    · exact .inc s arr 5 1 (by simp [sendCtr])
    · exact .forEach _ (fun _ t => .enqueue t _ _ _) _ s
theorem Wired.respond (s : State) (p : Nat) (k : Packet) (status : Nat) (data : List Byte) :
    Wired s (s.respond p k status data) := .sendPkt s _ _
theorem Wired.sendSync (s : State) (epoch : Nat) (legacy : Bool) :
    Wired { s with syncCount := (s.syncCount + 1) % 65536 } (s.sendSync epoch legacy) :=
  .forEach _ (fun _ t => .enqueue t _ _ _) _ _

/-! What the rows read of a state after sending. -/

theorem Wired.chans {s t : State} (h : Wired s t) : t.chans = s.chans := (congrArg State.chans h.rest :)
theorem Wired.nodes {s t : State} (h : Wired s t) : t.nodes = s.nodes := (congrArg State.nodes h.rest :)
theorem Wired.requests {s t : State} (h : Wired s t) : t.requests = s.requests := (congrArg State.requests h.rest :)
theorem Wired.posts {s t : State} (h : Wired s t) : t.posts = s.posts := (congrArg State.posts h.rest :)
theorem Wired.postsIn {s t : State} (h : Wired s t) : t.postsIn = s.postsIn := (congrArg State.postsIn h.rest :)
theorem Wired.syncCount {s t : State} (h : Wired s t) : t.syncCount = s.syncCount := (congrArg State.syncCount h.rest :)

/-- Reporting a buffer moves no counter but that of packets sent. -/
theorem ctr_control (s : State) (p type : Nat) (payload : List Byte) (cls unit i : Nat) (h : cls ≠ 0x0A ∨ i ≠ 0) :
    (s.control p type payload).ctr cls unit i = s.ctr cls unit i := by
  show ((s.push _).inc 0x0A p 0 1).ctr cls unit i = _
  rw [ctr_inc, if_neg (by omega)]
  rfl
theorem ctr_sendAck (s : State) (p cls unit i : Nat) (h : cls ≠ 0x0A ∨ i ≠ 0) :
    (s.sendAck p).ctr cls unit i = s.ctr cls unit i := by
  unfold State.sendAck
  split
  · exact ctr_control s p _ _ cls unit i h
  · rfl
theorem ctr_freeBuf (s : State) (o : Option (Nat × Nat)) (cls unit i : Nat) (h : cls ≠ 0x0A ∨ i ≠ 0) :
    (s.freeBuf o).ctr cls unit i = s.ctr cls unit i := by
  unfold State.freeBuf
  split
  · rfl
  · unfold State.sendCredit
    split
    · exact ctr_control _ _ _ _ cls unit i h
    · rfl
/-- A control packet is put on its port's line. -/
theorem outbox_portSend (s : State) (p : Nat) (k : Packet) :
    (s.portSend p k).outbox = s.outbox ++ [Out.run p k (packetWire k)] := by
  unfold State.portSend
  rw [inc_eq]
  rfl
theorem ports_portSend (s : State) (p : Nat) (k : Packet) : (s.portSend p k).ports = s.ports := by
  unfold State.portSend
  rw [inc_eq]
  rfl
theorem vc_of_ports {s t : State} (h : t.ports = s.ports) (p v : Nat) : t.vc p v = s.vc p v := by
  unfold State.vc State.port
  rw [h]
theorem port_of_ports {s t : State} (h : t.ports = s.ports) (p : Nat) : t.port p = s.port p := by
  unfold State.port
  rw [h]
theorem ports_inc (s : State) (cls unit i n : Nat) : (s.inc cls unit i n).ports = s.ports := by rw [inc_eq]

end Sys2Proof.Machine
end

section
/-! PROOFS. Link control on a trained port, and the delay exchange (R105, R514, R517 to R519, R539). -/

namespace Sys2Proof.Machine

/-- A packet of a row's type is counted and taken in. -/
theorem received_eq {s : State} {p : Nat} {k : Packet} {type : Nat} (f : State → State) (on : s.portOn p = true)
    (kind : k.type = type) : s.received p k type f = f (s.inc 0x0A p 1 1) := by
  simp [State.received, on, kind]

theorem trained_of_ports {s t : State} (h : t.ports = s.ports) (p : Nat) : t.trained p = s.trained p := by
  unfold State.trained
  rw [port_of_ports h]

/-- A link-control packet on a trained port is counted and taken in. -/
theorem onControl_eq {s : State} {p : Nat} {k : Packet} {type : Nat} (f : State → State) (on : s.portOn p = true)
    (trained : s.trained p = true) (kind : k.type = type) :
    s.onControl p k type f = f (s.inc 0x0A p 1 1) := by
  unfold State.onControl
  rw [received_eq _ on kind, if_pos]
  rw [trained_of_ports (ports_inc s _ _ _ _), trained]

theorem vc_inc (s : State) (cls unit i n p v : Nat) : (s.inc cls unit i n).vc p v = s.vc p v :=
  vc_of_ports (ports_inc s cls unit i n) p v

/-- Steps for the channels of a port, each a change of its own channel and what that lets go out: a channel has
received and is told what its own step made of it. -/
theorem forEach_hop (p n : Nat) (g : Nat → Vc → Vc) (f : Nat → State → State)
    (step : ∀ v s, Wired (s.updVc p v (g v)) (f v s)) {v : Nat} (h : v < n) (s : State) :
    ∃ x, x.hop = (s.vc p v).hop ∧ ((forEach (List.range n) f s).vc p v).hop = (g v x).hop := by
  have others : ∀ w s, v ≠ w → ((f w s).vc p v).hop = (s.vc p v).hop := fun w s other => by
    rw [(step w s).hop, vc_updVc, if_neg (fun same => other same.2)]
  obtain ⟨u, before, after⟩ := (forEach_once (fun s t : State => (t.vc p v).hop = (s.vc p v).hop) (fun _ => rfl)
    (fun h k => k.trans h) f v others (List.range n) List.nodup_range s).2 (List.mem_range.2 h)
  refine ⟨u.vc p v, before, ?_⟩
  rw [after, (step v u).hop, vc_updVc, if_pos ⟨rfl, rfl⟩]

theorem creditSync_row (s : State) (p : Fin 4) (k : Packet) (on : s.portOn p = true) (trained : s.trained p = true)
    (kind : k.type = 6) : ∃ t, exec (.creditSync p k) s = .next t ∧ ∀ v, v < 4 →
      (t.vc p v).buffers = fieldU k.payload (8 * v) 2 ∧ (t.vc p v).freed = fieldU k.payload (8 * v + 4) 2 := by
  let u := s.inc 0x0A p 1 1
  have taken : exec (.creditSync p k) s = .next (u.onCreditSync p k) := by
    refine congrArg Host.Outcome.next ((received_eq _ on kind).trans (if_pos (.inl ?_)))
    rw [trained_of_ports (ports_inc s _ _ _ _), trained]
  refine ⟨_, taken, fun v known => ?_⟩
  obtain ⟨x, -, hop⟩ := forEach_hop p 4
    (fun v x =>
      let retry := x.covered (fieldU k.payload (8 * v + 2) 2)
      { x with buffers := fieldU k.payload (8 * v) 2, sent := fieldU k.payload (8 * v + 2) 2,
               freed := fieldU k.payload (8 * v + 4) 2, retry, replay := retry.length })
    _ (fun v s => Wired.pumped _ p v) known (u.updPort p fun x => { x with synced := true })
  simp only [Vc.hop, Prod.mk.injEq] at hop
  exact ⟨hop.2.2.1, hop.2.2.2⟩

theorem credit_row (s : State) (p : Fin 4) (k : Packet) (on : s.portOn p = true) (trained : s.trained p = true)
    (kind : k.type = 5) : ∃ t, exec (.credit p k) s = .next t ∧ ∀ v, v < 4 →
      (t.vc p v).freed = fieldU k.payload (2 * v) 2 := by
  refine ⟨_, congrArg Host.Outcome.next (onControl_eq _ on trained kind), fun v known => ?_⟩
  obtain ⟨x, -, hop⟩ := forEach_hop p 4 (fun v x => { x with freed := fieldU k.payload (2 * v) 2 })
    _ (fun v s => Wired.pumped _ p v) known (s.inc 0x0A p 1 1)
  simp only [Vc.hop, Prod.mk.injEq] at hop
  exact hop.2.2.2

/-- What an ACK makes of one channel: its retry store keeps what the count does not cover. -/
def ackStep (p : Nat) (k : Packet) (i : Nat) (s : State) : State :=
  s.updVc p (i + 1) fun x =>
    let retry := x.covered (fieldU k.payload (2 * i) 2)
    { x with retry, replay := min x.replay retry.length }

theorem ack_row (s : State) (p : Fin 4) (k : Packet) (on : s.portOn p = true) (trained : s.trained p = true)
    (kind : k.type = 3) : ∃ t, exec (.ack p k) s = .next t ∧ t.outbox = s.outbox ∧ ∀ i, i < 3 →
      (t.vc p (i + 1)).retry = (s.vc p (i + 1)).covered (fieldU k.payload (2 * i) 2) ∧
      (t.vc p (i + 1)).waiting = (s.vc p (i + 1)).waiting := by
  let u := s.inc 0x0A p 1 1
  have taken : exec (.ack p k) s = .next (forEach (List.range 3) (ackStep p k) u) :=
    congrArg Host.Outcome.next (onControl_eq _ on trained kind)
  refine ⟨_, taken, ?_, fun i known => ?_⟩
  · have quiet := forEach_keeps (P := fun t : State => t.outbox = u.outbox) (ackStep p k) (fun _ _ kept => kept)
      (List.range 3) u rfl
    rw [quiet]
    simp only [u]
    rw [inc_eq]
  · obtain ⟨w, before, after⟩ := (forEach_once (fun s t : State => t.vc p (i + 1) = s.vc p (i + 1)) (fun _ => rfl)
      (fun h k => k.trans h) (ackStep p k) i
      (fun j s other => by rw [ackStep, vc_updVc, if_neg (by omega)]) (List.range 3) List.nodup_range u).2
      (List.mem_range.2 known)
    rw [after, ackStep, vc_updVc, if_pos ⟨rfl, rfl⟩, before, vc_inc]
    exact ⟨rfl, rfl⟩

/-- Packets of a retry store sent again. -/
theorem resend_leaves (p : Nat) (known : p < 65536) (es : List (Nat × Packet)) (s : State) :
    let t := forEach es (fun e s => (s.portSend p e.2).inc 0x0A p 4 1) s
    t.outbox = s.outbox ++ es.map (fun e => Out.run p e.2 (packetWire e.2)) ∧
      t.ctr 0x0A p 4 = s.ctr 0x0A p 4 + BitVec.ofNat 48 es.length ∧ t.ports = s.ports := by
  induction es generalizing s with
  | nil => exact ⟨(List.append_nil _).symm, by simp [forEach], rfl⟩
  | cons e es ih =>
    obtain ⟨sent, counted, ports⟩ := ih ((s.portSend p e.2).inc 0x0A p 4 1)
    refine ⟨sent.trans ?_, counted.trans ?_, ports.trans ?_⟩
    · rw [inc_eq]
      show (s.portSend p e.2).outbox ++ _ = _
      rw [outbox_portSend, List.append_assoc]
      rfl
    · have before : (s.portSend p e.2).ctr 0x0A p 4 = s.ctr 0x0A p 4 := by
        unfold State.portSend
        rw [ctr_inc, if_neg (by omega)]
        rfl
      rw [ctr_inc, if_pos ⟨rfl, rfl, rfl, by simp [ctrIn, known]⟩, before, List.length_cons, BitVec.add_assoc,
        ← BitVec.ofNat_add, Nat.add_comm 1]
    · rw [ports_inc, ports_portSend]

theorem nak_row (s : State) (p : Fin 4) (k : Packet) (on : s.portOn p = true) (trained : s.trained p = true)
    (kind : k.type = 4) (v : Nat) (named : fieldU k.payload 0 1 = v) (lo : 1 ≤ v) (hi : v ≤ 3) :
    let y := s.vc p v
    let again := (y.retry.take (y.retry.length - y.replay)).filter fun e =>
      decide ((e.1 + 1 + 65536 - fieldU k.payload 2 2) % 65536 < 32768)
    ∃ t, exec (.nak p k) s = .next t ∧ t.outbox = s.outbox ++ again.map (fun e => Out.run p e.2 (packetWire e.2)) ∧
      t.ctr 0x0A p 4 = s.ctr 0x0A p 4 + BitVec.ofNat 48 again.length ∧ t.vc p v = y := by
  intro y again
  let u := s.inc 0x0A p 1 1
  have taken : exec (.nak p k) s = .next (forEach again (fun e s => (s.portSend p e.2).inc 0x0A p 4 1) u) := by
    refine congrArg Host.Outcome.next ((onControl_eq _ on trained kind).trans ?_)
    rw [named, if_neg (by omega), vc_inc]
  obtain ⟨sent, counted, ports⟩ := resend_leaves p (by omega) again u
  refine ⟨_, taken, sent.trans ?_, counted.trans ?_, (vc_of_ports ports p v).trans (vc_inc s _ _ _ _ p v)⟩
  · simp only [u]
    rw [inc_eq]
  · simp only [u]
    rw [ctr_inc, if_neg (by omega)]

theorem rate_row (s : State) (p : Fin 4) (k : Packet) (on : s.portOn p = true) (trained : s.trained p = true)
    (kind : k.type = 9) (code : fieldU k.payload 0 1 ≤ 3) (other : fieldU k.payload 0 1 ≠ (s.port p).rate) :
    ∃ t, exec (.rate p k) s = .next t ∧ (t.port p).rate = fieldU k.payload 0 1 ∧ (t.port p).rateAsked = none ∧
      (t.port p).st = (s.port p).st := by
  let u := s.inc 0x0A p 1 1
  have port : u.port p = s.port p := port_of_ports (ports_inc s _ _ _ _) p
  have taken : exec (.rate p k) s = .next (u.setRate p (fieldU k.payload 0 1)) := by
    refine congrArg Host.Outcome.next ((onControl_eq _ on trained kind).trans (if_pos ⟨code, ?_⟩))
    rw [port]
    exact other
  have set : (u.setRate p (fieldU k.payload 0 1)).port p =
      { s.port p with rate := fieldU k.payload 0 1, rateAsked := none } := by
    refine (port_of_ports (ports_portSend _ _ _) p).trans ?_
    rw [port_updPort, if_pos rfl, port]
  exact ⟨_, taken, by rw [set], by rw [set], by rw [set]⟩

theorem delayReq_row (s : State) (p : Fin 4) (k : Packet) (on : s.portOn p = true) (trained : s.trained p = true)
    (age : Nat) (kind : k.type = 7) : ∃ t q, exec (.delayReq p k age) s = .next t ∧
      t.outbox = s.outbox ++ [Out.run p q (packetWire q)] ∧
      q.type = 8 ∧ q.payload = leBytes 8 (fieldU k.payload 0 8) ++ leBytes 8 (s.now - age) ++ leBytes 8 s.now := by
  let answer : Packet :=
    { type := 8, src := s.nodeId, epoch := s.runEpoch,
      payload := leBytes 8 (fieldU k.payload 0 8) ++ leBytes 8 (s.now - age) ++ leBytes 8 s.now }
  have answered : exec (.delayReq p k age) s = .next ((s.inc 0x0A p 1 1).portSend p answer) := by
    refine congrArg Host.Outcome.next ((onControl_eq _ on trained kind).trans ?_)
    rw [inc_eq]
    rfl
  refine ⟨_, answer, answered, ?_, rfl, rfl⟩
  rw [outbox_portSend, inc_eq]

theorem delayResp_row (s : State) (p : Fin 4) (k : Packet) (on : s.portOn p = true) (trained : s.trained p = true)
    (age : Nat) (kind : k.type = 8) : ∃ t, exec (.delayResp p k age) s = .next t ∧ (t.port p).delay =
      if fieldU k.payload 0 8 = (s.port p).t1 then
        ((((s.now - age : Nat) : Int) - fieldU k.payload 0 8) -
          ((fieldU k.payload 16 8 : Int) - fieldU k.payload 8 8)) * 256 / 2
      else (s.port p).delay := by
  refine ⟨_, congrArg Host.Outcome.next (onControl_eq _ on trained kind), ?_⟩
  have port : (s.inc 0x0A p 1 1).port p = s.port p := port_of_ports (ports_inc s _ _ _ _) p
  have now : (s.inc 0x0A p 1 1).now = s.now := by rw [inc_eq]
  by_cases same : fieldU k.payload 0 8 = (s.port p).t1
  · simp [port, now, same]
  · simp [port, same]

theorem delayExchangeDue_row (s : State) (p : Fin 4) (trained : s.trained p = true) (rate : 1 ≤ (s.port p).rate) :
    ∃ t q, exec (.delayExchangeDue p) s = .next t ∧ (t.port p).t1 = s.now ∧
      t.outbox = s.outbox ++ [Out.run p q (packetWire q)] ∧ q.type = 7 ∧ q.payload = leBytes 8 s.now := by
  refine ⟨_, _, congrArg Host.Outcome.next (if_pos ⟨trained, rate⟩), ?_, outbox_portSend _ _ _, rfl, rfl⟩
  refine (congrArg Port.t1 (port_of_ports (ports_portSend _ _ _) p)).trans ?_
  rw [port_updPort, if_pos rfl]

theorem delayExchangeDue_slow (s : State) (p : Fin 4) (rate : (s.port p).rate = 0) :
    exec (.delayExchangeDue p) s = .next s :=
  congrArg Host.Outcome.next (if_neg fun due => by omega)

end Sys2Proof.Machine
end

section
/-! PROOFS. The delivery of one hop: a packet of VC1 to VC3 is accepted when it is the one expected next, and answered
NAK once otherwise (R517). -/

namespace Sys2Proof.Machine

/-- What the packets of the rows leave of every port: its channels' receivers, and the packets it has received. -/
structure Hopped (s t : State) : Prop where
  hop : ∀ p v, (t.vc p v).hop = (s.vc p v).hop
  ctr : ∀ p, t.ctr 0x0A p 1 = s.ctr 0x0A p 1

theorem Hopped.refl (s : State) : Hopped s s := ⟨fun _ _ => rfl, fun _ => rfl⟩
theorem Hopped.trans {s t u : State} (h : Hopped s t) (k : Hopped t u) : Hopped s u :=
  ⟨fun p v => (k.hop p v).trans (h.hop p v), fun p => (k.ctr p).trans (h.ctr p)⟩
theorem Hopped.of_wired {s t : State} (h : Wired s t) : Hopped s t :=
  ⟨h.hop, fun p => h.ctr 0x0A p 1 (by simp [sendCtr])⟩
theorem Hopped.of_told {s t : State} (h : Told s t) : Hopped s t :=
  ⟨fun p v => congrArg Vc.hop (vc_of_ports (congrArg State.ports h.rest :) p v), fun p =>
    h.ctr 0x0A p 1 (by simp [reportCtr])⟩
theorem Hopped.forEach {α : Type} (f : α → State → State) (h : ∀ x s, Hopped s (f x s)) (xs : List α) (s : State) :
    Hopped s (forEach xs f s) :=
  forEach_keeps (P := Hopped s) f (fun x _ kept => kept.trans (h x _)) xs s (.refl s)
theorem Hopped.ite {c : Prop} [Decidable c] {s t u : State} (h : Hopped s t) (k : Hopped s u) :
    Hopped s (if c then t else u) := by
  split
  · exact h
  · exact k
theorem Hopped.inc (s : State) (cls unit i n : Nat) (h : cls ≠ 0x0A ∨ i ≠ 1) : Hopped s (s.inc cls unit i n) where
  hop p v := by rw [vc_inc]
  ctr p := by rw [ctr_inc, if_neg (by omega)]
theorem Hopped.updPort (s : State) (p : Nat) (f : Port → Port)
    (h : ∀ x v, (tget ({} : Vc) (f x).vc v).hop = (tget ({} : Vc) x.vc v).hop) : Hopped s (s.updPort p f) where
  hop q v := by
    unfold State.vc
    rw [port_updPort]
    split
    · next e => rw [h, e]
    · rfl
  ctr _ := rfl
/-- A change of what is neither a port nor a counter. -/
theorem Hopped.of_fields {s t : State} (ports : t.ports = s.ports) (counters : t.counters = s.counters) :
    Hopped s t where
  hop p v := congrArg Vc.hop (vc_of_ports ports p v)
  ctr p := by unfold State.ctr; rw [counters]

theorem Hopped.updCab (s : State) (c : Nat) (f : Cab → Cab) : Hopped s (s.updCab c f) := .of_fields rfl rfl
theorem Hopped.updChan (s : State) (c : Nat) (f : Chan → Chan) : Hopped s (s.updChan c f) := .of_fields rfl rfl
theorem Hopped.updSnap (s : State) (k : Nat) (f : Snap → Snap) : Hopped s (s.updSnap k f) := .of_fields rfl rfl
theorem Hopped.withNodes (s : State) (ns : Tab (Option Node)) : Hopped s { s with nodes := ns } := .of_fields rfl rfl

/-! The rows' own operations (chapter 17). -/

theorem Told.deliver (s : State) (m : Nat) (ws : List (Nat × List Byte)) : Told s (s.deliver m ws).1 := by
  unfold State.deliver
  split
  · exact Told.forEach _ (fun w t => .hostWrite t m _ _) ws s
  · exact .refl s
theorem Told.tellPort (s : State) (p : Nat) : Told s (s.tellPort p) := .raiseTo s _ _
theorem Told.tellNode (s : State) (aux id inc : Nat) : Told s (s.tellNode aux id inc) := .raiseTo s _ _
theorem Told.tellMaster (s : State) (aux : Nat) : Told s (s.tellMaster aux) := .raiseTo s _ _

theorem Hopped.setPort (s : State) (p st : Nat) : Hopped s (s.setPort p st) := by
  unfold State.setPort
  refine .ite (.refl s) (Hopped.trans ?_ (.of_told (.tellPort _ p)))
  exact .updPort s p _ fun _ _ => rfl
theorem Hopped.complete (s : State) (q : Request) (response : Bool) (status : Nat) (data : List Byte) :
    Hopped s (s.complete q response status data) := by
  unfold State.complete
  extract_lets ended counted written
  have ending : Hopped s ended := .of_fields rfl rfl
  have counting : Hopped ended counted := .inc ended 8 q.cab 25 1 (.inl (by decide))
  refine .ite ending (.ite ?_ ?_)
  · exact (ending.trans counting).trans (.updCab counted _ _)
  · have writing : Hopped ended written := .ite (.of_told (.deliver ended _ _)) (.refl ended)
    exact (ending.trans writing).trans (.of_told (.raise written _ _))
theorem Hopped.undelivered (s : State) (o : Posted) : Hopped s (s.undelivered o) := by
  unfold State.undelivered
  extract_lets counted noted
  have counting : Hopped s counted := .inc s 8 o.cab 24 1 (.inl (by decide))
  have noting : Hopped counted noted := .updCab counted _ _
  exact (counting.trans noting).trans (.of_told (.raise noted _ _))
theorem Hopped.endTransactions (s : State) (ids : List Nat) : Hopped s (s.endTransactions ids) := by
  unfold State.endTransactions
  extract_lets ended
  have ending : Hopped s ended :=
    .forEach _ (fun _ t => .forEach _ (fun q u => .complete u q _ _ _) _ t) ids s
  refine ending.trans (.forEach _ (fun id t => ?_) ids ended)
  extract_lets gone kept
  have keeping : Hopped t kept := .of_fields rfl rfl
  exact keeping.trans (.forEach _ (fun o u => .undelivered u o) gone kept)
theorem Hopped.tellLeave (s : State) (p : Nat) (e : List Byte) : Hopped s (s.tellLeave p e) := by
  have down : ∀ k : Packet, Hopped s (Machine.forEach (s.treePorts (some p))
      (fun q s => s.enqueue q none { k with bcast := true }) s) :=
    fun k => .forEach _ (fun q t => .of_wired (.enqueue t q _ _)) _ s
  unfold State.tellLeave
  extract_lets from_ k
  split
  · exact .ite (down k) (.of_wired (.enqueue s _ _ _))
  · exact down k
theorem Hopped.leaveNodes (s : State) (p : Nat) (ids : List (Nat × Node)) : Hopped s (s.leaveNodes p ids) := by
  unfold State.leaveNodes
  extract_lets gone told ended
  have leaving : Hopped s gone := .withNodes s _
  have telling : Hopped gone told := .forEach _ (fun x t => .tellLeave t p _) ids gone
  have ending : Hopped told ended := .endTransactions told _
  exact ((leaving.trans telling).trans ending).trans (.forEach _ (fun x t => .of_told (.tellNode t _ _ _)) ids ended)
theorem Hopped.departNodes (s : State) (p : Nat) : Hopped s (s.departNodes p) := .leaveNodes s p _
theorem Hopped.dropWaiting (s : State) (p : Nat) : Hopped s (s.dropWaiting p) := by
  unfold State.dropWaiting
  extract_lets origins dropped
  have dropping : Hopped s dropped := .updPort s p _ fun x v => by rw [tget_tmap _ _ _ rfl]; rfl
  exact dropping.trans (.forEach _ (fun o t => .of_wired (.freeBuf t o)) origins dropped)
theorem Hopped.blockPort (s : State) (p cause : Nat) :
    Hopped s (((s.updPort p fun x => { x with blocked := cause, joins := false }).setPort p 4).dropWaiting p) := by
  refine Hopped.trans (Hopped.trans ?_ (.setPort _ p 4)) (.dropWaiting _ p)
  exact .updPort s p _ fun _ _ => rfl
theorem Hopped.refusePort (s : State) (p cause : Nat) : Hopped s (s.refusePort p cause) :=
  (Hopped.blockPort s p cause).trans (.departNodes _ p)
theorem Hopped.portRoles (s : State) : Hopped s s.portRoles := by
  refine .forEach _ (fun p t => ?_) _ s
  dsimp only
  split
  · exact .setPort t p _
  · exact .refl t
theorem Hopped.sendAdverts (s : State) : Hopped s s.sendAdverts := by
  refine .forEach _ (fun p t => ?_) _ s
  unfold State.sendAdvert
  extract_lets st
  exact .ite (.of_wired (.control t p _ _)) (.refl t)

theorem Hopped.refuseMerge (s : State) (p : Nat) : Hopped s (s.refuseMerge p) := by
  unfold State.refuseMerge
  extract_lets all blocked left refused
  have blocking : Hopped s blocked := .blockPort s p 3
  have refusing : Hopped s refused := .refusePort s p 3
  clear_value blocked refused
  split
  · extract_lets back gone restored anchored
    have restoring : Hopped blocked restored := .of_fields rfl rfl
    clear_value restored
    have anchoring : Hopped restored anchored := .forEach _ (fun c t => .updChan t c _) _ restored
    exact ((((blocking.trans restoring).trans anchoring).trans (.leaveNodes anchored p gone)).trans
      (.portRoles _)).trans (.sendAdverts _)
  · refine refusing.trans (.ite ?_ (.refl refused))
    refine Hopped.trans (Hopped.trans (Hopped.trans ?_ (.portRoles _)) (.of_told (.tellMaster _ 1))) (.sendAdverts _)
    exact .of_fields rfl rfl

theorem Hopped.memberJoin (s : State) (p : Nat) (bcast : Bool) (e : List Byte) : Hopped s (s.memberJoin p bcast e) := by
  unfold State.memberJoin
  extract_lets id uid inc clash
  refine .ite (.refl s) (.ite (.ite (.refl s) (.refuseMerge s p)) ?_)
  split
  · exact .withNodes s _
  · refine Hopped.trans ?_ (.of_told (.tellNode _ 1 id inc.toNat))
    exact .of_fields rfl rfl
theorem Hopped.memberLeave (s : State) (p : Nat) (e : List Byte) : Hopped s (s.memberLeave p e) := by
  unfold State.memberLeave
  extract_lets id
  split
  · next n _ =>
    refine .ite ?_ (.refl s)
    exact ((Hopped.withNodes s _).trans (.endTransactions _ [id])).trans (.of_told (.tellNode _ 3 id n.inc.toNat))
  · exact .refl s
theorem Hopped.ackPosts (s : State) (src : Nat) : Hopped s (s.ackPosts src) := by
  unfold State.ackPosts
  extract_lets x acked
  have acking : Hopped s acked := .of_fields rfl rfl
  exact acking.trans (.of_wired (.sendPkt acked none _))

theorem Hopped.overrun (s : State) (c domain n : Nat) : Hopped s (s.overrun c domain n) := by
  unfold State.overrun
  refine .ite (.refl s) (Hopped.trans ?_ (.inc _ 0x0C domain 0 n (.inl (by decide))))
  exact .of_fields rfl rfl
theorem Hopped.launch (s : State) (c src dst : Nat) : Hopped s (s.launch c src dst) := .of_fields rfl rfl
theorem Hopped.deliveredNow (s : State) (c : Nat) : Hopped s (s.deliveredNow c) := .of_fields rfl rfl
theorem Hopped.pulse (s : State) (c src dst : Nat) : Hopped s (s.pulse c src dst).1 := by
  unfold State.pulse
  split
  · exact .overrun s c dst 1
  · split
    · exact (Hopped.launch s c src dst).trans (.deliveredNow _ c)
    · exact (Hopped.launch s c src dst).trans (.overrun _ c dst 1)
theorem Hopped.snapPulse (s : State) (d : Nat) (missed : List Nat) : Hopped s (s.snapPulse d missed).1 := by
  unfold State.snapPulse
  split
  · exact .refl s
  · split
    · exact .overrun s (16 + d) d 1
    · exact .pulse s (16 + d) 95 d
theorem Hopped.snapPulses (ds : List Nat) (x : State × List Nat) :
    Hopped x.1 (ds.foldl (fun (x : State × List Nat) d => x.1.snapPulse d x.2) x).1 := by
  induction ds generalizing x with
  | nil => exact .refl x.1
  | cons d ds ih => exact (Hopped.snapPulse x.1 d x.2).trans (ih _)
theorem Hopped.takeSnap (s : State) (slot : Nat) (late : Bool) : Hopped s (s.takeSnap slot late) := by
  unfold State.takeSnap
  extract_lets stopped live
  generalize pulsing : live.foldl (fun (x : State × List Nat) d => x.1.snapPulse d x.2) (s, []) = w
  have pulsed : Hopped s w.1 := by
    rw [← pulsing]
    exact .snapPulses live (s, [])
  clear pulsing
  obtain ⟨u, missed⟩ := w
  dsimp only
  have latching : Hopped u (u.latchAll missed) := .of_fields rfl rfl
  generalize u.latchAll missed = v at latching ⊢
  refine Hopped.trans (Hopped.trans ?_ (.inc _ 0x0E 0 11 1 (.inl (by decide)))) (.of_told (.raiseTo _ _ _))
  refine (Hopped.trans pulsed latching).trans (Hopped.trans ?_ (.updSnap _ slot _))
  exact .of_fields rfl rfl
theorem Hopped.armSnap (s : State) (slot k owner ch dir : Nat) (target : Pos) (x : Snap) :
    Hopped s (s.armSnap slot k owner ch dir target x) := by
  unfold State.armSnap
  extract_lets armed
  have arming : Hopped s armed := .of_fields rfl rfl
  refine arming.trans (.ite ?_ (.of_fields rfl rfl))
  exact (Hopped.inc armed 6 ch 5 1 (.inl (by decide))).trans (.takeSnap _ slot true)

/-- A snapshot that cannot be taken is counted and told (R596). -/
def State.missed (s : State) (k : Packet) (cause : Nat) : State :=
  (s.inc 0x0E 0 12 1).raise 0 (s.ev 0x0B02 0xFF (fieldU k.payload 0 1) (w2 (k.src + cause * 65536)))
theorem Hopped.missed (s : State) (k : Packet) (cause : Nat) : Hopped s (s.missed k cause) :=
  (Hopped.inc s 0x0E 0 12 1 (.inl (by decide))).trans (.of_told (.raise _ 0 _))
theorem Hopped.receiveSnap (s : State) (k : Packet) : Hopped s (s.receiveSnap k) := by
  unfold State.receiveSnap
  extract_lets id mc fl target miss ch
  have missed : ∀ cause, Hopped s (miss cause) := .missed s k
  clear_value miss ch
  cases ch
  · exact missed 1
  · dsimp only
    split
    · exact .ite (missed 3) (.ite (missed 5) (.ite (missed 6) (.armSnap s _ _ 0 _ _ _ _)))
    · exact missed 2

/-- A packet for another node is passed on, answered or discarded. -/
theorem Hopped.routed (s : State) (p : Nat) (k : Packet) (f : State → State) (h : ∀ t, Hopped t (f t)) :
    Hopped s (s.routed p k f) := by
  unfold State.routed
  refine .ite (h s) ?_
  split
  · exact .of_wired (.forward s p _ _ k)
  · exact .ite (.of_wired (.respond s p k 5 [])) (.of_wired (.discard s _ k))

/-! What the rows do with a packet for this node (R526, R532, R534, R537). -/

/-- A post is counted, and acknowledged with the 64th. -/
def State.takePost (s : State) (p : Nat) (k : Packet) : State :=
  let s := { s with postsIn := tupd {} s.postsIn k.src fun x =>
    { count := x.count + 1, unacked := x.unacked + 1, first := if x.unacked = 0 then s.now else x.first } }
  let s := s.freeBuf (some (p, 1))
  if 64 ≤ (tget {} s.postsIn k.src).unacked then s.ackPosts k.src else s

/-- A response completes its request, or is counted. -/
def State.takeResp (s : State) (p : Nat) (k : Packet) : State :=
  let s := s.freeBuf (some (p, 2))
  match s.requests.find? fun q => q.id = fieldU k.payload 0 2 ∧ (q.dest = k.src ∨ fieldU k.payload 2 1 = 5) with
  | some q => s.complete q true (fieldU k.payload 2 1) ((k.payload.drop 8).take (fieldU k.payload 3 1))
  | none => s.inc 0x0A p 7 1

/-- Whether an acknowledgement covers a post. -/
def Posted.ackedBy (k : Packet) (o : Posted) : Bool :=
  o.dest == k.src && decide ((fieldU k.payload 0 4 + 2 ^ 32 - o.n % 2 ^ 32) % 2 ^ 32 < 2 ^ 31)

/-- The posts that an acknowledgement covers are acknowledged. -/
def State.takePostAck (s : State) (p : Nat) (k : Packet) : State :=
  let s := s.freeBuf (some (p, 2))
  let acked := s.posts.filter (Posted.ackedBy k)
  let s := { s with posts := s.posts.filter fun o => !Posted.ackedBy k o }
  forEach acked (fun o s =>
    (s.inc 8 o.cab 23 1).updCab o.cab fun x =>
      { x with resetting := x.resetting.map fun r => { r with acked := r.acked + 1 } }) s

/-- An event is told, or counted where it is too long. -/
def State.takeEvent (s : State) (p : Nat) (k : Packet) : State :=
  let s := s.freeBuf (some (p, 3))
  if k.payload.length ≤ 6 then
    s.raiseTo (s.nodeCabs k.src)
      (s.ev 0x0A06 0xFF k.payload.length (w2 (k.src + leNat k.payload * 2 ^ 16)))
  else s.inc 0x0A p 8 1

/-- An entry of MEMBER. -/
def State.takeEntry (s : State) (p : Nat) (k : Packet) (i : Nat) : State :=
  let e := (k.payload.drop (4 + 16 * i)).take 16
  if fieldU k.payload 0 1 = 1 then s.memberJoin p k.bcast e
  else if fieldU k.payload 0 1 = 2 then s.memberLeave p e else s

/-- MEMBER goes on toward the root, or from it to every node. -/
def State.passMember (s : State) (p : Nat) (k : Packet) : State :=
  match s.parent with
  | some q =>
    if k.bcast ∨ q = p then s.rebroadcast p (some (p, 3)) (s.treePorts (some p)) k
    else s.forward p (some (p, 3)) q k
  | none => s.rebroadcast p (some (p, 3)) (s.treePorts (if k.bcast then some p else none)) k

/-- MEMBER is learned and passed on. -/
def State.takeMember (s : State) (p : Nat) (k : Packet) : State :=
  (forEach (List.range (min (fieldU k.payload 1 1) 3)) (fun i s => s.takeEntry p k i) s).passMember p k

theorem Hopped.takePost (s : State) (p : Nat) (k : Packet) : Hopped s (s.takePost p k) := by
  unfold State.takePost
  extract_lets counted freed
  have counting : Hopped s counted := .of_fields rfl rfl
  have freeing : Hopped counted freed := .of_wired (.freeBuf counted _)
  exact (counting.trans freeing).trans (.ite (.ackPosts freed k.src) (.refl freed))
theorem Hopped.takeResp (s : State) (p : Nat) (k : Packet) : Hopped s (s.takeResp p k) := by
  unfold State.takeResp
  extract_lets freed
  have freeing : Hopped s freed := .of_wired (.freeBuf s _)
  clear_value freed
  refine freeing.trans ?_
  split
  · exact .complete freed _ true _ _
  · exact .inc freed 0x0A p 7 1 (.inr (by decide))
theorem Hopped.takePostAck (s : State) (p : Nat) (k : Packet) : Hopped s (s.takePostAck p k) := by
  unfold State.takePostAck
  extract_lets freed acked kept
  have freeing : Hopped s freed := .of_wired (.freeBuf s _)
  have keeping : Hopped freed kept := .of_fields rfl rfl
  refine (freeing.trans keeping).trans (.forEach _ (fun o t => ?_) acked kept)
  exact (Hopped.inc t 8 o.cab 23 1 (.inl (by decide))).trans (.updCab _ _ _)
theorem Hopped.takeEvent (s : State) (p : Nat) (k : Packet) : Hopped s (s.takeEvent p k) := by
  unfold State.takeEvent
  extract_lets freed
  have freeing : Hopped s freed := .of_wired (.freeBuf s _)
  exact freeing.trans (.ite (.of_told (.raiseTo freed _ _)) (.inc freed 0x0A p 8 1 (.inr (by decide))))
theorem Wired.passMember (s : State) (p : Nat) (k : Packet) : Wired s (s.passMember p k) := by
  unfold State.passMember
  split
  · split
    · exact .rebroadcast s p _ _ k
    · exact .forward s p _ _ k
  · exact .rebroadcast s p _ _ k
theorem Hopped.takeMember (s : State) (p : Nat) (k : Packet) : Hopped s (s.takeMember p k) := by
  refine Hopped.trans (.forEach _ (fun i t => ?_) _ s) (.of_wired (.passMember _ p k))
  exact .ite (.memberJoin t p _ _) (.ite (.memberLeave t p _) (.refl t))

/-! Acceptance (R517). -/

theorem outbox_inc (s : State) (cls unit i n : Nat) : (s.inc cls unit i n).outbox = s.outbox := by rw [inc_eq]

/-- A state that has taken a packet in on a channel. -/
def State.accepted (s : State) (p v : Nat) : State :=
  (s.inc 0x0A p 1 1).updVc p v fun x => { x with received := (x.received + 1) % 65536, naked := false }

theorem st_inc (s : State) (cls unit i n p : Nat) : ((s.inc cls unit i n).port p).st = (s.port p).st := by
  rw [port_of_ports (ports_inc s cls unit i n)]

/-- The packet expected next is taken in, and acknowledged. -/
theorem onVc_expected {s : State} {p : Nat} {k : Packet} {type v : Nat} (f : State → State) (on : s.portOn p = true)
    (active : (s.port p).st = 2) (kind : k.type = type) (next : k.seq = ((s.vc p v).received + 1) % 4096) :
    s.onVc p k type v f = (f (s.accepted p v)).sendAck p := by
  unfold State.onVc
  rw [received_eq _ on kind, if_neg (by rw [st_inc]; simp [active])]
  dsimp only
  rw [vc_inc, if_pos next]
  rfl

/-- Another packet is answered NAK, and only once. -/
theorem onVc_other {s : State} {p : Nat} {k : Packet} {type v : Nat} (f : State → State) (on : s.portOn p = true)
    (active : (s.port p).st = 2) (kind : k.type = type) (other : k.seq ≠ ((s.vc p v).received + 1) % 4096) :
    s.onVc p k type v f =
      if (s.vc p v).naked = true then s.inc 0x0A p 1 1
      else (((s.inc 0x0A p 1 1).updVc p v fun x => { x with naked := true }).inc 0x0A p 3 1).sendNak p v := by
  unfold State.onVc
  rw [received_eq _ on kind, if_neg (by rw [st_inc]; simp [active])]
  dsimp only
  rw [vc_inc, if_neg other]

theorem vc_accepted (s : State) (p v q w : Nat) :
    (s.accepted p v).vc q w =
      if q = p ∧ w = v then { s.vc p v with received := ((s.vc p v).received + 1) % 65536, naked := false }
      else s.vc q w := by
  unfold State.accepted
  rw [vc_updVc, vc_inc, vc_inc]
theorem ctr_accepted (s : State) (p v cls unit i : Nat) :
    (s.accepted p v).ctr cls unit i = (s.inc 0x0A p 1 1).ctr cls unit i := rfl

/-- Acceptance on one hop (R517). -/
theorem onVc_row (instr : Fin 4 → Packet → Instr) (type v : Nat) (f : Fin 4 → Packet → State → State)
    (takes : ∀ p k s, exec (instr p k) s = .next (s.onVc p k type v (f p k))) (keeps : ∀ p k s, Hopped s (f p k s))
    (s : State) (p : Fin 4) (k : Packet) (on : s.portOn p = true) (active : (s.port p).st = 2) (kind : k.type = type) :
    let y := s.vc p v
    (k.seq = (y.received + 1) % 4096 → ∃ t, exec (instr p k) s = .next t ∧ t.ctr 0x0A p 1 = s.ctr 0x0A p 1 + 1 ∧
      (t.vc p v).received = (y.received + 1) % 65536 ∧ (t.vc p v).naked = false) ∧
    (k.seq ≠ (y.received + 1) % 4096 → ∃ t, exec (instr p k) s = .next t ∧ t.ctr 0x0A p 1 = s.ctr 0x0A p 1 + 1 ∧
      t.vc p v = { y with naked := true } ∧
      t.ctr 0x0A p 3 = s.ctr 0x0A p 3 + (if y.naked then 0 else 1) ∧ (y.naked = true → t.outbox = s.outbox) ∧
      (y.naked = false → ∃ q, t.outbox = s.outbox ++ [Out.run p q (packetWire q)] ∧ q.type = 4 ∧
        q.payload = leBytes 1 v ++ leBytes 1 0 ++ leBytes 2 (y.received + 1))) := by
  intro y
  have counted : (s.inc 0x0A p 1 1).ctr 0x0A p 1 = s.ctr 0x0A p 1 + 1 := by
    rw [ctr_inc, if_pos ⟨rfl, rfl, rfl, by simp [ctrIn]; omega⟩]
    rfl
  refine ⟨fun next => ?_, fun other => ?_⟩
  · have kept : Hopped (s.accepted p v) ((f p k (s.accepted p v)).sendAck p) :=
      (keeps p k _).trans (.of_wired (.sendAck _ p))
    have hop := kept.hop p v
    rw [vc_accepted, if_pos ⟨rfl, rfl⟩] at hop
    simp only [Vc.hop, Prod.mk.injEq] at hop
    obtain ⟨received, naked, -, -⟩ := hop
    refine ⟨_, (takes p k s).trans (congrArg Host.Outcome.next (onVc_expected _ on active kind next)), ?_, received,
        naked⟩
    rw [kept.ctr, ctr_accepted, counted]
  · have answered := (takes p k s).trans (congrArg Host.Outcome.next (onVc_other (f p k) on active kind other))
    by_cases naked : y.naked = true
    · rw [if_pos naked] at answered
      refine ⟨_, answered, counted, ?_, ?_, fun _ => by rw [inc_eq], fun not => by simp [naked] at not⟩
      · rw [vc_inc]
        simp only [y] at naked ⊢
        rw [← naked]
      · rw [ctr_inc, if_neg (by omega), if_pos naked]
        simp
    · rw [if_neg naked] at answered
      let u := ((s.inc 0x0A p 1 1).updVc p v fun x => { x with naked := true }).inc 0x0A p 3 1
      have vc : u.vc p v = { y with naked := true } := by
        simp only [u]
        rw [vc_inc, vc_updVc, if_pos ⟨rfl, rfl⟩, vc_inc]
      let nak : Packet :=
        { type := 4, src := u.nodeId, epoch := u.runEpoch,
          payload := leBytes 1 v ++ leBytes 1 0 ++ leBytes 2 ((u.vc p v).received + 1) }
      refine ⟨u.sendNak p v, answered, ?_, (vc_of_ports (ports_portSend _ _ _) p v).trans vc, ?_,
          fun h => absurd h naked,
        fun _ => ⟨nak, ?_, rfl, ?_⟩⟩
      · rw [State.sendNak, ctr_control _ _ _ _ _ _ _ (.inr (by decide))]
        simp only [u]
        rw [ctr_inc, if_neg (by omega)]
        exact counted
      · rw [State.sendNak, ctr_control _ _ _ _ _ _ _ (.inr (by decide)), if_neg naked]
        simp only [u]
        rw [ctr_inc, if_pos ⟨rfl, rfl, rfl, by simp [ctrIn]; omega⟩]
        show (s.inc 0x0A p 1 1).ctr 0x0A p 3 + _ = _
        rw [ctr_inc, if_neg (by omega)]
        rfl
      · have quiet : u.outbox = s.outbox := (outbox_inc _ _ _ _ _).trans (outbox_inc s _ _ _ _)
        refine (outbox_portSend u p nak).trans ?_
        rw [quiet]
      · simp only [nak, vc, y]

theorem hopRows_row : ∀ row ∈ [((.read : Fin 4 → Packet → Instr), 0x18, 1), (.write, 0x19, 1), (.post, 0x1A, 1),
      (.resp, 0x20, 2), (.postAck, 0x21, 2), (.event, 0x28, 3), (.member, 0x29, 3), (.snap, 0x2A, 3)],
   ∀ (s : State) (p : Fin 4) (k : Packet), s.portOn p = true → (s.port p).st = 2 → k.type = row.2.1 →
   let y := s.vc p row.2.2
   (k.seq = (y.received + 1) % 4096 → ∃ t, exec (row.1 p k) s = .next t ∧ t.ctr 0x0A p 1 = s.ctr 0x0A p 1 + 1 ∧
     (t.vc p row.2.2).received = (y.received + 1) % 65536 ∧ (t.vc p row.2.2).naked = false) ∧
   (k.seq ≠ (y.received + 1) % 4096 → ∃ t, exec (row.1 p k) s = .next t ∧ t.ctr 0x0A p 1 = s.ctr 0x0A p 1 + 1 ∧
     t.vc p row.2.2 = { y with naked := true } ∧
     t.ctr 0x0A p 3 = s.ctr 0x0A p 3 + (if y.naked then 0 else 1) ∧ (y.naked = true → t.outbox = s.outbox) ∧
     (y.naked = false → ∃ q, t.outbox = s.outbox ++ [Out.run p q (packetWire q)] ∧ q.type = 4 ∧
       q.payload = leBytes 1 row.2.2 ++ leBytes 1 0 ++ leBytes 2 (y.received + 1))) := by
  intro row mem
  simp only [List.mem_cons, List.not_mem_nil, or_false] at mem
  rcases mem with rfl | rfl | rfl | rfl | rfl | rfl | rfl | rfl
  · exact onVc_row .read 0x18 1 _ (fun _ _ _ => rfl) fun p k s => .routed s p k _ fun t =>
      .ite (.of_wired (.respond t _ _ _ _)) (.of_wired (.respond t _ _ _ _))
  · exact onVc_row .write 0x19 1 _ (fun _ _ _ => rfl) fun p k s => .routed s p k _ fun t =>
      .of_wired (.respond t _ _ _ _)
  · exact onVc_row .post 0x1A 1 _ (fun _ _ _ => rfl) fun p k s => .routed s p k _ fun t => .takePost t p k
  · exact onVc_row .resp 0x20 2 _ (fun _ _ _ => rfl) fun p k s => .routed s p k _ fun t => .takeResp t p k
  · exact onVc_row .postAck 0x21 2 _ (fun _ _ _ => rfl) fun p k s => .routed s p k _ fun t => .takePostAck t p k
  · exact onVc_row .event 0x28 3 _ (fun _ _ _ => rfl) fun p k s => .routed s p k _ fun t => .takeEvent t p k
  · exact onVc_row .member 0x29 3 _ (fun _ _ _ => rfl) fun p k s => .takeMember s p k
  · exact onVc_row .snap 0x2A 3 _ (fun _ _ _ => rfl) fun p k s =>
      (Hopped.of_wired (.rebroadcast s p _ _ k)).trans (.receiveSnap _ k)

end Sys2Proof.Machine
end

section
/-! PROOFS. Packets for this node: reads and writes answered, posts, responses, events, members and snapshots (R526,
R532, R534, R537, R596). -/

namespace Sys2Proof.Machine

theorem accepted_unsent (s : State) (p v : Nat) : (s.accepted p v).unsent = s.unsent := by
  unfold State.accepted
  rw [inc_eq]
  rfl
theorem st_accepted (s : State) (p v q : Nat) : ((s.accepted p v).port q).st = (s.port q).st := by
  have kept : ∀ t : State, ((t.updVc p v fun x =>
      { x with received := (x.received + 1) % 65536, naked := false }).port q).st = (t.port q).st := fun t => by
    unfold State.updVc
    rw [port_updPort]
    split
    · next e => rw [e]
    · rfl
  exact (kept _).trans (st_inc s _ _ _ _ q)
theorem routeTo_accepted (s : State) (p v id : Nat) : (s.accepted p v).routeTo id = s.routeTo id := by
  have nodes : (s.accepted p v).nodes = s.nodes := (congrArg State.nodes (accepted_unsent s p v) :)
  have parent : (s.accepted p v).parent = s.parent := (congrArg State.parent (accepted_unsent s p v) :)
  unfold State.routeTo State.node
  simp only [nodes, parent, st_accepted]

/-- The packet expected next, for this node, is taken in, has its effect, and is acknowledged. -/
theorem onVc_here {s : State} {p : Nat} {k : Packet} {type v : Nat} (f : State → State) (on : s.portOn p = true)
    (active : (s.port p).st = 2) (kind : k.type = type) (here : k.dest = s.nodeId)
    (next : k.seq = ((s.vc p v).received + 1) % 4096) :
    (s.onVc p k type v fun s => s.routed p k f) = (f (s.accepted p v)).sendAck p := by
  rw [onVc_expected _ on active kind next, State.routed, if_pos]
  exact here.trans (congrArg State.nodeId (accepted_unsent s p v) :).symm

/-! Answers (R537). -/

/-- On an ACTIVE port with credit and nothing before it a packet goes out at once. -/
theorem enqueue_sends (s : State) (q : Nat) (o : Option (Nat × Nat)) (k : Packet) (active : (s.port q).st = 2)
    (ordered : k.vc ≠ 0) (credit : (s.vc q k.vc).credits ≠ 0) (replayed : (s.vc q k.vc).replay = 0)
    (first : (s.vc q k.vc).waiting = []) :
    Out.run q { k with seq := ((s.vc q k.vc).count + 1) % 4096 }
      (packetWire { k with seq := ((s.vc q k.vc).count + 1) % 4096 }) ∈ (s.enqueue q o k).outbox := by
  let w := s.updVc q k.vc fun x => { x with waiting := x.waiting ++ [(o, k)] }
  have vc : w.vc q k.vc = { s.vc q k.vc with waiting := [(o, k)] } := by
    simp only [w]
    rw [vc_updVc, if_pos ⟨rfl, rfl⟩, first]
    rfl
  have st : (w.port q).st = 2 := by
    simp only [w, State.updVc]
    rw [port_updPort, if_pos rfl]
    exact active
  have handed : s.enqueue q o k = State.pump 1 q k.vc w := by
    unfold State.enqueue
    dsimp only
    rw [if_pos active, if_neg (by simp [ordered])]
    show State.pump ((w.vc q k.vc).replay + (w.vc q k.vc).waiting.length) q k.vc w = _
    rw [vc]
    simp only [replayed]
    rfl
  have lined : ∃ t : State, s.enqueue q o k =
      (t.portSend q { k with seq := ((s.vc q k.vc).count + 1) % 4096 }).freeBuf o := by
    have held : ({ s.vc q k.vc with waiting := [(o, k)] } : Vc).credits ≠ 0 := credit
    rw [handed, State.pump, vc]
    dsimp only
    rw [if_neg (by simp [st, ordered, held]), if_neg (by omega)]
    simp only [if_neg ordered]
    exact ⟨_, rfl⟩
  obtain ⟨t, lined⟩ := lined
  rw [lined]
  refine (Wired.freeBuf _ o).sent.subset ?_
  rw [outbox_portSend]
  simp

/-- The answer to a request. -/
def State.answerTo (s : State) (q : Nat) (k : Packet) (status : Nat) (data : List Byte) : Packet :=
  { type := 0x20, vc := 2, src := s.nodeId, dest := k.src, hops := 1, epoch := s.runEpoch,
    seq := ((s.vc q 2).count + 1) % 4096,
    payload := leBytes 2 (fieldU k.payload 0 2) ++ leBytes 1 status ++ leBytes 1 data.length ++ leBytes 4 0 ++ data }

theorem respond_sends (s : State) (p q : Nat) (k : Packet) (status : Nat) (data : List Byte)
    (route : s.routeTo k.src = some q) (active : (s.port q).st = 2) (credit : (s.vc q 2).credits ≠ 0)
    (replayed : (s.vc q 2).replay = 0) (first : (s.vc q 2).waiting = []) :
    Out.run q (s.answerTo q k status data) (packetWire (s.answerTo q k status data)) ∈
      ((s.accepted p 1).respond p k status data).outbox := by
  have vc : (s.accepted p 1).vc q 2 = s.vc q 2 := by rw [vc_accepted, if_neg (by omega)]
  have node : (s.accepted p 1).nodeId = s.nodeId := (congrArg State.nodeId (accepted_unsent s p 1) :)
  have epoch : (s.accepted p 1).runEpoch = s.runEpoch := (congrArg State.runEpoch (accepted_unsent s p 1) :)
  unfold State.respond State.sendPkt
  dsimp only
  rw [routeTo_accepted, route]
  dsimp only
  have sent := enqueue_sends (s.accepted p 1) q (some (p, 1))
    { type := 0x20, vc := 2, src := (s.accepted p 1).nodeId, dest := k.src, hops := 1,
      epoch := (s.accepted p 1).runEpoch,
      payload := leBytes 2 (fieldU k.payload 0 2) ++ leBytes 1 status ++ leBytes 1 data.length ++ leBytes 4 0 ++ data }
    (by rw [st_accepted]; exact active) (by decide : (2 : Nat) ≠ 0) (by rw [vc]; exact credit)
    (by rw [vc]; exact replayed) (by rw [vc]; exact first)
  dsimp only at sent
  rw [vc, node, epoch] at sent
  rw [node, epoch]
  exact sent

theorem answer_row (s : State) (p : Fin 4) (k : Packet) (on : s.portOn p = true) (active : (s.port p).st = 2)
    (kind : k.type = 0x18 ∨ k.type = 0x19) (here : k.dest = s.nodeId)
    (next : k.seq = ((s.vc p 1).received + 1) % 4096) (q : Nat) (route : s.routeTo k.src = some q)
    (able : (s.port q).st = 2) (credit : (s.vc q 2).credits ≠ 0) (replayed : (s.vc q 2).replay = 0)
    (first : (s.vc q 2).waiting = []) :
    let a := fieldU k.payload 4 4
    let n := fieldU k.payload 2 1
    let ans : Nat × List Byte := if k.type = 0x19 then (2, [])
      else if a + n ≤ 256 then (0, ((s.identityAt 0 s.now).drop a).take n) else (1, [])
    let resp : Packet :=
      { type := 0x20, vc := 2, src := s.nodeId, dest := k.src, hops := 1, epoch := s.runEpoch,
        seq := ((s.vc q 2).count + 1) % 4096,
        payload := leBytes 2 (fieldU k.payload 0 2) ++ leBytes 1 ans.1 ++ leBytes 1 ans.2.length ++ leBytes 4 0 ++
            ans.2 }
    ∃ t, exec (if k.type = 0x18 then .read p k else .write p k) s = .next t ∧
      Out.run q resp (packetWire resp) ∈ t.outbox := by
  intro a n ans resp
  have sends : Out.run q resp (packetWire resp) ∈ (((s.accepted p 1).respond p k ans.1 ans.2).sendAck p).outbox :=
    (Wired.sendAck _ p).sent.subset (respond_sends s p q k ans.1 ans.2 route able credit replayed first)
  refine ⟨_, ?_, sends⟩
  rcases kind with read | write
  · rw [if_pos read]
    refine congrArg Host.Outcome.next ((onVc_here _ on active read here next).trans ?_)
    have block : (s.accepted p 1).identityAt 0 (s.accepted p 1).now = s.identityAt 0 s.now :=
      (congrArg (fun u : State => u.identityAt 0 u.now) (accepted_unsent s p 1) :)
    simp only [ans, a, n, read, block]
    split <;> rfl
  · rw [if_neg (by omega)]
    refine congrArg Host.Outcome.next ((onVc_here _ on active write here next).trans ?_)
    simp only [ans, write]
    rfl

/-! Posts and responses (R532, R534). -/

theorem post_row (s : State) (p : Fin 4) (k : Packet) (on : s.portOn p = true) (active : (s.port p).st = 2)
    (kind : k.type = 0x1A) (here : k.dest = s.nodeId) (next : k.seq = ((s.vc p 1).received + 1) % 4096) :
    let y : PostIn := tget {} s.postsIn k.src
    ∃ t, exec (.post p k) s = .next t ∧ (tget ({} : PostIn) t.postsIn k.src).count = y.count + 1 ∧
      (tget ({} : PostIn) t.postsIn k.src).unacked = (if 63 ≤ y.unacked then 0 else y.unacked + 1) := by
  intro y
  let u := s.accepted p 1
  have taken : exec (.post p k) s = .next ((u.takePost p k).sendAck p) :=
    congrArg Host.Outcome.next (onVc_here _ on active kind here next)
  have before : u.postsIn = s.postsIn := (congrArg State.postsIn (accepted_unsent s p 1) :)
  have counts : (tget ({} : PostIn) (u.takePost p k).postsIn k.src).count = y.count + 1 ∧
      (tget ({} : PostIn) (u.takePost p k).postsIn k.src).unacked = (if 63 ≤ y.unacked then 0 else y.unacked + 1) := by
    unfold State.takePost
    extract_lets counted freed
    have posts : tget ({} : PostIn) freed.postsIn k.src =
        { count := y.count + 1, unacked := y.unacked + 1, first := if y.unacked = 0 then u.now else y.first } := by
      refine (congrArg (fun ps => tget ({} : PostIn) ps k.src) (Wired.freeBuf counted _).postsIn).trans ?_
      simp only [counted, before, tget_tupd, y]
      rfl
    by_cases full : 64 ≤ (tget ({} : PostIn) freed.postsIn k.src).unacked
    · rw [if_pos full]
      unfold State.ackPosts
      extract_lets x acked
      rw [(Wired.sendPkt acked none _).postsIn]
      simp only [acked, tget_tset, x]
      rw [posts] at full ⊢
      exact ⟨rfl, (if_pos (by simpa using full)).symm⟩
    · rw [if_neg full]
      rw [posts] at full ⊢
      exact ⟨rfl, (if_neg (by simpa using full)).symm⟩
  refine ⟨_, taken, ?_⟩
  rw [(Wired.sendAck _ p).postsIn]
  exact counts

/-- A request that completes leaves the open requests, and the node table stays (R532). -/
theorem complete_leaves (s : State) (q : Request) (response : Bool) (status : Nat) (data : List Byte) :
    (s.complete q response status data).requests = (s.requests.filter fun r => r.id ≠ q.id) ∧
      (s.complete q response status data).nodes = s.nodes := by
  unfold State.complete
  extract_lets ended counted written
  have requests : ended.requests = s.requests.filter fun r => r.id ≠ q.id := rfl
  have nodes : ended.nodes = s.nodes := rfl
  clear_value ended
  rw [← requests, ← nodes]
  split
  · exact ⟨rfl, rfl⟩
  · split
    · show counted.requests = _ ∧ counted.nodes = _
      simp only [counted]
      rw [inc_eq]
      exact ⟨rfl, rfl⟩
    · have writing : Told ended written := by
        simp only [written]
        split
        · exact .deliver ended _ _
        · exact .refl ended
      have told := writing.trans (.raise written q.cab (written.ev 0x0A04 0xFF status
        (w2 (q.tag + q.dest * 2 ^ 16 + q.len * 2 ^ 32))))
      exact ⟨(congrArg State.requests told.rest :), (congrArg State.nodes told.rest :)⟩
theorem requests_complete (s : State) (q : Request) (response : Bool) (status : Nat) (data : List Byte) :
    (s.complete q response status data).requests = s.requests.filter fun r => r.id ≠ q.id :=
  (complete_leaves s q response status data).1

theorem resp_row (s : State) (p : Fin 4) (k : Packet) (on : s.portOn p = true) (active : (s.port p).st = 2)
    (kind : k.type = 0x20) (here : k.dest = s.nodeId) (next : k.seq = ((s.vc p 2).received + 1) % 4096) :
    (∀ q, (s.requests.find? fun q => q.id = fieldU k.payload 0 2 ∧
        (q.dest = k.src ∨ fieldU k.payload 2 1 = 5)) = some q →
      ∃ t, exec (.resp p k) s = .next t ∧ t.requests = s.requests.filter fun r => r.id ≠ q.id) ∧
    ((∀ q ∈ s.requests, ¬ (q.id = fieldU k.payload 0 2 ∧ (q.dest = k.src ∨ fieldU k.payload 2 1 = 5))) →
      ∃ t, exec (.resp p k) s = .next t ∧ t.requests = s.requests ∧ t.ctr 0x0A p 7 = s.ctr 0x0A p 7 + 1) := by
  let u := s.accepted p 2
  have taken : exec (.resp p k) s = .next ((u.takeResp p k).sendAck p) :=
    congrArg Host.Outcome.next (onVc_here _ on active kind here next)
  have before : (u.freeBuf (some (p.val, 2))).requests = s.requests :=
    (Wired.freeBuf u _).requests.trans (congrArg State.requests (accepted_unsent s p 2) :)
  refine ⟨fun q found => ⟨_, taken, ?_⟩, fun none_ => ⟨_, taken, ?_, ?_⟩⟩
  · rw [(Wired.sendAck _ p).requests]
    unfold State.takeResp
    dsimp only
    rw [before, found]
    exact (requests_complete _ _ _ _ _).trans (by rw [before])
  all_goals
    have unmatched : (s.requests.find? fun q => decide (q.id = fieldU k.payload 0 2 ∧
        (q.dest = k.src ∨ fieldU k.payload 2 1 = 5))) = none := by
      simpa using none_
    have lost : u.takeResp p k = (u.freeBuf (some (p.val, 2))).inc 0x0A p 7 1 := by
      unfold State.takeResp
      dsimp only
      rw [before, unmatched]
  · rw [(Wired.sendAck _ p).requests, lost, inc_eq]
    exact before
  · rw [ctr_sendAck _ _ _ _ _ (.inr (by decide)), lost, ctr_inc, if_pos ⟨rfl, rfl, rfl, by simp [ctrIn]; omega⟩,
      ctr_freeBuf _ _ _ _ _ (.inr (by decide)), ctr_accepted, ctr_inc, if_neg (by omega)]
    rfl

theorem postAck_row (s : State) (p : Fin 4) (k : Packet) (on : s.portOn p = true) (active : (s.port p).st = 2)
    (kind : k.type = 0x21) (here : k.dest = s.nodeId) (next : k.seq = ((s.vc p 2).received + 1) % 4096) :
    ∃ t, exec (.postAck p k) s = .next t ∧ t.posts = s.posts.filter fun o => !(o.dest == k.src &&
      decide ((fieldU k.payload 0 4 + 2 ^ 32 - o.n % 2 ^ 32) % 2 ^ 32 < 2 ^ 31)) := by
  let u := s.accepted p 2
  have taken : exec (.postAck p k) s = .next ((u.takePostAck p k).sendAck p) :=
    congrArg Host.Outcome.next (onVc_here _ on active kind here next)
  have before : (u.freeBuf (some (p.val, 2))).posts = s.posts :=
    (Wired.freeBuf u _).posts.trans (congrArg State.posts (accepted_unsent s p 2) :)
  refine ⟨_, taken, ?_⟩
  rw [(Wired.sendAck _ p).posts]
  unfold State.takePostAck
  extract_lets freed acked kept
  have counted : (forEach acked (fun o s => (s.inc 8 o.cab 23 1).updCab o.cab fun x =>
      { x with resetting := x.resetting.map fun r => { r with acked := r.acked + 1 } }) kept).posts = kept.posts := by
    refine forEach_keeps (P := fun t : State => t.posts = kept.posts) _ (fun o t same => ?_) _ kept rfl
    rw [inc_eq]
    exact same
  refine counted.trans ?_
  show freed.posts.filter _ = _
  rw [show freed.posts = s.posts from before]
  rfl

/-! Events, members and snapshots (R526, R537, R596). -/

theorem event_row (s : State) (p : Fin 4) (k : Packet) (on : s.portOn p = true) (active : (s.port p).st = 2)
    (kind : k.type = 0x28) (here : k.dest = s.nodeId) (next : k.seq = ((s.vc p 3).received + 1) % 4096) :
    ∃ t, exec (.event p k) s = .next t ∧
      t.ctr 0x0A p 8 = s.ctr 0x0A p 8 + (if k.payload.length ≤ 6 then 0 else 1) := by
  let u := s.accepted p 3
  have taken : exec (.event p k) s = .next ((u.takeEvent p k).sendAck p) :=
    congrArg Host.Outcome.next (onVc_here _ on active kind here next)
  have before : (u.freeBuf (some (p.val, 3))).ctr 0x0A p 8 = s.ctr 0x0A p 8 := by
    rw [ctr_freeBuf _ _ _ _ _ (.inr (by decide)), ctr_accepted, ctr_inc, if_neg (by omega)]
  refine ⟨_, taken, ?_⟩
  rw [ctr_sendAck _ _ _ _ _ (.inr (by decide))]
  unfold State.takeEvent
  dsimp only
  by_cases short : k.payload.length ≤ 6
  · rw [if_pos short, if_pos short, (Told.raiseTo _ _ _).ctr _ _ _ (by simp [reportCtr]), before]
    simp
  · rw [if_neg short, if_neg short, ctr_inc, if_pos ⟨rfl, rfl, rfl, by simp [ctrIn]; omega⟩, before]
    rfl

theorem nodes_complete (s : State) (q : Request) (response : Bool) (status : Nat) (data : List Byte) :
    (s.complete q response status data).nodes = s.nodes := (complete_leaves s q response status data).2
theorem nodes_undelivered (s : State) (o : Posted) : (s.undelivered o).nodes = s.nodes := by
  unfold State.undelivered
  dsimp only
  refine ((congrArg State.nodes (Told.raise _ _ _).rest :) : _ = _).trans ?_
  rw [inc_eq]
  rfl
theorem nodes_endTransactions (s : State) (ids : List Nat) : (s.endTransactions ids).nodes = s.nodes := by
  have keeps : ∀ {α : Type} (f : α → State → State), (∀ x t, (f x t).nodes = t.nodes) → ∀ xs (t : State),
      (forEach xs f t).nodes = t.nodes := fun f h xs t =>
    forEach_keeps (P := fun u : State => u.nodes = t.nodes) f (fun x u same => (h x u).trans same) xs t rfl
  refine (keeps _ (fun id t => ?_) ids _).trans (keeps _ (fun id t => ?_) ids s)
  · exact keeps _ (fun o u => nodes_undelivered u o) _ _
  · exact keeps _ (fun q u => nodes_complete u q _ _ _) _ t

theorem Told.nodes {s t : State} (h : Told s t) : t.nodes = s.nodes := (congrArg State.nodes h.rest :)

/-- A node that is new is admitted to the node table (R526). -/
theorem nodes_memberJoin (s : State) (p : Nat) (bcast : Bool) (e : List Byte) (other : fieldU e 0 2 ≠ s.nodeId)
    (new : s.node (fieldU e 0 2) = none) : ∃ n : Node, (s.memberJoin p bcast e).nodes =
      tset none s.nodes (fieldU e 0 2) (some n) ∧ n.uid = BitVec.ofNat 64 (fieldU e 8 8) ∧
        n.inc = BitVec.ofNat 32 (fieldU e 4 4) ∧ n.distance = fieldU e 2 1 ∧ n.port = p := by
  unfold State.memberJoin
  extract_lets id uid inc clash
  have calm : clash = false := by
    simp only [clash, id, new]
    simpa using other
  rw [if_neg (fun same => other same.1), calm]
  simp only [id, new, Bool.false_eq_true, if_false]
  exact ⟨_, (Told.tellNode _ 1 _ _).nodes, rfl, rfl, rfl, rfl⟩

theorem nodes_memberLeave (s : State) (p : Nat) (e : List Byte) (n : Node) (known : s.node (fieldU e 0 2) = some n)
    (behind : n.port = p) : (s.memberLeave p e).nodes = tset none s.nodes (fieldU e 0 2) none := by
  unfold State.memberLeave
  dsimp only
  rw [known]
  dsimp only
  rw [if_pos (.inl behind)]
  exact (Told.tellNode _ 3 _ _).nodes.trans (nodes_endTransactions _ _)

theorem member_row (s : State) (p : Fin 4) (k : Packet) (on : s.portOn p = true) (active : (s.port p).st = 2)
    (kind : k.type = 0x29) (next : k.seq = ((s.vc p 3).received + 1) % 4096) (one : fieldU k.payload 1 1 = 1) :
    let e := (k.payload.drop 4).take 16
    let id := fieldU e 0 2
    (fieldU k.payload 0 1 = 1 → id ≠ s.nodeId → s.node id = none →
      ∃ t n, exec (.member p k) s = .next t ∧ t.node id = some n ∧ n.uid = BitVec.ofNat 64 (fieldU e 8 8) ∧
        n.inc = BitVec.ofNat 32 (fieldU e 4 4) ∧ n.distance = fieldU e 2 1 ∧ n.port = p ∧
        ∀ j, j ≠ id → t.node j = s.node j) ∧
    (∀ n, fieldU k.payload 0 1 = 2 → s.node id = some n → n.port = p.val →
      ∃ t, exec (.member p k) s = .next t ∧ t.node id = none ∧ ∀ j, j ≠ id → t.node j = s.node j) := by
  intro e id
  let u := s.accepted p 3
  have entry : u.takeMember p k = (u.takeEntry p k 0).passMember p k := by
    unfold State.takeMember
    rw [one]
    rfl
  have taken : exec (.member p k) s = .next (((u.takeEntry p k 0).passMember p k).sendAck p) :=
    congrArg Host.Outcome.next ((onVc_expected (fun s => s.takeMember p k) on active kind next).trans
      (congrArg (fun t : State => t.sendAck p) entry))
  have passed : (((u.takeEntry p k 0).passMember p k).sendAck p).nodes = (u.takeEntry p k 0).nodes :=
    (Wired.sendAck _ p).nodes.trans (Wired.passMember _ p k).nodes
  have before : u.nodes = s.nodes := (congrArg State.nodes (accepted_unsent s p 3) :)
  have self : u.nodeId = s.nodeId := (congrArg State.nodeId (accepted_unsent s p 3) :)
  have node : ∀ j, u.node j = s.node j := fun j => by
    unfold State.node
    rw [before]
  refine ⟨fun join other new => ?_, fun n leave known behind => ?_⟩
  · obtain ⟨n, nodes, uid, inc, distance, port⟩ := nodes_memberJoin u p k.bcast e (by rw [self]; exact other)
      (by rw [node]; exact new)
    have enters : (u.takeEntry p k 0).nodes = tset none s.nodes id (some n) := by
      rw [← before, State.takeEntry, if_pos join]
      exact nodes
    refine ⟨_, n, taken, ?_, uid, inc, distance, port, fun j another => ?_⟩
    · rw [State.node, passed, enters, tget_tset, if_pos rfl]
    · rw [State.node, passed, enters, tget_tset, if_neg another]
      rfl
  · have leaves : (u.takeEntry p k 0).nodes = tset none s.nodes id none := by
      rw [← before, State.takeEntry, if_neg (by omega), if_pos leave]
      exact nodes_memberLeave u p e n (by rw [node]; exact known) behind
    refine ⟨_, taken, ?_, fun j another => ?_⟩
    · rw [State.node, passed, leaves, tget_tset, if_pos rfl]
    · rw [State.node, passed, leaves, tget_tset, if_neg another]
      rfl

/-- A snapshot of another epoch, or outside P3, cannot be taken (R596). -/
theorem receiveSnap_misses (s : State) (k : Packet) (unable : s.mode.p3 = false ∨ k.epoch ≠ s.runEpoch) :
    ∃ cause, s.receiveSnap k = s.missed k cause := by
  unfold State.receiveSnap
  extract_lets id mc fl target miss ch
  cases ch with
  | none => exact ⟨1, rfl⟩
  | some c =>
    dsimp only
    split
    · by_cases epoch : k.epoch ≠ s.runEpoch
      · exact ⟨3, if_pos epoch⟩
      · have calm : s.mode.p3 = false := unable.resolve_right epoch
        rw [if_neg epoch, calm]
        exact ⟨5, rfl⟩
    · exact ⟨2, rfl⟩

theorem Wired.mode {s t : State} (h : Wired s t) : t.mode = s.mode := (congrArg State.mode h.rest :)
theorem Wired.runEpoch {s t : State} (h : Wired s t) : t.runEpoch = s.runEpoch := (congrArg State.runEpoch h.rest :)
theorem Wired.comps {s t : State} (h : Wired s t) : t.comps = s.comps := (congrArg State.comps h.rest :)
theorem Wired.snaps {s t : State} (h : Wired s t) : t.snaps = s.snaps := (congrArg State.snaps h.rest :)
theorem missed_leaves (s : State) (k : Packet) (cause : Nat) :
    (s.missed k cause).comps = s.comps ∧ (s.missed k cause).snaps = s.snaps ∧
      (s.missed k cause).ctr 0x0E 0 12 = s.ctr 0x0E 0 12 + 1 := by
  have told : Told (s.inc 0x0E 0 12 1) (s.missed k cause) := .raise _ _ _
  refine ⟨(congrArg State.comps told.rest :).trans ?_, (congrArg State.snaps told.rest :).trans ?_, ?_⟩
  · rw [inc_eq]
    rfl
  · rw [inc_eq]
    rfl
  · rw [told.ctr _ _ _ (by simp [reportCtr]), ctr_inc, if_pos ⟨rfl, rfl, rfl, by decide⟩]
    rfl

theorem snap_row (s : State) (p : Fin 4) (k : Packet) (on : s.portOn p = true) (active : (s.port p).st = 2)
    (kind : k.type = 0x2A) (next : k.seq = ((s.vc p 3).received + 1) % 4096)
    (unable : s.mode.p3 = false ∨ k.epoch ≠ s.runEpoch) :
    ∃ t, exec (.snap p k) s = .next t ∧ t.ctr 0x0E 0 12 = s.ctr 0x0E 0 12 + 1 ∧ t.comps = s.comps ∧
      t.snaps = s.snaps := by
  let u := s.accepted p 3
  let v := u.rebroadcast p (some (p.val, 3)) (u.treePorts (some p.val)) k
  have sent : Wired u v := .rebroadcast u _ _ _ _
  have mode : v.mode = s.mode := sent.mode.trans (congrArg State.mode (accepted_unsent s p 3) :)
  have epoch : v.runEpoch = s.runEpoch := sent.runEpoch.trans (congrArg State.runEpoch (accepted_unsent s p 3) :)
  obtain ⟨cause, misses⟩ := receiveSnap_misses v k (by rw [mode, epoch]; exact unable)
  have taken : exec (.snap p k) s = .next ((v.missed k cause).sendAck p) := by
    refine congrArg Host.Outcome.next ((onVc_expected _ on active kind next).trans ?_)
    exact congrArg (fun t : State => t.sendAck p) misses
  obtain ⟨comps, snaps, counted⟩ := missed_leaves v k cause
  have acked := Wired.sendAck (v.missed k cause) p
  refine ⟨_, taken, ?_, ?_, ?_⟩
  · rw [acked.ctr _ _ _ (by simp [sendCtr]), counted, sent.ctr _ _ _ (by simp [sendCtr]), ctr_accepted, ctr_inc,
      if_neg (by omega)]
  · rw [acked.comps, comps]
    exact sent.comps.trans (congrArg State.comps (accepted_unsent s p 3) :)
  · rw [acked.snaps, snaps]
    exact sent.snaps.trans (congrArg State.snaps (accepted_unsent s p 3) :)

end Sys2Proof.Machine
end

section
/-! PROOFS. Channels that follow a master: what its SYNC makes of them, and how they re-anchor (R80, R106, R109,
R538). -/

namespace Sys2Proof.Machine

/-- The time, and what the Runner's rows read of the state. -/
def State.wires (s : State) : Nat × Nat × Tab Port × Mode × Option Merge × List Merge × Option (BitVec 64) :=
  (s.now, s.runEpoch, s.ports, s.mode, s.merge, s.mergeNext, s.rootUid)

theorem wires_iff {s t : State} : t.wires = s.wires ↔ t.now = s.now ∧ t.runEpoch = s.runEpoch ∧ t.ports = s.ports ∧
    t.mode = s.mode ∧ t.merge = s.merge ∧ t.mergeNext = s.mergeNext ∧ t.rootUid = s.rootUid := by
  simp only [State.wires, Prod.mk.injEq]

/-- The comparators, the beds, the axes and the records may change; the channels, and the steps counted, do not. -/
structure Unstepped (s t : State) : Prop where
  wires : t.wires = s.wires
  chans : t.chans = s.chans
  steps : ∀ c, t.ctr 6 c 4 = s.ctr 6 c 4

theorem Unstepped.refl (s : State) : Unstepped s s := ⟨rfl, rfl, fun _ => rfl⟩
theorem Unstepped.trans {s t u : State} (h : Unstepped s t) (k : Unstepped t u) : Unstepped s u :=
  ⟨k.wires.trans h.wires, k.chans.trans h.chans, fun c => (k.steps c).trans (h.steps c)⟩
theorem Unstepped.of_told {s t : State} (h : Told s t) : Unstepped s t :=
  ⟨(congrArg State.wires h.rest :), h.chans, fun c => h.ctr 6 c 4 (by simp [reportCtr])⟩
theorem Unstepped.inc (s : State) (cls unit i n : Nat) (h : cls ≠ 6) : Unstepped s (s.inc cls unit i n) :=
  ⟨by rw [inc_eq]; rfl, by rw [inc_eq], fun c => by rw [ctr_inc, if_neg (by omega)]⟩
theorem Unstepped.forEach {α : Type} (f : α → State → State) (h : ∀ x s, Unstepped s (f x s)) (xs : List α)
    (s : State) :
    Unstepped s (forEach xs f s) :=
  forEach_keeps (P := Unstepped s) f (fun x _ kept => kept.trans (h x _)) xs s (.refl s)
theorem Unstepped.updAxis (s : State) (a : Nat) (f : Axis → Axis) : Unstepped s (s.updAxis a f) :=
    ⟨rfl, rfl, fun _ => rfl⟩
theorem Unstepped.updBed (s : State) (b : Nat) (f : Bed → Bed) : Unstepped s (s.updBed b f) := ⟨rfl, rfl, fun _ => rfl⟩
theorem Unstepped.updSnap (s : State) (k : Nat) (f : Snap → Snap) : Unstepped s (s.updSnap k f) :=
    ⟨rfl, rfl, fun _ => rfl⟩
theorem Unstepped.updDoc (s : State) (acc : Nat) (f : Doc → Doc) : Unstepped s (s.updDoc acc f) :=
    ⟨rfl, rfl, fun _ => rfl⟩
theorem Unstepped.setComp (s : State) (k : Nat) (v : Option Cmp) : Unstepped s (s.setComp k v) :=
    ⟨rfl, rfl, fun _ => rfl⟩

theorem Unstepped.missSnap (s : State) (slot cause : Nat) : Unstepped s (s.missSnap slot cause) :=
  ((Unstepped.updSnap s slot _).trans (.inc _ 0x0E 0 12 1 (by decide))).trans (.of_told (.raiseTo _ _ _))
theorem Unstepped.disarm (s : State) (k : Nat) : Unstepped s (s.disarm k) := by
  unfold State.disarm
  split
  · exact .refl s
  · extract_lets freed
    have freeing : Unstepped s freed := .setComp s k none
    clear_value freed
    split
    · exact freeing.trans (.missSnap freed _ 4)
    · exact freeing.trans (.updAxis freed _ _)
    · exact freeing.trans (.updBed freed _ _)
    · exact freeing.trans (.updBed freed _ _)
    · exact freeing
theorem Unstepped.gearChanged (s : State) (a : Nat) (r : Ratio) (slave : Int) (master : Pos) :
    Unstepped s (s.gearChanged a r slave master) := .of_told (.raiseTo s _ _)
theorem Unstepped.unGear (s : State) (a : Nat) (p : Int) : Unstepped s (s.unGear a p) :=
  ((Unstepped.forEach _ (fun k t => .setComp t k none) _ s).trans (.updAxis _ a _)).trans (.updAxis _ a _)
theorem Unstepped.regear (s : State) (c : Nat) (m : Pos) : Unstepped s (s.regear c m) := by
  refine .forEach _ (fun a t => ?_) _ s
  split
  · exact .refl t
  · split
    · exact .refl t
    · extract_lets p g
      split
      · exact .updAxis t a _
      · extract_lets told
        have telling : Unstepped t told := .gearChanged t a _ p m
        clear_value told
        split
        · exact telling.trans (.unGear told a p)
        · exact telling.trans (.updAxis told a _)

/-- Where a channel's position stands: its base, from when, and its speed. -/
def Chan.stand (k : Chan) : Pos × Nat × Int × BitVec 64 × Nat := (k.base, k.t0, k.vel, k.anchorUid, k.anchorEpoch)

/-- What follows on a change of a channel: it keeps its source and where it stands, and the other channels are as they
were. -/
structure Settles (c : Nat) (s t : State) : Prop where
  wires : t.wires = s.wires
  others : ∀ d, d ≠ c → t.chan d = s.chan d
  stand : (t.chan c).stand = (s.chan c).stand
  present : (s.chan c).present = true → (t.chan c).present = true

theorem Settles.refl (c : Nat) (s : State) : Settles c s s := ⟨rfl, fun _ _ => rfl, rfl, id⟩
theorem Settles.trans {c : Nat} {s t u : State} (h : Settles c s t) (k : Settles c t u) : Settles c s u :=
  ⟨k.wires.trans h.wires, fun d other => (k.others d other).trans (h.others d other), k.stand.trans h.stand,
    fun there => k.present (h.present there)⟩
theorem Settles.of_unstepped (c : Nat) {s t : State} (h : Unstepped s t) : Settles c s t :=
  ⟨h.wires, fun d _ => by rw [chan_of_chans h.chans], by rw [chan_of_chans h.chans],
    fun there => by rw [chan_of_chans h.chans]; exact there⟩
theorem Settles.inc (c : Nat) (s : State) (cls unit i n : Nat) : Settles c s (s.inc cls unit i n) := by
  rw [inc_eq]
  exact ⟨rfl, fun _ _ => rfl, rfl, id⟩
theorem Settles.updChan (s : State) (c : Nat) (f : Chan → Chan) (h : ∀ k, (f k).stand = k.stand)
    (there : ∀ k : Chan, k.present = true → (f k).present = true) : Settles c s (s.updChan c f) where
  wires := rfl
  others d other := by rw [chan_updChan, if_neg other]
  stand := by rw [chan_updChan, if_pos rfl, h]
  present := by
    rw [chan_updChan, if_pos rfl]
    exact there _

/-- What goes before a step of a channel's position is counted and told (R80). -/
theorem discontinuity_unstepped (s : State) (c aux : Nat) : ∃ u e dest, Unstepped s u ∧
    s.discontinuity c aux =
      ((u.updChan c fun k => { k with lastTick := (u.chanPos c).toInt / 65536 }).inc 6 c 4 1).raiseTo dest e := by
  unfold State.discontinuity
  extract_lets gone mask dest disarmed waiting geared counted
  have disarming : Unstepped s disarmed := .forEach _ (fun kc t => .disarm t kc.1) gone s
  have halting : Unstepped disarmed waiting := by
    refine .forEach _ (fun b t => ?_) _ disarmed
    split
    · exact .updBed t b _
    · exact .refl t
  have gearing : Unstepped waiting geared := .regear waiting c _
  exact ⟨geared, _, dest, (disarming.trans halting).trans gearing, rfl⟩

theorem Settles.discontinuity (s : State) (c aux : Nat) : Settles c s (s.discontinuity c aux) := by
  obtain ⟨u, e, dest, calm, steps⟩ := discontinuity_unstepped s c aux
  rw [steps]
  refine (Settles.of_unstepped c calm).trans (Settles.trans (Settles.trans ?_ (.inc c _ 6 c 4 1))
    (.of_unstepped c (.of_told (.raiseTo _ dest e))))
  exact .updChan u c _ (fun _ => rfl) fun _ there => there
theorem Settles.countTicks (s : State) (c : Nat) : Settles c s (s.countTicks c) := by
  unfold State.countTicks
  extract_lets t n
  split
  · exact .refl c s
  · refine Settles.trans ?_ (.inc c _ 6 c 0 n)
    exact .updChan s c _ (fun _ => rfl) fun _ there => there
theorem Settles.sourceBack (s : State) (c : Nat) : Settles c s (s.sourceBack c) := by
  unfold State.sourceBack
  extract_lets back cleared again
  have returning : Settles c s back := .updChan s c _ (fun _ => rfl) fun _ _ => rfl
  have clearing : Settles c back cleared := ⟨rfl, fun _ _ => rfl, rfl, id⟩
  have ending : Settles c cleared again := by
    simp only [again, State.sourcesAgain]
    split
    · exact ⟨rfl, fun _ _ => rfl, rfl, id⟩
    · exact .refl c cleared
  exact ((returning.trans clearing).trans ending).trans (.of_unstepped c (.of_told (.raiseTo again _ _)))
theorem Settles.ite {c : Nat} {p : Prop} [Decidable p] {s t u : State} (h : Settles c s t) (k : Settles c s u) :
    Settles c s (if p then t else u) := by
  split
  · exact h
  · exact k

/-! SYNC (R106, R538). -/

/-- Where a SYNC puts a channel: the position it carries, taken on over its age. -/
def syncPos (k : Packet) (delay : Int) (age at_ : Nat) : Pos :=
  BitVec.ofNat 64 (fieldU k.payload at_ 8) +
    posOf (fieldS k.payload (at_ + 8) 4 * (((fieldU k.payload 8 4 : Int) + delay) / 256 + age) / 1000)

/-- A channel that takes a SYNC has its source, and goes on from the position told. -/
theorem takeSync_leaves (s : State) (c p : Nat) (k : Packet) (age at_ : Nat) :
    let t := s.takeSync c p k age at_
    t.wires = s.wires ∧ (∀ d, d ≠ c → t.chan d = s.chan d) ∧ (t.chan c).present = true ∧ (t.chan c).t0 = s.now ∧
      (t.chan c).vel = fieldS k.payload (at_ + 8) 4 * 1000000 ∧
      (t.chan c).base = syncPos k (s.port p).delay age at_ := by
  unfold State.takeSync
  extract_lets corr ago vel pos x first other lost told geared stepped t
  have gearing : Settles c told geared := by
    refine .ite ?_ (.countTicks told c)
    refine Settles.trans ?_ (.of_unstepped c (.regear _ c pos))
    exact .updChan told c _ (fun _ => rfl) fun _ there => there
  have stepping : Settles c geared stepped :=
    .ite (.discontinuity geared c 1) (.ite (.discontinuity geared c 0) (.refl c geared))
  have ending : Settles c stepped t := .ite (.sourceBack stepped c) (.refl c stepped)
  obtain ⟨wires, others, stand, present⟩ := (gearing.trans stepping).trans ending
  clear_value t
  have chan : told.chan c = { s.chan c with
      base := pos, t0 := s.now, vel := vel * 1000000, present := true, syncAt := s.now - age, fresh := false,
      held := false,
      anchorUid := if first then s.rootUid.getD 0 else (s.chan c).anchorUid,
      anchorEpoch := if first then k.epoch else (s.chan c).anchorEpoch } := by
    simp only [told]
    rw [chan_updChan, if_pos rfl]
  rw [chan] at stand present
  simp only [Chan.stand, Prod.mk.injEq] at stand
  obtain ⟨base, t0, speed, -⟩ := stand
  refine ⟨wires, fun d apart => (others d apart).trans ?_, present rfl, t0, speed, base⟩
  simp only [told]
  rw [chan_updChan, if_neg apart]

/-- What a SYNC does to one channel. -/
def syncStep (p : Nat) (k : Packet) (age c : Nat) (s : State) : State :=
  let m := (s.chan c).unit
  let i := ((List.range m).filter fun j => bit (fieldU k.payload 0x0C 1) j).length
  if s.takes c k && bit (fieldU k.payload 0x0C 1) m then s.takeSync c p k age (0x10 + 12 * i) else s

/-- As one channel sees the SYNC taken by another. -/
structure Elsewhere (c : Nat) (s t : State) : Prop where
  wires : t.wires = s.wires
  chan : t.chan c = s.chan c

theorem Elsewhere.trans {c : Nat} {s t u : State} (h : Elsewhere c s t) (k : Elsewhere c t u) : Elsewhere c s u :=
  ⟨k.wires.trans h.wires, k.chan.trans h.chan⟩
theorem Elsewhere.takes {c : Nat} {s t : State} (h : Elsewhere c s t) (k : Packet) : t.takes c k = s.takes c k := by
  obtain ⟨-, epoch, -⟩ := wires_iff.1 h.wires
  unfold State.takes
  rw [h.chan, epoch]
theorem Elsewhere.syncStep (p : Nat) (k : Packet) (age : Nat) {c d : Nat} (s : State) (other : c ≠ d) :
    Elsewhere c s (syncStep p k age d s) := by
  unfold Machine.syncStep
  extract_lets m i
  split
  · obtain ⟨wires, others, -⟩ := takeSync_leaves s d p k age (0x10 + 12 * i)
    exact ⟨wires, others c other⟩
  · exact ⟨rfl, rfl⟩

theorem sync_row (s : State) (p : Fin 4) (k : Packet) (on : s.portOn p = true) (active : (s.port p).st = 2) (age : Nat)
    (c : Fin 4) (kind : k.type = 0x10) (rate : 2 ≤ (s.port p).rate) (awake : s.mode ≠ .keep) :
    let mask := fieldU k.payload 0x0C 1
    let at_ := 0x10 + 12 * ((List.range (s.chan c).unit).filter fun j => bit mask j).length
    (s.takes c k = true → bit mask (s.chan c).unit = true →
      ∃ t, exec (.sync p k age) s = .next t ∧ (t.chan c).present = true ∧ (t.chan c).t0 = s.now ∧
        (t.chan c).vel = fieldS k.payload (at_ + 8) 4 * 1000000 ∧
        (t.chan c).base = BitVec.ofNat 64 (fieldU k.payload at_ 8) + posOf (fieldS k.payload (at_ + 8) 4 *
          (((fieldU k.payload 8 4 : Int) + (s.port p).delay) / 256 + age) / 1000)) ∧
    (s.takes c k = false → ∃ t, exec (.sync p k age) s = .next t ∧ t.chan c = s.chan c) := by
  intro mask at_
  let counted := (s.inc 0x0A p 1 1).updVc p 0 fun x => { x with received := (x.received + 1) % 65536 }
  let tracked := if k.epoch = counted.runEpoch then
    { counted with masterNode := k.src }.trackOffset p k age else counted
  let synced := forEach (List.range 4) (syncStep p k age) tracked
  obtain ⟨t, taken, sent⟩ : ∃ t, exec (.sync p k age) s = .next t ∧ Wired synced t := by
    refine ⟨_, congrArg Host.Outcome.next ((received_eq _ on kind).trans (if_neg ?_)), .rebroadcast synced p _ _ _⟩
    rw [inc_eq]
    show ¬ ((s.port p).st ≠ 2 ∨ (s.port p).rate < 2 ∨ s.mode = .keep)
    simp only [active, awake, or_false, ne_eq, not_true, false_or]
    omega
  have chan : t.chan c = synced.chan c := by rw [chan_of_chans sent.chans]
  have before : tracked.chan c = s.chan c ∧ tracked.now = s.now ∧ tracked.runEpoch = s.runEpoch ∧
      (tracked.port p).delay = (s.port p).delay := by
    have same : counted.chan c = s.chan c ∧ counted.now = s.now ∧ counted.runEpoch = s.runEpoch ∧
        (counted.port p).delay = (s.port p).delay := by
      simp only [counted, State.updVc]
      rw [port_updPort, if_pos rfl, inc_eq]
      exact ⟨rfl, rfl, rfl, rfl⟩
    simp only [tracked]
    split
    · exact same
    · exact same
  obtain ⟨chan₀, now, epoch, delay⟩ := before
  have takes : tracked.takes c k = s.takes c k := by
    unfold State.takes
    rw [chan₀, epoch]
  obtain ⟨u, prior, later⟩ := (forEach_once (Elsewhere c) (fun _ => ⟨rfl, rfl⟩) Elsewhere.trans (syncStep p k age) c
    (fun d v other => .syncStep p k age v other) (List.range 4) List.nodup_range tracked).2 (List.mem_range.2 c.2)
  have unit : (u.chan c).unit = (s.chan c).unit := by rw [prior.chan, chan₀]
  refine ⟨fun takes' told => ⟨t, taken, ?_⟩, fun not => ⟨t, taken, ?_⟩⟩
  · have step : syncStep p k age c u = u.takeSync c p k age at_ := by
      unfold syncStep
      dsimp only
      rw [unit, prior.takes, takes, takes', told]
      rfl
    obtain ⟨-, -, present, t0, vel, base⟩ := takeSync_leaves u c p k age at_
    rw [chan, later.chan, step]
    obtain ⟨now', -, ports, -⟩ := wires_iff.1 prior.wires
    rw [port_of_ports ports, delay] at base
    exact ⟨present, t0.trans (now'.trans now), vel, base⟩
  · have step : syncStep p k age c u = u := by
      unfold syncStep
      dsimp only
      rw [prior.takes, takes, not]
      rfl
    rw [chan, later.chan, step, prior.chan, chan₀]

end Sys2Proof.Machine
end

section
/-! PROOFS. The Runner's clocked rows: acknowledgements and time-outs, the master's sync, and re-anchoring (R104,
R109, R530, R534, R536). -/

namespace Sys2Proof.Machine

theorem postAckDue_row (s : State) (src : Fin 1024) :
    (0 < (tget ({} : PostIn) s.postsIn src).unacked → ∃ t, exec (.postAckDue src) s = .next t ∧
      tget {} t.postsIn src = { tget ({} : PostIn) s.postsIn src with unacked := 0 }) ∧
    ((tget ({} : PostIn) s.postsIn src).unacked = 0 → exec (.postAckDue src) s = .next s) := by
  refine ⟨fun open_ => ⟨s.ackPosts src, congrArg Host.Outcome.next (if_pos open_), ?_⟩, fun none_ =>
    congrArg Host.Outcome.next (if_neg (by omega))⟩
  unfold State.ackPosts
  extract_lets x acked
  rw [(Wired.sendPkt acked none _).postsIn]
  simp only [acked, tget_tset, if_true, x]

theorem reqTimeout_row (s : State) (id : BitVec 16) (q : Request)
    (found : (s.requests.find? fun q => q.id = id.toNat) = some q) :
    (q.sent + s.runCfg.timeout * 1000000 ≤ s.now → q.dropped = false →
      ∃ t, exec (.reqTimeout id) s = .next t ∧ (t.requests = s.requests.filter fun r => r.id ≠ q.id) ∧
        Told { s with requests := t.requests } t) ∧
    (q.sent + s.runCfg.timeout * 1000000 ≤ s.now → q.dropped = true →
      exec (.reqTimeout id) s = .next { s with requests := s.requests.filter fun r => r.id ≠ q.id }) ∧
    (s.now < q.sent + s.runCfg.timeout * 1000000 → exec (.reqTimeout id) s = .next s) := by
  have answers : exec (.reqTimeout id) s =
      .next (if q.sent + s.runCfg.timeout * 1000000 ≤ s.now then s.complete q false 4 [] else s) := by
    show Host.Outcome.next _ = _
    rw [found]
  refine ⟨fun late open_ => ?_, fun late dropped => ?_, fun early => ?_⟩
  · rw [if_pos late] at answers
    refine ⟨_, answers, requests_complete s q false 4 [], ?_⟩
    rw [requests_complete]
    unfold State.complete
    extract_lets ended counted written
    have unwritten : written = ended := if_neg (by simp)
    rw [if_neg (by simp [open_]), if_neg (by simp [open_]), unwritten]
    exact .raise ended _ _
  · rw [answers, if_pos late]
    unfold State.complete
    dsimp only
    rw [if_pos (by simp [dropped])]
  · rw [answers, if_neg (by omega)]

theorem sendSync_leaves (s : State) (epoch : Nat) (legacy : Bool) :
    (s.sendSync epoch legacy).syncCount = (s.syncCount + 1) % 65536 ∧ (s.sendSync epoch legacy).chans = s.chans :=
  ⟨(Wired.sendSync s epoch legacy).syncCount, (Wired.sendSync s epoch legacy).chans⟩

theorem syncDue_row (s : State) (root : s.isRoot = true) (serves : s.serves = true) (awake : s.mode ≠ .keep)
    (known : s.rootUid ≠ none) :
    ∃ t, exec .syncDue s = .next t ∧ t.syncCount = (s.syncCount + 1) % 65536 ∧ t.chans = s.chans :=
  ⟨_, congrArg Host.Outcome.next (if_pos ⟨root, serves, awake, Option.isSome_iff_ne_none.2 known⟩),
      sendSync_leaves s _ _⟩

theorem syncDue_other (s : State) (other : s.isRoot = false) : exec .syncDue s = .next s :=
  congrArg Host.Outcome.next (if_neg (by simp [other]))

theorem legacySyncDue_row (s : State) (g : Merge) (merging : s.merge = some g) :
    (g.master = true → s.mode ≠ .keep → s.now - g.since < 2000000000 →
      ∃ t, exec .legacySyncDue s = .next t ∧ t.syncCount = (s.syncCount + 1) % 65536 ∧ t.chans = s.chans) ∧
    (g.master = false → s.mergeNext = [] → exec .legacySyncDue s = .next s) := by
  refine ⟨fun master awake soon => ⟨s.sendSync g.epoch true, ?_, sendSync_leaves s _ _⟩, fun other last => ?_⟩
  · show Host.Outcome.next _ = _
    simp [merging, master, awake, soon]
  · show Host.Outcome.next _ = _
    simp [merging, other, last]

/-! Re-anchoring (R80, R109, Table RN-10). -/

/-- A channel that re-anchors waits for its new master; its step is counted (R80, R109). -/
theorem reanchor_leaves (s : State) (c : Nat) :
    let t := s.reanchor c
    t.wires = s.wires ∧ (∀ d, d ≠ c → t.chan d = s.chan d) ∧ (t.chan c).anchorUid = 0 ∧
      (t.chan c).anchorEpoch = s.runEpoch ∧ (c < 65536 → t.ctr 6 c 4 = s.ctr 6 c 4 + 1) := by
  let freed := s.updChan c fun k => { k with anchorUid := 0, anchorEpoch := s.runEpoch }
  have chan : freed.chan c = { s.chan c with anchorUid := 0, anchorEpoch := s.runEpoch } := by
    simp only [freed]
    rw [chan_updChan, if_pos rfl]
  obtain ⟨wires, others, stand, -⟩ := Settles.discontinuity freed c 0
  rw [chan] at stand
  simp only [Chan.stand, Prod.mk.injEq] at stand
  obtain ⟨-, -, -, uid, epoch⟩ := stand
  refine ⟨wires, fun d other => (others d other).trans ?_, uid, epoch, fun known => ?_⟩
  · simp only [freed]
    rw [chan_updChan, if_neg other]
  · obtain ⟨u, e, dest, before, steps⟩ := discontinuity_unstepped freed c 0
    show (freed.discontinuity c 0).ctr 6 c 4 = _
    rw [steps, (Told.raiseTo _ dest e).ctr _ _ _ (by simp [reportCtr]), ctr_inc,
      if_pos ⟨rfl, rfl, rfl, by simp [ctrIn, known]⟩]
    exact congrArg (· + 1) (before.steps c)

theorem reanchor_row (s : State) (g : Merge) (merging : s.merge = some g) (c : Fin 4) (old : s.oldAnchor c = true) :
    (s.chanOpen c = false → ∃ t, exec (.reanchor c) s = .next t ∧ (t.chan c).anchorUid = 0 ∧
      (t.chan c).anchorEpoch = s.runEpoch ∧ t.mode = s.mode ∧ t.ctr 6 c 4 = s.ctr 6 c 4 + 1) ∧
    (s.chanOpen c = true → exec (.reanchor c) s = .next s) := by
  refine ⟨fun gap => ?_, fun busy => congrArg Host.Outcome.next (if_neg (by simp [busy]))⟩
  obtain ⟨wires, -, uid, epoch, counted⟩ := reanchor_leaves s c
  obtain ⟨-, -, -, mode, -⟩ := wires_iff.1 wires
  exact ⟨_, congrArg Host.Outcome.next (if_pos ⟨by simp [merging], old, by simp [gap]⟩), uid, epoch, mode, counted
      (by omega)⟩

/-- A channel that is forced re-anchors; documents on its beds are marked, and the channels of others stay (R109). -/
theorem forceAnchor_leaves (s : State) (c : Nat) :
    let t := s.forceAnchor c
    t.wires = s.wires ∧ (∀ d, d ≠ c → t.chan d = s.chan d) ∧ (t.chan c).anchorUid = 0 ∧
      (t.chan c).anchorEpoch = s.runEpoch := by
  unfold State.forceAnchor
  extract_lets stopped t
  have stopping : Unstepped s stopped := by
    refine .forEach _ (fun b u => ?_) _ s
    exact (Unstepped.forEach _ (fun (d : Doc) v => .updDoc v d.acc _) _ u).trans (.updBed _ b _)
  obtain ⟨wires, others, uid, epoch, -⟩ := reanchor_leaves stopped c
  obtain ⟨-, epoch₀, -⟩ := wires_iff.1 stopping.wires
  exact ⟨wires.trans stopping.wires, fun d other => (others d other).trans (by rw [chan_of_chans stopping.chans]), uid,
    epoch.trans epoch₀⟩

theorem reanchorForced_row (s : State) (g : Merge) (merging : s.merge = some g) :
    (g.since + 2000000000 ≤ s.now → ∃ t, exec .reanchorForced s = .next t ∧ t.merge = s.mergeNext.head? ∧
      t.mergeNext = s.mergeNext.tail ∧ t.mode = s.mode ∧
      ∀ c, c < 4 → s.oldAnchor c = true → (∀ h ∈ s.mergeNext, (s.chan c).anchorEpoch ≠ h.epoch) →
        (t.chan c).anchorUid = 0 ∧ (t.chan c).anchorEpoch = s.runEpoch) ∧
    (s.now < g.since + 2000000000 → exec .reanchorForced s = .next s) := by
  let cs := (List.range 4).filter fun c => s.oldAnchor c && s.mergeNext.all fun h => (s.chan c).anchorEpoch != h.epoch
  let forced := forEach cs (fun c s => s.forceAnchor c) s
  let ended : State := { forced with
    merge := forced.mergeNext.head?, mergeNext := forced.mergeNext.tail,
    nodes := forced.nodes.map fun (x : Nat × Option Node) =>
      (x.1, x.2.map fun (n : Node) => { n with legacy := n.legacy && !forced.mergeNext.isEmpty }) }
  have answers : exec .reanchorForced s = .next (if g.since + 2000000000 ≤ s.now then
      (if cs.isEmpty then ended else ended.tellMaster 3) else s) := by
    show Host.Outcome.next _ = _
    rw [merging]
  refine ⟨fun due => ?_, fun early => by rw [answers, if_neg (by omega)]⟩
  rw [if_pos due] at answers
  have wires : forced.wires = s.wires :=
    forEach_keeps (P := fun t : State => t.wires = s.wires) _ (fun c t kept =>
      (forceAnchor_leaves t c).1.trans kept) cs s rfl
  obtain ⟨-, -, -, mode, -, later, -⟩ := wires_iff.1 wires
  have telling : Told ended (if cs.isEmpty then ended else ended.tellMaster 3) := by
    split
    · exact .refl ended
    · exact .tellMaster ended 3
  generalize (if cs.isEmpty then ended else ended.tellMaster 3) = t at answers telling
  refine ⟨t, answers, ?_, ?_, telling.mode.trans mode, fun c lo old apart => ?_⟩
  · refine ((congrArg State.merge telling.rest :) : t.merge = ended.merge).trans ?_
    show forced.mergeNext.head? = _
    rw [later]
  · refine ((congrArg State.mergeNext telling.rest :) : t.mergeNext = ended.mergeNext).trans ?_
    show forced.mergeNext.tail = _
    rw [later]
  · have mem : c ∈ cs := by
      simp only [cs, List.mem_filter, List.mem_range, Bool.and_eq_true, List.all_eq_true, bne_iff_ne]
      exact ⟨lo, old, apart⟩
    have once : cs.Nodup := List.nodup_range.filter _
    obtain ⟨u, prior, after⟩ := (forEach_once (Elsewhere c) (fun _ => ⟨rfl, rfl⟩) Elsewhere.trans
      (fun c s => s.forceAnchor c) c (fun d v other => ⟨(forceAnchor_leaves v d).1,
          (forceAnchor_leaves v d).2.1 c other⟩)
      cs once s).2 mem
    obtain ⟨-, -, uid, epoch⟩ := forceAnchor_leaves u c
    obtain ⟨-, before, -⟩ := wires_iff.1 prior.wires
    have chan : t.chan c = (u.forceAnchor c).chan c := by
      rw [chan_of_chans telling.chans]
      exact after.chan
    rw [chan]
    exact ⟨uid, epoch.trans before⟩

theorem unmerged_row (s : State) (none_ : s.merge = none) :
    exec .reanchorForced s = .next s ∧ ∀ c : Fin 4, exec (.reanchor c) s = .next s := by
  refine ⟨?_, fun c => congrArg Host.Outcome.next (if_neg (by simp [none_]))⟩
  show Host.Outcome.next _ = _
  rw [none_]

/-- Settles O59: link control, the delivery of one hop, the packets for this node, and the clocked rows. -/
theorem runnerTraffic : Obligations.RunnerTraffic := by
  refine ⟨fun s p k on trained => ⟨creditSync_row s p k on trained, ack_row s p k on trained,
      fun kind v => nak_row s p k on trained kind v, credit_row s p k on trained, rate_row s p k on trained,
      delayReq_row s p k on trained, delayResp_row s p k on trained, delayExchangeDue_row s p trained,
      delayExchangeDue_slow s p⟩,
    hopRows_row,
    fun s p k on active => ⟨answer_row s p k on active, post_row s p k on active, resp_row s p k on active,
      postAck_row s p k on active, event_row s p k on active, member_row s p k on active, snap_row s p k on active,
      sync_row s p k on active⟩,
    fun s => ⟨postAckDue_row s, reqTimeout_row s, syncDue_row s, syncDue_other s, fun g merging => ?_, unmerged_row s⟩⟩
  obtain ⟨legacy, others⟩ := legacySyncDue_row s g merging
  obtain ⟨forced, early⟩ := reanchorForced_row s g merging
  exact ⟨legacy, others, reanchor_row s g merging, forced, early⟩

end Sys2Proof.Machine
end
